-- ==== Sys2Proof/Word.lean ====
section
/-! DEFINITION. The word types of the LYS480: a register is 32 bits wide (00 R7), a byte 8, a set of events 256
(15 R449). Nothing here can be mended later, so it holds types only. -/

namespace Sys2Proof

/-- One byte of a frame, packet, record or image (00 R13). -/
abbrev Byte := BitVec 8

/-- One 32-bit register, port word or Pour data word (00 R7, 02 R54). -/
abbrev Word := BitVec 32

/-- A set of the events EV000 to EV255, event k in bit k (15 R449). -/
abbrev EvSet := BitVec 256

end Sys2Proof
end

