-- ==== Sys2Proof/Syntax.lean ====
section
/-! DEFINITION. The commands of the LYS480, one constructor per row of spec/opcode_table.json, with their operands.
A row that stands for an event in the world carries what the world decides (a measured value, whether a frame was
good); everything else comes from the state. -/

namespace Sys2Proof

/-- The masters of the register interconnect that read and write registers (15 R433, Table 15-1). -/
inductive Master where
  | mgmt | host | mon | debug
  deriving DecidableEq, Repr

/-- A bridge phase (00, Names). -/
inductive Phase where
  | u | v | w
  deriving DecidableEq, Repr

/-- The guard of a slot word: bits 23 and 22:20 of Table 3-2 (03 R89). -/
structure Guard where
  /-- GI, guard invert. -/
  gi : Bool
  /-- GP, guard predicate. -/
  gp : BitVec 3
  deriving DecidableEq, Repr

/-- One frame as the host clocked it (13 R397, Table 13-2). `data` is what the host sent after LEN. -/
structure Frame where
  addr  : BitVec 24
  alive : Byte
  len   : BitVec 16
  data  : List Byte
  crc   : Word
  /-- The first data word was ready when its turn came (13 R399). -/
  ready : Bool
  /-- The mode of 13 Table 13-1 that the host clocks the frame in (13 R396). -/
  mode : Fin 6
  deriving DecidableEq, Repr

/-- What the modulator of one channel delivered for one period (09 R279, R282): the bits whose stage-1 output has its
input time in the period, in order, the first with input time 0; fewer than TPER / 10 where the stream broke off. -/
structure ChanBits where
  bits  : List Bool
  /-- The carrier counts at which the lost clock of a floating modulator came back, in order (09 R291). -/
  back  : List Nat
  deriving DecidableEq, Repr

/-- A phase, or a sense channel, and the carrier count of its axis at the event. -/
structure PhaseAt where
  ph : Phase
  t  : Nat
  deriving DecidableEq, Repr
structure ChanAt where
  c : Fin 7
  t : Nat
  deriving DecidableEq, Repr

/-- What a conversion measured (10 R302): the channel's voltage, and that of REFIN or of the 1.5 V rail, in nV. -/
structure ConvIn where
  nv    : Int
  refNv : Nat
  deriving DecidableEq, Repr

/-- An event at the injected trigger, and the bits of the regular entry in progress that lie before the boundary at which
the injected sequence starts (10 R308, R309). -/
structure TrigAt where
  ev   : BitVec 8
  bits : Nat
  deriving DecidableEq, Repr

/-- What MON receives and measures at one gate (17 R479): the counts of TS03, TS07, TS11 and TS15 as CTL passed them, none
where one did not come; its own of TS20 and TS21. -/
structure MonTemps where
  priv : List (Option Nat)
  own  : List Nat
  deriving DecidableEq, Repr

/-- A Witness request as MON received it (18 R504): LEN is the length of its payload. `during`: one of its bytes came while a
response was being sent (R505). -/
structure WitReq where
  during  : Bool
  cmd     : Byte
  payload : List Byte
  crc     : Word
  deriving DecidableEq, Repr

/-- The commands, in the order of the table. -/
inductive Instr where
  -- the tick, the heat and the exchange buffers (01)
  | tickBoundary | heatBoundary | heatReservation | exchangeSwap | publish | boundaryPublish
  | heat0Read (m : Master)
  -- the Pour engine (02, 03)
  | bundleIssue
  | mul (u : Bool) (g : Guard) (k : BitVec 2) (a b : BitVec 6) (sc : BitVec 2) (rm : Bool)
  | mac (u : Bool) (g : Guard) (k : BitVec 2) (a b : BitVec 6) (sc : BitVec 2) (rm : Bool)
  | msu (u : Bool) (g : Guard) (k : BitVec 2) (a b : BitVec 6) (sc : BitVec 2) (rm : Bool)
  | madv (u : Bool) (g : Guard) (k : BitVec 2) (a b c : BitVec 6)
  | mulv (u : Bool) (g : Guard) (d a b : BitVec 6) (ss rm : Bool)
  | mova (u : Bool) (g : Guard) (d : BitVec 6) (k : BitVec 2) (rm f h : Bool)
  | movac (u : Bool) (g : Guard) (d : BitVec 6) (k : BitVec 2) (rm h : Bool) (l : BitVec 5) (pd : BitVec 3)
  | lda (u : Bool) (g : Guard) (k : BitVec 2) (a : BitVec 6)
  | clra (u : Bool) (g : Guard) (k : BitVec 2)
  | adda (u : Bool) (g : Guard) (k j : BitVec 2)
  | sincos (g : Guard) (d a : BitVec 6)
  | atan2 (g : Guard) (d a b : BitVec 6)
  | sqrt (g : Guard) (d a : BitVec 6)
  | recip (g : Guard) (d a : BitVec 6)
  | mag (g : Guard) (d a b : BitVec 6)
  | add (g : Guard) (d a b : BitVec 6)
  | sub (g : Guard) (d a b : BitVec 6)
  | addw (g : Guard) (d a b : BitVec 6)
  | subw (g : Guard) (d a b : BitVec 6)
  | neg (g : Guard) (d a : BitVec 6)
  | abs (g : Guard) (d a : BitVec 6)
  | min (g : Guard) (d a b : BitVec 6)
  | max (g : Guard) (d a b : BitVec 6)
  | clamp (g : Guard) (d a : BitVec 6) (l : BitVec 5) (pd : BitVec 3)
  | sel (g : Guard) (d a b : BitVec 6) (s : BitVec 2)
  | mov (g : Guard) (d a : BitVec 6)
  | push (g : Guard) (d a : BitVec 6)
  | subh (g : Guard) (d a b : BitVec 6)
  | and (g : Guard) (d a b : BitVec 6)
  | or (g : Guard) (d a b : BitVec 6)
  | xor (g : Guard) (d a b : BitVec 6)
  | andn (g : Guard) (d a b : BitVec 6)
  | shl (g : Guard) (d a : BitVec 6) (sh : BitVec 5)
  | shr (g : Guard) (d a : BitVec 6) (sh : BitVec 5)
  | shll (g : Guard) (d a : BitVec 6) (sh : BitVec 5)
  | shrl (g : Guard) (d a : BitVec 6) (sh : BitVec 5)
  | shrr (g : Guard) (d a : BitVec 6) (sh : BitVec 5)
  | ldi (g : Guard) (d : BitVec 6) (imm : BitVec 14)
  | lui (g : Guard) (d : BitVec 6) (imm : BitVec 14)
  | cmplt (g : Guard) (pd : BitVec 3) (a b : BitVec 6)
  | cmple (g : Guard) (pd : BitVec 3) (a b : BitVec 6)
  | cmpeq (g : Guard) (pd : BitVec 3) (a b : BitVec 6)
  | cmpne (g : Guard) (pd : BitVec 3) (a b : BitVec 6)
  | cmpltu (g : Guard) (pd : BitVec 3) (a b : BitVec 6)
  | tstb (g : Guard) (pd : BitVec 3) (a : BitVec 6) (bit : BitVec 5)
  | pand (g : Guard) (pd pa pb : BitVec 3)
  | por (g : Guard) (pd pa pb : BitVec 3)
  | pxor (g : Guard) (pd pa pb : BitVec 3)
  | ld (g : Guard) (d : BitVec 6) (addr : BitVec 14)
  | st (g : Guard) (a : BitVec 6) (addr : BitVec 14)
  | ldx (g : Guard) (d : BitVec 6) (xofs : BitVec 12)
  | stx (g : Guard) (a : BitVec 6) (xofs : BitVec 12)
  | ldr (g : Guard) (d i : BitVec 6) (k : BitVec 4)
  | str (g : Guard) (a i : BitVec 6) (k : BitVec 4)
  | strc (g : Guard) (a i : BitVec 6) (k : BitVec 4) (q : BitVec 3) (qi : Bool)
  | tint (g : Guard) (d x : BitVec 6) (k : BitVec 4) (rm : Bool)
  | prd (g : Guard) (d : BitVec 6) (pa : BitVec 12)
  | pwr (g : Guard) (a : BitVec 6) (pa : BitVec 12)
  | pwri (g : Guard) (imm : BitVec 8) (pa : BitVec 12)
  | pourStatRead (m : Master)
  | registerWrite (m : Master) (addr : BitVec 16) (val : Word)
  | axisFaultApply (n : Fin 4)
  -- mould handling (04)
  | mouldBegin | mouldCheck | mouldCheckDone | mouldCommit | mouldCommitDone (verified : Bool)
  | mouldStore | mouldStoreDone (verified : Bool) | mouldSelect | mouldSelectCopyDone | liveLoadComplete
  -- Sorac packets, taken by MGMT from the head of the ladle (11)
  | getId | getStatus | getAxis | getTelemetry | getParam | journalQuery | journalRead | lcState | thermalStatus
  | setParam | storeConfig | storeConfigDone
  | moveTo | moveVel | hold | stop | release | learnTravel | home | resume | cancel
  | jobStart (n : Fin 4) | immediateJobEffect (n : Fin 4) | journalTrim
  | resetFuncAxis | resetFuncLink | resetFuncSns | resetFuncSprue | resetFuncRunner | resetFuncMailbox
  | resetFuncDone | resetDevice | hibernate | clearFault
  | loopbackSprue | loopbackRunner | loopbackPlind | loopbackGateDrive | loopbackPhaseSensing
  | loopbackConverter | loopbackFieldInputs
  | loopbackDone (errors : Nat) (first : Word)
  | selftest | selftestDone (passed failed : BitVec 18)
  | lcAdvance | lcRmaChallenge | lcRmaEnter | lcSetMouldKey | nonceExpiry | rmaWipeDone
  | hostSilence | deferredActionTimeout
  -- the journal (12)
  | commit | recordProgrammed (okA okB : Bool)
  -- Sprue frames (13)
  | write (f : Frame) | post (f : Frame) | read (f : Frame) | take (f : Frame) | status (f : Frame) | echo (f : Frame)
  | frameAbort (cmd : Byte) (f : Frame) (cycles : Nat) | frameTimeout | sprueIdleReset
  -- the Runner port (14)
  | runnerMouldStart (i : Fin 32)
  | runnerMgmtStart (dev : BitVec 3) (cmd : Byte) (addr : BitVec 24) (isWrite : Bool) (tx : List Byte) (rxlen : BitVec 6)
  -- the levels of RIO0 to RIO3 in the RCK cycles after the dummy cycles: the echo, the data, the CRC, each where it is enabled
  | runnerComplete (levels : List Byte)
  -- locks, mailboxes, the event matrix (15)
  | lockRead (m : Master) (k : Fin 16) | lockRelease (m : Master) (k : Fin 16) (val : Word)
  | mbDataWrite (m : Master) (ch i : Fin 16) (val : Word) | mbDoorbell (m : Master) (ch : Fin 16)
  | mbAck (m : Master) (ch : Fin 16) | mbCancel (m : Master) (ch : Fin 16) | mbTimeout (ch : Fin 16) (sideB : Bool)
  | mblockWrite (m : Master) (val : Word) | qlockWrite (m : Master) (val : Word)
  | gpioPulseEnd (k : Fin 8)
  -- clocks, crossings and links (16)
  | eventCrossingDelivery (k : BitVec 8)
  | valueCrossingTransfer (which : Fin 6)
  | drvEventWord (n : Fin 4) (j : Fin 40)
  -- where the receiver finds the centre of the eye, in steps of 78 ps from its trained centre
  | tickFrame (n : Fin 4) (good : Bool) (eye : Int)
  | immediateMessage (n : Fin 4) (good : Bool)
  | registerMessage (n : Fin 4)
  | registerAckTimeout (n : Fin 4)
  | senseFrame (n : Fin 4) (good : Bool) (eye : Int)
  -- the VCORE that a good frame reports, less that of CTL; none for a bad one
  | statusFrame (n : Fin 4) (vcoreMv : Option Int)
  | crystalLoss | snsPllUnlock
  -- the PWM generator (07)
  | periodWrap (n : Fin 4) (bits : List ChanBits)
  | compareMatch (n : Fin 4) (ch : Fin 4)
  | deadTimeEnd (n : Fin 4) (ph : Phase) (high : Bool)
  | handshakeRelease (n : Fin 4) (ph : Phase) (high : Bool)
  | handshakeTimeout (n : Fin 4) (ph : Phase) (high : Bool)
  | hstoClear (n : Fin 4) (mask : BitVec 3)
  | enSet (n : Fin 4) | enClear (n : Fin 4)
  | brakeBackupEngage (n : Fin 4) | brakeBackupRelease (n : Fin 4)
  | syncChainPulse (n : Fin 4) | syncmiss (n : Fin 4)
  | syncAcquire | syncEdge (dev : Int) | syncEdgeMissing
  | tripSourceChange (n : Fin 4) (k : Fin 13) (active : Bool)
  | tripAssert (n : Fin 4) (k : Fin 13)
  | tripRelease (n : Fin 4) (k : Fin 13)
  | tflagClear (n : Fin 4) (mask : BitVec 13)
  | pwmStatRead (m : Master) (n : Fin 4)
  -- gate drive (08) and sensing (09)
  | vdsBlankingEnd (n : Fin 4) (ph : Phase) (high : Bool)
  | fpglowAssert (n : Fin 4) (p : PhaseAt) | fpglowRelease (n : Fin 4) (p : PhaseAt)
  | bstuvAssert (n : Fin 4) (ph : Phase)
  | refreshStart (n : Fin 4) (ph : Phase) | refreshTimeEnd (n : Fin 4) (ph : Phase)
  | vmLockoutEngage (n : Fin 4) | vmLockoutRelease (n : Fin 4)
  | modulatorLostClock (n : Fin 4) (p : PhaseAt)
  | bitstreamStuck (n : Fin 4) (c : ChanAt)
  | sensMean0Read (m : Master) (n : Fin 4)
  -- the precision converter (10)
  | conversionComplete (v : ConvIn)
  | injectedTrigger (e : TrigAt)
  | refselWrite (m : Master) (val : Word)
  | refrdySet | referenceLoss
  | adrvRead (m : Master)
  -- MON's own result: its input over its reference in units of 2^-23, and its reference in nV
  | ain11Compare (ratio : Int) (refNv : Nat)
  | vm0Compare (monMv : Int)
  -- field and position inputs (10)
  -- the raw samples of the input since the last command of this kind or the end of its chatter window, the oldest first
  | fiFilterChange (k : Fin 16) (samples : List Bool)
  | fiStuck (k : Fin 16)
  | fiChatterWindowEnd (k : Fin 16) (samples : List Bool)
  | fiTestPulseStart
  | fiTestPulseCheck (levels : BitVec 16)
  | fiConfigWrite (m : Master) (stk : Bool) (k : Fin 16) (val : Word)
  | fiStateRead (m : Master)
  | hallEdge (n : Fin 4) (code : BitVec 3) (t : Nat)
  -- the filtered code at that moment
  | hallRateDeferEnd (n : Fin 4) (code : BitVec 3)
  | encoderEdge (n : Fin 4) (a b : Bool)
  | encoderZEdge (n : Fin 4)
  | hallConfigWrite (m : Master) (n : Fin 4) (val : Word)
  -- temperature (17)
  | temperatureReading (counts : List Nat)
  | monTemperatureReading (r : MonTemps)
  | throttlePauseEnd (n : Fin 4)
  | thTemp0Read (m : Master)
  -- MON (18)
  | signatureCheck
  | tickMarker (monCycles : Nat)
  | tickMarkerTimeout
  | supplyWindowFault (rail : Fin 3)
  | lcReport
  | quenchRequest
  | externalQuench | externalQuenchEnd
  | monlost
  | witnessStatus (r : WitReq) | witnessReadB (r : WitReq) | witnessReadLog (r : WitReq)
  | witnessGapTimeout
  | monFaultRead (m : Master)
  -- life cycle, test and power (19, 20)
  | trdataRead (m : Master)
  | debugSessionAttempt
  | porRelease | vddFall (memAbove140 : Bool) | retentionExpiry
  | resetnAssert | resetnRelease | watchdogExpiry
  | monBootDone (romOk : Bool)
  | firmwareVerified (imgA imgB : Bool)
  | bootComplete
  | wake (srcs : BitVec 4)
  -- rows added at the end of the table
  | unlistedOpcode
  | unknownCmdFrame (cmd : Byte) (f : Frame)
  | witnessUnknownCmd (r : WitReq)
  | bstuvRelease (n : Fin 4) (ph : Phase)
  | v5CurrentLimit (limited : Bool)
  | lcAdvanceDone | lcSetMouldKeyDone | lcRmaEnterDone
  deriving DecidableEq, Repr

end Sys2Proof
end

