-- ==== Sys2Proof/Machine/State.lean ====
section
/-! DEFINITION. The state of the LYS480: every register, buffer, queue, counter, mode and pin the spec gives it, as
plain data, and the queue of waiting commands. Each field's default is its value at reset; `[DC n]` marks a value the
spec does not give, named in assumption log entry n. -/

namespace Sys2Proof.Machine

/-! ### Containers -/

/-- A sparse table: (key, value) pairs, keys strictly rising, no entry equal to the value an unlisted key has. -/
abbrev Sparse (α : Type) := List (Nat × α)

/-- A byte buffer: a list of `Host.Cell` in the canonical form of `Mem.wf` (Machine/Ops.lean). -/
abbrev Mem := Sparse Byte

/-- One value per axis, or per slot of four. -/
structure Four (α : Type) where
  a0 : α
  a1 : α
  a2 : α
  a3 : α
  deriving DecidableEq, Repr

/-- One value per bridge phase. -/
structure Three (α : Type) where
  u : α
  v : α
  w : α
  deriving DecidableEq, Repr

/-! ### Why a step can stop -/

/-- Faults: Pour operations whose encoding the mould check rejects and to which the spec gives no effect. All are
safe: the model stops where the device never comes, because such a mould never becomes active (02 R49). -/
inductive Fault where
  /-- MUL, MAC or MSU with SC = 3 (03 R92, Table 3-4 "Reserved"). Raised by the multiply meanings. Safe. -/
  | reservedProductMode
  /-- A V register beyond V63, such as SINCOS with D = 63 (03 R90). Raised by two-register results. Safe. -/
  | registerBeyondV63
  /-- A port not in 02 Table 2-4 (02 R63). Raised by PRD, PWR, PWRI. Safe. -/
  | portNotListed
  /-- A read of a write-only port or a write of a read-only port (02 R63). Raised by PRD, PWR, PWRI. Safe. -/
  | portWrongDirection
  /-- STX below XOFS 2 048 (02 R55, 03 R100). Safe. -/
  | inboundStore
  /-- A range descriptor the active mould does not declare, or TINT on a table of length 1 (03 R90, R102). Safe. -/
  | undeclaredDescriptor
  /-- A bundle whose words decode to no operation of their unit (03 R90). Raised by BUNDLE_ISSUE and
  TICK_BOUNDARY. Safe. -/
  | undecodableBundle
  deriving DecidableEq, Repr

/-- Refusals: none is raised by a meaning. -/
inductive Refusal where
  /-- An arm of exec that has no meaning yet. Safe. -/
  | notModelled (mnemonic : String)
  deriving DecidableEq, Repr

/-! ### The device, the tick and the exchange buffers -/

/-- Device states (01 Table 1-5). -/
inductive DevState where
  | off | boot | ready | run | safe | thermalLatch | hibernate
  deriving DecidableEq, Repr

/-- Axis states (01 Table 1-7). -/
inductive AxState where
  | disabled | start | run | hold | stopping | fault | test | recovery
  deriving DecidableEq, Repr

/-- How far the boot of 20 Table 20-4 has come. -/
inductive BootPhase where
  /-- RESETn is held low: before step 4 (20 R545). -/
  | held
  /-- Steps 1 to 5: no verified firmware yet. -/
  | rom
  /-- Steps 7 and 8: MGMT runs. -/
  | mgmt
  /-- Both images failed: the device stays in BOOT (20 R541). -/
  | stuck
  /-- Step 9 is over. -/
  | done
  deriving DecidableEq, Repr

/-- The tick generator and the heat counter (01 R15 to R19). -/
structure Tick where
  /-- The tick generator runs: READY, RUN, SAFE (01 R16). -/
  on : Bool := false
  /-- RATE code (01 Table 1-10). -/
  rate : BitVec 3 := 3
  /-- TPER, SYS cycles per tick (01 Table 1-10). -/
  tper : Nat := 10000
  /-- Heat index of the current tick (01 R18). -/
  hidx : BitVec 4 := 0
  /-- The 64-bit heat counter (01 R19). -/
  heat : BitVec 64 := 0
  /-- Position in the tick (00 R4). -/
  cy : Nat := 0
  /-- SYS cycles from the start of the tick generator to cy 0 of the current tick. -/
  base : Nat := 0
  /-- Cumulative sync offsets OFS0 to OFS3 (01 R22, 07 R232). -/
  ofs : Four Nat := ⟨0, 0, 0, 0⟩
  /-- A rate that takes effect at the next heat boundary (01 R17, 04 R127). -/
  nextRate : Option (BitVec 3) := none
  /-- The heat reservation ring in CTL NVM, valid entries by index (01 R19). Blank at first boot. -/
  ring : Sparse (BitVec 64) := []
  /-- The ring entry to be programmed next (01 R19). [DC 5] -/
  ringNext : Nat := 0
  /-- The boundary into a heat has passed and its tick 0 is still to begin (01 R18, R19). -/
  atZero : Bool := false
  /-- The count at which the tick to begin begins: 0, or the one that places an acquired tick (07 R234). -/
  start : Nat := 0
  /-- Where a tick that has been acquired begins: the tick boundary to come is its cy 0 (07 R234). -/
  acqBase : Option Nat := none
  deriving DecidableEq, Repr

/-- A job step as MGMT gives it to a standard mould, in internal values (01 R23, 06 R156). -/
structure JobStep where
  /-- Running number: the mould takes a step whose number is new to it. -/
  no : Nat := 0
  /-- Opcode of the job. -/
  opc : Nat := 0
  /-- TARGET of MOVE_TO; velocity of MOVE_VEL and its DUR in ticks; MODE of HOLD (11 Table 11-9). -/
  target : Int := 0
  vel : Int := 0
  dur : Nat := 0
  mode : Nat := 0xFF
  /-- Limits the job sets; none for the axis parameters (11 R363). -/
  vlim : Option Int := none
  alim : Option Int := none
  dlim : Option Int := none
  /-- Cause of a stop MGMT asks for; 0 for none (06 Table 6-8), and how many it has asked for under this number. -/
  stop : Nat := 0
  stopNo : Nat := 0
  deriving DecidableEq, Repr

/-- What a standard mould reports of an axis for MGMT's state changes (01 Table 1-8). -/
structure Report where
  /-- The job step it runs, and the axis state in which it ran. -/
  no : Nat := 0
  st : Nat := 0
  /-- Start-up is complete; the motion is at its end; a learning job failed; a FAULT cause is set. -/
  startDone : Bool := false
  still : Bool := false
  learnBad : Bool := false
  fault : Bool := false
  /-- Reactions begun since the step was taken, and whether the last is a stop. -/
  reacts : Nat := 0
  repStop : Bool := false
  deriving DecidableEq, Repr

/-- One exchange buffer (01 R23). The standard moulds' words are held by parameter ID, since their XOFS layout is
not given. -/
structure XBuf where
  /-- Inbound half, bytes 0x0000 to 0x1FFF. -/
  inb : Mem := []
  /-- Outbound half, byte 0 standing at offset 0x2000. -/
  outb : Mem := []
  /-- Inbound words of a standard mould, by parameter ID: internal values (06 R156). -/
  inId : Sparse Int := []
  /-- Job steps for a standard mould (R23). -/
  step : Four JobStep := ⟨{}, {}, {}, {}⟩
  /-- Outbound words of a standard mould, by parameter ID. -/
  outId : Sparse Word := []
  /-- What a standard mould reports of each axis (R23, R36). -/
  rep : Four Report := ⟨{}, {}, {}, {}⟩
  deriving DecidableEq, Repr

/-- A standing publication (01 R25, R27). -/
inductive Pub where
  | none | ordinary | boundary
  deriving DecidableEq, Repr

/-- The exchange buffers and the telemetry mirror (01 R23 to R28, 13 R412). -/
structure Exch where
  /-- Index of the active buffer (XSTAT bit 1). Reset value not given. [DC 4] -/
  act : Bool := false
  /-- The two exchange buffers (01 R23). -/
  buf0 : XBuf := {}
  buf1 : XBuf := {}
  /-- The publication standing (01 R25). -/
  pub : Pub := .none
  /-- A swap took place at XP in this tick (XSTAT bit 0, 02 Table 2-4). -/
  swapped : Bool := false
  /-- Cycle XP of the running tick has passed (01 R26). -/
  xpPast : Bool := false
  /-- The telemetry mirror, bytes from 0x01_0000 (13 R412). -/
  telem : Mem := []
  /-- The heat of the snapshot it holds (11 Table 11-8). -/
  telemHeat : BitVec 64 := 0
  deriving DecidableEq, Repr

/-! ### The Pour engine -/

/-- What a pending result writes at the end of its write-back cycle (02 R45, 03 R98). -/
inductive WbAct where
  /-- VD := val after `shift` older values moved up by one register each. -/
  | v (d : BitVec 6) (shift : Nat) (val : Word)
  /-- VD and V(D+1) written together (SINCOS). -/
  | pair (d : BitVec 6) (lo hi : Word)
  /-- PD := b. -/
  | p (pd : BitVec 3) (b : Bool)
  deriving DecidableEq, Repr

/-- A result in flight: written at the end of cycle `due` by the unit named (02 R45, R49). -/
structure WB where
  due : Nat
  unit : Nat
  act : WbAct
  deriving DecidableEq, Repr

/-- The CMPn writes of one axis that wait for its tick frame (02 R67, 07 R217). -/
structure CmpW where
  u : Option (BitVec 20) := none
  v : Option (BitVec 20) := none
  w : Option (BitVec 20) := none
  b : Option (BitVec 20) := none
  deriving DecidableEq, Repr

/-- Ports of one axis on CTL: sense results and downlink traffic (02 Table 2-4). -/
structure PortAx where
  /-- SENSn words 4c + k (02 Table 2-4). -/
  sens : Vector Word 28 := Vector.replicate 28 0
  /-- SSTATn and GSTATn (09 R299, 08 R276). -/
  sstat : Word := 0
  gstat : Word := 0
  /-- CMPn writes for the next tick frame, and those that came after its deadline (07 R217). -/
  cur : CmpW := {}
  nxt : CmpW := {}
  /-- The tick frame of this tick has left (16 R464). -/
  sent : Bool := false
  /-- LINKCTLn as the next tick frame carries it (02 R68). -/
  linkctl : BitVec 2 := 0
  /-- PCTLn.IMM (07 R220). -/
  imm : Bool := false
  /-- Immediate messages under way: channel, compare, stamp (16 Table 16-3). -/
  immq : List (Fin 4 × BitVec 20 × Nat) := []
  /-- A register message was on the lanes when the first of them was sent (16 R464). -/
  regOn : Bool := false
  deriving DecidableEq, Repr

/-- The Pour engine (02, 03). -/
structure Pour where
  /-- V0 to V63 (02 Table 2-2). -/
  v : Vector Word 64 := Vector.replicate 64 0
  /-- A0 to A7 in Q8.56 (02 Table 2-2). -/
  acc : Vector (BitVec 64) 8 := Vector.replicate 8 0
  /-- P0 to P7; P0 always 1 (02 R50). -/
  p : BitVec 8 := 1
  /-- Results in flight, oldest first (02 R45). -/
  inflight : List WB := []
  /-- Pour data memory, word a at bytes 4a to 4a + 3 (02 R54). [DC 3] -/
  pdm : Mem := []
  /-- Flipped bits of a Pour data word and of a word of program slot 0 or 1, 0 when sound: the SECDED condition of 02
  R60 to R62. A corrected word stays flipped (log entry 129). -/
  pdmUpset : Sparse Nat := []
  slot0Upset : Sparse Nat := []
  slot1Upset : Sparse Nat := []
  /-- Byte offset in CODE of the next bundle and its issue cycle (03 R87). -/
  boff : Nat := 0
  nextCy : Nat := 0
  /-- No further bundle of this pour issues (end of CODE, or 02 R62). -/
  ended : Bool := true
  /-- Running CRC-32C register of the signature (02 R77). -/
  sig : Word := 0xFFFFFFFF
  /-- A bundle of this pour has issued, or the pour was cut by R62. -/
  poured : Bool := false
  cutNow : Bool := false
  /-- The signature of the last completed tick, and the one POUR.PSIG reads before cy 64 (02 R78); POUR.PCNT (02 Table
  2-8, log entry 131). POUR.PSIGX is the active mould's. -/
  psig : Word := 0
  psigOld : Word := 0
  pcnt : Word := 0
  /-- Expected signature of the pour that PSIG belongs to (18 R493). -/
  psigxPrev : Word := 0
  /-- POUR.FLAGS: SAT, IDXCLAMP, ECCU (02 Table 2-9). -/
  flags : BitVec 3 := 0
  /-- POUR.EVEN.SAT (02 Table 2-10). -/
  even : Bool := false
  /-- POUR.OCC.OPS (02 Table 2-11). -/
  ops : BitVec 17 := 0
  /-- POUR.STAT: ECCC, CUT, SLOT, PSOK (02 Table 2-7), and PSOK as it reads before cy 64. -/
  eccc : BitVec 8 := 0
  cut : Bool := false
  slot : Bool := false
  psok : Bool := false
  psokOld : Bool := false
  /-- Axis ports. -/
  ax : Four PortAx := ⟨{}, {}, {}, {}⟩
  /-- RUNRES words (02 Table 2-4). -/
  runres : Vector Word 128 := Vector.replicate 128 0
  /-- The trace ring and its pointers TRWP and TRRP (02 R69, 19 Table 19-7). [DC 3] -/
  trace : Mem := []
  trwp : BitVec 16 := 0
  trrp : BitVec 16 := 0
  deriving DecidableEq, Repr

/-! ### Moulds -/

/-- A mould image: bytes given by the host, or a vendor standard mould (04 R107, R132). -/
inductive Image where
  | raw (len : Nat) (cells : Mem)
  | std (code : Nat)
  deriving DecidableEq, Repr

/-- A word range: base and length (04 Table 4-1). -/
structure Rng where
  base : Nat := 0
  len : Nat := 0
  deriving DecidableEq, Repr

/-- Runner transaction descriptor (14 Table 14-3a). -/
structure RunDesc where
  start : Nat
  hmask : BitVec 16
  dev : Nat
  cmd : Byte
  addr : BitVec 24
  dir : Nat
  txlen : Nat
  rxlen : Nat
  res : Nat
  resv : Byte
  done : Nat
  tx : List Byte
  deriving DecidableEq, Repr

/-- PARAM entry (04 Table 4-3). -/
structure ParEnt where
  id : Nat
  xofs : Nat
  fmt : Nat
  dir : Nat
  min : Word
  max : Word
  dflt : Word
  deriving DecidableEq, Repr

/-- CARRY entry (04 Table 4-3). -/
structure CarEnt where
  name : List Byte
  kind : Nat
  fmt : Nat
  count : Nat
  loc : Nat
  deriving DecidableEq, Repr

/-- Port-window entry (04 Table 4-3). -/
structure PWin where
  pa : Nat
  kind : Nat
  first : Nat
  last : Nat
  deriving DecidableEq, Repr

/-- What the device holds of a mould that may run: its header and declarations (04 Table 4-1 to 4-3). -/
structure MouldInfo where
  /-- Standard mould k (0 HALL, 1 ENC, 2 SL, 3 SIX), none for a custom mould (04 R132). -/
  std : Option Nat := none
  id : Word := 0
  ver : Word := 0
  imgLen : Nat := 0
  tper : Nat := 10000
  rate : BitVec 3 := 3
  axmask : BitVec 4 := 0
  upl : Nat := 800
  xp : Nat := 9500
  dld : Nat := 9400
  ofs : Four Nat := ⟨0, 0, 0, 0⟩
  psigx : Word := 0
  ops : Nat := 0
  xu4 : Nat := 0
  drange : Rng := {}
  trange : Rng := {}
  xin : Nat := 0
  xout : Nat := 0
  /-- RDk, none when not declared. -/
  rd : List (Option Rng) := []
  seqreg : List (BitVec 16) := []
  seqinj : List (BitVec 16) := []
  pwin : List PWin := []
  run : List RunDesc := []
  par : List ParEnt := []
  car : List CarEnt := []
  data : List Word := []
  tabl : List Word := []
  /-- CODE as bytes: the bundle stream (03 R86). -/
  code : List Byte := []
  deriving DecidableEq, Repr

/-- Kinds of activation (04 R125, R128). -/
inductive ActKind where
  | stopped | live | deact
  deriving DecidableEq, Repr

/-- A pending activation (04 R121). -/
structure Activation where
  kind : ActKind
  info : Option MouldInfo
  /-- 0 waiting for its boundary or loading, 1 armed, 2 in the heat with no mould, 3 done, reply due. -/
  phase : Nat
  seq : Word
  unmatched : Nat
  heat : BitVec 64
  /-- Ticks begun since the load started, or since the new mould's first. -/
  ticks : Nat
  /-- The BOOTMOULD activation of boot step 10 sends no reply (20 R543). -/
  boot : Bool
  deriving DecidableEq, Repr

/-- Image places and POUR.MSTAT (04, Table 4-8). -/
structure Moulds where
  /-- The staging window, byte 0 at 0x10_0000 (13 Table 13-6). [DC 3] -/
  staging : Mem := []
  /-- L of MOULD_BEGIN since device reset (04 R591). -/
  stageLen : Option Nat := none
  /-- The two program slots in CTL SRAM (04). -/
  slot0 : Option Image := none
  slot1 : Option Image := none
  /-- Customer slots C0 to C3 in MEM NVM: image and validity mark (04 R122). [DC 5] -/
  cust : Four (Option Image × Bool) := ⟨(none, false), (none, false), (none, false), (none, false)⟩
  /-- POUR.MSTAT fields (04 Table 4-8). -/
  stageok : Bool := false
  inactok : Bool := false
  lastfail : Byte := 0
  swap : BitVec 2 := 0
  loadleft : Nat := 0
  /-- The active mould, and the last active one as the outgoing mould of 04 R131. -/
  active : Option MouldInfo := none
  outgoing : Option MouldInfo := none
  /-- The pending activation (04 R121). -/
  pend : Option Activation := none
  deriving DecidableEq, Repr

/-! ### Packets, jobs, journal -/

/-- A reply before it is encoded (11 Table 11-2). -/
structure Reply where
  opc : Nat
  status : Nat
  disp : Nat
  seq : Word
  jidx : Nat
  data : List Byte
  deriving DecidableEq, Repr

/-- Background operations (11 R346). -/
inductive BgOp where
  /-- The staged image as it was accepted; `stale` once a later MOULD_BEGIN has cleared STAGEOK (04 R121). -/
  | mouldCheck (i : Image) (stale : Bool)
  | mouldCommit (i : Image)
  | mouldStore (src dst : Nat) (i : Image)
  | selectCopy (src : Nat) (boot : Bool)
  | storeConfig | loopback (iface depth : Nat) (count : Nat) (pat : Word) (ax : Fin 4) (aborted : Option Nat)
  | selftest (set : BitVec 18) (aborted : Bool)
  | lcAdvance | lcRmaEnter (nonce cresp vresp : List Byte) | lcSetKey (kind : Nat) (key : List Byte)
  deriving DecidableEq, Repr

/-- A running background operation with the packet it answers. -/
structure Bg where
  op : BgOp
  opc : Nat
  seq : Word
  deriving DecidableEq, Repr

/-- Actions that wait for their reply to be taken (11 R364). -/
inductive Deferred where
  | sprueReset | deviceReset | hibernate | rmaEnter | lcReset
  deriving DecidableEq, Repr

/-- Where a job stands (12 Table 12-2). -/
inductive JobSt where
  /-- Checked, awaiting its commit. -/
  | awaiting
  | accepted
  /-- Chosen to start at the next tick boundary (11 R356, 01 R36). -/
  | starting
  | started
  deriving DecidableEq, Repr

/-- A job or immediate job that has not ended (11 R352 to R358). -/
structure Job where
  seq : Word
  opc : Nat
  ax : Fin 4
  par : List Byte
  flags : Byte
  st : JobSt
  /-- The heat boundary after the commit that accepted it has passed (11 R356). -/
  due : Bool
  deriving DecidableEq, Repr

/-- A journal record without its CRC (12 Table 12-2). -/
structure JRec where
  seq : Word
  opc : BitVec 16
  axis : Byte
  state : Byte
  param : List Byte
  heat : BitVec 64
  deriving DecidableEq, Repr

/-- A ring slot of one copy: blank, a valid record, or torn (12 R370, R381). -/
inductive Slot where
  | blank
  | ok (r : JRec)
  | torn (id : Nat)
  deriving DecidableEq, Repr

/-- A record that waits for its commit, or stands in it (12 R373). -/
structure Pend where
  r : JRec
  /-- 0 transition, 1 carry, 2 new packet. -/
  cls : Nat
  /-- The ACCEPTED reply this record completes (11 R350): class of reply data, FREED for a trim. -/
  reply : Option (List Byte)
  /-- SEQ that reply echoes: a trim record itself holds 0 (12 R389). -/
  rseq : Word
  /-- Notify when committed (11 R351): DISP. -/
  notify : Option Nat
  /-- The largest SEQ accepted before its packet (11 R342, 12 R375). -/
  prev : Word := 0
  deriving DecidableEq, Repr

/-- The journal (12). -/
structure Journal where
  /-- Copies A and B by ring index; an unlisted index is blank. [DC 5] -/
  a : Sparse Slot := []
  b : Sparse Slot := []
  /-- Write pointer (12 R373). [DC 5] -/
  wp : Nat := 0
  /-- Retirement lists of the copies (12 R374). -/
  retA : List Nat := []
  retB : List Nat := []
  /-- Trim horizon (12 R389). -/
  trim : Word := 0
  /-- Lap counts (12 R390). -/
  lapA : Nat := 0
  lapB : Nat := 0
  /-- EV250 has been raised for a worn copy (12 R390). -/
  wearRaised : Bool := false
  /-- Records with a place in the next commit, in order of arrival, and transitions carried beyond it (11 R349). -/
  pend : List Pend := []
  /-- The commit in progress: records still to be programmed, the index of each being wp (12 R373). -/
  com : List Pend := []
  /-- Records of this commit already held by both copies, with their index (11 R350). -/
  held : List (Nat × Pend) := []
  /-- A commit is in progress (12 R373). -/
  comBusy : Bool := false
  /-- Journal fault (12 R375). -/
  fault : Bool := false
  /-- The largest SEQ accepted (11 R354). -/
  maxSeq : Word := 0
  /-- HEAT of the newest configuration record in the configuration partition (12 R371). -/
  cfgHeat : BitVec 64 := 0
  /-- The Sprue journal read view: newest record whose index is j modulo 1 024 (12 R387). -/
  view : Sparse Slot := []
  /-- Torn records so far: the counter a free value is drawn with (12 R381). [DC 10] -/
  tornN : Nat := 0
  deriving DecidableEq, Repr

/-- What the stored configuration partition holds (12 R371, 20 R550, 23 R586). -/
structure Stored where
  /-- Parameter values by ID. [DC 5] -/
  par : Sparse (Option Word) := []
  /-- Configuration registers by address (23 R586). -/
  regs : Sparse (Option Word) := []
  /-- Mailbox bindings MBBIND3 to MBBIND15 (15 R442) and the quench map (Table 15-8). -/
  binds : Sparse (Option Word) := []
  /-- The stored quench map (15 Table 15-8). -/
  qmap : EvSet := BitVec.ofNat 256 (2 ^ 203)
  deriving DecidableEq, Repr

/-- The travel profile store of one axis (06 R194, R587). -/
structure Travel where
  /-- POSCLOSED and POSOPEN of the pair in force (06 R587). -/
  closed : Word := 0
  opened : Word := 0
  /-- Profile words 0 to 2 047 of the store. -/
  prof : Sparse Word := []
  /-- A profile stands in the store (06 R194). -/
  have_ : Bool := false
  /-- Points of the stream the mould's buffers have still to take (06 R194). -/
  inLeft : Nat := 0
  /-- The profile that the mould streams out: its run (Mot.formRun), the blocks received, and their words (06 R194). -/
  outRun : Nat := 0
  outGot : BitVec 32 := BitVec.allOnes 32
  outProf : Sparse Word := []
  /-- One more than the number of the axis's job step when SET_PARAM last set the pair, 0 for never (06 R587). -/
  pairNo : Nat := 0
  /-- The pair and profile stored in NVM. -/
  nvClosed : Word := 0
  nvOpened : Word := 0
  nvProf : Sparse Word := []
  nvHave : Bool := false
  deriving DecidableEq, Repr

/-- Job bookkeeping of one axis (11 Table 11-9). -/
structure JobAx where
  /-- The axis is held (11 R359). -/
  held : Bool := false
  /-- SEQ of the last job to end and its DISP code. -/
  lastSeq : Word := 0
  lastOut : Nat := 0
  /-- The largest level L whose pause P(L) after the previous job has passed (17 R486); 4 with no previous job. -/
  waited : Nat := 4
  /-- A stop that takes effect at the next tick boundary: 0 none, 9 STOP, 10 HOST_TO, 11 THERMAL (06 Table 6-8). -/
  req : Nat := 0
  /-- The job step MGMT gives the mould (01 R23), and the mould's reactions it has seen since. -/
  step : JobStep := {}
  seen : Nat := 0
  deriving DecidableEq, Repr

/-- One MON log entry (18 R503). -/
structure MonLog where
  code : Byte
  ticks : BitVec 16
  heat : BitVec 64
  ms : Word
  deriving DecidableEq, Repr

/-- An entry of the fault log or of the log ring in SRAM: its code (log entry 30), its heat, and the entry of MON's log that it
copies (18 R503). -/
structure FaultLog where
  code : Nat
  heat : BitVec 64
  mon : Option MonLog := none
  deriving DecidableEq, Repr

/-- MGMT: packets, parameters, jobs (11). -/
structure Mgmt where
  /-- The ladle: packets oldest first (11 R343). -/
  ladle : List (List Byte) := []
  /-- The outlet: replies oldest first, and entries reserved (11 R343, R344). -/
  outlet : List Reply := []
  /-- Outlet entries reserved for replies still to come (11 R344). -/
  reserved : Nat := 0
  /-- The reply last removed by TAKE, as bytes (13 R411). -/
  lastTaken : List Byte := []
  /-- OUTLOSS (11 R351). -/
  outloss : BitVec 16 := 0
  /-- The background operation that runs (11 R346). -/
  bg : Option Bg := none
  /-- A reset function under way with its packet (11 R364): FUNC, axis or channel. -/
  rfunc : Option (Nat × Nat × Word) := none
  /-- A CLEAR_FAULT whose outcome the next tick boundary decides: its axes, its SEQ, and the SAFECAUSE of what has
  asked for SAFE since, 0 for nothing (01 R38, 18 R508). -/
  clr : Option (BitVec 4 × Word × BitVec 4) := none
  /-- SAFECAUSE of what has asked for SAFE in the running tick, 0 for nothing (18 R508). -/
  tickCause : BitVec 4 := 0
  /-- The deferred action, its reply's SEQ (11 R364). -/
  defer : Option (Deferred × Word) := none
  /-- The jobs that have not ended, oldest first (11 R352 to R358). -/
  jobs : List Job := []
  /-- Job bookkeeping per axis (11 Table 11-9). -/
  jax : Four JobAx := ⟨{}, {}, {}, {}⟩
  /-- Parameter values MGMT holds, by ID (04 R109, 11 R367). -/
  par : Sparse (Option Word) := []
  /-- What the stored configuration partition holds (12 R371). -/
  stored : Stored := {}
  /-- Travel pairs and profiles per axis (06 R194). -/
  travel : Four Travel := ⟨{}, {}, {}, {}⟩
  /-- The host-silence timer runs out at the next HOST_SILENCE unless a frame came (11 R360). -/
  silent : Bool := false
  /-- EV203 has been raised since device reset (01 R33). -/
  ev203 : Bool := false
  /-- MON was lost: every job is refused until a device reset (18 R501). -/
  monlost : Bool := false
  /-- The derating factor kth of each axis in Q2.29 (06 R187). -/
  kth : Four Word := ⟨0x20000000, 0x20000000, 0x20000000, 0x20000000⟩
  /-- The fault log, oldest first (01 Table 1-6, 11 R360, 18 R503). -/
  flog : List FaultLog := []
  /-- The fault and trace log ring in MEM SRAM (17 Table 17-4), oldest first. -/
  slog : List FaultLog := []
  /-- A publication waits to be made by MGMT for values already written (04 R147). -/
  pubWanted : Bool := false
  /-- MGMT has published in this heat (15 R452). -/
  pubDone : Bool := false
  /-- BOOTRATE of the boot configuration, as read at this boot (11 R367). -/
  bootRate : BitVec 3 := 3
  deriving DecidableEq, Repr

/-! ### Sprue, Runner -/

/-- The Sprue port (13). -/
structure Sprue where
  /-- SPR.CFG and SPR.IRQ (13 Table 13-8). -/
  cfg : Word := 0x000A0800
  irq : Word := 3
  /-- SYNC and EXP (13 R405). -/
  sync : Bool := false
  exp : Byte := 0
  /-- STATUS bits 7:4: BADCRC, BADALIVE, ABORT, RANGE (13 R404). -/
  flg : BitVec 4 := 0
  /-- SPR.ERR counters RANGE, ABORT, BADALIVE, BADCRC (13 Table 13-9). -/
  eRange : Byte := 0
  eAbort : Byte := 0
  eAlive : Byte := 0
  eCrc : Byte := 0
  /-- What the device drove in the last frame after the dummy phase (13 R397). -/
  out : List Byte := []
  /-- The mode it drove them in, and for how many cycles (13 R395, Table 13-3). -/
  outMode : Nat := 0
  outN : Nat := 0
  /-- Frames that have timed out: the counter a free value is drawn with. -/
  lateN : Nat := 0
  deriving DecidableEq, Repr

/-- A Runner transaction in progress (14 R425). -/
structure RunTx where
  dev : BitVec 3
  mgmt : Bool
  isRead : Bool
  alv : Byte
  rxlen : Nat
  res : Nat
  /-- Retries already made of an MGMT read (14 R429). -/
  tries : Nat
  /-- Its start, and the cycle at which it completes (14 R425). -/
  start : Nat
  c : Nat
  /-- Cycles it had run when an acquired tick began (07 R234). -/
  ahead : Nat := 0
  /-- RUN.DEVA and RUN.DEVB of its device code (14 Table 14-5), N (14 R423), and the bytes it sends (14 R423). -/
  cfgA : Word
  cfgB : Word
  n : Nat
  sent : List Byte
  /-- CMD, ADDR and write data, from which a retry is formed anew (14 R424, R429). -/
  cmd : Byte := 0
  addr : BitVec 24 := 0
  tx : List Byte := []
  deriving DecidableEq, Repr

/-- The Runner port (14). -/
structure Runner where
  /-- The transaction in progress (14 R425). -/
  tx : Option RunTx := none
  /-- A failed MGMT read that waits for a window to start again in (14 R429). -/
  retry : Option RunTx := none
  /-- RUN.FLAG (14 Table 14-4). -/
  flag : Word := 0
  /-- RUN.DEVAk, RUN.DEVBk at index k (14 Table 14-5); index 0 stands for no register. -/
  deva : Vector Word 8 := Vector.replicate 8 0x08000000
  devb : Vector Word 8 := Vector.replicate 8 0x140A0A01
  /-- Descriptors that have run in this tick (14 R426). -/
  ran : BitVec 32 := 0
  /-- Data of the last MGMT read (14 R429). -/
  mdata : List Byte := []
  /-- The next transaction may start from this cycle of the tick on (14 R425). -/
  free : Nat := 0
  deriving DecidableEq, Repr

/-! ### Events, locks, mailboxes -/

/-- The event matrix (15 R449 to R454). -/
structure Evm where
  /-- EVM.PENDk, the bank of HOST (15 R450). -/
  pendHost : EvSet := 0
  /-- The bank of MGMT (15 R450). -/
  pendMgmt : EvSet := 0
  /-- The bank of MON (15 R450). -/
  pendMon : EvSet := 0
  /-- EVM.ENIRQk (15 Table 15-7). -/
  enIrq : EvSet := 0
  /-- EVM.ENMGMTk (15 Table 15-7). -/
  enMgmt : EvSet := BitVec.allOnes 256
  /-- EVM.ENMONk (15 Table 15-7). -/
  enMon : EvSet := 0
  /-- EVM.ENPOURk (15 Table 15-7). -/
  enPour : EvSet := 0
  /-- EVM.QMAPk (15 Table 15-7). -/
  qmap : EvSet := BitVec.ofNat 256 (2 ^ 203)
  /-- EVM.OVFk (15 Table 15-7). -/
  ovf : EvSet := 0
  /-- The Pour image (15 R452). -/
  pour : EvSet := 0
  /-- EVM.GPIOk (15 Table 15-8). -/
  gpio : Vector Word 8 := Vector.replicate 8 0
  /-- EVM.GPIOST.MERGE (15 R453). -/
  merge : BitVec 8 := 0
  /-- EVM.CTRL.QLOCK (15 Table 15-8). -/
  qlock : Bool := false
  /-- Event-driven pin levels (15 R453). -/
  pin : BitVec 8 := 0
  /-- GPIO pulses that run, and those over for less than 1 µs (15 R453). -/
  pulse : BitVec 8 := 0
  after : BitVec 8 := 0
  /-- Pending counters of the crossings (16 R460): SYS to MON at event k, SNS to SYS at 256 + k, MON to SYS at
  512 + k. -/
  cnt : Sparse Nat := []
  deriving DecidableEq, Repr

/-- The locks (15 R437). -/
structure Locks where
  /-- Owner IDs of LOCK0 to LOCK15 (15 Table 15-4). -/
  owner : Vector (BitVec 4) 16 := Vector.replicate 16 0
  /-- LOCK.ERR (15 Table 15-4). -/
  err : Word := 0
  deriving DecidableEq, Repr

/-- One endpoint's side of a mailbox channel (15 R444). -/
structure MbSide where
  /-- This endpoint's send slot, as 16 words. -/
  slot : Vector Word 16 := Vector.replicate 16 0
  /-- TXFULL of this side (15 Table 15-6). -/
  txfull : Bool := false
  /-- TXTO of this side (15 Table 15-6). -/
  txto : Bool := false
  /-- CONSUMED, CANCELLED, REJWR (15 Table 15-6). -/
  flag : BitVec 3 := 0
  /-- The channel's timer of this direction runs (15 R445). -/
  timer : Bool := false
  deriving DecidableEq, Repr

/-- One mailbox channel (15 R441). -/
structure MbCh where
  /-- MBBINDn: TO, IDB, IDA (15 Table 15-5). -/
  bind : Word := 0x00000A00
  /-- The sides of IDA and IDB. -/
  a : MbSide := {}
  b : MbSide := {}
  deriving DecidableEq, Repr

/-- The mailboxes (15 R441, R442). -/
structure Mail where
  /-- The channels MB0 to MB15; MB0 to MB2 are bound by R442. -/
  ch : Vector MbCh 16 :=
    ((Vector.replicate 16 ({} : MbCh)).set 0 { bind := 0x00000A12 }).set 1 { bind := 0x00000A32 }
      |>.set 2 { bind := 0x00000A31 }
  /-- MBLOCK.LOCK (15 Table 15-5). -/
  lock : Bool := false
  deriving DecidableEq, Repr

/-! ### The drive dies -/

/-- The registers of one drive die that the status frame mirrors (16 R468). -/
structure Drv where
  /-- PWMn.CTRL, DT, BRKHW (07 Tables 7-4, 7-6). -/
  ctrl : Word := 0
  dt : Word := 100
  brkhw : Word := 0x8000EBE1
  /-- PWMn.STAT fields MISS, BHACT, ENA (07 Table 7-5). -/
  miss : BitVec 8 := 0
  bhact : Bool := false
  ena : Bool := false
  /-- Active and shadow compares U, V, W, BRK (07 Table 7-6). -/
  acmp : Four (BitVec 20) := ⟨0, 0, 0, 0⟩
  scmp : Four (BitVec 20) := ⟨0, 0, 0, 0⟩
  /-- PWMn.SYNCOFS (07 Table 7-6). -/
  syncofs : BitVec 15 := 0
  /-- TFLAG, TSRC, TCBC (07 Table 7-7). -/
  tflag : BitVec 13 := 0
  tsrc : BitVec 13 := 0
  cbcCnt : BitVec 16 := 0
  cbcLast : BitVec 13 := 0
  /-- TCFG0 to TCFG12 (07 Table 7-3). -/
  tcfg : Vector Word 13 := #v[0x1000047F, 0xC000083F, 0xC000083F, 0xC000083F, 0x8000047F, 0x8000047F, 0x8000047F,
    0x8000047F, 0x8000047F, 0x8000047F, 0xA000323F, 0xA000323F, 0xA000327F]
  /-- GATEn.DRV, BST, HS, VDS, OCF, VM (08 Tables 8-6, 8-7). -/
  gdrv : Word := 0x44404440
  gbst : Word := 0x00001434
  ghs : Word := 1
  gvds : Word := 0x000A0909
  gocf : Word := 0x16
  gvm : Word := 0x0000F213
  /-- GATEn.STAT: REFCNT, VMLO, LON, HON, REFACT, FPGLOW, BSTUV; phases U, V, W in bits 0, 1, 2 (08 Table 8-8). -/
  refcnt : BitVec 5 := 0
  vmlo : Bool := false
  lon : BitVec 3 := 0
  hon : BitVec 3 := 0
  refact : BitVec 3 := 0
  fpglow : BitVec 3 := 0
  bstuv : BitVec 3 := 0
  /-- GATEn.FLAG: REFFLT, SHOOT, HSTO (08 Table 8-8). -/
  refflt : Bool := false
  shoot : BitVec 3 := 0
  hsto : BitVec 3 := 0
  /-- GATEn.RCNT (08 Table 8-8). -/
  reftot : BitVec 16 := 0
  /-- SENSn.WIN, CTRL (09 Table 9-5) and FLAG: OVR, STUCK, LOSTCLK (09 Table 9-6). -/
  swin : Word := 0
  sctrl : Word := 0x70
  sovr : BitVec 7 := 0
  sstuck : BitVec 7 := 0
  slost : BitVec 3 := 0
  deriving DecidableEq, Repr

/-- One gate command on its way through stages 3 and 4 (07 R213, 08 R253). -/
structure GateCh where
  /-- The command at the input of stage 3. -/
  cmd : Bool := false
  /-- A rising edge waits in stage 3, or in stage 4. -/
  w3 : Bool := false
  w4 : Bool := false
  /-- The command as it leaves stage 4. -/
  s4 : Bool := false
  /-- The dead time that the command's edge began still runs (07 R216). -/
  dt : Bool := false
  /-- The gate has been reported off for 20 ns (08 R253). -/
  off : Bool := true
  /-- The VDS monitor of this FET is active: its blanking has ended (08 R270). -/
  vds : Bool := false
  deriving DecidableEq, Repr

/-- One bridge phase of a drive die (07, 08). -/
structure PhSt where
  /-- The high-side and the low-side gate command. -/
  h : GateCh := {}
  l : GateCh := {}
  /-- The raw high command of stage 1 and 2 (07 R210). -/
  raw : Bool := false
  /-- A refresh runs: 0 none, 1 running, 2 its time has ended (08 Table 8-3). -/
  refr : Nat := 0
  /-- The comparator that let the handshake time out is that of the high side (08 R255, R256). -/
  lateHigh : Bool := false
  /-- In this period: a refresh ran, FPGLOW was asserted (08 Table 8-5). -/
  refRan : Bool := false
  fpgSeen : Bool := false
  deriving DecidableEq, Repr

/-- A register message on the downlink of an axis (16 Table 16-3): its resends, the cycle in which it was sent off, and whether
it has arrived and its acknowledge is under way (16 R467). -/
structure RegMsg where
  addr : Nat
  val : Word
  host : Bool
  tries : Nat
  since : Nat := 0
  arr : Bool := false
  deriving DecidableEq, Repr

/-- The Plind link of one axis as CTL holds it (16 Table 16-6). -/
structure Link where
  phu : BitVec 8 := 0
  phd : BitVec 8 := 0
  nbr : Bool := false
  trained : Bool := false
  dnbadl : Bool := false
  upbadl : Bool := false
  slips : BitVec 8 := 0
  immlost : BitVec 8 := 0
  dnbad : BitVec 8 := 0
  upbad : BitVec 8 := 0
  dvcore : BitVec 16 := 0
  dtj : BitVec 16 := 0
  /-- VCORE of DRVn as last reported, less that of CTL, in mV (16 R470). -/
  vcore : Int := 0
  /-- The heat word that the last good tick frame brought (16 Table 16-3). -/
  heatRx : Word := 0
  deriving DecidableEq, Repr

/-- A word that waits for the uplink of a drive die: an event word, or the acknowledge of its register message (16 R588). -/
inductive UpWord where
  | event (j : Nat)
  | ack
  deriving DecidableEq, Repr

/-- What one drive die reduced of the period just ended, waiting for its sense frame (09 Table 9-2). -/
structure SenseWords where
  sens : Vector Word 28
  mean : Vector Word 7
  sstat : Word
  gstat : Word
  deriving DecidableEq, Repr

/-- Sensing of one drive die (09). -/
structure Sense where
  /-- Values of the last valid period, words 4c + k (09 R294). -/
  lastV : Vector Word 28 := Vector.replicate 28 0
  lastMean : Vector Word 7 := Vector.replicate 7 0
  /-- The last 21 modulator bits of each channel, which the stage-1 filter still sees (09 R282). -/
  hist : Vector (List Bool) 7 := Vector.replicate 7 []
  /-- Modulators without clock, and stuck bit-streams, as they stand (09 R291, R292). -/
  lostNow : BitVec 3 := 0
  stuckNow : BitVec 7 := 0
  /-- Losses of clock and stuck bit-streams that stood in the running period: the channel and the count since which each
  stood, in order, 0 for one carried in (09 R291 to R293). -/
  lossAt : List (Nat × Nat) := []
  stuckAt : List (Nat × Nat) := []
  /-- FPGLOW stood in this window, phases U, V, W (09 R293), and the count since which it stands (08 R260). -/
  fpg : BitVec 3 := 0
  fpgAt : Three Nat := ⟨0, 0, 0⟩
  /-- Phases whose low side has been on since reset (09 R281). -/
  lowSeen : BitVec 3 := 0
  /-- Phases whose trickle pump has charged CBOOT since VGD last rose (09 R281). -/
  pumped : BitVec 3 := 0
  /-- Phases whose supply had not come up in the running period (09 R281). -/
  unboot : BitVec 3 := 7
  /-- The period in progress is not covered by modulator data (09 R293). -/
  partial_ : Bool := true
  /-- The period in progress is the first after a VMODE change (09 R293). -/
  vmodeNew : Bool := false
  /-- TINJ runs in this period, or is to run in the next (09 R297, 02 R68). -/
  tinj : Bool := false
  tinjNext : Bool := false
  /-- A test injects on all three phases in this period, or is to in the next, with alternating polarity (19 Table 19-4). -/
  tinjTest : Bool := false
  tinjTestN : Bool := false
  /-- The density, in 1 / 256, of the internal bit-stream that a test feeds the decimators with in this period, or in the next (19
Table 19-4). -/
  feed : Option Byte := none
  feedNext : Option Byte := none
  /-- The frame formed at the last wrap (09 Table 9-2). -/
  frame : Option SenseWords := none
  /-- SENSn.MEAN0 to MEAN6 and SSTAT as the host reads them (09 Table 9-6). -/
  mean : Vector Word 7 := Vector.replicate 7 0
  sstat : Word := 0
  deriving DecidableEq, Repr

/-- A value crossing at its source: the holding register while a transfer is under way, and whether the value has been written
again since (16 R459). -/
structure Cross (α : Type) where
  hold : Option α := none
  again : Bool := false
  deriving DecidableEq, Repr

/-- One axis: its state on CTL, its drive die, its link (01 R36, 07, 08, 09, 16). -/
structure Axis where
  /-- The axis state (01 Table 1-7). -/
  st : AxState := .disabled
  /-- The state to be taken at the next tick boundary (01 R36, R39). -/
  nxt : Option AxState := none
  /-- The registers as they stand on the drive die. -/
  drv : Drv := {}
  /-- The mirror of them on CTL, as of the last status frame (16 R468). -/
  mir : Drv := {}
  /-- Bridge phases U, V, W. -/
  ph : Three PhSt := ⟨{}, {}, {}⟩
  /-- The brake command after stage 2 (07 R228). -/
  brk : Bool := false
  /-- Dither index of the running period and the CMPeff of its four channels after stage 2 (07 R208, R210). -/
  k : BitVec 4 := 0
  eff : Four Nat := ⟨0, 0, 0, 0⟩
  /-- Length of the running period in counts: TPER when it began (07 R207). -/
  per : Nat := 10000
  /-- EN was set and waits for the wrap (07 R225). -/
  enWait : Bool := false
  /-- Filtered trips asserted; cycle-by-cycle trips holding their masks; those that acted in this period (07 R243). -/
  filt : BitVec 13 := 0
  cbcHold : BitVec 13 := 0
  cbcPer : BitVec 13 := 0
  /-- Trip filters that are counting (07 R237). -/
  counting : BitVec 13 := 0
  /-- Outputs held off until the next wrap after a clear: those of trips (07 R241), and the phases whose HSTO or SHOOT was
  cleared (08 R256, R257). -/
  wrapOff : BitVec 7 := 0
  wrapPh : BitVec 3 := 0
  /-- The VM lockout acted in this period (08 Table 8-5); its drivers resume at the next wrap (08 R274). -/
  vmloPer : Bool := false
  vmloWait : Bool := false
  /-- A gate-drive test suspends the VM lockout (19 R523). -/
  noLock : Bool := false
  /-- Such a test was cut short while the comparator stood: the VMUVLO of the entry that followed is still to be raised (08
  R274; log entry 198). -/
  lockDue : Bool := false
  /-- Periods of the gate-drive test of the axis that have begun (19 R522). -/
  testI : Nat := 0
  /-- Trip sources 11 and 12 are armed (08 R271, R272). -/
  uvArm : Bool := false
  vgdArm : Bool := false
  /-- Configuration writes that take effect at the next wrap: address offset and value (07 R219, 08 R275). -/
  cfgq : List (Nat × Word) := []
  /-- Consecutive sync-chain misses (07 R233). -/
  missRun : Nat := 0
  /-- Two misses came in a row and MGMT has not taken them (07 R233). -/
  missTwo : Bool := false
  /-- Bad tick frames and bad sense frames in a row (16 R467). -/
  dnRun : Nat := 0
  upRun : Nat := 0
  /-- What the drive die reports in its next status frame: the last tick frame was bad; bad ones since the last status
  frame (16 R467). -/
  dieBadL : Bool := false
  dieBad : Nat := 0
  /-- The words that wait for the uplink, in order of arrival, and the event whose word is on its lanes (16 R588). The pending
  counter of event j is the number of its words that wait (Axis.evPend). -/
  evq : List UpWord := []
  upOn : Option Nat := none
  /-- The status frame of the running period has come (16 Table 16-3). -/
  statIn : Bool := false
  /-- The downlink register messages not yet acknowledged (16 R467). -/
  regq : List RegMsg := []
  /-- The Plind link (16 Table 16-6). -/
  link : Link := {}
  /-- Sensing on the drive die (09). -/
  sense : Sense := {}
  deriving DecidableEq, Repr

/-! ### The standard moulds' motion state -/

/-- State of a 3P3Z-I or 2P2Z instance (05 R149), Q2.29 words. -/
structure Comp where
  e1 : Int := 0
  e2 : Int := 0
  x1 : Int := 0
  x2 : Int := 0
  i : Int := 0
  deriving DecidableEq, Repr

/-- What a standard mould keeps of one axis (06 R592, MOTn, and its compensators). -/
structure Mot where
  /-- Trajectory: p in 2^-32 units, 64 bits; v and a in 2^-64 units per tick and per tick squared (06 R181). -/
  p : Int := 0
  v : Int := 0
  a : Int := 0
  /-- Target position (06 R182). -/
  target : Int := 0
  /-- Velocity command of MOVE_VEL, none for a positioning run (06 R182). -/
  vcmd : Option Int := none
  /-- Limits the job itself sets; none for those of the parameters (06 R181). -/
  vlim : Option Int := none
  alim : Option Int := none
  dlim : Option Int := none
  /-- The deceleration in force: 0 the job's, 1 DSTOP, 2 DOBS, 3 DMAX (06 R181, R200). -/
  dlKind : Nat := 0
  /-- A stop whose target the next trajectory step sets (06 R182). -/
  stopReq : Bool := false
  /-- MOVE_VEL has come within its threshold (06 R182). -/
  vreached : Bool := false
  /-- Ticks left of MOVE_VEL DUR; 0 for none. -/
  dur : Nat := 0
  /-- The trajectory moves; it has reached its end (06 R181). -/
  moving : Bool := false
  done : Bool := true
  /-- Measured position (06 R154). -/
  pos : Int := 0
  /-- Electrical angle, and electrical speed in Q2.29 pu (06 R168 to R174). -/
  theta : Word := 0
  omega : Int := 0
  /-- The observer's angle and flux (06 R173). -/
  thObs : Word := 0
  fluxA : Int := 0
  fluxB : Int := 0
  /-- Voltage vector of this pour and of the one before it (06 R173). -/
  va0 : Int := 0
  vb0 : Int := 0
  va1 : Int := 0
  vb1 : Int := 0
  /-- Last valid Hall code, direction, consecutive invalid codes and intervals of one direction per 60°, newest first
  (06 R168 to R170). -/
  hallLast : BitVec 3 := 0
  hallDir : Int := 0
  hallBad : Nat := 0
  hallIvl : List Nat := []
  /-- Phase currents used: this period's, or held (06 R160). -/
  iu : Int := 0
  iv : Int := 0
  iw : Int := 0
  /-- Consecutive pours with refresh-held currents, with a phase sum beyond ISUMLIM, with a cycle-by-cycle OCF trip
  (06 R160, R161, R185). -/
  refRun : Nat := 0
  sumRun : Nat := 0
  ocfRun : Nat := 0
  /-- Consecutive pours above the obstruction envelope (06 R195). -/
  obsCnt : Nat := 0
  /-- Pours the stall condition has held (06 R188). -/
  stallT : Nat := 0
  /-- Ticks of obstruction blanking left (06 R195). -/
  blank : Nat := 0
  /-- Consecutive pours in which the tracker has lost lock (06 R175). -/
  slRun : Nat := 0
  /-- First Z latch seen, last Z latch, index slips counted (06 R172). -/
  zFirst : Option Word := none
  zLast : Word := 0
  slips : Nat := 0
  /-- Compensators: position, speed, d, q (06 R176), six-step bus current. -/
  cPos : Comp := {}
  cSpd : Comp := {}
  cD : Comp := {}
  cQ : Comp := {}
  cBus : Comp := {}
  /-- q-current reference; measured q and d currents (06 R176). -/
  iqRef : Int := 0
  iq : Int := 0
  id : Int := 0
  /-- Current deviation of the obstruction test (06 R195). -/
  dev : Int := 0
  /-- The vector clamp acts: status flag LIM (06 R186). -/
  limOn : Bool := false
  /-- POSVALID (06 R190). -/
  posvalid : Bool := false
  /-- Aligned since device reset, and c_align (06 R177). -/
  aligned : Bool := false
  cAlign : Word := 0
  /-- Landing mode; HOLD force mode (06 R180, R200). -/
  landing : Bool := false
  force : Bool := false
  /-- Ticks spent in START, and the peaks of the test pulses (06 Table 6-4). -/
  startT : Nat := 0
  peaks : List Int := []
  /-- Repetitions of the test pulses, forced angle and its frequency (06 Table 6-4). -/
  ipdTry : Nat := 0
  thF : Word := 0
  fF : Int := 0
  /-- Ticks of the blend, and of the hold ramp (06 Table 6-4, R200). -/
  blendT : Nat := 0
  holdT : Nat := 0
  /-- Step of LEARN_TRAVEL or HOME, 0 for none; passes made (06 Table 6-5). -/
  learn : Nat := 0
  passes : Nat := 0
  /-- Sums and counts of the profile bins, 0 to 2 047 (06 R193). -/
  binS : Sparse Int := []
  binN : Sparse Nat := []
  /-- Profile points still to be streamed out (06 R194). -/
  outLeft : Nat := 0
  /-- Status word CAUSE: last cause and every cause present (06 Table 6-10). -/
  cause : Nat := 0
  causes : BitVec 16 := 0
  /-- A FAULT cause is set: compares are 0 until FAULT is entered; pours since it was set (06 R205). -/
  faulting : Bool := false
  faultT : Nat := 0
  /-- Start-up is complete (06 R177, Table 6-4). -/
  startDone : Bool := false
  /-- A reversal runs (06 R197). -/
  reversing : Bool := false
  /-- Raw measured position before the offset that HOME sets, its finer part for Hall and sensorless moulds, and the
  offset (06 R154, R190). -/
  raw : Int := 0
  posOfs : Int := 0
  /-- Time of the last Hall edge seen, in SYS cycles (06 R169). -/
  edgeT : Nat := 0
  /-- Rate discards counted (06 R170). -/
  rdisc : Nat := 0
  /-- Mould events MEV0 to MEV7 to raise at the end of this step; whether a result of the step saturated (02 R73) or an
  index was clamped (02 R59), and the Pour data words it read, in order (02 R60, R61). -/
  ev : BitVec 8 := 0
  sat : Bool := false
  clamped : Bool := false
  pdmUse : List Nat := []
  /-- The axis state in which the mould ran last, for the entries of Table 6-3. -/
  stLast : Nat := 0
  /-- Duties of this pour and of the two before it, U, V, W, in Q2.29 (06 R203). -/
  d0 : Three Int := ⟨0, 0, 0⟩
  d1 : Three Int := ⟨0, 0, 0⟩
  /-- The mode a HOLD job asks for (06 R200). -/
  holdReq : Nat := 0xFF
  /-- Number of the job step taken last (01 R23). -/
  stepNo : Nat := 0
  /-- The stops asked for under that number that it has acted on. -/
  stopSeen : Nat := 0
  /-- A motion that moves in the closing direction was completed at the closed end (06 R200). -/
  atClosed : Bool := false
  /-- The profiles have just been formed (06 R193); LEARN_TRAVEL must end ABORTED (06 R192). -/
  formed : Bool := false
  learnBad : Bool := false
  /-- The pair as it was before LEARN_TRAVEL (11 R357). -/
  savC : Int := 0
  savO : Int := 0
  /-- Phase of the sensorless start: 0 test pulses, 1 I/f, 2 blend, 3 over (06 Table 6-4), 4 over before a
  swap from SM-FOC-HALL (06 R592). -/
  slPh : Nat := 0
  /-- The pair and the profile the mould uses (06 R587, R194). -/
  posC : Int := 0
  posO : Int := 0
  /-- PROFOK: the mould holds a profile (06 R194). -/
  profok : Bool := false
  /-- A stop or reverse reaction is under way; reactions begun since the job step was taken, and whether the last stops. -/
  reacting : Bool := false
  reacts : Nat := 0
  repStop : Bool := false
  /-- Direction in which the axis moved when the reversal began; it began in the last pour (06 R197, R198). -/
  revDir : Int := 0
  revNew : Bool := false
  /-- Next block of the profile stream expected; one more than the number of the LEARN_TRAVEL step that formed the
  profile, 0 for none (06 R194). -/
  inGot : Nat := 0
  formRun : Nat := 0
  /-- The q current imposed in the last pour (06 Table 6-3). -/
  iqImp : Int := 0
  /-- The RUN entry of Table 6-3 takes the speed loop over from an imposed q current. -/
  handQ : Bool := false
  deriving DecidableEq, Repr

/-- The standard moulds' device-wide state: the safety edge (06 R199). -/
structure StdSt where
  /-- What the mould keeps of each axis. -/
  ax : Four Mot := ⟨{}, {}, {}, {}⟩
  /-- Axes whose step of the running pour is still to come (06 R158). -/
  todo : BitVec 4 := 0
  /-- What was loaded before XP: parameters, and job steps (05 R146, 06 R159). -/
  lat : Sparse Int := []
  latStep : Four JobStep := ⟨{}, {}, {}, {}⟩
  /-- Ticks since the last edge result; the last valid result in Q2.29, none before the first. -/
  edgeAge : Nat := 0
  edge : Option Int := none
  /-- The last edge result came without REFRDY (06 R199). -/
  edgeNoRef : Bool := false
  deriving DecidableEq, Repr

/-! ### SNS: converter, field inputs, positions -/

/-- The precision converter (10 R302 to R319). -/
structure Conv where
  /-- CONV.REF: REFSEL as written, the reference in force, a change that waits, REFRDY (10 Table 10-4, R314 to R316). -/
  refw : BitVec 2 := 0
  refsel : BitVec 2 := 0
  refNext : Option (BitVec 2) := none
  refrdy : Bool := false
  /-- CONV.INJ (10 Table 10-4). -/
  inj : Word := 0
  /-- CONV.STAT: ABORTS, PLSUSP (10 Table 10-5). -/
  aborts : BitVec 8 := 0
  plsusp : Bool := false
  /-- CONV.FLAG: OVR, INJLOST, REFCHK, REFRANGE (10 Table 10-5). -/
  flag : BitVec 4 := 0
  /-- ADRV, ADRT (10 R311). -/
  adrv : Word := 0
  adrt : Byte := 0
  /-- Loaded entries (10 Table 10-6). -/
  seqr : List (BitVec 16) := []
  seqi : List (BitVec 16) := []
  /-- The entry in progress: injected?, index; none when nothing runs. The regular entry due next. -/
  cur : Option (Bool × Nat) := none
  due : Nat := 0
  /-- REFRDY was 1 so far throughout the entry in progress. -/
  rdyAll : Bool := false
  /-- The code of the last AIN11 entry, where MON is to compare it (10 R320). -/
  ain11 : Option (BitVec 24) := none
  deriving DecidableEq, Repr

/-- One field input (10 R322 to R328). -/
structure FiIn where
  /-- FI.CFGk (10 Table 10-7). -/
  cfg : Word := 0x0914001E
  /-- FI.STKk (10 Table 10-7). -/
  stk : Word := 0
  /-- The configuration in force, and whether a written one waits for the next sample (10 R327). -/
  cfgF : Word := 0x0914001E
  stkF : Word := 0
  waits : Bool := false
  /-- Level last sampled (10 R323). -/
  raw : Bool := false
  /-- Filtered state (10 R323). -/
  filt : Bool := false
  /-- Consecutive samples at the other level (10 R323); raw changes in the running chatter window (10 R325); samples after
  a test pulse for which the filtered state still holds (10 R328). -/
  cnt : Nat := 0
  chg : Nat := 0
  hold : Nat := 0
  /-- Classified STUCK (10 R324). -/
  stuck : Bool := false
  /-- Classified CHATTER (10 R325). -/
  chatter : Bool := false
  /-- The test pulse substitutes this input now (10 R328). -/
  tpSub : Bool := false
  deriving DecidableEq, Repr

/-- The field inputs (10 Tables 10-7 to 10-9). -/
structure Fi where
  /-- FI0 to FI15. -/
  inp : Vector FiIn 16 := Vector.replicate 16 {}
  /-- FI.TP (10 Table 10-9). -/
  tp : Word := 0x000A0A00
  /-- FI.TPMASK. -/
  tpmask : BitVec 16 := 0
  /-- FI.FLAG.TPFAIL. -/
  tpfail : BitVec 16 := 0
  /-- FI.WAKE. -/
  wake : BitVec 2 := 0
  /-- The test pulse drives its GPIO low now (10 R328). -/
  pulse : Bool := false
  /-- Port words FISTATE and FICLASS (10 R326). -/
  state : Word := 0
  cls : Word := 0
  deriving DecidableEq, Repr

/-- The position inputs of one axis (10 R330 to R334). -/
structure Hall where
  /-- HALL.CFGn (10 Table 10-10). -/
  cfg : Word := 0x03E81900
  /-- Filtered code, last accepted code, time of the last valid edge, a deferred edge (10 R331). -/
  code : BitVec 3 := 0
  last : BitVec 3 := 0
  tLast : Nat := 0
  pend : Bool := false
  /-- Rate discard since the last latch (HALLn bit 4). -/
  rdisc : Bool := false
  /-- Quadrature count and Z latch (10 R332). -/
  enc : Word := 0
  encz : Word := 0
  /-- Latched port words HALLn, ENCn, ENCZn (10 R333). -/
  hall : Word := 0
  encL : Word := 0
  enczL : Word := 0
  deriving DecidableEq, Repr

/-! ### Temperature -/

/-- One sensor (17 Table 17-5). -/
structure Sensor where
  /-- TEMP, in 0.01 °C. -/
  temp : Int := 0
  /-- The last reading itself. -/
  raw : Int := 0
  /-- BROKEN (17 R477). -/
  broken : Bool := false
  /-- SUBST (17 R478). -/
  subst : Bool := false
  /-- Consecutive readings more than 15 °C from the neighbours' median (17 R477). -/
  devRun : Nat := 0
  deriving DecidableEq, Repr

/-- One judged class: DRV0 to DRV3, the CTL class, MON (17 R480 to R484). -/
structure ThClass where
  /-- Governing temperature (17 R480). -/
  gov : Int := 0
  /-- The warning stands (17 R481). -/
  warn : Bool := false
  /-- Throttle level (17 R481, R484). -/
  lvl : Nat := 0
  /-- RISE_FAST is active (17 R482, R483). -/
  rfast : Bool := false
  /-- RISE_SLOW is active (17 R482, R484). -/
  rslow : Bool := false
  /-- Readings since rate was last at or above half its limit (17 R482). -/
  fastLow : Nat := 0
  slowLow : Nat := 0
  /-- The last 68 governing readings, newest first, and the sums of the last 62 blocks, newest first. -/
  hist : List Int := []
  blocks : List Int := []
  /-- Sum and count of the running block (17 R482). -/
  blkSum : Int := 0
  blkN : Nat := 0
  deriving DecidableEq, Repr

/-- The thermal block (17). -/
structure Thermal where
  /-- TS00 to TS21 (17 Table 17-5). -/
  sens : Vector Sensor 22 := Vector.replicate 22 {}
  /-- The judged classes. -/
  cls : Vector ThClass 6 := Vector.replicate 6 {}
  /-- TH.FLAG.WARN, TH.CFG (17 Tables 17-6, 17-7). -/
  flag : BitVec 6 := 0
  cfg : Word := 0x141E
  /-- Throttle levels of the axes as last judged (17 R485). -/
  lv : Four Nat := ⟨0, 0, 0, 0⟩
  deriving DecidableEq, Repr

/-! ### MON, life cycle, power -/

/-- The monitor die (18). -/
structure Mon where
  /-- MON has booted (18 R500). -/
  up : Bool := false
  /-- Checks run: from the first tick marker after BOOT (18 R491, 20 R546). -/
  checks : Bool := false
  /-- Latched faults, Table 18-1 (retention cells, 20 R537). -/
  fault : BitVec 10 := 0
  /-- MISS since MON boot (18 Table 18-6). -/
  miss : Word := 0
  /-- The counters of MON.STAT (18 Table 18-6) and of the life-cycle and tick checks. -/
  sigrun : Nat := 0
  tickrun : Nat := 0
  plain : Nat := 0
  plvm : Nat := 0
  lcrun : Nat := 0
  /-- QUENCHn is pulled low from outside (18 R499). -/
  qext : Bool := false
  /-- CTL's quench request line (18 R498). -/
  req : Bool := false
  /-- MON asserts the quench lines for it (18 R498). -/
  reqQ : Bool := false
  /-- Missing acknowledges as CTL counts them (18 R501). -/
  ackMiss : Nat := 0
  /-- Tick markers modulo 65 536, last interval, TPER as MON holds it (18 R494, R503). -/
  marks : BitVec 16 := 0
  tmeas : BitVec 16 := 0
  tper : Nat := 10000
  /-- TPER of the interval that the next marker begins (18 R494). -/
  tperNext : Nat := 10000
  /-- The ratio of its clock to SYS as last measured: MON cycles for so many SYS cycles (17 R475). [DC 157] -/
  ratM : Nat := 800
  ratS : Nat := 10000
  /-- A tick marker has come since MON boot: the supply and temperature checks run (18 R491, 20 R546). -/
  begun : Bool := false
  /-- The interval in progress holds a sync acquisition; its marker is late and was counted (18 R494, Table 18-1). -/
  acq : Bool := false
  late : Bool := false
  /-- Values received from CTL: device state, heat, expected and actual signature (16 Table 16-2). -/
  dev : DevState := .boot
  heat : BitVec 64 := 0
  sigRx : Word := 0
  expRx : Word := 0
  /-- The crossings of device state, heat counter, signature with PSIGX, and VBUS mean (16 R459, Table 16-2). -/
  xDev : Cross DevState := {}
  xHeat : Cross (BitVec 64) := {}
  xSig : Cross (Word × Word) := {}
  xVb : Cross (Option (Int × Nat)) := {}
  /-- A signature has arrived and is not compared yet. -/
  sigNew : Bool := false
  /-- MON's own life-cycle copy, none when invalid (18 R496, 19 R513). -/
  lc : Option (BitVec 2) := none
  /-- CTL's sum and count of axis 0's VBUS means of this heat, the pair of the last heat as CTL holds it for the crossing,
  and as MON has it, until it is compared (10 R321, 16 R459). -/
  vbSum : Int := 0
  vbN : Nat := 0
  vbOut : Option (Int × Nat) := none
  vbLast : Option (Int × Nat) := none
  /-- Log, oldest first, at most 64, and the entries written since MON was powered (18 R503). -/
  log : List MonLog := []
  logN : Nat := 0
  /-- Temperature gates of 1.024 ms since MON boot, from which MS is taken (log entry 31). -/
  gates : Nat := 0
  /-- MON's temperatures: TS03, TS07, TS11, TS15, TS20, TS21, and missing gates (18, 17 R479). -/
  ts : Vector Sensor 6 := Vector.replicate 6 {}
  /-- Consecutive gates without the privileged reading of each drive die (17 R479). -/
  missG : Four Nat := ⟨0, 0, 0, 0⟩
  /-- Bytes of the last Witness response (18 R504). -/
  wout : List Byte := []
  deriving DecidableEq, Repr

/-- Life cycle, keys, loopback register (19). -/
structure Lc where
  /-- The state in force: 0 MFG, 1 PROV, 2 FIELD, 3 RMA. [DC 5] -/
  st : BitVec 2 := 1
  /-- The two NVM copies, none when invalid (19 R512). [DC 5] -/
  ctl : Option (BitVec 2) := some 1
  mem : Option (BitVec 2) := some 1
  /-- The debug port is open; it is decided at boot step 6 (20 Table 20-4). -/
  dbg : Bool := false
  /-- Mould key, RMA key (19 R516). -/
  mkey : Option (List Byte) := none
  rkey : Option (List Byte) := none
  /-- The nonce in force (19 R519). -/
  nonce : Option (List Byte) := none
  /-- Nonces drawn so far: the counter the free value is drawn with. [DC 10] -/
  nonceN : Nat := 0
  /-- Programmings cut so far: the counter a free value is drawn with. [DC 10] -/
  cutN : Nat := 0
  /-- RMAFAILS (19 R520). -/
  fails : BitVec 2 := 0
  /-- RMA is being programmed and the wipe runs (19 R521). -/
  rma : Bool := false
  /-- The wipe-pending flag (19 R521). -/
  wipe : Bool := false
  /-- TEST.LB (19 Table 19-7). -/
  lb : Word := 0
  deriving DecidableEq, Repr

/-- Supplies, reset, clocks (16, 20). -/
structure Power where
  /-- How far the boot has come (20 Table 20-4). -/
  phase : BootPhase := .rom
  /-- VDD stands above the POR threshold. -/
  vdd : Bool := true
  /-- The thermal latch (retention cell, 20 R537). -/
  therm : Bool := false
  /-- DSTAT.RSTC (20 Table 20-8). -/
  latchb : Bool := false
  retain : Bool := false
  fwb : Bool := false
  wake : BitVec 4 := 0
  cause : BitVec 3 := 0
  /-- A fault latched before this boot began, for LATCHB (20 R542). -/
  kept : Bool := false
  /-- DSTAT.PWR (20 Table 20-9). -/
  axpwr : BitVec 4 := 0
  /-- RESETn is low (20 R545). -/
  rstLow : Bool := false
  /-- VGD stands, as DRV0's comparator last saw it; a device reset does not change it (R531). -/
  vgd : Bool := false
  /-- DSTAT.PWR: VGDREG, and the V5 limiter (20 Table 20-9). -/
  vgdreg : Bool := false
  v5oc : Bool := false
  /-- V5EN in force (20 R531). -/
  v5en : Bool := false
  /-- DSTAT.CLK (16 Table 16-5). -/
  reflost : Bool := false
  snslock : Bool := false
  plllock : Bool := false
  xtalok : Bool := false
  refsrc : Bool := false
  deriving DecidableEq, Repr

/-- Device-wide sync (07 R234, Table 7-9). -/
structure SyncSt where
  /-- PWMG.SYNC (07 Table 7-9). -/
  cfg : Word := 0x400
  /-- PWMG.SYNCST fields MISS, LOST, LOCK (07 Table 7-9). -/
  miss : BitVec 8 := 0
  lost : Bool := false
  lock : Bool := false
  /-- Acquisition is armed (07 R234). -/
  armed : Bool := false
  /-- Length in cy of the pulse that GPIO1 gives from cy 0 of this tick, 0 for none (07 R234). -/
  pulse : Nat := 0
  deriving DecidableEq, Repr

/-- The whole device, and the queue of the commands that wait. -/
structure State where
  /-- Commands waiting, first in, first out. -/
  pending : List Instr := []
  /-- DSTAT.STATE (01 Table 1-9). -/
  dev : DevState := .boot
  safecause : BitVec 4 := 0
  /-- The tick generator (01 R15). -/
  tick : Tick := {}
  /-- The exchange buffers (01 R23). -/
  exch : Exch := {}
  /-- The Pour engine (02). -/
  pour : Pour := {}
  /-- Mould images (04). -/
  moulds : Moulds := {}
  /-- MGMT (11). -/
  mgmt : Mgmt := {}
  /-- The journal (12). -/
  jrn : Journal := {}
  /-- The Sprue port (13). -/
  spr : Sprue := {}
  /-- The Runner port (14). -/
  run : Runner := {}
  /-- The event matrix (15 R449). -/
  evm : Evm := {}
  /-- The locks (15 R437). -/
  locks : Locks := {}
  /-- The mailboxes (15 R441). -/
  mail : Mail := {}
  /-- The axes (01 R36). -/
  ax : Four Axis := ⟨{}, {}, {}, {}⟩
  /-- The standard moulds' own state (06). -/
  std : StdSt := {}
  /-- The precision converter (10). -/
  conv : Conv := {}
  /-- The field inputs (10 R322). -/
  fi : Fi := {}
  /-- The position inputs (10 R330). -/
  hall : Four Hall := ⟨{}, {}, {}, {}⟩
  /-- HALL.FLAG (10 Table 10-10). -/
  hallFlag : BitVec 12 := 0
  /-- The thermal block (17). -/
  th : Thermal := {}
  /-- The monitor die (18). -/
  mon : Mon := {}
  /-- Life cycle and keys (19). -/
  lc : Lc := {}
  /-- Supplies, reset, clocks (16, 20). -/
  pwr : Power := {}
  /-- Device-wide sync (07 R234). -/
  sync : SyncSt := {}
  /-- Group latches: word latched for (master, address), 0 when never latched (15 R436). -/
  latch : Sparse Word := []
  /-- The word the last register read returned. -/
  rdata : Word := 0
  deriving DecidableEq, Repr

/-- The device right after its first power-on reset: BOOT, nothing verified yet (20 Table 20-4, step 4). -/
def State.reset : State := {}

end Sys2Proof.Machine
end

