-- ==== Sys2Proof/Machine/Bits.lean ====
section
/-! DEFINITION. Bit fields, bytes and saturating counters: the helpers every register and packet is read with. -/

namespace Sys2Proof.Machine

/-- What a command answers. -/
abbrev Res := Host.Outcome State Fault Refusal

/-- Bits hi:lo of a word as a number (00 R7). -/
def fld (w : Word) (hi lo : Nat) : Nat := (w.toNat >>> lo) % 2 ^ (hi - lo + 1)

/-- A number placed at bit `lo` of a word. -/
def at_ (lo n : Nat) : Word := BitVec.ofNat 32 (n <<< lo)

/-- A Boolean as bit `k` of a word. -/
def flag (k : Nat) (b : Bool) : Word := if b then at_ k 1 else 0

/-- The word whose bit k is set when `m` has bit k and `b`: masked replacement of fields on a write (00 R8). -/
def mergeW (mask old new : Word) : Word := (old &&& ~~~mask) ||| (new &&& mask)

/-- Two's-complement reading of the low `n` bits of a number. -/
def sx (n v : Nat) : Int := if v % 2 ^ n < 2 ^ (n - 1) then (v % 2 ^ n : Nat) else (v % 2 ^ n : Nat) - (2 ^ n : Nat)

/-- A signed number in 16 bits. -/
def s16 (x : Int) : BitVec 16 := BitVec.ofInt 16 x

/-- Little-endian bytes of a number (00 R13). -/
def leBytes : Nat → Nat → List Byte
  | 0, _ => []
  | n + 1, v => BitVec.ofNat 8 v :: leBytes n (v / 256)

/-- The number little-endian bytes stand for (00 R13). -/
def leNat : List Byte → Nat
  | [] => 0
  | b :: t => b.toNat + 256 * leNat t

/-- `n` bytes of a list from offset `o`, and the number they stand for. -/
def sliceB (l : List Byte) (o n : Nat) : List Byte := (l.drop o).take n
def leAt (l : List Byte) (o n : Nat) : Nat := leNat (sliceB l o n)

/-- Bytes padded with 0x00 to a length. -/
def padTo (n : Nat) (l : List Byte) : List Byte := (l ++ List.replicate n 0).take n

/-- Counters that stop at their largest value. -/
def sat8 (b : BitVec 8) : BitVec 8 := if b = 255 then 255 else b + 1
def sat16 (b : BitVec 16) : BitVec 16 := if b = 65535 then 65535 else b + 1
def sat32 (b : Word) : Word := if b = 0xFFFFFFFF then 0xFFFFFFFF else b + 1

/-- Bit `k` of a mask as a set with one member. -/
def bitB (w k : Nat) : BitVec w := BitVec.ofNat w (2 ^ k)

/-- Put bit `k` of a mask to `b`. -/
def putBit {w : Nat} (m : BitVec w) (k : Nat) (b : Bool) : BitVec w :=
  if b then m ||| bitB w k else m &&& ~~~(bitB w k)

/-- One word of the event set: events 32 k to 32 k + 31 (15 Table 15-7). -/
def evWord (e : EvSet) (k : Nat) : Word := e.extractLsb' (32 * k) 32

/-- Replace word `k` of an event set. -/
def setEvWord (e : EvSet) (k : Nat) (w : Word) : EvSet :=
  (e &&& ~~~((0xFFFFFFFF : EvSet) <<< (32 * k))) ||| (w.setWidth 256 <<< (32 * k))

/-- The axes in order. -/
def axes : List (Fin 4) := [0, 1, 2, 3]

end Sys2Proof.Machine
end

