-- ==== Sys2Proof/Machine/Crc.lean ====
section
/-! DEFINITION. CRC-32C as 13 R398 gives it, bit by bit. -/

namespace Sys2Proof.Machine

/-- One bit of R398. -/
def crcBit (c : Word) : Word := if c.getLsbD 0 then (c >>> 1) ^^^ 0x82F63B78 else c >>> 1

/-- One byte of R398. -/
def crcByte (c : Word) (b : Byte) : Word :=
  let x := c ^^^ b.setWidth 32
  crcBit (crcBit (crcBit (crcBit (crcBit (crcBit (crcBit (crcBit x)))))))

/-- A register that has taken bytes, before the final XOR. -/
def crcRun (c : Word) (l : List Byte) : Word := l.foldl crcByte c

/-- R398: the CRC-32C of a byte string. -/
def crc32c (l : List Byte) : Word := crcRun 0xFFFFFFFF l ^^^ 0xFFFFFFFF

end Sys2Proof.Machine
end

