-- ==== Sys2Proof/Config.lean ====
section
/-! DEFINITION. What the implementation or the factory fixes and the spec does not state, each an opaque constant
without a body: no proof can use a value of it (log entries 9 to 12). -/

namespace Sys2Proof

namespace Config

/-- N25 and N125 of sensor k (17 R476): factory trims. -/
opaque n25 : Nat → Int
opaque n125 : Nat → Int

/-- SERIAL as GET_ID returns it, 8 bytes (11 Table 11-8): byte i. -/
opaque serial : Nat → Byte

/-- FWVER of firmware image A (false) or B (true) (11 Table 11-8). -/
opaque fwver : Bool → Word

/-- The word a register of the Identification block reads as: the spec gives its base and no layout (13 Table 13-7). -/
opaque identWord : Nat → Word

/-- The word of the Identification block, and its byte, in which the silicon step stands (00 R2: the spec gives no place). -/
opaque stepWord : Fin 64
opaque stepByte : Fin 4

/-- Distance of an XU2 result from the computed base value, inside the bounds of 03 Table 3-6. -/
opaque sinErr : Word → Fin 9
opaque cosErr : Word → Fin 9
opaque atan2Err : Word → Word → Fin 513
opaque sqrtErr : Word → Fin 3
opaque recipErr : Word → Fin 3
opaque magErr : Word → Word → Fin 5

/-- The vendor public key in the CTL boot ROM (19 R516). -/
opaque vendorKey : List Byte

/-- LC of the Witness STATUS while MON's own copy is invalid: the spec states no code (18 Table 18-3). -/
opaque monNoLc : Byte

/-- The n-th nonce of the CTL random source, byte i (19 R519). -/
opaque nonce : Nat → Nat → Byte

/-- How far the n-th programming of life-cycle copies or of a key had come when a reset or a power loss cut it (19 R512,
R516, R521): 0 nothing, 1 its first record torn, 2 the first complete, 3 the second torn, 4 both, 5 all, with the wipe-pending
flag of a transition to RMA. -/
opaque nvmCut : Nat → Fin 6

/-- Header and reserved word of a tick frame (16 Table 16-3: the spec gives no value). -/
opaque linkHeader : Word
opaque linkSpare : Word

/-- Header of a sense frame (false) and of a status frame (true), the word of a status frame that reports VCORE in mV and the bad
tick frames, and the word of a register message (16 Table 16-3: the spec gives their sizes only). -/
opaque upHeader : Bool → Word
opaque statusWord : Int → Bool → Nat → Word
opaque regWord : Nat → Word → Bool → Word

/-- Byte i of the n-th torn record as it reads back (12 R381): its contents are not stated. -/
opaque tornByte : Nat → Nat → Byte

/-- What the spec does not state of vendor standard mould c (04 R132): PSIGX, MOULDID, MOULDVER, image length, OPS
on XU4 per pour, and the sync offsets it declares. -/
opaque stdPsigx : Nat → Word
opaque stdMouldId : Nat → Word
opaque stdMouldVer : Nat → Word
opaque stdLen : Nat → Nat
opaque stdXu4Ops : Nat → Nat
opaque stdOfs : Nat → Nat → Nat

/-- A pour of the standard mould with MOULDID id that the fetch of CODE word w cut (02 R62): the axes whose step came before,
and the difference of its signature from the expected one, less 1. -/
opaque stdCut : Word → Nat → BitVec 4 × Fin 4294967295

/-- Where standard mould k keeps the exchange word of a parameter ID, counted from the start of its half (06 R206:
the spec gives no XOFS). -/
opaque stdXofs : Nat → Nat → Fin 2048

/-- Which of its two neighbours an inexact value inside the standard moulds is stored as: the spec does not fix the
low bits (06 R158). Arguments: numerator and denominator of the exact value. -/
opaque stdErr : Int → Nat → Fin 2

/-- The n-th frame that times out, which its row does not name (13 R414): the levels of its cycles up to the timeout, and
whether its first data word was ready. -/
opaque lateLevels : Nat → List Byte
opaque lateReady : Nat → Bool

/-- Levels of the idle Runner port that the spec does not give: RCK where CPOL of the device codes differ, and RIO3 to RIO0 (14
R420; 21 Table 21-2). -/
opaque idleRck : Bool
opaque idleRio : BitVec 4

/-- PATTERN of the gate-drive self-test item of axis n (19 Table 19-5 gives none). -/
opaque selfPattern : Nat → Word

/-- The stage-1 samples (smallest, largest, snapshot) of a period in which channel c of axis n is fed a bit-stream of density
d / 256 (19 Table 19-4: only its mean is fixed). -/
opaque loopSample : Nat → Nat → Byte → Fin 3 → Int

/-- The levels of lanes that nothing drives, by cycle of a frame (13 R396). -/
opaque idleLanes : Nat → Byte

/-- The factory trim of sense channel c of axis n, on a stage-1 output (09 R290: not visible to software). -/
opaque senseTrim : Nat → Nat → Int → Int

/-- With the test source on phase p of axis n (09 R297): the distance of the mean from ±0.5 of full scale, in 24-bit steps
inside the bounds of 09 Table 9-3, and the stage-1 samples of the period (smallest, largest, snapshot). -/
opaque injErr : Nat → Nat → Fin 47185
opaque injSample : Nat → Nat → Fin 3 → Fin 131072

/-- What a custom mould reports of axis n in its outbound words (01 Table 1-8: the spec gives no words for it), by MOULDID
and the outbound half: 0 nothing, 1 start-up complete, 2 the motion is at its end, 3 an axis fault, 4 a stop reaction. -/
opaque customReport : Word → List (Nat × Byte) → Nat → Fin 5

end Config

end Sys2Proof
end

