-- ==== Sys2Proof/Machine/Fixed.lean ====
section
/-! DEFINITION. Pour arithmetic: saturation, rounding and moves (02 R70 to R76, 03 R92), and the base values of the
XU2 results, computed in integers well beyond the result format and rounded; the distance from them inside the bounds
of 03 Table 3-6 is a constant of Config (log entry 9). -/

namespace Sys2Proof.Machine

/-! ### Saturation and rounding -/

/-- Limit to [lo, hi] and say whether that changed the value (R73). -/
def satTo (lo hi x : Int) : Int × Bool := if x < lo then (lo, true) else if hi < x then (hi, true) else (x, false)

/-- Saturation to a signed 32-bit word. -/
def satW (x : Int) : Word × Bool :=
  let r := satTo (-(2 ^ 31)) (2 ^ 31 - 1) x
  (BitVec.ofInt 32 r.1, r.2)

/-- Saturation to Q8.56 (R74). -/
def satA (x : Int) : BitVec 64 × Bool :=
  let r := satTo (-(2 ^ 63)) (2 ^ 63 - 1) x
  (BitVec.ofInt 64 r.1, r.2)

/-- Shift right by `s`: floor when `rm` is 1, otherwise half to even (R75). -/
def roundShift (x : Int) (s : Nat) (rm : Bool) : Int :=
  let d : Int := 2 ^ s
  let q := x / d
  let r := x % d
  if rm then q
  else if s = 0 then q
  else if d < 2 * r ∨ (2 * r = d ∧ q % 2 = 1) then q + 1 else q

/-- R75: an accumulator moved to a V register, dropping `s` bits. -/
def moveAcc (a : BitVec 64) (s : Nat) (rm : Bool) : Word × Bool := satW (roundShift a.toInt s rm)

/-- R92: the product aligned to Q8.56 by mode SC: 0 exact, 1 shifted right 2 and rounded, 2 shifted left 2 and
saturated. Mode 3 is reserved and never reaches this. -/
def product (a b : Word) (sc : BitVec 2) (rm : Bool) : Int × Bool :=
  let p := a.toInt * b.toInt
  match sc.toNat with
  | 0 => (p, false)
  | 1 => (roundShift p 2 rm, false)
  | _ => satTo (-(2 ^ 63)) (2 ^ 63 - 1) (4 * p)

/-- Limit to a pair, hit when outside; an inverted pair gives its lower limit and a hit for every input (03 R94). -/
def clampPair (lo hi x : Word) : Word × Bool :=
  if hi.toInt < lo.toInt then (lo, true)
  else if x.toInt < lo.toInt then (lo, true)
  else if hi.toInt < x.toInt then (hi, true)
  else (x, false)

/-! ### Elementary functions in integers -/

/-- Square root rounded down, by binary digits from bit `n` downwards. -/
def isqrtFrom (x : Nat) : Nat → Nat → Nat
  | 0, r => if (r + 1) * (r + 1) ≤ x then r + 1 else r
  | n + 1, r =>
    let t := r + 2 ^ (n + 1)
    isqrtFrom x n (if t * t ≤ x then t else r)

/-- Square root rounded down, for arguments below 2^192. -/
def isqrt (x : Nat) : Nat := isqrtFrom x 96 0

/-- Square root rounded to the nearest integer. -/
def rsqrt (x : Nat) : Nat :=
  let r := isqrt x
  if r * r + r < x then r + 1 else r

/-- Quotient rounded to the nearest integer, ties to even; the divisor is above 0 (R75's rounding on a quotient). -/
def rdivEven (q d : Int) : Int :=
  let f := q / d
  let r := q % d
  if d < 2 * r ∨ (2 * r = d ∧ f % 2 = 1) then f + 1 else f

/-- Saturation to 24 bits signed (09 R283, 10 R302). -/
def sat24 (x : Int) : Int := (satTo (-(2 ^ 23)) (2 ^ 23 - 1) x).1

/-- Numerator over denominator, rounded to the nearest integer. -/
def rdiv (n d : Int) : Int := (2 * n + d) / (2 * d)

/-- One fixed-point unit of the elementary functions. -/
def one60 : Int := 2 ^ 60

/-- 2 pi in units of 2^-60. -/
def twoPi60 : Int := 7244019458077122842

/-- Sum of the alternating series with terms t, t x2 / (k (k+1)), … in units of 2^-60. -/
def altSeries (x2 : Int) : Nat → Nat → Int → Int
  | 0, _, _ => 0
  | f + 1, k, t => t - altSeries x2 f (k + 2) (t * x2 / one60 / ((k * (k + 1) : Nat) : Int))

/-- Sine and cosine of an angle in the first quarter turn (0 ≤ r ≤ 2^30), in units of 2^-60. -/
def sinQ (r : Nat) : Int :=
  let x := (r : Int) * twoPi60 / 2 ^ 32
  altSeries (x * x / one60) 16 2 x

def cosQ (r : Nat) : Int :=
  let x := (r : Int) * twoPi60 / 2 ^ 32
  altSeries (x * x / one60) 16 1 one60

/-- Sine of an ANGLE in units of 2^-60. -/
def sin60 (a : Word) : Int :=
  let q := a.toNat / 2 ^ 30
  let r := a.toNat % 2 ^ 30
  match q with
  | 0 => sinQ r
  | 1 => cosQ r
  | 2 => - sinQ r
  | _ => - cosQ r

/-- Sine and cosine of an ANGLE rounded to Q2.29. -/
def sinBase (a : Word) : Int := rdiv (sin60 a) (2 ^ 31)
def cosBase (a : Word) : Int := rdiv (sin60 (a + 0x40000000)) (2 ^ 31)

/-- Arctangent series t - t^3/3 + … in units of 2^-60. -/
def atanSeries (t2 : Int) : Nat → Nat → Int → Int
  | 0, _, _ => 0
  | f + 1, k, p => p / ((k : Nat) : Int) - atanSeries t2 f (k + 2) (p * t2 / one60)

/-- t / (1 + √(1 + t²)): half of the angle, in units of 2^-60. -/
def halfTan (t : Int) : Int :=
  t * one60 / (one60 + (isqrt ((one60 * one60 + t * t).toNat) : Nat))

/-- Arctangent of t in [0, 1], in units of 2^-60. -/
def atan60 (t : Int) : Int :=
  let u := halfTan (halfTan t)
  4 * atanSeries (u * u / one60) 24 1 u

/-- Arctangent of y/x for x > 0 or y > 0, both not negative, in units of 2^-32 / `twoPi60` of a turn. -/
def atanQ (y x : Int) : Int :=
  if y ≤ x then atan60 (y * one60 / x) * 2 ^ 32 else 2 ^ 30 * twoPi60 - atan60 (x * one60 / y) * 2 ^ 32

/-- atan2 of signed (y, x), not both 0, in units of 2^-32 / `twoPi60` of a turn, before wrapping. -/
def atan2Num (y x : Int) : Int :=
  if 0 ≤ x then (if 0 ≤ y then atanQ y x else - atanQ (-y) x)
  else (if 0 ≤ y then 2 ^ 31 * twoPi60 - atanQ y (-x) else 2 ^ 31 * twoPi60 + atanQ (-y) (-x))

/-- atan2 rounded to an ANGLE, before wrapping. -/
def atan2Base (y x : Int) : Int := rdiv (atan2Num y x) twoPi60

/-! ### Results of XU2 (R76, R95) -/

/-- A result near an exact value: its rounded base `b`, moved by the free distance `e` where the moved value still lies
within the bound of Table 3-6, which `ok` says. -/
def nearInt (ok : Int → Bool) (b e : Int) : Int := if ok (b + e) then b + e else b

/-- `k` lies within `n` steps of the exact value x / d; `g` allows for the error of x itself. -/
def within (n : Nat) (g : Int) (x d : Int) (k : Int) : Bool := decide (((k * d - x).natAbs : Int) + g ≤ n * d)

/-- `k` lies within `n` steps of √x. -/
def withinRoot (n : Nat) (x : Nat) (k : Int) : Bool :=
  (decide (k ≤ n) || decide ((k - n) * (k - n) ≤ x)) && decide (0 ≤ k + n) && decide ((x : Int) ≤ (k + n) * (k + n))

/-- A word in Q2.29. -/
def toQ29 (x : Int) : Word := (satW x).1

def xuSin (a : Word) : Word :=
  toQ29 (nearInt (within 4 256 (sin60 a) (2 ^ 31)) (sinBase a) ((Config.sinErr a).val - 4))
def xuCos (a : Word) : Word :=
  toQ29 (nearInt (within 4 256 (sin60 (a + 0x40000000)) (2 ^ 31)) (cosBase a) ((Config.cosErr a).val - 4))

/-- ATAN2 of y and x; (0, 0) gives 0 and SAT. -/
def xuAtan2 (y x : Word) : Word × Bool :=
  if y = 0 ∧ x = 0 then (0, true)
  else
    let n := atan2Num y.toInt x.toInt
    (BitVec.ofInt 32 (nearInt (within 256 (2 ^ 42) n twoPi60) (rdiv n twoPi60) ((Config.atan2Err y x).val - 256)), false)

/-- SQRT; a negative operand gives 0 and SAT. -/
def xuSqrt (a : Word) : Word × Bool :=
  if a.toInt < 0 then (0, true)
  else
    let x := a.toNat * 2 ^ 29
    (toQ29 (nearInt (withinRoot 1 x) (rsqrt x) ((Config.sqrtErr a).val - 1)), false)

/-- RECIP; 0 gives the positive extreme, and a magnitude above the format saturates, both with SAT. -/
def xuRecip (a : Word) : Word × Bool :=
  if a = 0 then (0x7FFFFFFF, true)
  else
    let d := a.toInt
    let n : Int := if 0 < d then 2 ^ 58 else -(2 ^ 58)
    let m : Int := if 0 < d then d else -d
    if (2 ^ 31 - 1) * m < n then (0x7FFFFFFF, true)
    else if n < -(2 ^ 31) * m then (0x80000000, true)
    else (toQ29 (nearInt (within 1 0 n m) (rdiv n m) ((Config.recipErr a).val - 1)), false)

/-- MAG; above 4 - 2^-29 it saturates with SAT. -/
def xuMag (a b : Word) : Word × Bool :=
  let q := a.toInt.natAbs * a.toInt.natAbs + b.toInt.natAbs * b.toInt.natAbs
  if (2 ^ 31 - 1) * (2 ^ 31 - 1) < q then (0x7FFFFFFF, true)
  else (toQ29 (nearInt (withinRoot 2 q) (rsqrt q) ((Config.magErr a b).val - 2)), false)

end Sys2Proof.Machine
end

