-- ==== Sys2Proof/Machine/Comp.lean ====
section
/-! DEFINITION. The compensators of the standard moulds, exact to the bit (05 R133 to R142), their state presets (05
R149 to R151) and the rounding of values whose low bits the spec does not fix. Words are integers: Q2.29 signals and
limits, Q4.27 coefficients, Q8.56 accumulators. -/

namespace Sys2Proof.Machine

/-- Saturation to Q2.29 and to Q8.56, as integers, and whether it changed the value (02 R73). -/
def sat32f (x : Int) : Int × Bool := satTo (-(2 ^ 31)) (2 ^ 31 - 1) x
def sat64f (x : Int) : Int × Bool := satTo (-(2 ^ 63)) (2 ^ 63 - 1) x

/-- `move(acc, 27, RM = 0)`: half to even, saturating to 32 bits (02 R75, 05 R135). -/
def move27 (acc : Int) : Int × Bool := sat32f (roundShift acc 27 false)

/-- Limit to [lo, hi]; an inverted pair gives lo (03 R94, 05 R140). -/
def clampI (lo hi x : Int) : Int := if hi < lo then lo else if x < lo then lo else if hi < x then hi else x

/-- Coefficients of the shaping filter (05 R133). -/
structure Coef where
  b0 : Int
  b1 : Int := 0
  b2 : Int := 0
  a1 : Int := 0
  a2 : Int := 0
  deriving DecidableEq, Repr

/-- One accumulator addition. -/
def accAdd (a : Int × Bool) (x : Int) : Int × Bool := ((sat64f (a.1 + x)).1, a.2 || (sat64f (a.1 + x)).2)

/-- The sum of R134, in its order, saturating after each addition but the first product. -/
def coefSum (c : Coef) (e e1 e2 x1 x2 : Int) : Int × Bool :=
  accAdd (accAdd (accAdd (accAdd (c.b0 * e, false) (c.b1 * e1)) (c.b2 * e2)) (-(c.a1 * x1))) (-(c.a2 * x2))

/-- What a step gives: the output, the new state, and whether a result saturated (02 R73). The clamp of the output sets
no SAT (03 Table 3-5, MOVAC). -/
structure CompOut where
  u : Int
  k : Comp
  sat : Bool
  deriving DecidableEq, Repr

/-- One 2P2Z step (R134, R136). -/
def step2p2z (c : Coef) (umin umax r y : Int) (k : Comp) : CompOut :=
  let e := sat32f (r - y)
  let acc := coefSum c e.1 k.e1 k.e2 k.x1 k.x2
  let p := move27 acc.1
  let u := clampI umin umax p.1
  { u, k := { k with e1 := e.1, e2 := k.e1, x1 := u, x2 := k.x1 }, sat := e.2 || acc.2 || p.2 }

/-- The new integrator of R137, Table 5-1. -/
def newIntegrator (umin umax uraw it i : Int) (unwind : Bool) : Int :=
  let sat := decide (uraw < umin) || decide (umax < uraw) || decide (umax < umin)
  if !sat then it
  else if unwind && decide (umax < uraw) then Min.min it i
  else if unwind then Max.max it i
  else i

/-- One 3P3Z-I step (R137). -/
def step3p3z (c : Coef) (ki imin imax umin umax : Int) (unwind : Bool) (r y : Int) (k : Comp) : CompOut :=
  let e := sat32f (r - y)
  let ia := sat64f (k.i * 2 ^ 27 + ki * e.1)
  let im := move27 ia.1
  let it := clampI imin imax im.1
  let acc := coefSum c e.1 k.e1 k.e2 k.x1 k.x2
  let p := move27 acc.1
  let uraw := sat32f (it + p.1)
  { u := clampI umin umax uraw.1
    k := { e1 := e.1, e2 := k.e1, x1 := p.1, x2 := k.x1, i := newIntegrator umin umax uraw.1 it k.i unwind }
    sat := e.2 || ia.2 || im.2 || acc.2 || p.2 || uraw.2 }

/-- The state at a handover with last output u0 (Table 5-3). -/
def handover3 (imin imax u0 : Int) : Comp := { i := clampI imin imax u0 }
def handover2 (umin umax u0 : Int) : Comp := { x1 := clampI umin umax u0, x2 := clampI umin umax u0 }

/-- An inexact value of a standard mould, stored as one of its two neighbours (log entry 12). -/
def stdRound (n : Int) (d : Nat) : Int :=
  if n % (d : Int) = 0 then n / (d : Int) else n / (d : Int) + (Config.stdErr n d).val

/-- Sign of an integer. -/
def sgn (x : Int) : Int := if 0 < x then 1 else if x < 0 then -1 else 0

/-- Nearest integer of a fraction, ties to even. -/
def nearEven (n : Int) (d : Nat) : Int :=
  let q := n / (d : Int)
  let r := n % (d : Int)
  if (d : Int) < 2 * r ∨ (2 * r = (d : Int) ∧ q % 2 = 1) then q + 1 else q

end Sys2Proof.Machine
end

