-- ==== Sys2Proof/Machine/Ops.lean ====
section
/-! DEFINITION. The shared operations: sparse tables and byte buffers in canonical form, the four axes, replies, events
and their routing (15 R449 to R453), the entry to SAFE (01 Table 1-6), the cancelling of an activation (04 R130) and
the requests for axis state changes (01 R36, R39). -/

namespace Sys2Proof.Machine

/-! ### Sparse tables and byte buffers -/

/-- The value at a key; `d` where none is listed. -/
def Sparse.get {α : Type} (d : α) (k : Nat) : Sparse α → α
  | [] => d
  | (j, v) :: t => if j = k then v else if k < j then d else Sparse.get d k t

/-- Set a key; the entry goes when the value is the one an unlisted key has. -/
def Sparse.put {α : Type} [DecidableEq α] (d : α) (k : Nat) (x : α) : Sparse α → Sparse α
  | [] => if x = d then [] else [(k, x)]
  | (j, v) :: t =>
    if k < j then (if x = d then (j, v) :: t else (k, x) :: (j, v) :: t)
    else if k = j then (if x = d then t else (k, x) :: t)
    else (j, v) :: Sparse.put d k x t

/-- Keys strictly rising from `lo` on, no entry equal to the unlisted value. -/
def Sparse.wfFrom {α : Type} [DecidableEq α] (d : α) : Nat → Sparse α → Bool
  | _, [] => true
  | lo, (j, v) :: t => decide (lo ≤ j) && decide (v ≠ d) && Sparse.wfFrom d (j + 1) t

/-- The canonical form of a sparse table. -/
def Sparse.wf {α : Type} [DecidableEq α] (d : α) (m : Sparse α) : Bool := Sparse.wfFrom d 0 m

/-- What a byte that nothing has written reads as (01 R589 for the exchange buffers; elsewhere log entry 3). -/
def emptyByte : Byte := 0

/-- One byte of a buffer. -/
def Mem.get (m : Mem) (a : Nat) : Byte := Sparse.get emptyByte a m

/-- Write one byte of a buffer. -/
def Mem.put (m : Mem) (a : Nat) (b : Byte) : Mem := Sparse.put emptyByte a b m

/-- A buffer's canonical form. -/
def Mem.wf (m : Mem) : Bool := Sparse.wf emptyByte m

/-- Write bytes upwards from an address. -/
def Mem.putBytes (m : Mem) (a : Nat) : List Byte → Mem
  | [] => m
  | b :: t => Mem.putBytes (Mem.put m a b) (a + 1) t

/-- Read `n` bytes upwards from an address. -/
def Mem.getBytes (m : Mem) (a : Nat) : Nat → List Byte
  | 0 => []
  | n + 1 => Mem.get m a :: Mem.getBytes m (a + 1) n

/-- The little-endian word at byte address `a` (00 R13). -/
def Mem.word (m : Mem) (a : Nat) : Word :=
  Mem.get m (a + 3) ++ Mem.get m (a + 2) ++ Mem.get m (a + 1) ++ Mem.get m a

/-- Write a little-endian word at byte address `a` (00 R13). -/
def Mem.putWord (m : Mem) (a : Nat) (w : Word) : Mem :=
  Mem.put (Mem.put (Mem.put (Mem.put m a (w.extractLsb' 0 8)) (a + 1) (w.extractLsb' 8 8))
    (a + 2) (w.extractLsb' 16 8)) (a + 3) (w.extractLsb' 24 8)

/-! ### Four axes, three phases -/

def Four.get {α : Type} (f : Four α) : Fin 4 → α
  | 0 => f.a0
  | 1 => f.a1
  | 2 => f.a2
  | 3 => f.a3

def Four.set {α : Type} (f : Four α) (n : Fin 4) (x : α) : Four α :=
  match n with
  | 0 => { f with a0 := x }
  | 1 => { f with a1 := x }
  | 2 => { f with a2 := x }
  | 3 => { f with a3 := x }

def Four.map {α β : Type} (g : α → β) (f : Four α) : Four β := ⟨g f.a0, g f.a1, g f.a2, g f.a3⟩

def Three.get {α : Type} (f : Three α) : Phase → α
  | .u => f.u
  | .v => f.v
  | .w => f.w

def Three.set {α : Type} (f : Three α) (p : Phase) (x : α) : Three α :=
  match p with
  | .u => { f with u := x }
  | .v => { f with v := x }
  | .w => { f with w := x }

/-- Position of a phase in the three-bit fields: U, V, W in bits 0, 1, 2. -/
def phIx : Phase → Nat
  | .u => 0
  | .v => 1
  | .w => 2

/-- The axis record, and its replacement. -/
def State.axis (s : State) (n : Fin 4) : Axis := s.ax.get n
def State.setAxis (s : State) (n : Fin 4) (a : Axis) : State := { s with ax := s.ax.set n a }
def State.updAxis (s : State) (n : Fin 4) (f : Axis → Axis) : State := s.setAxis n (f (s.axis n))

/-- The drive die's registers of an axis changed in place. -/
def State.updDrv (s : State) (n : Fin 4) (f : Drv → Drv) : State :=
  s.updAxis n fun a => { a with drv := f a.drv }

/-- The Pour ports of an axis changed in place. -/
def State.updPort (s : State) (n : Fin 4) (f : PortAx → PortAx) : State :=
  { s with pour := { s.pour with ax := s.pour.ax.set n (f (s.pour.ax.get n)) } }

/-! ### State codes -/

/-- Table 1-5. -/
def DevState.code : DevState → Nat
  | .off => 0 | .boot => 1 | .ready => 2 | .run => 3 | .safe => 4 | .thermalLatch => 5 | .hibernate => 6

/-- Table 1-7. -/
def AxState.code : AxState → Nat
  | .disabled => 0 | .start => 1 | .run => 2 | .hold => 3 | .stopping => 4 | .fault => 5 | .test => 6 | .recovery => 7

/-- DSTAT.AXST and the port AXST (Table 1-12). -/
def State.axst (s : State) : Word :=
  at_ 12 s.ax.a3.st.code ||| at_ 8 s.ax.a2.st.code ||| at_ 4 s.ax.a1.st.code ||| at_ 0 s.ax.a0.st.code

/-- Every axis is in DISABLED. -/
def State.allDisabled (s : State) : Bool := axes.all fun n => decide ((s.axis n).st = .disabled)

/-- Tick rates (Table 1-1). -/
def tperOf (rate : BitVec 3) : Nat :=
  match rate.toNat with
  | 0 => 20000 | 1 => 16000 | 2 => 12500 | 4 => 8000 | 5 => 6250 | 6 => 5000 | _ => 10000

/-! ### Replies -/

/-- Table 11-5. -/
def stOK : Nat := 0x00
def stBadParam : Nat := 0x10
def stBadOpcode : Nat := 0x11
def stBadState : Nat := 0x12
def stBadAxis : Nat := 0x13
def stStaleSeq : Nat := 0x14
def stNotPermitted : Nat := 0x15
def stBusy : Nat := 0x16
def stMouldInvalid : Nat := 0x20
def stSigInvalid : Nat := 0x21
def stThermalBlock : Nat := 0x30
def stSafeState : Nat := 0x31

/-- Refusal detail: DCODE, reserved, DOFS (11 R341). -/
def refusalData (dcode dofs : Nat) : List Byte := leBytes 1 dcode ++ [0] ++ leBytes 2 dofs

/-- Enter a reply into the outlet (11 R345). -/
def State.pushReply (s : State) (r : Reply) : State :=
  { s with mgmt := { s.mgmt with outlet := s.mgmt.outlet ++ [r] } }

/-- The same, by the entry reserved when the packet was taken (11 R344). -/
def State.pushReserved (s : State) (r : Reply) : State :=
  { s with mgmt := { s.mgmt with outlet := s.mgmt.outlet ++ [r], reserved := s.mgmt.reserved - 1 } }

/-- A refusal: DISP REJECTED, no record (11 Table 11-6, R338). -/
def refusal (opc : Nat) (seq : Word) (status dcode dofs : Nat) : Reply :=
  { opc, status, disp := 8, seq, jidx := 0xFFFF, data := refusalData dcode dofs }

/-- An OK reply that reports no record. -/
def okReply (opc : Nat) (seq : Word) (data : List Byte) : Reply :=
  { opc, status := stOK, disp := 0, seq, jidx := 0xFFFF, data }

/-- An entry of the fault log; in THERMAL_LATCH it goes to the ring in SRAM, and nothing to NVM (17 R487). -/
def State.logEntry (s : State) (e : FaultLog) : State :=
  { s with mgmt := { s.mgmt with
      slog := if s.dev = .thermalLatch then s.mgmt.slog ++ [e] else s.mgmt.slog
      flog := if s.dev = .thermalLatch then s.mgmt.flog else s.mgmt.flog ++ [e] } }

/-- An entry of MGMT's own. -/
def State.logFault (s : State) (code : Nat) : State := s.logEntry { code := code, heat := s.tick.heat }

/-! ### Cancelling an activation -/

/-- MOULD_SELECT's opcode. -/
def opcMouldSelect : Nat := 0x0405

/-- R130: a pending activation is cancelled and MOULD_SELECT is answered BAD_STATE. In the heat with no mould the
device is then as after a deactivation and the tick takes BOOTRATE; a rate already due stays due (R128). A boundary publication is withdrawn and MGMT
publishes again (01 R27). The boot activation has no packet to answer. -/
def State.cancelPend (s : State) : State :=
  match s.moulds.pend with
  | none => s
  | some a =>
    if a.phase = 3 then s
    else
      let s1 : State := { s with
        moulds := { s.moulds with pend := none, swap := 0, loadleft := 0 }
        exch := { s.exch with pub := if s.exch.pub = .boundary then .none else s.exch.pub }
        mgmt := { s.mgmt with pubWanted := s.mgmt.pubWanted || decide (s.exch.pub = .boundary) }
        tick := { s.tick with nextRate := if a.phase = 2 then some s.mgmt.bootRate else s.tick.nextRate } }
      if a.boot then s1 else s1.pushReserved (refusal opcMouldSelect a.seq stBadState 0 0xFFFF)

/-- R130 during the copy and check of an NVM source (04 R121: the activation is pending from the acceptance). The
inactive slot then holds no checked image. -/
def State.cancelCopy (s : State) : State :=
  match s.mgmt.bg with
  | some ⟨.selectCopy _ boot, opc, seq⟩ =>
    let s1 : State := { s with mgmt := { s.mgmt with bg := none }, moulds := { s.moulds with inactok := false } }
    if boot then s1 else s1.pushReserved (refusal opc seq stBadState 0 0xFFFF)
  | _ => s

/-- R130. -/
def State.cancelActivation (s : State) : State := s.cancelCopy.cancelPend

/-- An activation is pending (04 R121). -/
def State.actPending (s : State) : Bool :=
  s.moulds.pend.isSome || (match s.mgmt.bg with | some ⟨.selectCopy _ _, _, _⟩ => true | _ => false)

/-! ### Power domains (20 Table 20-2) -/

/-- The domains of boot step 7 are on. -/
def State.appOn (s : State) : Bool :=
  (decide (s.pwr.phase = .mgmt) || decide (s.pwr.phase = .done)) && !decide (s.dev = .off) && !decide (s.dev = .hibernate)

/-- The 16 switched domains. -/
inductive PDom where
  | mon | core | csram | cnvm | msram | mnvm | pour | sprue | runner | snsa | snsref | field
  | drv (n : Fin 4)
  deriving DecidableEq, Repr

/-- Whether a domain is on (20 R538). PD_POUR goes off in THERMAL_LATCH at the end of the running pour (17 Table 17-4); steps
1 to 5 of the boot are one phase (log entry 158). -/
def State.powered (s : State) : PDom → Bool
  | .mon => !decide (s.dev = .off) && !decide (s.dev = .hibernate)
  | .core | .csram | .cnvm | .msram | .mnvm =>
    !decide (s.dev = .off) && !decide (s.dev = .hibernate) && !decide (s.pwr.phase = .held)
  | .pour => s.appOn && (!decide (s.dev = .thermalLatch) || !s.pour.ended)
  | .sprue | .runner | .snsa | .snsref | .field | .drv _ => s.appOn

/-- A command to a block whose domain is off meets nothing (20 R538). -/
def State.whenOn (s : State) (d : PDom) (r : Res) : Res := if s.powered d then r else .next s

/-! ### The uplink of a drive die (16 R463, R588) -/

/-- Event number of drive-die event j of axis n (15 Table 15-3). -/
def axEv (n : Fin 4) (j : Nat) : Nat := 40 * n.val + j

/-- No frame passes on the link of axis n: a function reset of the axis or of its link is under way (16 R471, R472), or its
drive die is without power (20 Table 20-2). -/
def State.linkDown (s : State) (n : Fin 4) : Bool :=
  !s.powered (.drv n) ||
    match s.mgmt.rfunc with
    | some (f, ch, _) => decide (f ≤ 1) && decide (ch = n.val)
    | none => false

/-- The carrier count of axis n at cy t (07 R207). -/
def State.countAt (s : State) (n : Fin 4) (t : Nat) : Nat :=
  (t + s.tick.tper - s.tick.ofs.get n) % s.tick.tper

/-- No word of the queue may enter the lanes: the link is down, or the sense frame, from count 130 on, or the status frame, from
count 400 on, is on them or due (16 R588, Table 16-3). -/
def State.upBusy (s : State) (n : Fin 4) : Bool :=
  let c := s.countAt n s.tick.cy
  let a := s.axis n
  s.linkDown n || (a.sense.frame.isSome && decide (130 ≤ c)) || (!a.statIn && decide (400 ≤ c))

/-- The pending counter of drive-die event j: its words that wait (16 R588). -/
def Axis.evPend (a : Axis) (j : Nat) : Nat := a.evq.count (.event j)

/-- The event words of the die that have not been delivered yet, in their order: the one on the lanes, and those that wait. -/
def Axis.evWords (a : Axis) : List Nat :=
  a.upOn.toList ++ a.evq.filterMap fun w => match w with | .event j => some j | .ack => none

/-- The words at the head of the queue leave in order: acknowledges take their message off CTL's list, and the first event word
stays on the lanes until it is delivered (16 R467, R588). -/
def Axis.upSend : List UpWord → Axis → Axis
  | [], a => { a with evq := [] }
  | .ack :: t, a => Axis.upSend t { a with regq := a.regq.drop 1 }
  | .event j :: t, a => { a with evq := t, upOn := some j }

/-- The next words enter the lanes where these are free (16 R588). -/
def State.upNext (s : State) (n : Fin 4) : State :=
  if s.upBusy n || (s.axis n).upOn.isSome then s else s.updAxis n fun a => a.upSend a.evq

/-- One occurrence of drive-die event j of axis n on its die: counted for the uplink, behind the words that came before; with
its counter at 255 it is dropped and OVF is set (16 R588). -/
def State.raiseDrv (n : Fin 4) (j : Nat) (s : State) : State :=
  if (s.axis n).evPend j < 255 then (s.updAxis n fun a => { a with evq := a.evq ++ [.event j] }).upNext n
  else { s with evm := { s.evm with ovf := s.evm.ovf ||| bitB 256 (axEv n j) } }

def State.raiseDrvIf (b : Bool) (n : Fin 4) (j : Nat) (s : State) : State := if b then s.raiseDrv n j else s

/-! ### Axis state changes -/

/-- Precedence of R39, highest first. -/
def AxState.rank : AxState → Nat
  | .recovery => 3 | .fault => 2 | .stopping => 1 | _ => 0

/-- Ask for a state at the next tick boundary; of several, R39 decides, and among equals the last. -/
def State.axNext (s : State) (n : Fin 4) (t : AxState) : State :=
  s.updAxis n fun a =>
    match a.nxt with
    | none => { a with nxt := some t }
    | some u => if u.rank ≤ t.rank then { a with nxt := some t } else a

/-- A test that is cut short (19 R522, R524). -/
def BgOp.abort : BgOp → BgOp
  | .loopback i d c w a _ => .loopback i d c w a (some 0)
  | .selftest t _ => .selftest t true
  | o => o

/-- The axis whose VM lockout a test suspends: that of LB-B (19 R522). -/
def BgOp.suspends : BgOp → Option (Fin 4)
  | .loopback 3 1 _ _ a _ => some a
  | _ => none

/-- A test that holds axis n in TEST (19 R522, R524). -/
def BgOp.testsAxis (n : Fin 4) : BgOp → Bool
  | .loopback i _ _ _ a _ => decide (2 ≤ i) && decide (i ≤ 4) && decide (a = n)
  | .selftest _ _ => true
  | _ => false

/-- A test that injects on the phases of axis n: LB-B of phase sensing, and its self-test item (19 Tables 19-4, 19-5). -/
def BgOp.injects (n : Fin 4) : BgOp → Bool
  | .loopback 4 1 _ _ a none => decide (a = n)
  | .selftest set false => set.getLsbD (8 + n.val)
  | _ => false

/-- Word i of the stream of a test: PATTERN rotated left (19 R522). -/
def loopWord (pat : Word) (i : Nat) : Word := pat.rotateLeft (i % 32)

/-- The compares of period i of a gate-drive test of axis n, taken modulo 16 times TPER at LB-A, and a quarter and then three
quarters of it at LB-C (19 Table 19-4); the item of a self-test makes 16 periods of LB-A, whose PATTERN the spec does not give
(Table 19-5). -/
def BgOp.compares (n : Fin 4) (per i : Nat) : BgOp → Option (Four (BitVec 20))
  | .loopback 3 0 _ w a none =>
    let x := BitVec.ofNat 20 (((loopWord w i).setWidth 20).toNat % (16 * per))
    if a = n then some ⟨x, x, x, x⟩ else none
  | .loopback 3 2 c _ a none =>
    let x := BitVec.ofNat 20 (if i < c then 4 * per else 12 * per)
    if a = n then some ⟨x, x, x, 0⟩ else none
  | .selftest set false =>
    let x := BitVec.ofNat 20 (((loopWord (Config.selfPattern n.val) i).setWidth 20).toNat % (16 * per))
    if set.getLsbD (4 + n.val) then some (if i < 16 then ⟨x, x, x, x⟩ else ⟨0, 0, 0, 0⟩) else none
  | _ => none

/-- The density of the bit-stream that feeds the decimators of axis n in period i of a test: LB-A of phase sensing (19 Table
19-4). -/
def BgOp.density (n : Fin 4) (i : Nat) : BgOp → Option Byte
  | .loopback 4 0 _ w a none => if a = n then some ((loopWord w i).setWidth 8) else none
  | _ => none

/-- The axis whose VM lockout the running test `sel` holds of suspends (19 R522). -/
def State.freedAxis (s : State) (sel : BgOp → Bool) : Option (Fin 4) :=
  match s.mgmt.bg with
  | some b => if sel b.op then b.op.suspends else none
  | none => none

/-- The VM lockout acts again after a test; where the comparator still stands, the axis enters it now, and it shows in GSTATn (08
R274, R276). -/
def Axis.lockBack (a : Axis) : Axis :=
  let enter := a.noLock && a.drv.vmlo
  { a with noLock := false, vmloPer := a.vmloPer || enter, lockDue := a.lockDue || enter }

/-- The running test is cut short where `sel` holds of it; its end is still to come. -/
def State.abortTest (sel : BgOp → Bool) (s : State) : State :=
  { s with
    mgmt := { s.mgmt with bg := s.mgmt.bg.map fun b => if sel b.op then { b with op := b.op.abort } else b }
    ax := match s.freedAxis sel with
      | some n => s.ax.set n (s.axis n).lockBack
      | none => s.ax }

/-- An axis fault: any state but DISABLED goes to FAULT (Table 1-8); an axis about to leave DISABLED does too. A test of
the axis is cut short (19 R522). -/
def State.axFault (s : State) (n : Fin 4) : State :=
  if (s.axis n).st = .disabled ∧ (s.axis n).nxt = none then s else (s.axNext n .fault).abortTest (BgOp.testsAxis n)

/-! ### The position in the tick -/

/-- The bundles of a custom mould still count the cycles of this tick. -/
def State.bundlesCount (s : State) : Bool :=
  match s.moulds.active with
  | some m => m.std.isNone && !s.pour.ended
  | none => false

/-- Cycle `c` of the running tick can be now: bundles up to it have issued, and none past it (00 R4, 01 Table 1-2). -/
def State.nowAt (s : State) (c : Nat) : Bool :=
  s.tick.on && decide (s.tick.cy ≤ c) && (!s.bundlesCount || decide (c ≤ s.pour.nextCy))

/-! ### SAFE -/

/-- SAFECAUSE with one more cause: 15 for several (Table 1-9). -/
def joinCause (old cause : BitVec 4) : BitVec 4 := if old = cause ∨ old = 0 then cause else 15

/-- The tick has a cause, and a CLEAR_FAULT that waits for its boundary learns of it (18 R508). -/
def State.clrCause (cause : BitVec 4) (s : State) : State :=
  { s with mgmt := { s.mgmt with
      tickCause := joinCause s.mgmt.tickCause cause
      clr := s.mgmt.clr.map fun c => (c.1, c.2.1, joinCause c.2.2 cause) } }

/-- The source writes a value: it is captured at once where no transfer is under way, else sent by the next (16 R459). -/
def Cross.write {α : Type} (v : α) (c : Cross α) : Cross α :=
  match c.hold with
  | none => { hold := some v }
  | some _ => { c with again := true }

/-- A transfer is complete; the next carries the value as it stands now, where one was written since (16 R459). -/
def Cross.next {α : Type} (v : α) (c : Cross α) : Cross α := if c.again then { hold := some v } else {}

/-- The device state changes, and crosses to MON (16 Table 16-2). -/
def State.setDev (d : DevState) (s : State) : State :=
  { s with dev := d, mon := { s.mon with xDev := if s.dev = d then s.mon.xDev else s.mon.xDev.write d } }

/-- Entry to SAFE from READY or RUN (Table 1-6); a further cause while SAFE stands shows as 15 (Table 1-9, 18 R508:
DEDUCED, log entry 13). Every axis outside DISABLED goes to FAULT (Table 1-8), R130 cancels an activation, and a test is
cut short (19 R522). -/
def State.enterSafe (cause : BitVec 4) (s : State) : State :=
  match s.dev with
  | .ready | .run =>
    let s1 : State := { s.setDev .safe with safecause := cause }
    ((axes.foldl State.axFault s1).cancelActivation.abortTest fun _ => true).clrCause cause
  | .safe => ({ s with safecause := joinCause s.safecause cause }).clrCause cause
  | _ => s

/-! ### Events -/

/-- One occurrence of event k on GPIO route i (15 R453). -/
def Evm.gpio1 (k : Nat) (e : Evm) (i : Nat) : Evm :=
  let r := e.gpio.getD i 0
  if r.getLsbD 15 && decide (fld r 7 0 = k) then
    if r.getLsbD 8 then { e with pin := e.pin ^^^ bitB 8 i }
    else if (e.pulse ||| e.after).getLsbD i then { e with merge := e.merge ||| bitB 8 i }
    else { e with pulse := e.pulse ||| bitB 8 i, pin := e.pin ||| bitB 8 i }
  else e

/-- The routes of event k. -/
def Evm.gpioAll (k : Nat) (e : Evm) : Evm := [0, 1, 2, 3, 4, 5, 6, 7].foldl (Evm.gpio1 k) e

/-- One occurrence enters the crossing `key` of event k. The count holds the pending counter and the one occurrence whose
transfer is outstanding, as it is whenever the count is above 0; with the counter at 255 the occurrence is dropped and OVF is
set (16 R460). -/
def Evm.queue (key k : Nat) (e : Evm) : Evm :=
  let c := Sparse.get 0 key e.cnt
  if c < 256 then { e with cnt := Sparse.put 0 key (c + 1) e.cnt } else { e with ovf := e.ovf ||| bitB 256 k }

/-- The bank, image, crossing and GPIO destinations of one occurrence of event k in SYS (15 R449, R450). -/
def Evm.route (k : Nat) (e : Evm) : Evm :=
  let e1 : Evm := { e with
    pendHost := if e.enIrq.getLsbD k then e.pendHost ||| bitB 256 k else e.pendHost
    pendMgmt := if e.enMgmt.getLsbD k then e.pendMgmt ||| bitB 256 k else e.pendMgmt
    pour := if e.enPour.getLsbD k then e.pour ||| bitB 256 k else e.pour }
  Evm.gpioAll k (if e1.enMon.getLsbD k then Evm.queue k k e1 else e1)

/-- Keys of the crossings that end in SYS (15 R449, 16 Table 16-2). -/
def snsKey (k : Nat) : Nat := 256 + k
def monKey (k : Nat) : Nat := 512 + k

/-- CTL's reaction to an occurrence whose QMAP bit is set: the quench request and SAFE with cause 3 (15 R450, 18 R498). -/
def State.quenchFor (k : Nat) (s : State) : State :=
  if s.evm.qmap.getLsbD k then { s.enterSafe 3 with mon := { (s.enterSafe 3).mon with req := true } } else s

/-- One occurrence of event k in SYS: routed in the cycle in which it is raised (15 R449, R450). EV203 is remembered
until the next device reset (01 R33). -/
def State.raise (k : Nat) (s : State) : State :=
  let s1 : State := { s with
    evm := s.evm.route k
    mgmt := { s.mgmt with ev203 := s.mgmt.ev203 || decide (k = 203) } }
  s1.quenchFor k

/-- Raise event k when a condition holds. -/
def State.raiseIf (b : Bool) (k : Nat) (s : State) : State := if b then s.raise k else s

/-- One occurrence in the SNS domain (EV160 to EV183) or in the MON domain (EV240 to EV246): queued for SYS. -/
def State.raiseSns (k : Nat) (s : State) : State := { s with evm := Evm.queue (snsKey k) k s.evm }
def State.raiseMon (k : Nat) (s : State) : State := { s with evm := Evm.queue (monKey k) k s.evm }

/-! ### The device sync output (07 R234) -/

/-- PWMG.SYNC.MODE; 3 is taken as 0 (07 Table 7-9). -/
def SyncSt.mode (y : SyncSt) : Nat := if fld y.cfg 1 0 = 3 then 0 else fld y.cfg 1 0

/-- The pulse a master or a slave begins at cy 0: 48 cy in tick 0 of a heat, 16 in any other. -/
def SyncSt.pulseAt (y : SyncSt) (first : Bool) : Nat := if y.mode = 0 then 0 else if first then 48 else 16

/-- The level of GPIO1 as sync output; in modes 1 and 2 it overrides what GPIO1 otherwise shows. -/
def State.syncOut (s : State) : Bool := s.tick.on && decide (s.tick.cy < s.sync.pulse)

end Sys2Proof.Machine
end

