-- ==== Sys2Proof/Machine/Flags.lean ====
section
/-! DEFINITION. The Pour flags and how an operation sets them: POUR.FLAGS SAT, IDXCLAMP, ECCU (02 Tables 2-6, 2-9),
and the corrected-error count (02 R60). -/

namespace Sys2Proof.Machine

/-- POUR.FLAGS bit `k` set. -/
def State.pourFlag (k : Nat) (s : State) : State :=
  { s with pour := { s.pour with flags := s.pour.flags ||| bitB 3 k } }

/-- R73: a saturation changed a result. SAT is set, and EV201 is raised when POUR.EVEN.SAT is 1, both in the cycle in
which the operation issues (log entry 130). -/
def State.setSat (sat : Bool) (s : State) : State :=
  if sat then (s.pourFlag 0).raiseIf s.pour.even 201 else s

/-- R59: an indexed access was clamped: IDXCLAMP and EV200, at issue (log entry 130). -/
def State.setClamped (hit : Bool) (s : State) : State := if hit then (s.pourFlag 1).raise 200 else s

/-- R60: a single-bit error was corrected: ECCC counts, saturating, and EV202. -/
def State.eccCorrected (s : State) : State :=
  { s with pour := { s.pour with eccc := sat8 s.pour.eccc } }.raise 202

/-- R61: a double-bit error: ECCU and EV203, which is mapped to quench. -/
def State.eccUncorrectable (s : State) : State := (s.pourFlag 2).raise 203

/-- The SECDED outcome of a read of a word with `n` flipped bits: what is read and the effects (R60, R61). The word itself
is not written back, so the next read counts again (log entry 129). -/
def State.eccRead (n : Nat) (w : Word) (s : State) : Word × State :=
  match n with
  | 0 => (w, s)
  | 1 => (w, s.eccCorrected)
  | _ => (0, s.eccUncorrectable)

end Sys2Proof.Machine
end

