-- ==== Sys2Proof/Machine/Operands.lean ====
section
/-! DEFINITION. How a slot operation reads its operands: the guard, V registers, accumulators, predicates, limit
pairs, range descriptors (02 R45, R51, R58; 03 R89, Table 3-3); the results in flight (02 R45, 03 R98); and the fields
of slot words. -/

namespace Sys2Proof.Machine

/-- R51, R89: the guard evaluates true. -/
def State.guardOk (s : State) (g : Guard) : Bool := (s.pour.p.getLsbD g.gp.toNat) ^^ g.gi

/-- Predicate P[k]. -/
def State.pred (s : State) (k : Nat) : Bool := s.pour.p.getLsbD k

/-- V register r. -/
def State.vreg (s : State) (r : BitVec 6) : Word := s.pour.v.get r.toFin

/-- Accumulator K of XU0 (u false: A0 to A3) or XU1 (u true: A4 to A7) (02 R43). -/
def accIx (u : Bool) (k : BitVec 2) : Fin 8 :=
  ⟨(if u then 4 else 0) + k.toNat, by have := k.isLt; split <;> omega⟩

def State.acc (s : State) (u : Bool) (k : BitVec 2) : BitVec 64 := s.pour.acc.get (accIx u k)

/-- An accumulator result: readable on its unit from the next cycle (03 R91). -/
def State.setAcc (s : State) (u : Bool) (k : BitVec 2) (x : BitVec 64) : State :=
  { s with pour := { s.pour with acc := s.pour.acc.set (accIx u k).val x (accIx u k).isLt } }

/-- Limit pair L: V(2L) and V(2L+1) (Table 3-3). -/
def State.limLo (s : State) (l : BitVec 5) : Word := s.vreg (BitVec.ofNat 6 (2 * l.toNat))
def State.limHi (s : State) (l : BitVec 5) : Word := s.vreg (BitVec.ofNat 6 (2 * l.toNat + 1))

/-- Unit number of XU0 or XU1. -/
def macUnit (u : Bool) : Nat := if u then 1 else 0

/-- Range descriptor k of the active mould, when declared inside the Pour data memory (02 R58, 04 Table 4-4 0x09). -/
def State.rdesc (s : State) (k : BitVec 4) : Option Rng :=
  match s.moulds.active with
  | none => none
  | some m =>
    match m.rd.getD k.toNat none with
    | none => none
    | some r => if 1 ≤ r.len ∧ r.base + r.len ≤ 65536 then some r else none

/-- R58, R59: base plus the clamped index, and whether clamping changed it. -/
def clampIdx (r : Rng) (idx : Int) : Nat × Bool :=
  if idx < 0 then (r.base, true)
  else if (r.len : Int) - 1 < idx then (r.base + (r.len - 1), true)
  else (r.base + idx.toNat, false)

/-! ### Results in flight -/

/-- Write-back order: by cycle, then by unit, so that in one cycle the higher-numbered unit writes last (02 R49). -/
def WB.le (a b : WB) : Bool := decide (a.due < b.due) || (decide (a.due = b.due) && decide (a.unit ≤ b.unit))

def insertWB (x : WB) : List WB → List WB
  | [] => [x]
  | y :: t => if y.le x then y :: insertWB x t else x :: y :: t

/-- R45: an operation with latency `lat` issued now writes its result at the end of cycle cy + lat - 1. -/
def State.later (s : State) (lat unit : Nat) (a : WbAct) : State :=
  { s with pour := { s.pour with inflight := insertWB ⟨s.tick.cy + lat - 1, unit, a⟩ s.pour.inflight } }

/-- R50: P0 reads 1 whatever is written. -/
def setPred (p : BitVec 8) (k : BitVec 3) (b : Bool) : BitVec 8 := if k = 0 then p else putBit p k.toNat b

/-- Replace V register number `r`, if it exists. -/
def setV (v : Vector Word 64) (r : Nat) (x : Word) : Vector Word 64 := v.setIfInBounds r x

/-- One result is written; a shifting result moves the values held at this moment (03 R98). -/
def applyWB (p : Pour) : WbAct → Pour
  | .v d n x =>
    let k := d.toNat
    let v2 := if 2 ≤ n then setV p.v (k + 2) (p.v.getD (k + 1) 0) else p.v
    let v1 := if 1 ≤ n then setV v2 (k + 1) (p.v.getD k 0) else v2
    { p with v := setV v1 k x }
  | .pair d x y => { p with v := setV (setV p.v d.toNat x) (d.toNat + 1) y }
  | .p k b => { p with p := setPred p.p k b }

/-- Write every result due at or before cycle `cy`. -/
def retire (cy : Nat) (p : Pour) : Pour :=
  let done := p.inflight.filter fun w => decide (w.due ≤ cy)
  { done.foldl (fun q w => applyWB q w.act) p with
    inflight := p.inflight.filter fun w => !decide (w.due ≤ cy) }

/-- A landmark at cycle `c` of the tick is reached (01 Table 1-2). Where no bundle counts the cycles, the landmarks do
(log entry 6), and every result due before is written (02 R45). -/
def State.reach (c : Nat) (s : State) : State :=
  if s.bundlesCount then s
  else
    let cy := Nat.max s.tick.cy c
    { s with pour := retire (cy - 1) s.pour, tick := { s.tick with cy := cy } }

/-- The end of the current cycle (log entry 6). -/
def State.endCycle (s : State) : State :=
  { s with pour := retire s.tick.cy s.pour, tick := { s.tick with cy := s.tick.cy + 1 } }

/-- The rest of the cycle after an operation issued on its own. -/
def Res.endCycle : Res → Res
  | .next s => .next s.endCycle
  | .fault f => .fault f
  | .refused r => .refused r

/-- The Pour engine issues nothing: it has no power in OFF, in HIBERNATE, and in THERMAL_LATCH from the end of the last pour on (20
Table 20-2, 17 Table 17-4; log entry 199). -/
def State.pourOff (s : State) : Bool :=
  decide (s.dev = .off) || decide (s.dev = .hibernate) || (decide (s.dev = .thermalLatch) && s.pour.ended)

/-- An operation issued on its own, where the engine has power. -/
def State.pourRow (s : State) (r : Res) : Res := if s.pourOff then .next s else r.endCycle

/-! ### Fields of slot words (03 Tables 3-2, 3-3) -/

/-- A field hi:lo of a slot word as a bit vector. -/
def sf (w : Word) (lo n : Nat) : BitVec n := w.extractLsb' lo n

/-- The guard fields, bits 23 and 22:20. -/
def slotGuard (w : Word) : Guard := ⟨w.getLsbD 23, sf w 20 3⟩

end Sys2Proof.Machine
end

