-- ==== Sys2Proof/Machine/PourMem.lean ====
section
/-! DEFINITION. XU4: loads, stores and table interpolation over the Pour data memory and the active exchange buffer
(02 R54 to R62, 03 R99 to R103). A value is read at issue and written back after the latency. -/

namespace Sys2Proof.Machine

/-- The active exchange buffer, and the other (01 R24). -/
def State.xAct (s : State) : XBuf := if s.exch.act then s.exch.buf1 else s.exch.buf0
def State.xInact (s : State) : XBuf := if s.exch.act then s.exch.buf0 else s.exch.buf1

def State.setXAct (s : State) (x : XBuf) : State :=
  if s.exch.act then { s with exch := { s.exch with buf1 := x } } else { s with exch := { s.exch with buf0 := x } }
def State.setXInact (s : State) (x : XBuf) : State :=
  if s.exch.act then { s with exch := { s.exch with buf0 := x } } else { s with exch := { s.exch with buf1 := x } }

/-- Word XOFS of an exchange buffer: 0 to 2 047 inbound, 2 048 to 4 095 outbound (03 R100). -/
def XBuf.word (x : XBuf) (xofs : Nat) : Word :=
  if xofs < 2048 then x.inb.word (4 * xofs) else x.outb.word (4 * (xofs - 2048))

/-- Read Pour data word `a` under SECDED (02 R60, R61). -/
def State.pdmRead (s : State) (a : Nat) : Word × State :=
  s.eccRead (Sparse.get 0 a s.pour.pdmUpset) (s.pour.pdm.word (4 * a))

/-- Write Pour data word `a`: the new code word is sound. -/
def State.pdmWrite (s : State) (a : Nat) (w : Word) : State :=
  { s with pour := { s.pour with
      pdm := s.pour.pdm.putWord (4 * a) w
      pdmUpset := Sparse.put 0 a 0 s.pour.pdmUpset } }

/-- Pour data word `a` holds an error that is not corrected (02 R61). -/
def State.pdmBad (s : State) (a : Nat) : Bool := decide (2 ≤ Sparse.get 0 a s.pour.pdmUpset)

/-- A load into VD, with latency 4. -/
def loadTo (d : BitVec 6) (r : Word × State) : State := r.2.later 4 4 (.v d 0 r.1)

/-- An access that needs a declared descriptor (03 R90). -/
def withRd (k : BitVec 4) (f : Rng → State → Res) (s : State) : Res :=
  match s.rdesc k with
  | none => .fault .undeclaredDescriptor
  | some r => f r s

/-- VD := M[ADDR]. -/
def opLd (g : Guard) (d : BitVec 6) (addr : BitVec 14) (s : State) : Res :=
  if s.guardOk g then .next (loadTo d (s.pdmRead addr.toNat)) else .next s

/-- M[ADDR] := VA, at the end of the cycle (02 R46). -/
def opSt (g : Guard) (a : BitVec 6) (addr : BitVec 14) (s : State) : Res :=
  if s.guardOk g then .next (s.pdmWrite addr.toNat (s.vreg a)) else .next s

/-- VD := X[XOFS] of the buffer active now (02 R57). Exchange words are under no SECDED (log entry 83). -/
def opLdx (g : Guard) (d : BitVec 6) (xofs : BitVec 12) (s : State) : Res :=
  if s.guardOk g then
    .next (loadTo d (s.xAct.word xofs.toNat, s))
  else .next s

/-- The active buffer with outbound word XOFS replaced. -/
def State.xStore (s : State) (xofs : Nat) (w : Word) : State :=
  s.setXAct { s.xAct with outb := s.xAct.outb.putWord (4 * (xofs - 2048)) w }

/-- X[XOFS] := VA; the inbound half takes no store (02 R55, 03 R100). -/
def opStx (g : Guard) (a : BitVec 6) (xofs : BitVec 12) (s : State) : Res :=
  if xofs.toNat < 2048 then .fault .inboundStore
  else if s.guardOk g then .next (s.xStore xofs.toNat (s.vreg a)) else .next s

/-- VD := M[RDK base + clamped VI]. -/
def opLdr (g : Guard) (d i : BitVec 6) (k : BitVec 4) (s : State) : Res :=
  withRd k (fun r s =>
    if s.guardOk g then
      let c := clampIdx r (s.vreg i).toInt
      .next (loadTo d ((s.setClamped c.2).pdmRead c.1))
    else .next s) s

/-- M[RDK base + clamped VI] := VA under a condition read at issue (03 R101). -/
def storeRd (g : Guard) (cond : Bool) (a i : BitVec 6) (k : BitVec 4) (s : State) : Res :=
  withRd k (fun r s =>
    if s.guardOk g && cond then
      let c := clampIdx r (s.vreg i).toInt
      .next ((s.setClamped c.2).pdmWrite c.1 (s.vreg a))
    else .next s) s

def opStr (g : Guard) (a i : BitVec 6) (k : BitVec 4) (s : State) : Res := storeRd g true a i k s

def opStrc (g : Guard) (a i : BitVec 6) (k : BitVec 4) (q : BitVec 3) (qi : Bool) (s : State) : Res :=
  storeRd g (s.pred q.toNat ^^ qi) a i k s

/-- The table words TINT reads for index x, and the fraction: one word at either end, two inside (03 R102). -/
def tintIdx (r : Rng) (x : Int) : Nat × Option Int × Bool :=
  if x < 0 then (r.base, none, true)
  else if ((r.len : Int) - 1) * 65536 ≤ x then
    (r.base + (r.len - 1), none, decide (((r.len : Int) - 1) * 65536 < x))
  else (r.base + (x / 65536).toNat, some (x % 65536), false)

/-- VD := linear interpolation in the table of descriptor K at VX (03 R102, R103); 0 when either word read is beyond
correction (02 R61). -/
def opTint (g : Guard) (d x : BitVec 6) (k : BitVec 4) (rm : Bool) (s : State) : Res :=
  withRd k (fun r s =>
    if r.len < 2 then .fault .undeclaredDescriptor
    else if s.guardOk g then
      let t := tintIdx r (s.vreg x).toInt
      let m0 := (s.setClamped t.2.2).pdmRead t.1
      match t.2.1 with
      | none => .next (m0.2.later 6 4 (.v d 0 m0.1))
      | some f =>
        let m1 := m0.2.pdmRead (t.1 + 1)
        let y := m0.1.toInt + roundShift ((m1.1.toInt - m0.1.toInt) * f) 16 rm
        .next (m1.2.later 6 4 (.v d 0 (if s.pdmBad t.1 || s.pdmBad (t.1 + 1) then 0 else BitVec.ofInt 32 y)))
    else .next s) s

def execLd (g : Guard) (d : BitVec 6) (addr : BitVec 14) (s : State) : Res := s.pourRow (opLd g d addr s)
def execSt (g : Guard) (a : BitVec 6) (addr : BitVec 14) (s : State) : Res := s.pourRow (opSt g a addr s)
def execLdx (g : Guard) (d : BitVec 6) (xofs : BitVec 12) (s : State) : Res := s.pourRow (opLdx g d xofs s)
def execStx (g : Guard) (a : BitVec 6) (xofs : BitVec 12) (s : State) : Res := s.pourRow (opStx g a xofs s)
def execLdr (g : Guard) (d i : BitVec 6) (k : BitVec 4) (s : State) : Res := s.pourRow (opLdr g d i k s)
def execStr (g : Guard) (a i : BitVec 6) (k : BitVec 4) (s : State) : Res := s.pourRow (opStr g a i k s)
def execStrc (g : Guard) (a i : BitVec 6) (k : BitVec 4) (q : BitVec 3) (qi : Bool) (s : State) : Res :=
  s.pourRow (opStrc g a i k q qi s)
def execTint (g : Guard) (d x : BitVec 6) (k : BitVec 4) (rm : Bool) (s : State) : Res :=
  s.pourRow (opTint g d x k rm s)

end Sys2Proof.Machine
end

