-- ==== Sys2Proof/Machine/Params.lean ====
section
/-! DEFINITION. Parameters: the PARAM entries of the standard moulds (06 Tables 6-9, 6-10, R155, R206), the standard
moulds' declarations (04 R132), the values MGMT holds and writes into the exchange buffers (04 R109, 01 R589, 15 R452),
and publication (01 R25, R28). -/

namespace Sys2Proof.Machine

/-- A row of Table 6-9: number, format, range, default, moulds (bit 0 HALL, 1 ENC, 2 SL, 3 SIX), and the mark D. -/
structure PRow where
  p : Nat
  fmt : Nat
  min : Int
  max : Int
  dflt : Int
  moulds : BitVec 4
  dis : Bool
  deriving DecidableEq, Repr

/-! Table 6-9, in Q2.29, Q4.27 or plain integers; a bound of 16 in Q4.27 is the largest code (05 R143). -/

def parRows0 : List PRow := [
  ⟨0x001, 2, 1, 32, 4, 15, true⟩ /- POLES -/,
  ⟨0x002, 2, 500, 100000, 2000, 15, true⟩ /- RSHUNT -/,
  ⟨0x003, 2, 8000, 80000, 48000, 15, true⟩ /- VBASE -/,
  ⟨0x004, 2, 10, 2000, 500, 15, true⟩ /- FBASE -/,
  ⟨0x005, 0, 0, 2142114939, 53687091, 4, false⟩ /- RS -/,
  ⟨0x006, 0, 0, 2142114939, 107374182, 4, false⟩ /- LS -/,
  ⟨0x007, 0, 5368709, 2142114939, 268435456, 4, false⟩ /- PSIM -/,
  ⟨0x010, 1, -2147483648, 2147483647, 134217728, 7, false⟩ /- IDKP -/,
  ⟨0x011, 1, -2147483648, 2147483647, 6710886, 7, false⟩ /- IDKI -/,
  ⟨0x012, 1, -2147483648, 2147483647, 134217728, 7, false⟩ /- IQKP -/,
  ⟨0x013, 1, -2147483648, 2147483647, 6710886, 7, false⟩ /- IQKI -/,
  ⟨0x014, 0, 268435456, 536870912, 515396076, 15, false⟩ /- VLIM -/]

def parRows1 : List PRow := [
  ⟨0x015, 0, 0, 536870912, 268435456, 15, false⟩ /- IMAX -/,
  ⟨0x016, 2, 0, 1, 1, 15, false⟩ /- UNWIND -/,
  ⟨0x018, 1, -2147483648, 2147483647, 268435456, 15, false⟩ /- SPKP -/,
  ⟨0x019, 1, -2147483648, 2147483647, 1342177, 15, false⟩ /- SPKI -/,
  ⟨0x01A, 1, -2147483648, 2147483647, 0, 15, false⟩ /- KA -/,
  ⟨0x01C, 2, 0, 100000, 2000, 15, false⟩ /- POSKP -/,
  ⟨0x020, 2, 1, 1073741824, 20000, 15, false⟩ /- VMAX -/,
  ⟨0x021, 2, 1, 1073741824, 40000, 15, false⟩ /- AMAX -/,
  ⟨0x022, 2, 1, 1073741824, 40000, 15, false⟩ /- DMAX -/,
  ⟨0x023, 2, 1, 1073741824, 400000, 15, false⟩ /- JMAX -/,
  ⟨0x024, 2, 1, 1073741824, 40000, 15, false⟩ /- DSTOP -/,
  ⟨0x025, 2, 1, 1073741824, 200000, 15, false⟩ /- DOBS -/]

def parRows2 : List PRow := [
  ⟨0x030, 3, 0, 4294967295, 0, 9, false⟩ /- HALLOFS -/,
  ⟨0x031, 2, 0, 1, 0, 9, true⟩ /- HALLDIR -/,
  ⟨0x032, 2, 1, 1000, 100, 9, false⟩ /- HALLTO -/,
  ⟨0x033, 2, 16, 1048576, 4096, 2, true⟩ /- ENCCPR -/,
  ⟨0x034, 3, 0, 4294967295, 0, 2, false⟩ /- ENCOFS -/,
  ⟨0x035, 2, 0, 1024, 4, 2, false⟩ /- ENCZTOL -/,
  ⟨0x036, 0, 0, 536870912, 107374182, 2, false⟩ /- IALIGN -/,
  ⟨0x037, 2, 10, 5000, 300, 2, false⟩ /- TALIGN -/,
  ⟨0x040, 1, 0, 2147483647, 67108864, 4, false⟩ /- OBSG -/,
  ⟨0x041, 2, 10, 2000, 200, 4, false⟩ /- PLLBW -/,
  ⟨0x042, 2, 2, 40, 10, 4, false⟩ /- IPDPW -/,
  ⟨0x043, 2, 4, 255, 40, 4, false⟩ /- IPDGAP -/]

def parRows3 : List PRow := [
  ⟨0x044, 0, 0, 536870912, 10737418, 4, false⟩ /- IPDMIN -/,
  ⟨0x045, 0, 0, 536870912, 161061274, 4, false⟩ /- IIF -/,
  ⟨0x046, 2, 1, 10000, 100, 4, false⟩ /- IFACC -/,
  ⟨0x047, 2, 10, 2000, 300, 4, false⟩ /- SLHAND -/,
  ⟨0x048, 2, 1, 500, 50, 4, false⟩ /- BLENDT -/,
  ⟨0x050, 2, 1, 255, 8, 15, false⟩ /- OCFN -/,
  ⟨0x051, 0, 2684355, 536870912, 26843546, 15, false⟩ /- ISUMLIM -/,
  ⟨0x052, 2, 100, 140, 130, 15, false⟩ /- DERATET0 -/,
  ⟨0x053, 0, 53687091, 536870912, 268435456, 15, false⟩ /- DERATEMIN -/,
  ⟨0x058, 2, 0, 1073741824, 200, 15, false⟩ /- STALLSPD -/,
  ⟨0x059, 0, 0, 536870912, 161061274, 15, false⟩ /- STALLI -/,
  ⟨0x05A, 2, 10, 5000, 200, 15, false⟩ /- STALLT -/]

def parRows4 : List PRow := [
  ⟨0x060, 2, 1, 1073741824, 5000, 15, false⟩ /- LEARNSPD -/,
  ⟨0x061, 2, 1, 4, 2, 15, false⟩ /- LEARNPASS -/,
  ⟨0x062, 0, 0, 536870912, 26843546, 15, false⟩ /- OBSMIN -/,
  ⟨0x063, 0, 0, 536870912, 134217728, 15, false⟩ /- OBSFRAC -/,
  ⟨0x064, 2, 1, 16, 1, 15, false⟩ /- OBSN -/,
  ⟨0x065, 2, 0, 2000, 100, 15, false⟩ /- OBSBLANK -/,
  ⟨0x066, 2, 0, 1, 1, 15, false⟩ /- OBSREACT -/,
  ⟨0x067, 2, 0, 1073741824, 0, 15, false⟩ /- REVDIST -/,
  ⟨0x068, 0, 0, 134217728, 10737418, 15, false⟩ /- ENDZONE -/,
  ⟨0x06C, 2, 0, 1, 0, 15, true⟩ /- CLOSEDIR -/,
  ⟨0x070, 2, 0, 1, 1, 15, false⟩ /- HOLDMODE -/,
  ⟨0x071, 0, 0, 536870912, 53687091, 15, false⟩ /- IHOLD -/]

def parRows5 : List PRow := [
  ⟨0x072, 2, 0, 1000, 100, 15, false⟩ /- HOLDRAMP -/,
  ⟨0x078, 2, 8000, 96000, 56000, 15, false⟩ /- VBRKSTART -/,
  ⟨0x079, 2, 8000, 96000, 60000, 15, false⟩ /- VBRKFULL -/,
  ⟨0x07A, 2, 8000, 96000, 54000, 15, false⟩ /- VREGLIM -/,
  ⟨0x090, 1, -2147483648, 2147483647, 67108864, 8, false⟩ /- SSKP -/,
  ⟨0x091, 1, -2147483648, 2147483647, 2684355, 8, false⟩ /- SSKI -/]

def parRows : List PRow := parRows0 ++ parRows1 ++ parRows2 ++ parRows3 ++ parRows4 ++ parRows5

/-- The entry of a row for axis n of standard mould k (R155). -/
def PRow.ent (r : PRow) (k n : Nat) : ParEnt :=
  { id := 0x1000 * (n + 1) + r.p, xofs := (Config.stdXofs k (0x1000 * (n + 1) + r.p)).val, fmt := r.fmt, dir := 0
    min := BitVec.ofInt 32 r.min, max := BitVec.ofInt 32 r.max, dflt := BitVec.ofInt 32 r.dflt }

/-- An inbound device-wide entry and an outbound status entry (Table 6-10). -/
def devEnt (k id fmt : Nat) (lo hi d : Int) : ParEnt :=
  { id, xofs := (Config.stdXofs k id).val, fmt, dir := 0, min := BitVec.ofInt 32 lo, max := BitVec.ofInt 32 hi, dflt := BitVec.ofInt 32 d }
def statEnt (k n p fmt : Nat) : ParEnt :=
  { id := 0x1000 * (n + 1) + p, xofs := 2048 + (Config.stdXofs k (0x1000 * (n + 1) + p)).val, fmt, dir := 1, min := 0x80000000, max := 0x7FFFFFFF, dflt := 0 }

/-- Parameters of one axis of standard mould k, with its status entries. -/
def stdAxisPar (k n : Nat) : List ParEnt :=
  ((parRows.filter fun r => r.moulds.getLsbD k).map fun r => r.ent k n) ++
    [statEnt k n 0x080 2, statEnt k n 0x081 2, statEnt k n 0x0C0 2, statEnt k n 0x0C1 0, statEnt k n 0x0C2 0,
      statEnt k n 0x0C3 0, statEnt k n 0x0C4 0, statEnt k n 0x0C5 2, statEnt k n 0x0C6 2]

/-- All parameters of standard mould k (R206). -/
def stdPar (k : Nat) : List ParEnt :=
  [devEnt k 0x0001 2 0 15 0, devEnt k 0x0002 0 0 536870912 134217728, devEnt k 0x0003 0 0 536870912 456340275,
    devEnt k 0x0004 2 0 1 1] ++ stdAxisPar k 0 ++ stdAxisPar k 1 ++ stdAxisPar k 2 ++ stdAxisPar k 3

/-- The rate code of m = 0 to 3 (04 R132). -/
def stdRate (m : Nat) : BitVec 3 := match m with | 0 => 2 | 1 => 3 | 2 => 4 | _ => 6

/-- OPS of standard mould k (04 Table 4-7). -/
def stdOps (k : Nat) : Nat := match k with | 0 => 8100 | 1 => 8700 | 2 => 11400 | _ => 3600

/-- The name "PROFn", padded with zeros (06 R193). -/
def profName (n : Nat) : List Byte :=
  [0x50, 0x52, 0x4F, 0x46, BitVec.ofNat 8 (0x30 + n), 0, 0, 0, 0, 0, 0, 0, 0, 0, 0, 0]

/-- A name of at most 16 ASCII characters, padded with zeros. -/
def nameOf (s : String) : List Byte :=
  ((s.toList.map fun (c : Char) => BitVec.ofNat 8 c.toNat) ++ List.replicate 16 0).take 16

/-- A KIND 3 entry whose words the spec does not place: no words here, its name decides (06 R592, log entry 27). -/
def nameEnt (s : String) (n : Nat) : CarEnt :=
  { name := nameOf (s ++ toString n), kind := 3, fmt := 0, count := 0, loc := 0 }

/-- MOTn by position unit, and the compensator states by loop and form, of axis n (05 R152, 06 R592). -/
def stdCarAxis (k n : Nat) : List CarEnt :=
  let mot := if k = 1 then "MOTENC" else if k = 3 then "MOTEDGE" else "MOTTURN"
  let loops := if k = 3 then ["POS2P2Z", "SPD3P3Z", "BUS3P3Z"] else ["POS2P2Z", "SPD3P3Z", "D3P3Z", "Q3P3Z"]
  nameEnt mot n :: loops.map fun l => nameEnt l n

/-- First word of the profiles of axis n (06 R193). -/
def profBase (n : Nat) : Nat := 0x8000 + 0x800 * n

/-- The range descriptors RD3 to RD10 (06 R193). -/
def stdRd : List (Option Rng) :=
  [none, none, none] ++ ((List.range 8).map fun j => some ⟨0x8000 + 0x400 * j, 0x400⟩) ++
    [none, none, none, none, none]

/-- Sync offsets of standard mould code c, kept inside Table 4-1 (log entry 11). -/
def stdOffsets (c tper : Nat) : Four Nat :=
  let a := Config.stdOfs c 1 % tper
  let b := Nat.max a (Config.stdOfs c 2 % tper)
  ⟨0, a, b, Nat.max b (Config.stdOfs c 3 % tper)⟩

/-- What the device holds of standard mould code c = 4 k + m (04 R132, 06 R193, 10 R305). -/
def stdInfo (c : Nat) : MouldInfo :=
  let k := c / 4
  let rate := stdRate (c % 4)
  let tper := tperOf rate
  { std := some k
    id := Config.stdMouldId c
    ver := Config.stdMouldVer c
    imgLen := Nat.min (Config.stdLen c) 65536
    tper := tper
    rate := rate
    axmask := 0xF
    upl := 800
    xp := tper - 500
    dld := tper - 600
    ofs := stdOffsets c tper
    psigx := Config.stdPsigx c
    ops := stdOps k
    xu4 := Config.stdXu4Ops c % tper
    trange := ⟨0x8000, 0x2000⟩
    xin := 2048
    xout := 2048
    rd := stdRd
    seqreg := [0x008B, 0x008B]
    par := stdPar k
    car := ((List.range 4).map fun n => { name := profName n, kind := 3, fmt := 0, count := 2048, loc := profBase n }) ++
      (List.range 4).flatMap (stdCarAxis k) }

/-! ### Values -/

/-- The entry of an ID in a mould. -/
def MouldInfo.ent (m : MouldInfo) (id : Nat) : Option ParEnt := m.par.find? fun e => decide (e.id = id)

/-- MIN ≤ v ≤ MAX in the entry's format: angles unsigned, the others signed (04 Table 4-3). -/
def ParEnt.inRange (e : ParEnt) (v : Word) : Bool :=
  if e.fmt = 3 then decide (e.min.toNat ≤ v.toNat) && decide (v.toNat ≤ e.max.toNat)
  else decide (e.min.toInt ≤ v.toInt) && decide (v.toInt ≤ e.max.toInt)

/-- The value MGMT writes for an entry: the one it holds, inside the range, or DEFAULT (04 R109). -/
def parValue (held : Sparse (Option Word)) (e : ParEnt) : Word :=
  match Sparse.get none e.id held with
  | some v => if e.inRange v then v else e.dflt
  | none => e.dflt

/-- System parameters (11 Table 11-11, 20 Table 20-7): range and default. BOOTMOULD takes the SRC codes but 0x00
(11 R365). -/
def sysParOk (id : Nat) (v : Word) : Bool :=
  let x := v.toNat
  if id = 0xF001 then decide (x = 0) || (decide (10 ≤ x) && decide (x ≤ 10000))
  else if id = 0xF002 then decide (x ≤ 1)
  else if id = 0xF003 then decide (x ≤ 2)
  else if id = 0xF004 then
    (decide (0x10 ≤ x) && decide (x ≤ 0x13)) || (decide (0x20 ≤ x) && decide (x ≤ 0x2F)) || decide (x = 0xFF)
  else if id = 0xF005 then decide (x ≤ 6)
  else if id = 0xF009 then decide (x ≤ 15)
  else decide (x ≤ 1)

def sysParDflt (id : Nat) : Word :=
  match id with
  | 0xF001 => 1000
  | 0xF002 => 1
  | 0xF004 => 0xFF
  | 0xF005 => 3
  | 0xF008 => 1
  | 0xF009 => 15
  | _ => 0

def isSysPar (id : Nat) : Bool := decide (0xF001 ≤ id) && decide (id ≤ 0xF009)

/-- A system parameter as MGMT holds it (11 R367). -/
def sysValue (held : Sparse (Option Word)) (id : Nat) : Word :=
  match Sparse.get none id held with
  | some v => if sysParOk id v then v else sysParDflt id
  | none => sysParDflt id

/-- EVPOUR0 to EVPOUR7 (15 R452). -/
def isEvpour (id : Nat) : Bool := decide (0xF100 ≤ id) && decide (id ≤ 0xF107)

/-- POSCLOSED and POSOPEN of an axis (06 R587): the axis, and whether it is POSOPEN. -/
def posId (id : Nat) : Option (Fin 4 × Bool) :=
  let n := id / 0x1000
  if 1 ≤ n ∧ n ≤ 4 then
    if id % 0x1000 = 0x080 then some (⟨(n - 1) % 4, Nat.mod_lt _ (by decide)⟩, false)
    else if id % 0x1000 = 0x081 then some (⟨(n - 1) % 4, Nat.mod_lt _ (by decide)⟩, true)
    else none
  else none

/-! ### Filling and publishing a buffer -/

/-- The keys of kth and of FBASE's position base of axis n, of the inbound profile block, and of the outbound block of
axis n, in a standard mould's words (log entry 18). -/
def kthKey (n : Nat) : Nat := 0x10000 + n
def posBaseKey (n : Nat) : Nat := 0x11000 + n
def profHdrKey : Nat := 0x20000
def profPairKey (opened : Bool) : Nat := if opened then 0x20002 else 0x20001
def profKey (i : Nat) : Nat := 0x20010 + i
def profRunKey : Nat := 0x20003
def outHdrKey (n b : Nat) : Nat := 0x30000 + 0x1000 * n + b
def outKey (n i : Nat) : Nat := 0x30100 + 0x1000 * n + i

/-- SYS cycles per second. -/
def cyS : Nat := 200000000

/-- A rate per second to the power k as 2^-64 per tick to the power k. -/
def perTick (k per : Nat) (x : Int) : Int := stdRound (x * 2 ^ 64 * per ^ k) (cyS ^ k)

/-- Milliseconds in ticks, rounded up. -/
def ticksOf (per : Nat) (ms : Int) : Nat := (ms.toNat * 200000 + per - 1) / per

/-- The internal value of parameter number p (06 R156): voltages on the base of Table 6-1; speeds, accelerations, jerks and
frequencies per tick in 2^-64 units; times in ticks; HALLTO and IPDPW in cycles; RSHUNT as the current base it sets, in
2^-16 A; POSKP as b0 on the bases of log entry 135, in Q4.27 (05 R143). -/
def stdInternal (per p : Nat) (x : Int) : Int :=
  if [0x003, 0x078, 0x079, 0x07A].contains p then stdRound (x * 2 ^ 29) 96000
  else if [0x004, 0x020, 0x041, 0x058, 0x060].contains p then perTick 1 per x
  else if [0x021, 0x022, 0x024, 0x025, 0x046].contains p then perTick 2 per x
  else if p = 0x023 then perTick 3 per x
  else if p = 0x047 then stdRound (x * 2 ^ 64 * per) (10 * cyS)
  else if p = 0x01C then nearEven (x * 2 ^ 27) 6400
  else if p = 0x002 then stdRound (160000 * 2 ^ 16) x.toNat
  else if p = 0x032 then x * 200000
  else if p = 0x042 then x * 200
  else if [0x037, 0x048, 0x05A, 0x065, 0x072].contains p then ticksOf per x
  else x

/-- Inbound words of a custom mould: each PARAM entry's value, the Pour image, zeros elsewhere (01 R589). -/
def fillCustom (s : State) (m : MouldInfo) : Mem :=
  m.par.foldl (fun b e =>
    if e.dir = 0 then
      b.putWord (4 * e.xofs)
        (if isEvpour e.id then evWord s.evm.pour (e.id - 0xF100) else parValue s.mgmt.par e)
    else b) []

/-- The axis whose profile is streamed in next (06 R194): not while the mould's own new one comes out. -/
def State.streamAxis (s : State) : Option (Fin 4) :=
  axes.find? fun n => decide (0 < (s.mgmt.travel.get n).inLeft) && decide ((s.mgmt.travel.get n).outGot = BitVec.allOnes 32)

/-- The block of 64 profile points due, with the pair of the store, and whether the store holds a profile (06 R194,
R587). -/
def fillBlock (n : Fin 4) (t : Travel) (b : Sparse Int) : Sparse Int :=
  let base := 2048 - t.inLeft
  let c := (List.range 64).foldl (fun c i => Sparse.put 0 (profKey i) (Sparse.get 0 (base + i) t.prof).toInt c) b
  let d := Sparse.put 0 (profPairKey true) t.opened.toInt (Sparse.put 0 (profPairKey false) t.closed.toInt c)
  Sparse.put 0 profHdrKey (1 + 64 * n.val + 2 * (base / 64) + (if t.have_ then 1 else 0) : Nat)
    (Sparse.put 0 profRunKey (t.outRun : Int) d)

/-- Inbound words of a standard mould: parameters as internal values, kth, the position base, and a profile block (06
R156, R187, R194). -/
def fillStd (s : State) (m : MouldInfo) : Sparse Int :=
  let a := m.par.foldl (fun b e =>
    if e.dir = 0 then
      Sparse.put 0 e.id (stdInternal m.tper (if e.id < 0x1000 then 0 else e.id % 0x1000) (parValue s.mgmt.par e).toInt) b
    else b) []
  let fb (n : Fin 4) : Int := match m.ent (0x1000 * (n.val + 1) + 0x004) with
    | some e => (parValue s.mgmt.par e).toInt
    | none => 0
  let b := axes.foldl (fun b n =>
    Sparse.put 0 (posBaseKey n.val) (fb n) (Sparse.put 0 (kthKey n.val) (s.mgmt.kth.get n).toInt b)) a
  match s.streamAxis with
  | none => b
  | some n => fillBlock n (s.mgmt.travel.get n) b

/-- A buffer whose inbound half MGMT has written in the mould's layout (01 R589). -/
def State.filled (s : State) (m : MouldInfo) (x : XBuf) : XBuf :=
  match m.std with
  | none => { x with inb := fillCustom s m, inId := [], step := ⟨{}, {}, {}, {}⟩ }
  | some _ => { x with inb := [], inId := fillStd s m, step := s.mgmt.jax.map JobAx.step }

/-- The travels of the axes as the active buffer's block has reached the mould. -/
def State.travelSent (s : State) : Four Travel :=
  match s.streamAxis with
  | none => s.mgmt.travel
  | some n =>
    let t := s.mgmt.travel.get n
    let h := Sparse.get 0 profHdrKey s.xAct.inId
    if h = 1 + 64 * (n.val : Int) + 2 * ((2048 - t.inLeft) / 64 : Nat) + (if t.have_ then 1 else 0) then
      s.mgmt.travel.set n { t with inLeft := t.inLeft - 64 }
    else s.mgmt.travel

/-- The block that a buffer brings to the mould as it becomes active is no longer due (06 R194). -/
def State.streamed (s : State) : State := { s with mgmt := { s.mgmt with travel := s.travelSent } }

/-- The Pour image is cleared as MGMT writes it (15 R452), where the mould declares any of EVPOUR0 to EVPOUR7. -/
def State.imageTaken (s : State) (m : MouldInfo) : State :=
  if m.par.any fun e => isEvpour e.id then { s with evm := { s.evm with pour := 0 } } else s

/-- MGMT writes the inactive buffer for mould `m` and publishes it (01 R25, R27). -/
def State.publishFor (s : State) (m : MouldInfo) (k : Pub) : State :=
  let s2 := (s.setXInact (s.filled m s.xInact)).imageTaken m
  { s2 with exch := { s2.exch with pub := k }, mgmt := { s2.mgmt with pubWanted := false, pubDone := true } }

/-- PUBLISH: an ordinary publication, while none stands (R25). With no mould active it has no effect (R590). -/
def execPublish (s : State) : Res :=
  match s.moulds.active with
  | none => .next s
  | some m => if s.exch.pub = .none then .next (s.publishFor m .ordinary) else .next s

/-- BOUNDARY_PUBLISH (R27): once, while a live swap is armed, and no later than cy 0 of tick 15. It replaces an ordinary
publication still pending: that one ends, and its lock with it, and MGMT writes the buffer in the new mould's layout (log
entry 133). -/
def execBoundaryPublish (s : State) : Res :=
  match s.moulds.pend with
  | some ⟨.live, some m, 1, _, _, _, _, _⟩ =>
    if s.exch.pub = .boundary ∨ (s.tick.hidx = 15 ∧ 0 < s.tick.cy) then .next s
    else .next (s.publishFor m .boundary)
  | _ => .next s

/-- The inactive buffer's outbound half goes into the telemetry mirror (13 R412): every word of it, whichever mould wrote
it (01 R28). -/
def State.snapshot (s : State) : State :=
  { s with exch := { s.exch with telem := s.xInact.outb, telemHeat := s.tick.heat } }

/-- The buffers swap at XP if an ordinary publication stands (R26). -/
def State.swapAtXp (s : State) : State :=
  if s.exch.pub = .ordinary ∧ s.exch.swapped = false then
    ({ s with exch := { s.exch with act := !s.exch.act, pub := .none, swapped := true } } : State).streamed
  else s

/-- Cycle XP of the tick passes, once (R26): an ordinary publication swaps the buffers, and in tick 15 MGMT then takes the
telemetry snapshot (13 R412). -/
def State.passXp (s : State) : State :=
  if s.exch.xpPast then s
  else
    let s1 := ({ s with exch := { s.exch with xpPast := true } } : State).swapAtXp
    if s.tick.hidx = 15 then s1.snapshot else s1

/-- A landmark of the tick is reached; from XP on the swap of the tick is over (02 R57). -/
def State.reachXp (c : Nat) (s : State) : State :=
  match s.moulds.active with
  | some m => (if m.xp ≤ c then s.passXp else s).reach c
  | none => s.reach c

/-- The bundles before XP have all issued (02 R57). -/
def State.atXp (s : State) (m : MouldInfo) : Bool := !s.bundlesCount || decide (m.xp ≤ s.pour.nextCy)

/-- EXCHANGE_SWAP (R26): cycle XP of the tick. -/
def execExchangeSwap (s : State) : Res :=
  match s.moulds.active with
  | none => .next s
  | some m => if s.tick.on && !s.exch.xpPast && s.atXp m then .next (s.passXp.reach m.xp) else .next s

end Sys2Proof.Machine
end

