-- ==== Sys2Proof/Machine/PourAlu.lean ====
section
/-! DEFINITION. XU0 to XU3 (03 Tables 3-5 to 3-7): one shared operation per shape, then one definition per operation
as a slot executes it, then one meaning per row of the table: the operation issued alone in the current cycle. -/

namespace Sys2Proof.Machine

/-! ### Shapes -/

/-- Run `f` when the guard is true; a false guard leaves everything as it is (02 R51). -/
def guarded (g : Guard) (f : State → State) (s : State) : Res := .next (if s.guardOk g then f s else s)

/-- An accumulator result from an exact value: saturates to Q8.56, and SAT tells of either saturation (02 R73, R74). -/
def accResult (u : Bool) (k : BitVec 2) (x : Int × Bool) (s : State) : State :=
  let r := satA x.1
  (s.setAcc u k r.1).setSat (r.2 || x.2)

/-- A V result with latency `lat` on `unit`, with its SAT condition. -/
def vResult (lat unit : Nat) (d : BitVec 6) (sh : Nat) (x : Word × Bool) (s : State) : State :=
  (s.later lat unit (.v d sh x.1)).setSat x.2

/-- An XU3 result in VD (03 R96). -/
def xu3 (g : Guard) (d : BitVec 6) (f : State → Word × Bool) (s : State) : Res :=
  guarded g (fun s => vResult 1 3 d 0 (f s) s) s

/-- An XU3 predicate result (03 R96). -/
def xu3p (g : Guard) (pd : BitVec 3) (f : State → Bool) (s : State) : Res :=
  guarded g (fun s => s.later 1 3 (.p pd (f s))) s

/-- An XU2 result in VD (03 R95). -/
def xu2 (g : Guard) (d : BitVec 6) (f : State → Word × Bool) (s : State) : Res :=
  guarded g (fun s => vResult 12 2 d 0 (f s) s) s

/-- The first register past VD that an operation also writes must exist (03 R90). -/
def needReg (d : BitVec 6) (n : Nat) (r : Res) : Res := if d.toNat + n < 64 then r else .fault .registerBeyondV63

/-! ### XU0 and XU1 (Table 3-5) -/

/-- MUL, MAC and MSU by what they do with the aligned product (03 R92, R93). -/
def opProd (u : Bool) (g : Guard) (k : BitVec 2) (a b : BitVec 6) (sc : BitVec 2) (rm : Bool)
    (f : Int → Int → Int) (s : State) : Res :=
  if sc = 3 then .fault .reservedProductMode
  else guarded g (fun s =>
    let p := product (s.vreg a) (s.vreg b) sc rm
    accResult u k (f (s.acc u k).toInt p.1, p.2) s) s

def opMul (u : Bool) (g : Guard) (k : BitVec 2) (a b : BitVec 6) (sc : BitVec 2) (rm : Bool) (s : State) : Res :=
  opProd u g k a b sc rm (fun _ p => p) s

def opMac (u : Bool) (g : Guard) (k : BitVec 2) (a b : BitVec 6) (sc : BitVec 2) (rm : Bool) (s : State) : Res :=
  opProd u g k a b sc rm (fun x p => x + p) s

def opMsu (u : Bool) (g : Guard) (k : BitVec 2) (a b : BitVec 6) (sc : BitVec 2) (rm : Bool) (s : State) : Res :=
  opProd u g k a b sc rm (fun x p => x - p) s

/-- Ak := (VC << 27) + VA × VB. -/
def opMadv (u : Bool) (g : Guard) (k : BitVec 2) (a b c : BitVec 6) (s : State) : Res :=
  guarded g (fun s =>
    accResult u k ((s.vreg c).toInt * 2 ^ 27 + (s.vreg a).toInt * (s.vreg b).toInt, false) s) s

/-- VD := the product moved to Q2.29; SS = 1 takes S×S, rounded at the alignment and at the move. -/
def opMulv (u : Bool) (g : Guard) (d a b : BitVec 6) (ss rm : Bool) (s : State) : Res :=
  guarded g (fun s =>
    let p := (product (s.vreg a) (s.vreg b) (if ss then 1 else 0) rm).1
    vResult 3 (macUnit u) d 0 (satW (roundShift p 27 rm)) s) s

/-- VD := Ak moved to Q2.29 or Q4.27; with H the old VD moves up (02 R75). -/
def opMova (u : Bool) (g : Guard) (d : BitVec 6) (k : BitVec 2) (rm f h : Bool) (s : State) : Res :=
  needReg d (if h then 1 else 0) (guarded g (fun s =>
    vResult 3 (macUnit u) d (if h then 1 else 0) (moveAcc (s.acc u k) (if f then 29 else 27) rm) s) s)

/-- As MOVA to Q2.29, then clamped; PD tells of either change, SAT of the format saturation only. -/
def opMovac (u : Bool) (g : Guard) (d : BitVec 6) (k : BitVec 2) (rm h : Bool) (l : BitVec 5) (pd : BitVec 3)
    (s : State) : Res :=
  needReg d (if h then 1 else 0) (guarded g (fun s =>
    let q := moveAcc (s.acc u k) 27 rm
    let c := clampPair (s.limLo l) (s.limHi l) q.1
    ((s.later 3 (macUnit u) (.v d (if h then 1 else 0) c.1)).later 3 (macUnit u) (.p pd (q.2 || c.2))).setSat q.2) s)

/-- Ak := VA << 27. -/
def opLda (u : Bool) (g : Guard) (k : BitVec 2) (a : BitVec 6) (s : State) : Res :=
  guarded g (fun s => s.setAcc u k (BitVec.ofInt 64 ((s.vreg a).toInt * 2 ^ 27))) s

def opClra (u : Bool) (g : Guard) (k : BitVec 2) (s : State) : Res := guarded g (fun s => s.setAcc u k 0) s

def opAdda (u : Bool) (g : Guard) (k j : BitVec 2) (s : State) : Res :=
  guarded g (fun s => accResult u k ((s.acc u k).toInt + (s.acc u j).toInt, false) s) s

/-! ### XU2 (Table 3-6) -/

def opSincos (g : Guard) (d a : BitVec 6) (s : State) : Res :=
  needReg d 1 (guarded g (fun s => s.later 12 2 (.pair d (xuSin (s.vreg a)) (xuCos (s.vreg a)))) s)

def opAtan2 (g : Guard) (d a b : BitVec 6) (s : State) : Res := xu2 g d (fun s => xuAtan2 (s.vreg a) (s.vreg b)) s
def opSqrt (g : Guard) (d a : BitVec 6) (s : State) : Res := xu2 g d (fun s => xuSqrt (s.vreg a)) s
def opRecip (g : Guard) (d a : BitVec 6) (s : State) : Res := xu2 g d (fun s => xuRecip (s.vreg a)) s
def opMag (g : Guard) (d a b : BitVec 6) (s : State) : Res := xu2 g d (fun s => xuMag (s.vreg a) (s.vreg b)) s

/-! ### XU3 (Table 3-7) -/

def opAdd (g : Guard) (d a b : BitVec 6) (s : State) : Res :=
  xu3 g d (fun s => satW ((s.vreg a).toInt + (s.vreg b).toInt)) s
def opSub (g : Guard) (d a b : BitVec 6) (s : State) : Res :=
  xu3 g d (fun s => satW ((s.vreg a).toInt - (s.vreg b).toInt)) s
def opAddw (g : Guard) (d a b : BitVec 6) (s : State) : Res := xu3 g d (fun s => (s.vreg a + s.vreg b, false)) s
def opSubw (g : Guard) (d a b : BitVec 6) (s : State) : Res := xu3 g d (fun s => (s.vreg a - s.vreg b, false)) s
def opNeg (g : Guard) (d a : BitVec 6) (s : State) : Res := xu3 g d (fun s => satW (-(s.vreg a).toInt)) s
def opAbs (g : Guard) (d a : BitVec 6) (s : State) : Res :=
  xu3 g d (fun s => satW ((s.vreg a).toInt.natAbs : Nat)) s
def opMin (g : Guard) (d a b : BitVec 6) (s : State) : Res :=
  xu3 g d (fun s => (if (s.vreg b).toInt < (s.vreg a).toInt then s.vreg b else s.vreg a, false)) s
def opMax (g : Guard) (d a b : BitVec 6) (s : State) : Res :=
  xu3 g d (fun s => (if (s.vreg a).toInt < (s.vreg b).toInt then s.vreg b else s.vreg a, false)) s

/-- VD := VA limited to pair L, and PD := the limit acted (03 R94). -/
def opClamp (g : Guard) (d a : BitVec 6) (l : BitVec 5) (pd : BitVec 3) (s : State) : Res :=
  guarded g (fun s =>
    let c := clampPair (s.limLo l) (s.limHi l) (s.vreg a)
    (s.later 1 3 (.v d 0 c.1)).later 1 3 (.p pd c.2)) s

/-- P(4 + S) chooses (03 R97). -/
def opSel (g : Guard) (d a b : BitVec 6) (n : BitVec 2) (s : State) : Res :=
  xu3 g d (fun s => (if s.pred (4 + n.toNat) then s.vreg a else s.vreg b, false)) s

def opMov (g : Guard) (d a : BitVec 6) (s : State) : Res := xu3 g d (fun s => (s.vreg a, false)) s

def opPush (g : Guard) (d a : BitVec 6) (s : State) : Res :=
  needReg d 1 (guarded g (fun s => vResult 1 3 d 1 (s.vreg a, false) s) s)

def opSubh (g : Guard) (d a b : BitVec 6) (s : State) : Res :=
  needReg d 2 (guarded g (fun s => vResult 1 3 d 2 (satW ((s.vreg a).toInt - (s.vreg b).toInt)) s) s)

def opAnd (g : Guard) (d a b : BitVec 6) (s : State) : Res := xu3 g d (fun s => (s.vreg a &&& s.vreg b, false)) s
def opOr (g : Guard) (d a b : BitVec 6) (s : State) : Res := xu3 g d (fun s => (s.vreg a ||| s.vreg b, false)) s
def opXor (g : Guard) (d a b : BitVec 6) (s : State) : Res := xu3 g d (fun s => (s.vreg a ^^^ s.vreg b, false)) s
def opAndn (g : Guard) (d a b : BitVec 6) (s : State) : Res := xu3 g d (fun s => (s.vreg a &&& ~~~s.vreg b, false)) s

def opShl (g : Guard) (d a : BitVec 6) (sh : BitVec 5) (s : State) : Res :=
  xu3 g d (fun s => satW ((s.vreg a).toInt * 2 ^ sh.toNat)) s
def opShr (g : Guard) (d a : BitVec 6) (sh : BitVec 5) (s : State) : Res :=
  xu3 g d (fun s => ((s.vreg a).sshiftRight sh.toNat, false)) s
def opShll (g : Guard) (d a : BitVec 6) (sh : BitVec 5) (s : State) : Res :=
  xu3 g d (fun s => (s.vreg a <<< sh.toNat, false)) s
def opShrl (g : Guard) (d a : BitVec 6) (sh : BitVec 5) (s : State) : Res :=
  xu3 g d (fun s => (s.vreg a >>> sh.toNat, false)) s
def opShrr (g : Guard) (d a : BitVec 6) (sh : BitVec 5) (s : State) : Res :=
  xu3 g d (fun s => (BitVec.ofInt 32 (roundShift (s.vreg a).toInt sh.toNat false), false)) s

def opLdi (g : Guard) (d : BitVec 6) (imm : BitVec 14) (s : State) : Res :=
  xu3 g d (fun _ => (imm.signExtend 32, false)) s
def opLui (g : Guard) (d : BitVec 6) (imm : BitVec 14) (s : State) : Res :=
  xu3 g d (fun _ => (imm.setWidth 32 <<< 18, false)) s

def opCmplt (g : Guard) (pd : BitVec 3) (a b : BitVec 6) (s : State) : Res :=
  xu3p g pd (fun s => decide ((s.vreg a).toInt < (s.vreg b).toInt)) s
def opCmple (g : Guard) (pd : BitVec 3) (a b : BitVec 6) (s : State) : Res :=
  xu3p g pd (fun s => decide ((s.vreg a).toInt ≤ (s.vreg b).toInt)) s
def opCmpeq (g : Guard) (pd : BitVec 3) (a b : BitVec 6) (s : State) : Res :=
  xu3p g pd (fun s => decide (s.vreg a = s.vreg b)) s
def opCmpne (g : Guard) (pd : BitVec 3) (a b : BitVec 6) (s : State) : Res :=
  xu3p g pd (fun s => !decide (s.vreg a = s.vreg b)) s
def opCmpltu (g : Guard) (pd : BitVec 3) (a b : BitVec 6) (s : State) : Res :=
  xu3p g pd (fun s => decide ((s.vreg a).toNat < (s.vreg b).toNat)) s
def opTstb (g : Guard) (pd : BitVec 3) (a : BitVec 6) (bit : BitVec 5) (s : State) : Res :=
  xu3p g pd (fun s => (s.vreg a).getLsbD bit.toNat) s
def opPand (g : Guard) (pd pa pb : BitVec 3) (s : State) : Res :=
  xu3p g pd (fun s => s.pred pa.toNat && s.pred pb.toNat) s
def opPor (g : Guard) (pd pa pb : BitVec 3) (s : State) : Res :=
  xu3p g pd (fun s => s.pred pa.toNat || s.pred pb.toNat) s
def opPxor (g : Guard) (pd pa pb : BitVec 3) (s : State) : Res :=
  xu3p g pd (fun s => s.pred pa.toNat ^^ s.pred pb.toNat) s

/-! ### The rows of the table: one operation in the current cycle (log entry 6) -/

def execMul (u : Bool) (g : Guard) (k : BitVec 2) (a b : BitVec 6) (sc : BitVec 2) (rm : Bool) (s : State) : Res :=
  s.pourRow (opMul u g k a b sc rm s)
def execMac (u : Bool) (g : Guard) (k : BitVec 2) (a b : BitVec 6) (sc : BitVec 2) (rm : Bool) (s : State) : Res :=
  s.pourRow (opMac u g k a b sc rm s)
def execMsu (u : Bool) (g : Guard) (k : BitVec 2) (a b : BitVec 6) (sc : BitVec 2) (rm : Bool) (s : State) : Res :=
  s.pourRow (opMsu u g k a b sc rm s)
def execMadv (u : Bool) (g : Guard) (k : BitVec 2) (a b c : BitVec 6) (s : State) : Res :=
  s.pourRow (opMadv u g k a b c s)
def execMulv (u : Bool) (g : Guard) (d a b : BitVec 6) (ss rm : Bool) (s : State) : Res :=
  s.pourRow (opMulv u g d a b ss rm s)
def execMova (u : Bool) (g : Guard) (d : BitVec 6) (k : BitVec 2) (rm f h : Bool) (s : State) : Res :=
  s.pourRow (opMova u g d k rm f h s)
def execMovac (u : Bool) (g : Guard) (d : BitVec 6) (k : BitVec 2) (rm h : Bool) (l : BitVec 5) (pd : BitVec 3) (s : State) : Res :=
  s.pourRow (opMovac u g d k rm h l pd s)
def execLda (u : Bool) (g : Guard) (k : BitVec 2) (a : BitVec 6) (s : State) : Res := s.pourRow (opLda u g k a s)
def execClra (u : Bool) (g : Guard) (k : BitVec 2) (s : State) : Res := s.pourRow (opClra u g k s)
def execAdda (u : Bool) (g : Guard) (k j : BitVec 2) (s : State) : Res := s.pourRow (opAdda u g k j s)
def execSincos (g : Guard) (d a : BitVec 6) (s : State) : Res := s.pourRow (opSincos g d a s)
def execAtan2 (g : Guard) (d a b : BitVec 6) (s : State) : Res := s.pourRow (opAtan2 g d a b s)
def execSqrt (g : Guard) (d a : BitVec 6) (s : State) : Res := s.pourRow (opSqrt g d a s)
def execRecip (g : Guard) (d a : BitVec 6) (s : State) : Res := s.pourRow (opRecip g d a s)
def execMag (g : Guard) (d a b : BitVec 6) (s : State) : Res := s.pourRow (opMag g d a b s)
def execAdd (g : Guard) (d a b : BitVec 6) (s : State) : Res := s.pourRow (opAdd g d a b s)
def execSub (g : Guard) (d a b : BitVec 6) (s : State) : Res := s.pourRow (opSub g d a b s)
def execAddw (g : Guard) (d a b : BitVec 6) (s : State) : Res := s.pourRow (opAddw g d a b s)
def execSubw (g : Guard) (d a b : BitVec 6) (s : State) : Res := s.pourRow (opSubw g d a b s)
def execNeg (g : Guard) (d a : BitVec 6) (s : State) : Res := s.pourRow (opNeg g d a s)
def execAbs (g : Guard) (d a : BitVec 6) (s : State) : Res := s.pourRow (opAbs g d a s)
def execMin (g : Guard) (d a b : BitVec 6) (s : State) : Res := s.pourRow (opMin g d a b s)
def execMax (g : Guard) (d a b : BitVec 6) (s : State) : Res := s.pourRow (opMax g d a b s)
def execClamp (g : Guard) (d a : BitVec 6) (l : BitVec 5) (pd : BitVec 3) (s : State) : Res :=
  s.pourRow (opClamp g d a l pd s)
def execSel (g : Guard) (d a b : BitVec 6) (n : BitVec 2) (s : State) : Res := s.pourRow (opSel g d a b n s)
def execMov (g : Guard) (d a : BitVec 6) (s : State) : Res := s.pourRow (opMov g d a s)
def execPush (g : Guard) (d a : BitVec 6) (s : State) : Res := s.pourRow (opPush g d a s)
def execSubh (g : Guard) (d a b : BitVec 6) (s : State) : Res := s.pourRow (opSubh g d a b s)
def execAnd (g : Guard) (d a b : BitVec 6) (s : State) : Res := s.pourRow (opAnd g d a b s)
def execOr (g : Guard) (d a b : BitVec 6) (s : State) : Res := s.pourRow (opOr g d a b s)
def execXor (g : Guard) (d a b : BitVec 6) (s : State) : Res := s.pourRow (opXor g d a b s)
def execAndn (g : Guard) (d a b : BitVec 6) (s : State) : Res := s.pourRow (opAndn g d a b s)
def execShl (g : Guard) (d a : BitVec 6) (sh : BitVec 5) (s : State) : Res := s.pourRow (opShl g d a sh s)
def execShr (g : Guard) (d a : BitVec 6) (sh : BitVec 5) (s : State) : Res := s.pourRow (opShr g d a sh s)
def execShll (g : Guard) (d a : BitVec 6) (sh : BitVec 5) (s : State) : Res := s.pourRow (opShll g d a sh s)
def execShrl (g : Guard) (d a : BitVec 6) (sh : BitVec 5) (s : State) : Res := s.pourRow (opShrl g d a sh s)
def execShrr (g : Guard) (d a : BitVec 6) (sh : BitVec 5) (s : State) : Res := s.pourRow (opShrr g d a sh s)
def execLdi (g : Guard) (d : BitVec 6) (imm : BitVec 14) (s : State) : Res := s.pourRow (opLdi g d imm s)
def execLui (g : Guard) (d : BitVec 6) (imm : BitVec 14) (s : State) : Res := s.pourRow (opLui g d imm s)
def execCmplt (g : Guard) (pd : BitVec 3) (a b : BitVec 6) (s : State) : Res := s.pourRow (opCmplt g pd a b s)
def execCmple (g : Guard) (pd : BitVec 3) (a b : BitVec 6) (s : State) : Res := s.pourRow (opCmple g pd a b s)
def execCmpeq (g : Guard) (pd : BitVec 3) (a b : BitVec 6) (s : State) : Res := s.pourRow (opCmpeq g pd a b s)
def execCmpne (g : Guard) (pd : BitVec 3) (a b : BitVec 6) (s : State) : Res := s.pourRow (opCmpne g pd a b s)
def execCmpltu (g : Guard) (pd : BitVec 3) (a b : BitVec 6) (s : State) : Res := s.pourRow (opCmpltu g pd a b s)
def execTstb (g : Guard) (pd : BitVec 3) (a : BitVec 6) (bit : BitVec 5) (s : State) : Res :=
  s.pourRow (opTstb g pd a bit s)
def execPand (g : Guard) (pd pa pb : BitVec 3) (s : State) : Res := s.pourRow (opPand g pd pa pb s)
def execPor (g : Guard) (pd pa pb : BitVec 3) (s : State) : Res := s.pourRow (opPor g pd pa pb s)
def execPxor (g : Guard) (pd pa pb : BitVec 3) (s : State) : Res := s.pourRow (opPxor g pd pa pb s)

end Sys2Proof.Machine
end

