-- ==== Sys2Proof/Machine/PourPort.lean ====
section
/-! DEFINITION. XU5: the port space of 02 Table 2-4, reads and writes (02 R63 to R69, R83; 03 R104; 07 R217 to R223),
and POUR.STAT with its group latch (02 R84). -/

namespace Sys2Proof.Machine

/-- Whether a port address is listed, and readable or writable (02 Table 2-4). -/
def portReadable (pa : Nat) : Bool :=
  (decide (pa < 0x100) && decide (pa % 0x40 ≤ 0x1D)) || decide (pa = 0x100 ∨ pa = 0x101 ∨ pa = 0x110 ∨ pa = 0x111) ||
    (decide (0x114 ≤ pa) && decide (pa ≤ 0x11F)) || (decide (0x200 ≤ pa) && decide (pa ≤ 0x27F)) ||
    (decide (0x3E0 ≤ pa) && decide (pa ≤ 0x3E4))

def portWritable (pa : Nat) : Bool :=
  (decide (0x300 ≤ pa) && decide (pa < 0x380) && decide (pa % 0x20 ≤ 4)) ||
    (decide (0x380 ≤ pa) && decide (pa ≤ 0x383)) || decide (pa = 0x3C0) || decide (pa = 0x3D0)

/-- An axis number from the low bits of an address. -/
def axOf (n : Nat) : Fin 4 := ⟨n % 4, Nat.mod_lt _ (by decide)⟩

/-- XSTAT (02 Table 2-4). -/
def State.xstat (s : State) : Word := flag 0 s.exch.swapped ||| flag 1 s.exch.act

/-- The word a port reads as (02 Table 2-4). -/
def State.portWord (s : State) (pa : Nat) : Word :=
  if pa < 0x100 then
    let p := s.pour.ax.get (axOf (pa / 0x40))
    let o := pa % 0x40
    if o < 28 then p.sens.getD o 0 else if o = 28 then p.sstat else if o = 29 then p.gstat else 0
  else if pa = 0x100 then s.conv.adrv
  else if pa = 0x101 then s.conv.adrt.setWidth 32
  else if pa = 0x110 then s.fi.state
  else if pa = 0x111 then s.fi.cls
  else if 0x114 ≤ pa ∧ pa < 0x118 then (s.hall.get (axOf (pa - 0x114))).hall
  else if 0x118 ≤ pa ∧ pa < 0x11C then (s.hall.get (axOf (pa - 0x118))).encL
  else if 0x11C ≤ pa ∧ pa < 0x120 then (s.hall.get (axOf (pa - 0x11C))).enczL
  else if 0x200 ≤ pa ∧ pa < 0x280 then s.pour.runres.getD (pa - 0x200) 0
  else if pa = 0x3E0 then s.tick.hidx.setWidth 32
  else if pa = 0x3E1 then s.tick.heat.setWidth 32
  else if pa = 0x3E2 then s.axst
  else if pa = 0x3E3 then at_ 0 s.tick.tper ||| at_ 15 s.tick.rate.toNat
  else if pa = 0x3E4 then s.xstat
  else 0

/-- R66, R313: a read of ADRV by the mould marks the result read: valid (ADRT bit 7) goes to 0. -/
def State.markRead (s : State) (pa : Nat) : State :=
  if pa = 0x100 then { s with conv := { s.conv with adrt := s.conv.adrt &&& 0x7F } } else s

/-- VD := port[PA]. -/
def opPrd (g : Guard) (d : BitVec 6) (pa : BitVec 12) (s : State) : Res :=
  if portReadable pa.toNat then
    guarded g (fun s => (s.later 2 5 (.v d 0 (s.portWord pa.toNat))).markRead pa.toNat) s
  else if portWritable pa.toNat then .fault .portWrongDirection
  else .fault .portNotListed

/-- DLD of the running mould; TPER - 600 with none (01 Table 1-2). -/
def State.dld (s : State) : Nat := s.tick.tper - 600

/-- The wrapped shadow deadline of axis n (01 R22). -/
def State.deadline (s : State) (n : Fin 4) : Nat := (s.dld + s.tick.ofs.get n) % s.tick.tper

/-- A write reaches the axis's next tick frame: it has not left, and the cycle is not past the deadline (07 R217). -/
def State.inTime (s : State) (n : Fin 4) : Bool :=
  (s.pour.ax.get n).sent || decide (s.tick.cy ≤ s.deadline n)

/-- The tick frame of axis n is due, or on the lanes (16 Table 16-3): it leaves from the cycle after the deadline on. -/
def State.frameDue (s : State) (n : Fin 4) : Bool :=
  s.tick.on && !(s.pour.ax.get n).sent && decide (s.deadline n < s.tick.cy)

/-- A message of axis n that was sent off at cycle t waits for the tick frame: the frame was due by then (16 R464). -/
def State.behindFrame (s : State) (n : Fin 4) (t : Nat) : Bool := s.frameDue n && decide (s.deadline n < t)

/-- Channel p of the CMPn writes that wait. -/
def CmpW.set (c : CmpW) (p : Nat) (x : BitVec 20) : CmpW :=
  match p with
  | 0 => { c with u := some x }
  | 1 => { c with v := some x }
  | 2 => { c with w := some x }
  | _ => { c with b := some x }

/-- A CMPn write treated as a shadow write (07 R217): for the next tick frame, or for the one after it. -/
def State.cmpShadow (s : State) (n : Fin 4) (p : Nat) (x : BitVec 20) : State :=
  if s.inTime n then s.updPort n fun a => { a with cur := a.cur.set p x }
  else s.updPort n fun a => { a with nxt := a.nxt.set p x }

/-- States that honour an immediate load (07 R221). -/
def AxState.immOk : AxState → Bool
  | .start | .test | .recovery => true
  | _ => false

/-- Immediate messages enter the lanes of axis n: a register message already on them is finished first (16 R464). -/
def State.sendImm (n : Fin 4) (l : List (Fin 4 × BitVec 20 × Nat)) (s : State) : State :=
  s.updPort n fun a => { a with
    immq := a.immq ++ l, regOn := if a.immq.isEmpty && !l.isEmpty then (s.axis n).regq.any (fun m => !m.arr) else a.regOn }

/-- A CMPn write (07 R217, R221, R223). -/
def State.cmpWrite (s : State) (n : Fin 4) (p : Fin 4) (w : Word) : State :=
  let x : BitVec 20 := w.setWidth 20
  if (s.pour.ax.get n).imm then
    if (s.axis n).st.immOk then s.sendImm n [(p, x, s.tick.cy)]
    else (s.cmpShadow n p.val x).raiseDrv n 0
  else s.cmpShadow n p.val x

/-- Mould events raised by bits 7:0 of an EVSET write (02 R83). -/
def State.evset (s : State) (w : Word) : State :=
  [0, 1, 2, 3, 4, 5, 6, 7].foldl (fun t b => t.raiseIf (w.getLsbD b) (208 + b)) s

/-- A TRACE write (02 R69): off in FIELD. -/
def State.traceWrite (s : State) (w : Word) : State :=
  if s.lc.st = 2 then s
  else { s with pour := { s.pour with
      trace := s.pour.trace.putWord (4 * s.pour.trwp.toNat) w, trwp := s.pour.trwp + 1 } }

/-- A port write (02 Table 2-4, R67 to R69). -/
def State.portWrite (s : State) (pa : Nat) (w : Word) : State :=
  if 0x300 ≤ pa ∧ pa < 0x380 then
    let n := axOf ((pa - 0x300) / 0x20)
    let p := pa % 0x20
    if p = 4 then s.updPort n fun a => { a with imm := w.getLsbD 0 } else s.cmpWrite n (axOf p) w
  else if 0x380 ≤ pa ∧ pa < 0x384 then
    let n := axOf (pa - 0x380)
    if s.inTime n && !(s.pour.ax.get n).sent then s.updPort n fun a => { a with linkctl := w.setWidth 2 } else s
  else if pa = 0x3C0 then s.evset w
  else if pa = 0x3D0 then s.traceWrite w
  else s

/-- A write that needs a listed, writable port (02 R63). -/
def portOut (g : Guard) (pa : BitVec 12) (f : State → Word) (s : State) : Res :=
  if portWritable pa.toNat then
    .next (if s.guardOk g then s.portWrite pa.toNat (f s) else s)
  else if portReadable pa.toNat then .fault .portWrongDirection
  else .fault .portNotListed

def opPwr (g : Guard) (a : BitVec 6) (pa : BitVec 12) (s : State) : Res := portOut g pa (fun s => s.vreg a) s
def opPwri (g : Guard) (imm : BitVec 8) (pa : BitVec 12) (s : State) : Res :=
  portOut g pa (fun _ => imm.setWidth 32) s

def execPrd (g : Guard) (d : BitVec 6) (pa : BitVec 12) (s : State) : Res := s.pourRow (opPrd g d pa s)
def execPwr (g : Guard) (a : BitVec 6) (pa : BitVec 12) (s : State) : Res := s.pourRow (opPwr g a pa s)
def execPwri (g : Guard) (imm : BitVec 8) (pa : BitVec 12) (s : State) : Res := s.pourRow (opPwri g imm pa s)

end Sys2Proof.Machine
end

