-- ==== Sys2Proof/Machine/Bundle.lean ====
section
/-! DEFINITION. Slot words (03 R89, Tables 3-2 to 3-9), the issue of a bundle (03 R87, 02 R42 to R49, R62) and its
part in the pour signature (02 R77). -/

namespace Sys2Proof.Machine

/-- A slot word of XU0 or XU1 (03 Table 3-5). -/
def decodeMac (u : Bool) (w : Word) : Option Instr :=
  let g := slotGuard w
  let k := sf w 18 2
  let a := sf w 12 6
  let b := sf w 6 6
  match (sf w 24 8).toNat with
  | 0x01 => some (.mul u g k a b (sf w 4 2) (w.getLsbD 3))
  | 0x02 => some (.mac u g k a b (sf w 4 2) (w.getLsbD 3))
  | 0x03 => some (.msu u g k a b (sf w 4 2) (w.getLsbD 3))
  | 0x04 => some (.madv u g k a b (sf w 0 6))
  | 0x05 => some (.mulv u g (sf w 14 6) (sf w 8 6) (sf w 2 6) (w.getLsbD 1) (w.getLsbD 0))
  | 0x08 => some (.mova u g (sf w 14 6) (sf w 12 2) (w.getLsbD 11) (w.getLsbD 10) (w.getLsbD 9))
  | 0x09 => some (.movac u g (sf w 14 6) (sf w 12 2) (w.getLsbD 11) (w.getLsbD 10) (sf w 5 5) (sf w 2 3))
  | 0x0A => some (.lda u g k a)
  | 0x0B => some (.clra u g k)
  | 0x0C => some (.adda u g k (sf w 16 2))
  | _ => none

/-- A slot word of XU2 (03 Table 3-6). -/
def decodeTrig (w : Word) : Option Instr :=
  let g := slotGuard w
  let d := sf w 14 6
  let a := sf w 8 6
  let b := sf w 2 6
  match (sf w 24 8).toNat with
  | 0x20 => some (.sincos g d a)
  | 0x21 => some (.atan2 g d a b)
  | 0x22 => some (.sqrt g d a)
  | 0x23 => some (.recip g d a)
  | 0x24 => some (.mag g d a b)
  | _ => none

/-- A slot word of XU3 (03 Table 3-7). -/
def decodeLogic (w : Word) : Option Instr :=
  let g := slotGuard w
  let d := sf w 14 6
  let a := sf w 8 6
  let b := sf w 2 6
  let sh := sf w 3 5
  let pd := sf w 17 3
  let ca := sf w 11 6
  let cb := sf w 5 6
  match (sf w 24 8).toNat with
  | 0x40 => some (.add g d a b)
  | 0x41 => some (.sub g d a b)
  | 0x42 => some (.addw g d a b)
  | 0x43 => some (.subw g d a b)
  | 0x44 => some (.neg g d a)
  | 0x45 => some (.abs g d a)
  | 0x46 => some (.min g d a b)
  | 0x47 => some (.max g d a b)
  | 0x48 => some (.clamp g d a sh (sf w 0 3))
  | 0x49 => some (.sel g d a b (sf w 0 2))
  | 0x4A => some (.mov g d a)
  | 0x4B => some (.push g d a)
  | 0x4C => some (.subh g d a b)
  | 0x50 => some (.and g d a b)
  | 0x51 => some (.or g d a b)
  | 0x52 => some (.xor g d a b)
  | 0x53 => some (.andn g d a b)
  | 0x58 => some (.shl g d a sh)
  | 0x59 => some (.shr g d a sh)
  | 0x5A => some (.shll g d a sh)
  | 0x5B => some (.shrl g d a sh)
  | 0x5C => some (.shrr g d a sh)
  | 0x60 => some (.ldi g d (sf w 0 14))
  | 0x61 => some (.lui g d (sf w 0 14))
  | 0x68 => some (.cmplt g pd ca cb)
  | 0x69 => some (.cmple g pd ca cb)
  | 0x6A => some (.cmpeq g pd ca cb)
  | 0x6B => some (.cmpne g pd ca cb)
  | 0x6C => some (.cmpltu g pd ca cb)
  | 0x6D => some (.tstb g pd ca (sf w 6 5))
  | 0x70 => some (.pand g pd (sf w 14 3) (sf w 11 3))
  | 0x71 => some (.por g pd (sf w 14 3) (sf w 11 3))
  | 0x72 => some (.pxor g pd (sf w 14 3) (sf w 11 3))
  | _ => none

/-- A slot word of XU4 (03 Table 3-8). -/
def decodeMem (w : Word) : Option Instr :=
  let g := slotGuard w
  let d := sf w 14 6
  let i := sf w 8 6
  let k := sf w 4 4
  match (sf w 24 8).toNat with
  | 0x80 => some (.ld g d (sf w 0 14))
  | 0x81 => some (.st g d (sf w 0 14))
  | 0x82 => some (.ldx g d (sf w 0 12))
  | 0x83 => some (.stx g d (sf w 0 12))
  | 0x84 => some (.ldr g d i k)
  | 0x85 => some (.str g d i k)
  | 0x86 => some (.strc g d i k (sf w 1 3) (w.getLsbD 0))
  | 0x88 => some (.tint g d i k (w.getLsbD 3))
  | _ => none

/-- A slot word of XU5 (03 Table 3-9). -/
def decodePort (w : Word) : Option Instr :=
  let g := slotGuard w
  match (sf w 24 8).toNat with
  | 0xC0 => some (.prd g (sf w 14 6) (sf w 0 12))
  | 0xC1 => some (.pwr g (sf w 14 6) (sf w 0 12))
  | 0xC2 => some (.pwri g (sf w 12 8) (sf w 0 12))
  | _ => none

/-- The operation of a slot word at unit position `u` (03 R90: OP must belong to the unit). -/
def decodeSlot (u : Nat) (w : Word) : Option Instr :=
  match u with
  | 0 => decodeMac false w
  | 1 => decodeMac true w
  | 2 => decodeTrig w
  | 3 => decodeLogic w
  | 4 => decodeMem w
  | 5 => decodePort w
  | _ => none

/-- The effect of one slot operation at the current cycle. -/
def issueOp (i : Instr) (s : State) : Res :=
  match i with
  | .mul u g k a b sc rm => opMul u g k a b sc rm s
  | .mac u g k a b sc rm => opMac u g k a b sc rm s
  | .msu u g k a b sc rm => opMsu u g k a b sc rm s
  | .madv u g k a b c => opMadv u g k a b c s
  | .mulv u g d a b ss rm => opMulv u g d a b ss rm s
  | .mova u g d k rm f h => opMova u g d k rm f h s
  | .movac u g d k rm h l pd => opMovac u g d k rm h l pd s
  | .lda u g k a => opLda u g k a s
  | .clra u g k => opClra u g k s
  | .adda u g k j => opAdda u g k j s
  | .sincos g d a => opSincos g d a s
  | .atan2 g d a b => opAtan2 g d a b s
  | .sqrt g d a => opSqrt g d a s
  | .recip g d a => opRecip g d a s
  | .mag g d a b => opMag g d a b s
  | .add g d a b => opAdd g d a b s
  | .sub g d a b => opSub g d a b s
  | .addw g d a b => opAddw g d a b s
  | .subw g d a b => opSubw g d a b s
  | .neg g d a => opNeg g d a s
  | .abs g d a => opAbs g d a s
  | .min g d a b => opMin g d a b s
  | .max g d a b => opMax g d a b s
  | .clamp g d a l pd => opClamp g d a l pd s
  | .sel g d a b n => opSel g d a b n s
  | .mov g d a => opMov g d a s
  | .push g d a => opPush g d a s
  | .subh g d a b => opSubh g d a b s
  | .and g d a b => opAnd g d a b s
  | .or g d a b => opOr g d a b s
  | .xor g d a b => opXor g d a b s
  | .andn g d a b => opAndn g d a b s
  | .shl g d a sh => opShl g d a sh s
  | .shr g d a sh => opShr g d a sh s
  | .shll g d a sh => opShll g d a sh s
  | .shrl g d a sh => opShrl g d a sh s
  | .shrr g d a sh => opShrr g d a sh s
  | .ldi g d imm => opLdi g d imm s
  | .lui g d imm => opLui g d imm s
  | .cmplt g pd a b => opCmplt g pd a b s
  | .cmple g pd a b => opCmple g pd a b s
  | .cmpeq g pd a b => opCmpeq g pd a b s
  | .cmpne g pd a b => opCmpne g pd a b s
  | .cmpltu g pd a b => opCmpltu g pd a b s
  | .tstb g pd a bit => opTstb g pd a bit s
  | .pand g pd pa pb => opPand g pd pa pb s
  | .por g pd pa pb => opPor g pd pa pb s
  | .pxor g pd pa pb => opPxor g pd pa pb s
  | .ld g d addr => opLd g d addr s
  | .st g a addr => opSt g a addr s
  | .ldx g d xofs => opLdx g d xofs s
  | .stx g a xofs => opStx g a xofs s
  | .ldr g d i k => opLdr g d i k s
  | .str g a i k => opStr g a i k s
  | .strc g a i k q qi => opStrc g a i k q qi s
  | .tint g d x k rm => opTint g d x k rm s
  | .prd g d pa => opPrd g d pa s
  | .pwr g a pa => opPwr g a pa s
  | .pwri g imm pa => opPwri g imm pa s
  | _ => .fault .undecodableBundle

/-! ### Bundles -/

/-- A bundle as it stands in CODE: header, and slot words by unit (03 R86, Table 3-1). -/
structure Bundle where
  hdr : Word
  slots : List (Nat × Word)
  deriving DecidableEq, Repr

/-- IDLE of a header. -/
def hdrIdle (h : Word) : Nat := fld h 15 6

/-- The units of a presence mask, ascending. -/
def pmaskUnits (h : Word) : List Nat := [0, 1, 2, 3, 4, 5].filter fun u => h.getLsbD u

/-- Slot words for the units listed, read off the bytes. -/
def takeSlots : List Nat → List Byte → List (Nat × Word)
  | [], _ => []
  | u :: us, l => (u, BitVec.ofNat 32 (leNat (l.take 4))) :: takeSlots us (l.drop 4)

/-- The bundle at the head of a byte string, when it is there in full. -/
def takeBundle (l : List Byte) : Option Bundle :=
  if l.length < 4 then none
  else
    let h := BitVec.ofNat 32 (leNat (l.take 4))
    let us := pmaskUnits h
    if l.length < 4 + 4 * us.length then none else some ⟨h, takeSlots us (l.drop 4)⟩

/-- Bytes a bundle occupies (02 R82). -/
def Bundle.size (b : Bundle) : Nat := 4 + 4 * b.slots.length

/-- What a bundle adds to the signature stream: header bytes, then the opcode bytes in unit order (02 R77). -/
def Bundle.stream (b : Bundle) : List Byte :=
  leBytes 4 b.hdr.toNat ++ b.slots.map fun x => x.2.extractLsb' 24 8

/-- The slot operations of a bundle, in unit order, in one cycle. -/
def issueSlots : List (Nat × Word) → State → Res
  | [], s => .next s
  | (u, w) :: t, s =>
    match decodeSlot u w with
    | none => .fault .undecodableBundle
    | some i =>
      match issueOp i s with
      | .next s1 => issueSlots t s1
      | r => r

/-- The flipped bits of the words of the program slot in use (02 R60). -/
def Pour.upsets (p : Pour) : Sparse Nat := if p.slot then p.slot1Upset else p.slot0Upset

/-- The flipped bits of the words of a bundle (02 R62): their counts. -/
def State.fetchUpsets (s : State) (b : Bundle) : List Nat :=
  (List.range (1 + b.slots.length)).map fun j => Sparse.get 0 (s.pour.boff / 4 + j) s.pour.upsets

/-- 02 R62: a double-bit error on a fetch: ECCU, EV203, and no further bundle of this pour. -/
def State.fetchCut (s : State) : State :=
  ({ s with pour := { s.pour with ended := true, cutNow := true } }).eccUncorrectable

/-- Single-bit errors of a fetch, each corrected (02 R60). -/
def State.fetchCorrect (s : State) (n : Nat) : State := (List.range n).foldl (fun t _ => t.eccCorrected) s

/-- The cycle moves on to `cy`: every result due before it is written. -/
def State.advanceTo (s : State) (cy : Nat) : State :=
  { s with pour := retire (cy - 1) s.pour, tick := { s.tick with cy := cy } }

/-- The next bundle of the running pour issues at its cycle (03 R87); from XP on it finds the buffers swapped (02 R57). -/
def issueBundle (m : MouldInfo) (s : State) : Res :=
  match takeBundle (m.code.drop s.pour.boff) with
  | none => .next { s with pour := { s.pour with ended := true } }
  | some b =>
    let cy := s.pour.nextCy
    let s0 := if m.xp ≤ cy then s.passXp else s
    let s1 := if cy = 0 then s0 else s0.advanceTo cy
    let ups := s1.fetchUpsets b
    if ups.any (fun n => decide (2 ≤ n)) then .next s1.fetchCut
    else
      let s2 := s1.fetchCorrect (ups.filter (fun n => decide (n = 1))).length
      match issueSlots b.slots s2 with
      | .next s3 =>
        .next ({ s3 with pour := { s3.pour with
            sig := crcRun s3.pour.sig b.stream
            boff := s3.pour.boff + b.size
            nextCy := cy + 1 + hdrIdle b.hdr
            ended := decide (m.code.length ≤ s3.pour.boff + b.size) } }).endCycle
      | r => r

/-- BUNDLE_ISSUE (03 R87): with a custom mould active and its pour not at its end. -/
def execBundleIssue (s : State) : Res :=
  match s.moulds.active with
  | none => .next s
  | some m => if s.pour.ended || m.std.isSome then .next s else issueBundle m s

end Sys2Proof.Machine
end

