-- ==== Sys2Proof/Machine/Gate.lean ====
section
/-! DEFINITION. The chain from the compare to the gate (07 R210 to R216, Table 7-2; 08 R252 to R257): what holds an
output off, the edges that wait in stages 3 and 4, and the gate outputs and comparators that follow. -/

namespace Sys2Proof.Machine

/-- The bridge phases in order. -/
def phases : List Phase := [.u, .v, .w]

/-- MON asserts the quench lines: a latched fault, an external pull, or CTL's request (18 R497 to R499). -/
def Mon.quench (m : Mon) : Bool := decide (m.fault ≠ 0) || m.qext || m.reqQ

/-- Fields of TCFGk (07 Table 7-8). -/
def tcEn (w : Word) : Bool := w.getLsbD 31
def tcCbc (w : Word) : Bool := w.getLsbD 30
def tcMask (w : Word) : BitVec 7 := w.setWidth 7

/-- The output group of trip source k. -/
def Axis.tripMask (a : Axis) (k : Nat) : BitVec 7 := tcMask (a.drv.tcfg.getD k 0)

/-- Union of the masks of the sources in a set (07 R238). -/
def Axis.masksOf (a : Axis) (m : BitVec 13) : BitVec 7 :=
  (List.range 13).foldl (fun acc k => if m.getLsbD k then acc ||| a.tripMask k else acc) 0

/-- Both gates of a phase as output bits. -/
def phaseBits (m : BitVec 3) : BitVec 7 := m.setWidth 7 ||| (m.setWidth 7 <<< 3)

/-- Outputs held off in the chain: latched and cycle-by-cycle trips, phases with HSTO or SHOOT, and outputs that wait for
a wrap (07 R238, R241; 08 R255 to R257). -/
def Axis.offMask (a : Axis) : BitVec 7 :=
  a.masksOf (a.drv.tflag ||| a.cbcHold) ||| phaseBits (a.drv.hsto ||| a.drv.shoot ||| a.wrapPh) ||| a.wrapOff

/-- The VM lockout holds the drivers, until the first wrap after its release (08 R274); a gate-drive test at LB-B suspends it
(19 R523). -/
def Axis.lockedOut (a : Axis) : Bool := (a.drv.vmlo || a.vmloWait) && !a.noLock

/-- One side of a phase, and its replacement. -/
def PhSt.side (p : PhSt) (high : Bool) : GateCh := if high then p.h else p.l
def PhSt.setSide (p : PhSt) (high : Bool) (g : GateCh) : PhSt := if high then { p with h := g } else { p with l := g }

/-- The output bit of a gate: HU, HV, HW, LU, LV, LW (07 R238). -/
def outBit (p : Phase) (high : Bool) : Nat := if high then (phIx p) else 3 + (phIx p)

/-- The gate command as it leaves stage 7 (07 Table 7-2). -/
def Axis.cmd7 (a : Axis) (q : Bool) (p : Phase) (high : Bool) : Bool :=
  ((a.ph.get p).side high).s4 && a.drv.ena && !q && !a.offMask.getLsbD (outBit p high)

/-- The gate itself: the command, less what holds its driver off (08 R260, R274). -/
def Axis.gateOn (a : Axis) (q : Bool) (p : Phase) (high : Bool) : Bool :=
  a.cmd7 q p high && !a.lockedOut && !(high && a.drv.fpglow.getLsbD (phIx p))

/-- The brake output (07 R228 to R231, Table 7-2). -/
def Axis.brakeOn (a : Axis) (q : Bool) : Bool :=
  (a.brk || a.drv.bhact) && a.drv.ena && !q && !a.offMask.getLsbD 6 && !a.lockedOut

/-- A rising edge arrives at stage 4: it passes when the partner has been reported off for 20 ns, and waits otherwise
(08 R253). -/
def GateCh.arrive (poff : Bool) (g : GateCh) : GateCh := { g with w3 := false, dt := false, w4 := !poff, s4 := poff }

/-- A command at the input of stage 3: a fall passes at once and cancels a waiting edge; a rise waits for the dead
time, or goes to stage 4 when DT is 0 (07 R215, Table 7-2). -/
def GateCh.drive (dt0 poff : Bool) (g : GateCh) (on : Bool) : GateCh :=
  if on then
    (if g.cmd then g else if dt0 then ({ g with cmd := true }).arrive poff else { g with cmd := true, w3 := true, dt := true, w4 := false, s4 := false })
  else { g with cmd := false, w3 := false, dt := false, w4 := false, s4 := false }

/-- DT of the axis is 0. -/
def Axis.dt0 (a : Axis) : Bool := decide (fld a.drv.dt 10 0 = 0)

/-- The commands of a phase at the input of stage 3. -/
def Axis.drivePh (a : Axis) (p : Phase) (high low : Bool) : Axis :=
  let x := a.ph.get p
  { a with ph := a.ph.set p { x with h := x.h.drive a.dt0 x.l.off high, l := x.l.drive a.dt0 x.h.off low } }

/-- The raw commands of stage 1 and 2 reach stage 3, unless a refresh replaces them: high off, low on (08 R263). -/
def Axis.drivePhase (a : Axis) (p : Phase) : Axis :=
  let x := a.ph.get p
  if x.refr = 0 then a.drivePh p x.raw (!x.raw) else a.drivePh p false true

/-- A side whose output is held off by a trip: its waiting edge and its passed command are cancelled (07 R239). Its dead time runs
on (R216). -/
def GateCh.cancel (g : GateCh) : GateCh := { g with w3 := false, w4 := false, s4 := false }

/-- Cancel the masked outputs (07 R238, R239). -/
def Axis.cancelMasked (a : Axis) (m : BitVec 7) : Axis :=
  { a with ph :=
    let f (p : Phase) : PhSt :=
      let x := a.ph.get p
      let h := if m.getLsbD (outBit p true) then x.h.cancel else x.h
      let l := if m.getLsbD (outBit p false) then x.l.cancel else x.l
      { x with h := h, l := l }
    ⟨f .u, f .v, f .w⟩ }

/-- A side that may run again at a wrap: its command stands and nothing of it is under way, so its edge waits out the dead time
of its command where that still runs, and else goes to the handshake (07 R216, R241, R243; 08 R254). -/
def GateCh.rearm (poff : Bool) (g : GateCh) : GateCh :=
  if g.cmd && !g.s4 && !g.w3 && !g.w4 then (if g.dt then { g with w3 := true } else g.arrive poff) else g

/-- Outputs whose hold-off ended take up their commands. -/
def Axis.rearm (a : Axis) : Axis :=
  { a with ph :=
    let f (p : Phase) : PhSt :=
      let x := a.ph.get p
      { x with
        h := if a.offMask.getLsbD (outBit p true) then x.h else x.h.rearm x.l.off
        l := if a.offMask.getLsbD (outBit p false) then x.l else x.l.rearm x.h.off }
    ⟨f .u, f .v, f .w⟩ }

/-- The comparators (08 R252): a gate that is on is reported on (log entry 15), and stays so until a report says off. -/
def Axis.compare (a : Axis) (q : Bool) (high : Bool) (old : BitVec 3) : BitVec 3 :=
  phases.foldl (fun m p => putBit m (phIx p) (m.getLsbD (phIx p) || a.gateOn q p high)) old

/-- One side after a change: a gate that is on has not been off, and a VDS monitor is active only while the command of its
gate stands (08 R253, R270). -/
def GateCh.settle (g : GateCh) (on cmd : Bool) : GateCh := { g with off := g.off && !on, vds := g.vds && cmd }

/-- Both sides of every phase after a change; the source of a VDS monitor that is not active is inactive (08 R270). -/
def Axis.settleVds (a : Axis) (q : Bool) : Axis :=
  let f (p : Phase) : PhSt :=
    let x := a.ph.get p
    { x with
      h := x.h.settle (a.gateOn q p true) (a.cmd7 q p true)
      l := x.l.settle (a.gateOn q p false) (a.cmd7 q p false) }
  let ph : Three PhSt := ⟨f .u, f .v, f .w⟩
  let on : BitVec 13 := phases.foldl (fun m p =>
    putBit (putBit m (4 + (phIx p)) ((ph.get p).side true).vds) (7 + (phIx p)) ((ph.get p).side false).vds) 0x1C0F
  { a with ph := ph, counting := a.counting &&& on, drv := { a.drv with tsrc := a.drv.tsrc &&& on } }

/-- The comparators and the VDS monitors after any change of the chain; a low side that is on charges its phase's
bootstrap (08 R258, 09 R281). -/
def Axis.settle (a : Axis) (q : Bool) : Axis :=
  let b := a.settleVds q
  { b with
    drv := { b.drv with hon := b.compare q true b.drv.hon, lon := b.compare q false b.drv.lon }
    sense := { b.sense with lowSeen := b.compare q false b.sense.lowSeen } }

/-- Every gate of the axis is held: by the quench lines, or with its gate drivers unpowered (20 R539). -/
def State.gateHold (s : State) (n : Fin 4) : Bool := s.mon.quench || !s.pwr.axpwr.getLsbD n.val

/-- Change an axis's chain and let it settle. -/
def State.updChain (s : State) (n : Fin 4) (f : Axis → Axis) : State :=
  s.updAxis n fun a => (f a).settle (s.gateHold n)

/-- All axes settle after a change of the quench lines. -/
def State.settleAll (s : State) : State := axes.foldl (fun t n => t.updChain n id) s

/-- R255, R257: the interlock of stage 5: both commands of a phase on are both off, SHOOT is set and raised. -/
def State.interlock (s : State) (n : Fin 4) (p : Phase) : State :=
  let x := (s.axis n).ph.get p
  if x.h.s4 && x.l.s4 then
    (s.updChain n fun a =>
      { a with
        ph := a.ph.set p { x with h := x.h.cancel, l := x.l.cancel }
        drv := { a.drv with shoot := a.drv.shoot ||| bitB 3 (phIx p) } }).raiseDrv n 11
  else s

/-- PWMn.CTRL.EN goes to 0: all seven outputs off at once; any refresh ends (07 R226, 08 R265). -/
def Axis.enOff (a : Axis) : Axis :=
  let b : Axis := { a with
    enWait := false
    drv := { a.drv with ctrl := a.drv.ctrl &&& ~~~1, ena := false, refact := 0 }
    ph := ⟨{ a.ph.u with refr := 0 }, { a.ph.v with refr := 0 }, { a.ph.w with refr := 0 }⟩ }
  phases.foldl Axis.drivePhase b

/-- PWMn.CTRL.EN goes to 1: it waits for the wrap (07 R225). -/
def Axis.enOn (a : Axis) : Axis :=
  if a.drv.ctrl.getLsbD 0 then a
  else { a with enWait := true, drv := { a.drv with ctrl := a.drv.ctrl ||| 1 } }

def State.enClear (s : State) (n : Fin 4) : State := s.updChain n Axis.enOff

/-! ### Rows of the chain -/

/-- COMPARE_MATCH (07 R210): the count reaches CMPeff of the channel and the raw high command falls. At CMPeff of TPER
or more there is no match. -/
def execCompareMatch (n : Fin 4) (ch : Fin 4) (s : State) : Res :=
  if s.tick.tper ≤ (s.axis n).eff.get ch ∨ s.powered (.drv n) = false then .next s
  else .next (s.updChain n fun a =>
    match ch with
    | 0 => { a with ph := a.ph.set .u { a.ph.u with raw := false } }.drivePhase .u
    | 1 => { a with ph := a.ph.set .v { a.ph.v with raw := false } }.drivePhase .v
    | 2 => { a with ph := a.ph.set .w { a.ph.w with raw := false } }.drivePhase .w
    | 3 => { a with brk := false })

/-- Replace one side of a phase. -/
def Axis.updSide (a : Axis) (p : Phase) (high : Bool) (f : GateCh → GateCh) : Axis :=
  let x := a.ph.get p
  { a with ph := a.ph.set p (x.setSide high (f (x.side high))) }

/-- DEAD_TIME_END (07 R215): a delayed rising edge leaves stage 3 for stage 4, and passes it at once where the partner
has been off (08 R253). The dead time of an edge that a trip cancelled is over too (R216). -/
def execDeadTimeEnd (n : Fin 4) (ph : Phase) (high : Bool) (s : State) : Res :=
  let x := (s.axis n).ph.get ph
  if (x.side high).w3 then
    .next ((s.updChain n fun a => a.updSide ph high (GateCh.arrive (x.side (!high)).off)).interlock n ph)
  else .next (s.updAxis n fun a => a.updSide ph high fun g => { g with dt := false })

/-- The comparator of a gate reports off, and has for 20 ns (08 R252, R253). -/
def Axis.reportOff (a : Axis) (p : Phase) (high : Bool) : Axis :=
  let b := a.updSide p high fun g => { g with off := true }
  if high then { b with drv := { b.drv with hon := putBit b.drv.hon (phIx p) false } }
  else { b with drv := { b.drv with lon := putBit b.drv.lon (phIx p) false } }

/-- HANDSHAKE_RELEASE (08 R253): the partner gate has been reported off for 20 ns; an edge that waits is released,
through the interlock. A partner gate that is on is not reported off. -/
def execHandshakeRelease (n : Fin 4) (ph : Phase) (high : Bool) (s : State) : Res :=
  if (s.axis n).gateOn (s.gateHold n) ph (!high) then .next s
  else
    let s1 := s.updAxis n fun a => a.reportOff ph (!high)
    if (((s.axis n).ph.get ph).side high).w4 then
      .next ((s1.updChain n fun a => a.updSide ph high (GateCh.arrive true)).interlock n ph)
    else .next s1

/-- HANDSHAKE_TIMEOUT (08 R255): both gates off, HSTO set and raised; the comparator that timed out, the partner's, still
reports on. -/
def execHandshakeTimeout (n : Fin 4) (ph : Phase) (high : Bool) (s : State) : Res :=
  if (((s.axis n).ph.get ph).side high).w4 then
    .next ((s.updChain n fun a =>
      let x := a.ph.get ph
      { a with
        ph := a.ph.set ph { x with h := x.h.cancel, l := x.l.cancel, lateHigh := !high }
        drv := { a.drv with
          hsto := a.drv.hsto ||| bitB 3 (phIx ph)
          hon := if high then a.drv.hon else a.drv.hon ||| bitB 3 (phIx ph)
          lon := if high then a.drv.lon ||| bitB 3 (phIx ph) else a.drv.lon } }).raiseDrv n 10)
  else .next s

/-- Phases whose comparator that let the handshake time out reports its gate on (08 R256). -/
def Axis.lateOn (a : Axis) : BitVec 3 :=
  phases.foldl (fun m p =>
    putBit m (phIx p) ((if (a.ph.get p).lateHigh then a.drv.hon else a.drv.lon).getLsbD (phIx p))) 0

/-- A write of 1 to HSTO flags (08 R256): refused, with CLRREF, while the comparator still reports its gate on. -/
def State.hstoWrite (s : State) (n : Fin 4) (mask : BitVec 3) : State :=
  let d := (s.axis n).drv
  let want := mask &&& d.hsto
  let refused := want &&& (s.axis n).lateOn
  let clr := want &&& ~~~refused
  (s.updChain n fun a => { a with
    wrapPh := a.wrapPh ||| clr
    drv := { a.drv with hsto := a.drv.hsto &&& ~~~clr } }).raiseDrvIf (decide (refused ≠ 0)) n 3

/-- HSTO_CLEAR. -/
def execHstoClear (n : Fin 4) (mask : BitVec 3) (s : State) : Res := .next (s.hstoWrite n mask)

/-- A write of 1 to SHOOT flags always clears them; the phases switch again from the next wrap (08 R257). -/
def State.shootWrite (s : State) (n : Fin 4) (mask : BitVec 3) : State :=
  s.updChain n fun a =>
    let clr := mask &&& a.drv.shoot
    { a with wrapPh := a.wrapPh ||| clr, drv := { a.drv with shoot := a.drv.shoot &&& ~~~clr } }

/-- States in which MGMT keeps EN at 1 (07 R227, 01 R40). -/
def AxState.mayEnable : AxState → Bool
  | .disabled | .fault | .recovery => false
  | _ => true

/-- EN_SET (07 R225, R227). -/
def execEnSet (n : Fin 4) (s : State) : Res :=
  if (s.axis n).st.mayEnable && !s.linkDown n then .next (s.updAxis n Axis.enOn) else .next s

/-- EN_CLEAR (07 R226). -/
def execEnClear (n : Fin 4) (s : State) : Res := .next (s.enClear n)

/-- BHINV: the thresholds leave the backup inactive (07 R230). -/
def Drv.bhinv (d : Drv) : Bool := decide (fld d.brkhw 15 8 ≤ fld d.brkhw 7 0)

/-- The backup may engage: enabled, with thresholds that do not leave it inactive (07 R229, R230). -/
def Drv.bhMay (d : Drv) : Bool := d.brkhw.getLsbD 31 && !d.bhinv

/-- BRAKE_BACKUP_ENGAGE (07 R229, R230). -/
def execBrakeBackupEngage (n : Fin 4) (s : State) : Res :=
  let d := (s.axis n).drv
  if s.appOn && d.bhMay && !d.bhact then
    .next ((s.updDrv n fun d => { d with bhact := true }).raiseDrv n 4)
  else .next s

/-- BRAKE_BACKUP_RELEASE (07 R229). -/
def execBrakeBackupRelease (n : Fin 4) (s : State) : Res := .next (s.updDrv n fun d => { d with bhact := false })

/-- VDS_BLANKING_END (08 R270). -/
def execVdsBlankingEnd (n : Fin 4) (ph : Phase) (high : Bool) (s : State) : Res :=
  if (s.axis n).cmd7 (s.gateHold n) ph high then
    .next (s.updAxis n fun a => a.updSide ph high fun g => { g with vds := true })
  else .next s

/-- The window of the running period in modulator bits, its first and the one past its last: WSTART and WLEN, cut at the
period's end; WLEN 0 is the whole period (09 R284, R285). -/
def Axis.window (a : Axis) : Nat × Nat :=
  let ws := 8 * fld a.drv.swin 7 0
  let wl := 8 * fld a.drv.swin 15 8
  if wl = 0 then (0, a.per / 10) else (ws, Nat.min (ws + wl) (a.per / 10))

/-- A condition that stands from count t0 to count t1 of the period falls in its window (09 R293). -/
def Axis.inWindow (a : Axis) (t0 t1 : Nat) : Bool :=
  let w := a.window
  decide (w.1 < w.2) && decide (t0 < 10 * w.2) && decide (10 * w.1 ≤ t1)

/-- Phases with FPGLOW in the window, counting those where it stands up to count t (09 R293). -/
def Axis.fpgWin (a : Axis) (t : Nat) : BitVec 3 :=
  phases.foldl (fun m p =>
    putBit m (phIx p) (m.getLsbD (phIx p) || (a.drv.fpglow.getLsbD (phIx p) && a.inWindow (a.sense.fpgAt.get p) t)))
    a.sense.fpg

/-- FPGLOW_ASSERT (08 R260): the high side is held off and the phase's OCF source inactive. -/
def execFpglowAssert (n : Fin 4) (p : PhaseAt) (s : State) : Res :=
  let ph := p.ph
  if (s.axis n).drv.fpglow.getLsbD (phIx ph) then .next s
  else s.whenOn (.drv n) <| .next ((s.updChain n fun a => { a with
    ph := a.ph.set ph { a.ph.get ph with fpgSeen := true }
    counting := putBit a.counting (1 + (phIx ph)) false
    sense := { a.sense with fpgAt := a.sense.fpgAt.set ph p.t }
    drv := { a.drv with
      fpglow := a.drv.fpglow ||| bitB 3 (phIx ph)
      tsrc := putBit a.drv.tsrc (1 + (phIx ph)) false } }).raiseDrv n 13)

/-- VGD stands: its comparator, armed, is not active (08 R271, R272). -/
def Axis.vgdUp (a : Axis) : Bool := a.vgdArm && !a.drv.tsrc.getLsbD 12

/-- VGD rises: with PUMPEN the floating data of every phase is invalid until its pump has charged CBOOT (09 R281). -/
def Axis.vgdRise (a : Axis) : Axis :=
  if a.vgdUp then a
  else { a with sense := { a.sense with
    pumped := 0, unboot := if a.drv.gbst.getLsbD 12 then 7 else a.sense.unboot } }

/-- FPGLOW_RELEASE (08 R260): the phase's BST - SH stands above the release level, which with VGD up ends the charge of
09 R281 (log entry 175). -/
def execFpglowRelease (n : Fin 4) (p : PhaseAt) (s : State) : Res :=
  let k := phIx p.ph
  s.whenOn (.drv n) <| .next (s.updChain n fun a => { a with
    sense := { a.sense with
      fpg := putBit a.sense.fpg k ((a.fpgWin p.t).getLsbD k)
      pumped := putBit a.sense.pumped k (a.sense.pumped.getLsbD k || a.vgdUp) }
    drv := { a.drv with fpglow := putBit a.drv.fpglow k false } })

/-- BSTUV_ASSERT, BSTUV_RELEASE (08 R261). -/
def execBstuvAssert (n : Fin 4) (ph : Phase) (s : State) : Res :=
  s.whenOn (.drv n) <| .next (s.updDrv n fun d => { d with bstuv := putBit d.bstuv (phIx ph) true })
def execBstuvRelease (n : Fin 4) (ph : Phase) (s : State) : Res :=
  s.whenOn (.drv n) <| .next (s.updDrv n fun d => { d with bstuv := putBit d.bstuv (phIx ph) false })

/-- One refresh more: REFCNT to 31, REFTOT to 0xFFFF, REFFLT when the count reaches REFMAX + 1 (08 R266). -/
def State.countRefresh (s : State) (n : Fin 4) : State :=
  let d := (s.axis n).drv
  let c := if d.refcnt = 31 then d.refcnt else d.refcnt + 1
  let hit := decide (d.refcnt ≠ 31) && decide (c.toNat = fld d.gbst 11 8 + 1)
  (s.updDrv n fun d => { d with refcnt := c, reftot := sat16 d.reftot, refflt := d.refflt || hit }).raiseDrvIf hit n 9

/-- The low-side command of a phase as it leaves stage 5: stage 4 passes none of a phase it has disabled, stage 5 none of
one it has forced off, and neither before the wrap that follows the clear (07 Table 7-2; 08 R255 to R257). -/
def Axis.low5 (a : Axis) (p : Phase) : Bool :=
  (a.ph.get p).l.s4 && !(a.drv.hsto ||| a.drv.shoot ||| a.wrapPh).getLsbD (phIx p)

/-- REFRESH_START (08 R262, R263). -/
def execRefreshStart (n : Fin 4) (ph : Phase) (s : State) : Res :=
  let a := s.axis n
  let x := a.ph.get ph
  if a.drv.bstuv.getLsbD (phIx ph) && a.drv.ena && !a.low5 ph && decide (x.refr = 0) then
    .next (((s.updChain n fun a => { a with
      ph := a.ph.set ph { x with refr := 1, refRan := true }
      drv := { a.drv with refact := a.drv.refact ||| bitB 3 (phIx ph) } }.drivePhase ph).raiseDrv n 8).countRefresh n)
  else .next s

/-- REFRESH_TIME_END (08 R264): the phase waits for the next wrap. -/
def execRefreshTimeEnd (n : Fin 4) (ph : Phase) (s : State) : Res :=
  if ((s.axis n).ph.get ph).refr = 1 then
    .next (s.updAxis n fun a => { a with ph := a.ph.set ph { a.ph.get ph with refr := 2 } })
  else .next s

/-- VM_LOCKOUT_ENGAGE (08 R274, 20 R527): the comparator is reported; where the lockout is suspended it does nothing else. -/
def execVmLockoutEngage (n : Fin 4) (s : State) : Res :=
  let a := s.axis n
  if a.drv.vmlo then .next s
  else s.whenOn (.drv n) <| .next ((s.updChain n fun a => { a with
    vmloPer := a.vmloPer || !a.noLock
    drv := { a.drv with vmlo := true } }).raiseDrvIf (!a.noLock) n 12)

/-- VM_LOCKOUT_RELEASE (08 R274): the outputs resume at the first wrap. -/
def execVmLockoutRelease (n : Fin 4) (s : State) : Res :=
  if (s.axis n).drv.vmlo then
    .next (s.updChain n fun a => { a with vmloWait := true, drv := { a.drv with vmlo := false } })
  else .next s

/-! ### Trips -/

/-- Whether a source can become active now: sources 1 to 3 not under FPGLOW (08 R260), 4 to 9 while their monitor is
active (08 R270), 11 and 12 once armed (08 R271, R272). -/
def Axis.sourceLive (a : Axis) (k : Nat) : Bool :=
  match k with
  | 1 => !a.drv.fpglow.getLsbD 0
  | 2 => !a.drv.fpglow.getLsbD 1
  | 3 => !a.drv.fpglow.getLsbD 2
  | 4 => a.ph.u.h.vds
  | 5 => a.ph.v.h.vds
  | 6 => a.ph.w.h.vds
  | 7 => a.ph.u.l.vds
  | 8 => a.ph.v.l.vds
  | 9 => a.ph.w.l.vds
  | 11 => a.uvArm
  | 12 => a.vgdArm
  | _ => true

/-- DRV0's VGD comparator also gates V5: with VGD down V5 is off, and limits no current; through a device reset too (20 R531; 21
Table 21-2). -/
def State.seeVgd (s : State) (n : Fin 4) (k : Fin 13) (active : Bool) : State :=
  if n = 0 ∧ k = 12 ∧ s.powered .mon = true then { s with pwr := { s.pwr with vgd := !active, v5oc := s.pwr.v5oc && !active } } else s

/-- TRIP_SOURCE_CHANGE (07 R237): the raw source changes; an active source starts its filter's count, an inactive one
stops it. Sources 11 and 12 arm when first seen inactive (08 R271, R272). -/
def execTripSourceChange (n : Fin 4) (k : Fin 13) (active : Bool) (s : State) : Res :=
  (s.seeVgd n k active).whenOn (.drv n) <| .next ((s.seeVgd n k active).updAxis n fun a =>
    if active then
      if a.sourceLive k.val then
        { a with
          counting := putBit a.counting k.val (tcEn (a.drv.tcfg.get k))
          drv := { a.drv with tsrc := putBit a.drv.tsrc k.val true } }
      else a
    else
      let b := if k = 12 then a.vgdRise else a
      { b with
        counting := putBit a.counting k.val false
        uvArm := a.uvArm || decide (k.val = 11)
        vgdArm := a.vgdArm || decide (k.val = 12)
        drv := { a.drv with tsrc := putBit a.drv.tsrc k.val false } })

/-- TRIP_ASSERT (07 R237 to R244): the filter has seen TFLEN active samples. -/
def execTripAssert (n : Fin 4) (k : Fin 13) (s : State) : Res :=
  let a := s.axis n
  if a.counting.getLsbD k.val && a.drv.tsrc.getLsbD k.val then
    let cbc := tcCbc (a.drv.tcfg.get k)
    let s1 := s.updChain n fun a =>
      let b : Axis := { a with
        counting := putBit a.counting k.val false
        filt := putBit a.filt k.val true
        cbcHold := if cbc then putBit a.cbcHold k.val true else a.cbcHold
        cbcPer := if cbc then putBit a.cbcPer k.val true else a.cbcPer
        drv := { a.drv with tflag := if cbc then a.drv.tflag else putBit a.drv.tflag k.val true } }
      b.cancelMasked (a.tripMask k.val)
    .next (s1.raiseDrvIf (!cbc) n 1)
  else .next s

/-- TRIP_RELEASE (07 R237). -/
def execTripRelease (n : Fin 4) (k : Fin 13) (s : State) : Res :=
  if (s.axis n).drv.tsrc.getLsbD k.val then .next s
  else .next (s.updAxis n fun a => { a with filt := putBit a.filt k.val false })

/-- A write of 1 to TFLAG bits (07 R241): a bit clears only when its raw source is inactive; the masked outputs resume
at the next wrap. CLRREF once for a write that is refused in part or whole (log entry 16). -/
def State.tflagWrite (s : State) (n : Fin 4) (mask : BitVec 13) : State :=
  let d := (s.axis n).drv
  let want := mask &&& d.tflag
  let refused := want &&& d.tsrc
  let clr := want &&& ~~~refused
  (s.updChain n fun a => { a with
    wrapOff := a.wrapOff ||| a.masksOf clr
    drv := { a.drv with tflag := a.drv.tflag &&& ~~~clr } }).raiseDrvIf (decide (refused ≠ 0)) n 3

/-- TFLAG_CLEAR. -/
def execTflagClear (n : Fin 4) (mask : BitVec 13) (s : State) : Res := .next (s.tflagWrite n mask)

end Sys2Proof.Machine
end

