-- ==== Sys2Proof/Machine/Journal.lean ====
section
/-! DEFINITION. The journal (12): records and slots as bytes, reading and ordering them, the commit with its carries and
retries, what an interruption leaves, and replay. -/

namespace Sys2Proof.Machine

/-! ### Records -/

/-- Bytes 0 to 59 of a record, and the whole record (Table 12-2). -/
def JRec.body (r : JRec) : List Byte :=
  leBytes 4 r.seq.toNat ++ leBytes 2 r.opc.toNat ++ [r.axis, r.state] ++
    (r.param ++ List.replicate 40 0).take 40 ++ leBytes 8 r.heat.toNat ++ leBytes 4 0
def JRec.bytes (r : JRec) : List Byte := r.body ++ leBytes 4 (crc32c r.body).toNat

/-- The state of a record as a DISP code. -/
def JRec.disp (r : JRec) : Nat := r.state.toNat % 16

/-- A terminal record (12 R368). -/
def JRec.terminal (r : JRec) : Bool := decide (4 ≤ r.disp)

/-- A slot as JOURNAL_READ returns it: stored bytes, torn (log entry 10) or blank (R386). -/
def Slot.bytes : Slot → List Byte
  | .blank => List.replicate 64 0xFF
  | .ok r => r.bytes
  | .torn k => (List.range 64).map fun i => Config.tornByte k i

/-- The record a slot holds, when valid (R370). -/
def Slot.rec? : Slot → Option JRec
  | .ok r => some r
  | _ => none

/-! ### Reading -/

def jrnSize : Nat := 8192

/-- Retired in either copy: no lap uses the index (R374). -/
def Journal.retired (j : Journal) (i : Nat) : Bool := j.retA.contains i || j.retB.contains i

/-- The first index from `i` on that is not retired; at most 255 are (R375). -/
def Journal.skip (j : Journal) : Nat → Nat → Nat
  | 0, i => i
  | f + 1, i => if j.retired i then j.skip f ((i + 1) % jrnSize) else i

/-- The index the next record is programmed at (R373, R374). -/
def Journal.here (j : Journal) : Nat := j.skip 300 j.wp

/-- Valid records of one copy with their index (R370). -/
def Journal.valid (j : Journal) (c : Sparse Slot) : List (Nat × JRec) :=
  c.filterMap fun x => if j.retired x.1 then none else (Slot.rec? x.2).map fun r => (x.1, r)

/-- The records of both copies, identical pairs once (R382). -/
def Journal.recs (j : Journal) : List (Nat × JRec) :=
  let a := j.valid j.a
  a ++ (j.valid j.b).filter fun x => !a.contains x

/-- Whether `y` follows `x` in the order of R382. -/
def jrnBefore (x y : Nat × JRec) : Bool :=
  if x.2.heat ≠ y.2.heat then decide (x.2.heat.toNat < y.2.heat.toNat)
  else if 7168 ≤ x.1 ∧ y.1 < 1024 then true
  else if x.1 < 1024 ∧ 7168 ≤ y.1 then false
  else decide (x.1 < y.1)

/-- The last of a list in the order of R382. -/
def jrnLast : List (Nat × JRec) → Option (Nat × JRec)
  | [] => none
  | x :: t => match jrnLast t with
    | none => some x
    | some y => if jrnBefore y x then some x else some y

/-- The list in the order of R382 (insertion). -/
def jrnInsert (x : Nat × JRec) : List (Nat × JRec) → List (Nat × JRec)
  | [] => [x]
  | y :: t => if jrnBefore x y then x :: y :: t else y :: jrnInsert x t
def jrnSort (l : List (Nat × JRec)) : List (Nat × JRec) := l.foldl (fun r x => jrnInsert x r) []

/-- Every record of a SEQ, and the latest. -/
def Journal.ofSeq (j : Journal) (q : Word) : List (Nat × JRec) := j.recs.filter fun x => decide (x.2.seq = q)
def Journal.latest (j : Journal) (q : Word) : Option (Nat × JRec) := jrnLast (j.ofSeq q)

/-- st[SEQ] of R382: the state of the last record, unless a terminal record decides. -/
def Journal.stateOf (j : Journal) (q : Word) : Nat :=
  match jrnLast ((j.ofSeq q).filter fun x => x.2.terminal) with
  | some x => x.2.disp
  | none => match j.latest q with
    | some x => x.2.disp
    | none => 0

/-- A SEQ that has a valid, untrimmed record (R385, R389). -/
def Journal.holds (j : Journal) (q : Word) : Bool := decide (j.trim.toNat < q.toNat) && (j.latest q).isSome

/-- A record of this SEQ waits for its commit (11 R353). -/
def Journal.awaiting (j : Journal) (q : Word) : Bool :=
  (j.pend ++ j.com ++ j.held.map Prod.snd).any fun p => decide (p.cls = 2) && decide (p.r.seq = q)

/-- Wear of a copy in units of 0.1 % (R390). -/
def wear (laps : Nat) : Nat := laps * 1000 / 200000

/-! ### Adding records -/

/-- Records that hold a place in the next commit (11 R349). -/
def Journal.places (j : Journal) : Nat := 16 - j.pend.length

/-- TSEQ of a trim record (Table 12-3). -/
def JRec.tseq (r : JRec) : Nat := leAt r.param 0 4

/-- The trim records among some records. -/
def trimsOf (l : List (Nat × JRec)) : List (Nat × JRec) :=
  l.filter fun x => decide (x.2.opc = 0x0503) && decide (x.2.seq = 0)

/-- The largest TSEQ of the trim records: the horizon never moves down (R389). -/
def horizonOf (l : List (Nat × JRec)) : Nat := (trimsOf l).foldl (fun m x => Nat.max m x.2.tseq) 0

/-- The latest trim record, and the latest one that carries the horizon (R376, R389). -/
def trimKept (l : List (Nat × JRec)) : List (Nat × JRec) :=
  ((jrnLast (trimsOf l)).toList ++
    (jrnLast ((trimsOf l).filter fun x => decide (x.2.tseq = horizonOf l))).toList).eraseDups

/-- The latest record of every part of a configuration record newer than the configuration partition (R376). -/
def cfgKept (heat : BitVec 64) (l : List (Nat × JRec)) : List (Nat × JRec) :=
  let c := l.filter fun x => decide (x.2.opc = 0x0201) && decide (heat.toNat < x.2.heat.toNat)
  (c.filterMap fun x => jrnLast (c.filter fun y => decide (y.2.seq = x.2.seq) && decide (y.2.axis = x.2.axis))).eraseDups

/-- The records of finished commits: those of the commit in progress stand aside (R371, R376). -/
def Journal.settled (j : Journal) : List (Nat × JRec) :=
  j.recs.filter fun x => !j.held.any fun h => decide (h.1 = x.1)

/-- Trim records that stay protected beside the records of a list: a new trim record is the latest, and it carries the
horizon where its TSEQ reaches it. -/
def trimsBeside (com : List Pend) (l : List (Nat × JRec)) : List (Nat × JRec) :=
  let new := com.filter fun p => decide (p.r.opc = 0x0503)
  if new.isEmpty then trimKept l
  else if new.any fun p => decide (horizonOf l ≤ p.r.tseq) then []
  else (trimKept l).filter fun x => decide (x.2.tseq = horizonOf l)

/-- The protected records (R376) that no record of the list supersedes, where `max` is the largest SEQ accepted. -/
def State.protectedRecs (s : State) (com : List Pend) (max : Word) : List (Nat × JRec) :=
  let l := s.jrn.settled
  let touched (q : Word) : Bool := com.any fun p => decide (p.r.seq = q)
  let seqs := ((s.mgmt.jobs.filter fun q => decide (q.st ≠ .awaiting)).map fun q => q.seq) ++ [max]
  let a := (seqs.eraseDups.filter fun q => !touched q && decide (q ≠ 0)).filterMap fun q =>
    jrnLast (l.filter fun x => decide (x.2.seq = q))
  (a ++ cfgKept s.jrn.cfgHeat l ++ trimsBeside com l).eraseDups

/-- The largest SEQ accepted once the records of a packet are (11 R354). -/
def State.maxWith (s : State) (new : List Pend) : Word :=
  new.foldl (fun m p => if m.toNat < p.r.seq.toNat then p.r.seq else m) s.jrn.maxSeq

/-- Size of the protected set once a packet is accepted, each record of a packet that awaits its commit counting (R376). -/
def State.protectedCount (s : State) (new : List Pend) : Nat :=
  let wait := ((s.jrn.pend ++ s.jrn.com ++ s.jrn.held.map Prod.snd).filter fun p => decide (p.cls = 2)).length
  (s.protectedRecs new (s.maxWith new)).length + wait + new.length

/-- No room for the records of a new packet (11 R349, R375, R376). -/
def State.commitFull (s : State) (new : List Pend) : Bool :=
  s.jrn.fault || decide (s.jrn.places < new.length) || decide (64 < s.protectedCount new)

def Journal.add (j : Journal) (p : Pend) : Journal := { j with pend := j.pend ++ [p] }

/-- The records of a packet that is accepted with a SEQ (11 R354). -/
def Journal.accept (j : Journal) (l : List Pend) (q : Word) : Journal :=
  { (l.map fun p => { p with prev := j.maxSeq }).foldl Journal.add j with maxSeq := q }

/-- A job record opcode. -/
def isJobOpc (o : BitVec 16) : Bool := decide (0x0301 ≤ o.toNat) && decide (o.toNat ≤ 0x0309)

/-- A job of axis n with this SEQ has a record, in the ring or still to be programmed (11 R358). -/
def Journal.knowsJob (j : Journal) (q : Nat) (n : Fin 4) : Bool :=
  ((j.recs.map Prod.snd) ++ (j.pend ++ j.com ++ j.held.map Prod.snd).map (·.r)).any fun r =>
    decide (r.seq.toNat = q) && isJobOpc r.opc && decide (r.axis.toNat = n.val)

/-! ### The commit (R373 to R379) -/

/-- Distance of an index ahead of the write pointer. -/
def Journal.ahead (j : Journal) (i : Nat) : Nat := (i + jrnSize - j.wp) % jrnSize

/-- Insertion by distance ahead. -/
def nearInsert (j : Journal) (x : Nat × JRec) : List (Nat × JRec) → List (Nat × JRec)
  | [] => [x]
  | y :: t => if j.ahead x.1 < j.ahead y.1 then x :: y :: t else y :: nearInsert j x t

/-- Up to two carry records: protected, within 2 048 indexes ahead, the nearest first (R379). -/
def State.carries (s : State) (com : List Pend) : List Pend :=
  let near := (s.protectedRecs com s.jrn.maxSeq).filter fun x => decide (s.jrn.ahead x.1 < 2048)
  ((near.foldl (fun l x => nearInsert s.jrn x l) []).take 2).map fun x =>
    { r := { x.2 with state := x.2.state ||| 0x80 }, cls := 1, reply := none, rseq := x.2.seq, notify := none }

/-- The records of the commit of this heat, in the order of R373, with the heat written in. -/
def State.commitList (s : State) : List Pend :=
  let mine := s.jrn.pend.take 16
  let trans := mine.filter fun p => decide (p.cls = 0)
  let new := mine.filter fun p => decide (p.cls = 2)
  (trans ++ s.carries mine ++ new).map fun p => { p with r := { p.r with heat := s.tick.heat } }

/-- Packets that wait for a commit no longer to come are answered BUSY, DCODE 7, and their jobs are none (R375). They consume no
SEQ (11 R342). -/
def State.refuseWaiting (s : State) : State :=
  let l := s.jrn.pend.filter fun p => decide (p.cls = 2)
  let s1 : State := { s with
    jrn := { s.jrn with
      pend := s.jrn.pend.filter fun p => !decide (p.cls = 2)
      maxSeq := match l.find? fun p => decide (p.r.seq ≠ 0) with | some p => p.prev | none => s.jrn.maxSeq }
    mgmt := { s.mgmt with jobs := s.mgmt.jobs.filter fun q => !(decide (q.st = .awaiting) && l.any fun p => decide (p.r.seq = q.seq)) } }
  (l.filter fun p => p.reply.isSome).foldl (fun t p =>
    t.pushReserved (refusal p.r.opc.toNat p.rseq stBusy 7 0xFFFF)) s1

/-- Journal fault (R375). -/
def State.journalFault (s : State) : State :=
  if s.jrn.fault then s else ({ s with jrn := { s.jrn with fault := true } }).refuseWaiting.raise 250

/-- COMMIT (R373): at cy 0 of tick 15. -/
def execCommit (s : State) : Res :=
  if s.tick.on && decide (s.tick.hidx = 15) && !s.tick.atZero then
    if s.jrn.comBusy then .next s.journalFault
    else if s.jrn.fault then .next s
    else
      let com := s.commitList
      .next { s with jrn := { s.jrn with
        com := com, held := [], comBusy := !com.isEmpty, pend := s.jrn.pend.drop 16 } }
  else .next s

/-- The write pointer after an index, and a lap where it wraps, be it over retired indexes (R374, R390). -/
def Journal.pass (j : Journal) (i : Nat) : Journal :=
  let laps := (if i < j.wp then 1 else 0) + (if i + 1 < jrnSize then 0 else 1)
  { j with wp := (i + 1) % jrnSize, lapA := j.lapA + laps, lapB := j.lapB + laps }

/-- A torn record: its contents are a fresh free value (R381, log entry 10). -/
def Journal.tear (j : Journal) : Slot × Journal := (.torn j.tornN, { j with tornN := j.tornN + 1 })

/-- What each copy holds after one record was programmed at an index. -/
def Journal.program (j : Journal) (i : Nat) (r : JRec) (okA okB : Bool) : Journal :=
  let x := if okA then (Slot.ok r, j) else j.tear
  let y := if okB then (Slot.ok r, x.2) else x.2.tear
  { y.2 with a := Sparse.put .blank i x.1 y.2.a, b := Sparse.put .blank i y.1 y.2.b }

/-- A record both copies hold enters the Sprue view (R387). -/
def Journal.mirror (j : Journal) (i : Nat) (r : JRec) : Journal :=
  { j with view := Sparse.put .blank (i % 1024) (.ok r) j.view }

/-- EV250 when a wear figure first reaches 900 (R390). -/
def State.checkWear (s : State) : State :=
  if !s.jrn.wearRaised && (decide (900 ≤ wear s.jrn.lapA) || decide (900 ≤ wear s.jrn.lapB)) then
    ({ s with jrn := { s.jrn with wearRaised := true } }).raise 250
  else s

/-! ### What a completed commit releases (R350, R351, R371, R389) -/

/-- A notification, or OUTLOSS where no unreserved entry is free (11 R351). -/
def State.notifyHost (s : State) (i : Nat) (r : JRec) (disp : Nat) : State :=
  if s.mgmt.outlet.length + s.mgmt.reserved < 32 then
    s.pushReply { opc := r.opc.toNat, status := stOK, disp := disp, seq := r.seq, jidx := i
                  data := leBytes 8 r.heat.toNat ++ sliceB r.param 24 8 }
  else { s with mgmt := { s.mgmt with outloss := sat16 s.mgmt.outloss } }

/-- POSCLOSED or POSOPEN goes into the travel store: PROFOK is cleared, with the mould's copy of it, and the profile is streamed
again from its first block on (06 R587). -/
def State.setPos (s : State) (n : Fin 4) (opened : Bool) (v : Word) (persist : Bool) : State :=
  let t : Travel := { s.mgmt.travel.get n with inLeft := 2048, pairNo := 1 + (s.mgmt.jax.get n).step.no }
  let u : Travel := if opened then { t with opened := v } else { t with closed := v }
  let w : Travel :=
    if persist then { u with nvClosed := u.closed, nvOpened := u.opened, nvProf := u.prof, nvHave := u.have_ } else u
  { s with
    mgmt := { s.mgmt with travel := s.mgmt.travel.set n w }
    std := { s.std with ax := s.std.ax.set n { s.std.ax.get n with profok := false, inGot := 33 } } }

/-- A value goes into MGMT's table, and with PERSIST into the stored configuration (04 R109, 11 R367). -/
def State.setPar (s : State) (persist : Bool) (e : Nat × Word) : State :=
  let s1 : State := { s with mgmt := { s.mgmt with par := Sparse.put none e.1 (some e.2) s.mgmt.par } }
  if persist then
    { s1 with mgmt := { s1.mgmt with
        stored := { s1.mgmt.stored with par := Sparse.put none e.1 (some e.2) s1.mgmt.stored.par } } }
  else s1

/-- One accepted value takes effect. The IDs of POSCLOSED and POSOPEN are those of a standard mould; a custom mould's are
parameters like any other; with no mould active, as in replay, the value is kept as both (log entry 171). -/
def State.applyPar (s : State) (persist : Bool) (e : Nat × Word) : State :=
  match posId e.1, s.moulds.active with
  | some (n, o), some m => if m.std.isSome then s.setPos n o e.2 persist else s.setPar persist e
  | some (n, o), none => (s.setPos n o e.2 persist).setPar persist e
  | none, _ => s.setPar persist e

/-- The entries of a configuration record (Table 12-3): ID 0 is unused. -/
def cfgEntries : Nat → List Byte → List (Nat × Word)
  | 0, _ => []
  | f + 1, l =>
    let id := leAt l 0 2
    let rest := cfgEntries f (l.drop 8)
    if id = 0 then rest else (id, BitVec.ofNat 32 (leAt l 4 4)) :: rest

/-- A configuration record is written into the configuration partition (R371). -/
def State.applyConfig (s : State) (r : JRec) : State :=
  let s1 := (cfgEntries 5 r.param).foldl (fun t e => t.applyPar true e) s
  { s1 with
    mgmt := { s1.mgmt with pubWanted := true }
    jrn := { s1.jrn with cfgHeat := if s1.jrn.cfgHeat.toNat < r.heat.toNat then r.heat else s1.jrn.cfgHeat } }

/-- FREED: the valid records a horizon newly trims (R389). -/
def Journal.freed (j : Journal) (tseq : Word) : Nat :=
  Nat.min 0xFFFF ((j.recs.filter fun x => decide (j.trim.toNat < x.2.seq.toNat) && decide (x.2.seq.toNat ≤ tseq.toNat)).length)

/-- A committed trim record moves the horizon; the reply data is FREED (R389). -/
def State.applyTrim (s : State) (r : JRec) : State × List Byte :=
  let t : Word := BitVec.ofNat 32 r.tseq
  ({ s with jrn := { s.jrn with trim := if s.jrn.trim.toNat < t.toNat then t else s.jrn.trim } },
    leBytes 2 (s.jrn.freed t) ++ [0, 0])

/-- A job whose ACCEPTED record is held is accepted (11 R350). -/
def State.jobAccepted (s : State) (q : Word) : State :=
  { s with mgmt := { s.mgmt with jobs := s.mgmt.jobs.map fun x =>
      if x.seq = q ∧ x.st = .awaiting then { x with st := .accepted } else x } }

/-- What one record of a completed commit releases. -/
def State.release1 (s : State) (x : Nat × Pend) : State :=
  let r := x.2.r
  let s1 : State := if x.2.cls = 2 ∧ isJobOpc r.opc then s.jobAccepted r.seq else s
  let s2 := if x.2.cls = 2 ∧ r.opc = 0x0201 then s1.applyConfig r else s1
  let t := if x.2.cls = 2 ∧ r.opc = 0x0503 then s2.applyTrim r else (s2, x.2.reply.getD [])
  let s3 := match x.2.reply with
    | none => t.1
    | some _ => t.1.pushReserved { opc := r.opc.toNat, status := stOK, disp := 1, seq := x.2.rseq, jidx := x.1, data := t.2 }
  match x.2.notify with
  | none => s3
  | some d => s3.notifyHost x.1 r d

/-- The commit is complete: replies, notifications and effects, in record order (R350, R351). -/
def State.commitDone (s : State) : State :=
  let held := s.jrn.held
  held.foldl State.release1 { s with jrn := { s.jrn with held := [], comBusy := false } }

/-- The FIFO to the engines holds up to 16 records of the commit; what it has no room for waits at its source (16 R461, Table
16-2). -/
def Journal.fifo (j : Journal) : List Pend := j.com.take 16

/-- RECORD_PROGRAMMED (R373, R374): the next record has been programmed and read back in both copies. -/
def execRecordProgrammed (okA okB : Bool) (s : State) : Res :=
  match s.jrn.fifo with
  | [] => .next s
  | p :: _ =>
    let rest := s.jrn.com.drop 1
    let i := s.jrn.here
    let j := (s.jrn.program i p.r okA okB).pass i
    if okA && okB then
      let s1 : State := { s with jrn := { j.mirror i p.r with com := rest, held := j.held ++ [(i, p)] } }
      .next (if rest.isEmpty then s1.checkWear.commitDone else s1.checkWear)
    else
      let s1 : State := { s with jrn := { j with retA := j.retA ++ [i], retB := j.retB ++ [i] } }
      .next (if 256 ≤ s1.jrn.retA.length then s1.checkWear.journalFault else s1.checkWear)

/-! ### An interruption (R380, R381) -/

/-- One record is completed or torn in each copy. -/
def Journal.land (j : Journal) (p : Pend) (okA okB : Bool) : Journal :=
  let i := j.here
  let k := (j.program i p.r okA okB).pass i
  if okA && okB then k.mirror i p.r else k

/-- The commit is over. -/
def Journal.idle (j : Journal) : Journal := { j with com := [], held := [], comBusy := false }

/-- The commit is cut short: the record in progress is completed or torn in each copy, and none follows. Nothing that
depends on the commit is sent. -/
def Journal.cut (j : Journal) (okA okB : Bool) : Journal :=
  match j.com with
  | [] => j.idle
  | p :: _ => (j.land p okA okB).idle

/-- The engines complete what was handed over to them (20 Table 20-6), and it reads back whole (log entry 185). -/
def Journal.drain (j : Journal) : Journal := (j.com.foldl (fun k p => k.land p true true) j).idle

/-! ### Replay (R382) -/

/-- A record valid in one copy only is programmed in the other (R382). -/
def Journal.repair (j : Journal) : Journal :=
  let fill (src dst : Sparse Slot) : Sparse Slot := (j.valid src).foldl (fun d x =>
    match Slot.rec? (Sparse.get .blank x.1 d) with
    | some _ => d
    | none => Sparse.put .blank x.1 (.ok x.2) d) dst
  { j with a := fill j.b j.a, b := fill j.a j.b }

/-- The Sprue view as replay fills it (R387). -/
def Journal.refill (j : Journal) : Journal :=
  { j with view := (jrnSort j.recs).foldl (fun v x => Sparse.put .blank (x.1 % 1024) (.ok x.2) v) [] }

/-- The largest SEQ of the records. -/
def maxSeqOf (l : List (Nat × JRec)) : Word :=
  l.foldl (fun m x => if m.toNat < x.2.seq.toNat then x.2.seq else m) 0

/-- The journal after replay (R382): lists repaired, records repaired, write pointer, horizon, largest SEQ, view. -/
def Journal.replayed (j : Journal) : Journal :=
  let ret := (j.retA ++ j.retB).eraseDups
  let k := ({ j with retA := ret, retB := ret, pend := [], com := [], held := [], comBusy := false, fault := false } : Journal).repair
  let last := jrnLast k.recs
  let wp := match last with | some x => (x.1 + 1) % jrnSize | none => 0
  { k.refill with wp := wp, trim := BitVec.ofNat 32 (horizonOf k.recs), maxSeq := maxSeqOf k.recs }

/-- One more than the largest heat in either copy, 0 without a valid record (01 R19). -/
def Journal.nextHeat (j : Journal) : BitVec 64 :=
  j.recs.foldl (fun m x => if m.toNat < x.2.heat.toNat + 1 then x.2.heat + 1 else m) 0

/-- Every part of the SET_PARAM a record belongs to stands in the journal (R371). -/
def Journal.wholeConfig (j : Journal) (r : JRec) : Bool :=
  (List.range (r.axis.toNat / 16 + 1)).all fun k =>
    (j.ofSeq r.seq).any fun x => decide (x.2.opc = 0x0201) && decide (x.2.axis.toNat % 16 = k)

/-- Configuration records newer than the configuration partition, in order (R382). -/
def State.replayConfig (s : State) : State :=
  let c0 := s.jrn.cfgHeat
  ((jrnSort s.jrn.recs).filter fun x =>
    decide (x.2.opc = 0x0201) && decide (c0.toNat < x.2.heat.toNat) && s.jrn.wholeConfig x.2).foldl
      (fun t x => t.applyConfig x.2) s

end Sys2Proof.Machine
end

