-- ==== Sys2Proof/Machine/StdSense.lean ====
section
/-! DEFINITION. Standard moulds, steps 1 to 3 of 06 Table 6-2: what a pour reads, the validity checks (06 R160, R161,
R170, R185), the angle sources (06 R168 to R175) and the units (06 R153 to R156). -/

namespace Sys2Proof.Machine

/-! ### Context and units -/

/-- What one axis step works on: the state, the axis, the standard mould k. -/
structure Ctx where
  s : State
  n : Fin 4
  k : Nat
  deriving DecidableEq, Repr

/-- The internal value of parameter p of the axis, as loaded before XP in this pour (06 R156, R159). -/
def Ctx.p (c : Ctx) (p : Nat) : Int := Sparse.get 0 (0x1000 * (c.n.val + 1) + p) c.s.std.lat

/-- A device-wide parameter. -/
def Ctx.dev (c : Ctx) (id : Nat) : Int := Sparse.get 0 id c.s.std.lat

/-- TPER. -/
def Ctx.per (c : Ctx) : Nat := c.s.tick.tper

/-- 1.0 in Q2.29. -/
def q29 : Int := 2 ^ 29

/-- √3 in units of 2^-60. -/
def sqrt3 : Int := 1996918623117814387

/-- A signed value kept to `b` bits. -/
def wrapI (b : Nat) (x : Int) : Int := sx b (x % 2 ^ b).toNat

/-- Position units per electrical turn as a fraction (06 R154). -/
def Ctx.uptN (c : Ctx) : Int := if c.k = 1 then c.p 0x033 else if c.k = 3 then 6 else 64
def Ctx.uptD (c : Ctx) : Int := if c.k = 1 then c.p 0x001 else 1

/-- FBASE: electrical turns per tick at 1.0 pu, in 2^-64 turns (06 Table 6-1). -/
def Ctx.base (c : Ctx) : Int := c.p 0x004

/-- A trajectory velocity as electrical speed in pu, and the reverse. -/
def Ctx.velPu (c : Ctx) (v : Int) : Int := stdRound (v * q29 * c.uptD) (c.base * c.uptN).toNat
def Ctx.puVel (c : Ctx) (w : Int) : Int := stdRound (w * c.base * c.uptN) (2 ^ 29 * c.uptD.toNat)

/-- A value of the pour held to Q2.29 (02 R73, 05 R143); `satIf` notes what changed. -/
def Mot.satIf (b : Bool) (m : Mot) : Mot := { m with sat := m.sat || b }

/-- The electrical speed, held to Q2.29. -/
def Mot.setOmega (x : Int) (m : Mot) : Mot := { m with omega := (sat32f x).1, sat := m.sat || (sat32f x).2 }

/-- A measured position: a signed 32-bit count (06 R154). -/
def Mot.setPos (m : Mot) (x : Int) : Mot := { m with pos := wrapI 32 (x + m.posOfs) }

/-- Set a cause (06 Table 6-8): FAULT causes raise MEV3 and hold the compares at 0 (06 R205). -/
def Mot.setCause (m : Mot) (code : Nat) : Mot :=
  let flt := decide (4 ≤ code) && decide (code ≤ 8)
  { m with
    cause := code
    causes := m.causes ||| bitB 16 code
    faulting := m.faulting || flt
    ev := m.ev ||| (if flt && !(m.faulting && decide (m.cause = code)) then 8 else 0) ||| (if code = 3 then 2 else 0) }

/-! ### Step 1: what the pour reads -/

structure Sens where
  iu : Int
  iv : Int
  iw : Int
  vbus : Int
  mxU : Int
  mxV : Int
  mxW : Int
  /-- REF or INV on a phase current (06 R160, 09 R296). -/
  bad : Bool
  ovr : Bool
  cbc : Bool
  hall : Word
  enc : Word
  encz : Word
  deriving DecidableEq, Repr

/-- SENSn, SSTATn, GSTATn and the position words of the axis. -/
def readSens (s : State) (n : Fin 4) : Sens :=
  let p := s.pour.ax.get n
  let w (i : Nat) : Int := (p.sens.getD i 0).toInt
  let h := s.hall.get n
  { iu := w 0, iv := w 4, iw := w 8, vbus := w 24, mxU := w 2, mxV := w 6, mxW := w 10
    bad := decide (fld p.sstat 2 0 ≠ 0) || decide (fld p.sstat 8 6 ≠ 0)
    ovr := decide (fld p.sstat 15 13 ≠ 0)
    cbc := decide (fld p.gstat 12 0 ≠ 0)
    hall := h.hall, enc := h.encL, encz := h.enczL }

/-! ### Step 2: validity -/

/-- Refresh-affected or invalid periods keep the previous currents; a third in a row ends a job with cause SENSE (R160):
`ctl` says that the axis is under control. -/
def Mot.takeCurrents (x : Sens) (ctl : Bool) (m : Mot) : Mot :=
  if x.bad then
    let b := { m with refRun := m.refRun + 1 }
    if ctl && decide (2 < b.refRun) then b.setCause 6 else b
  else { m with refRun := 0, iu := x.iu, iv := x.iv, iw := x.iw }

/-- The phase-sum check of a valid period (R161). -/
def Mot.checkSum (c : Ctx) (x : Sens) (m : Mot) : Mot :=
  if x.bad then m
  else if x.ovr || decide (c.p 0x051 < (x.iu + x.iv + x.iw).natAbs) then
    let b := { m with sumRun := m.sumRun + 1 }
    if 4 ≤ b.sumRun then b.setCause 6 else b
  else { m with sumRun := 0 }

/-- Cycle-by-cycle trips in consecutive periods (R185). -/
def Mot.checkOcf (c : Ctx) (x : Sens) (m : Mot) : Mot :=
  if x.cbc then
    let b := { m with ocfRun := m.ocfRun + 1 }
    if c.p 0x050 ≤ b.ocfRun then b.setCause 7 else b
  else { m with ocfRun := 0 }

/-- Step 2. -/
def Mot.checks (c : Ctx) (x : Sens) (ctl : Bool) (m : Mot) : Mot := ((m.takeCurrents x ctl).checkSum c x).checkOcf c x

/-! ### Step 3: angle, speed, position -/

/-- Position of a Hall code in the forward order (R168); 6 for none. -/
def hallPos (rev : Bool) (code : Nat) : Nat :=
  (if rev then [5, 4, 6, 2, 3, 1] else [1, 3, 2, 6, 4, 5]).idxOf code

/-- k times 60° as an angle. -/
def sixty (k : Int) : Int := stdRound (k * 2 ^ 32) 6

/-- The signed difference of two angles or counts. -/
def angDiff (a b : Word) : Int := (a - b).toInt

/-- A valid edge by `d` sixths at time `e` (R169): an interval for each 60° passed, of one direction, newest first. -/
def Mot.hallEdge (c : Ctx) (m : Mot) (d : Int) (e : Nat) : Mot :=
  let dir := sgn d
  let each := List.replicate d.natAbs ((e - m.edgeT) / Nat.max 1 d.natAbs)
  { m with
    hallIvl := if m.hallDir = 0 then [] else if m.hallDir = dir then (each ++ m.hallIvl).take 6 else each.take 6
    hallDir := dir
    edgeT := e
    raw := if c.k = 3 then wrapI 32 (m.raw + d) else m.raw }

/-- Sixths moved from k0 to k1; a jump of three keeps the last direction (log entry 19). -/
def hallStep (dir : Int) (k0 k1 : Nat) : Int :=
  let d := (k1 + 6 - k0) % 6
  if d ≤ 2 then d else if 4 ≤ d then (d : Int) - 6 else (if dir < 0 then -3 else 3)

/-- The time of six edge intervals used for ω_h: the last six, or six times the last; 0 with none (R169). -/
def sixIntervals (l : List Nat) : Nat :=
  if l.length = 6 then l.foldl (· + ·) 0 else match l with | [] => 0 | x :: _ => 6 * x

/-- θ and ω between edges (R169): `t` cycles after the edge into position k by HALLn, `age` by the mould's own count. With
no interval yet ω_h is 0 (log entry 136). -/
def Mot.hallAngle (c : Ctx) (m : Mot) (k t age : Nat) : Mot :=
  let rev := decide (m.hallDir < 0)
  let edge : Int := c.p 0x030 + sixty (if rev then k + 1 else k)
  let six := sixIntervals m.hallIvl
  let dir : Int := if rev then -1 else 1
  if m.hallDir = 0 ∨ (c.p 0x032).toNat ≤ age then
    { m with omega := 0, theta := BitVec.ofInt 32 (edge + dir * stdRound (2 ^ 32) 12) }
  else if six = 0 then { m with omega := 0, theta := BitVec.ofInt 32 edge }
  else
    { m.setOmega (dir * stdRound (2 ^ 93 * c.per) (six * c.base.toNat)) with
      theta := BitVec.ofInt 32 (edge + dir * Min.min (stdRound ((t : Int) * 2 ^ 32) six) (sixty 1)) }

/-- The Hall angle source (R168 to R170). In SM-SIX-HALL `raw` counts edges. No status word shows the count of rate discards
(log entry 192). -/
def Mot.hallSource (c : Ctx) (x : Sens) (m : Mot) : Mot :=
  let code := fld x.hall 2 0
  let m0 := if x.hall.getLsbD 4 then { m with rdisc := m.rdisc + 1 } else m
  if x.hall.getLsbD 3 then
    let b := { m0 with hallBad := m0.hallBad + 1, ev := m0.ev ||| 16 }
    if 3 ≤ b.hallBad then b.setCause 6 else b
  else
    let rev := decide (c.p 0x031 = 1)
    let now := c.s.tick.base + c.s.tick.ofs.get c.n
    let t := fld x.hall 31 8
    let k1 := hallPos rev code
    let k0 := hallPos rev m0.hallLast.toNat
    let m1 : Mot := { m0 with hallBad := 0, hallLast := BitVec.ofNat 3 code }
    let m2 := if m0.hallLast ≠ 0 ∧ k0 ≠ k1 then m1.hallEdge c (hallStep m1.hallDir k0 k1) (now - t) else m1
    m2.hallAngle c k1 t (now - m2.edgeT)

/-- The accumulated electrical angle `raw`, in 2^-32 turns, moves from θ0 to θ: position is its upper part (R154). -/
def Mot.accumulate (th0 th : Word) (m : Mot) : Mot :=
  let r := wrapI 58 (m.raw + angDiff th th0)
  ({ m with raw := r }).setPos (r / 2 ^ 26)

/-- Positions from Hall edges: edges for SM-SIX-HALL, the accumulated electrical angle / 2^26 for SM-FOC-HALL (R154). -/
def Mot.hallPosition (c : Ctx) (th0 : Word) (m : Mot) : Mot :=
  if c.k = 3 then m.setPos m.raw else m.accumulate th0 m.theta

/-- Z check of the encoder (R172). -/
def Mot.checkZ (c : Ctx) (x : Sens) (m : Mot) : Mot :=
  if c.p 0x035 = 0 ∨ x.encz = m.zLast then m
  else
    let b := { m with zLast := x.encz }
    match b.zFirst with
    | none => { b with zFirst := some x.encz }
    | some z =>
      let cpr := c.p 0x033
      let d := (angDiff x.encz z) % cpr
      if d ≤ c.p 0x035 ∨ cpr - d ≤ c.p 0x035 then b
      else
        let e := { b with slips := b.slips + 1, ev := b.ev ||| 16 }
        if 2 ≤ e.slips then e.setCause 6 else e

/-- The encoder angle source (R171); the speed is that of the last tick (log entry 20). -/
def Mot.encSource (c : Ctx) (x : Sens) (m : Mot) : Mot :=
  let d := angDiff x.enc (BitVec.ofInt 32 m.raw)
  let cpr := (c.p 0x033).toNat
  let b : Mot := { m with
    raw := x.enc.toInt
    theta := BitVec.ofInt 32 (stdRound (angDiff x.enc m.cAlign * c.p 0x001 * 2 ^ 32) cpr + c.p 0x034) }
  ((b.setOmega (stdRound (d * 2 ^ 93 * c.p 0x001) (cpr * c.base.toNat))).setPos b.raw).checkZ c x

/-- Clarke transform: iβ (06 R162), held to Q2.29. -/
def betaF (iu iv : Int) : Int × Bool := sat32f (stdRound ((iu + 2 * iv) * 2 ^ 60) sqrt3.toNat)

/-- The flux observer of one pour (R173): new estimate x, and f after it. -/
def Mot.observer (c : Ctx) (m : Mot) : Mot × Int × Int :=
  let ia := m.iu
  let ib := betaF m.iu m.iv
  let ls := c.p 0x006
  let rs := c.p 0x005
  let psim := c.p 0x007
  let obsg := c.p 0x040
  let f (x i : Int) : Int × Bool := sat32f (stdRound (x * q29 - ls * i) (2 ^ 29))
  let fa := f m.fluxA ia
  let fb := f m.fluxB ib.1
  let g := psim * psim - (fa.1 * fa.1 + fb.1 * fb.1)
  let upd (x v i fx : Int) : Int × Bool := sat32f
    (x + stdRound (twoPi60 * c.base * ((v * q29 - rs * i) * 2 ^ 27 * q29 + obsg * g * fx)) (2 ^ (60 + 64 + 85)))
  let xa := upd m.fluxA m.va1 ia fa.1
  let xb := upd m.fluxB m.vb1 ib.1 fb.1
  let ga := f xa.1 ia
  let gb := f xb.1 ib.1
  ({ m.satIf (ib.2 || fa.2 || fb.2 || xa.2 || xb.2 || ga.2 || gb.2) with fluxA := xa.1, fluxB := xb.1 }, ga.1, gb.1)

/-- The tracker of one pour (R174). PLLBW is held in 2^-64 turns per tick. -/
def Mot.tracker (c : Ctx) (thObs : Word) (m : Mot) : Mot :=
  let err := sinBase (thObs - m.theta)
  let bw := c.p 0x041
  let fb := c.base.toNat
  let b := m.setOmega (m.omega + stdRound (twoPi60 * bw * bw * err) (2 ^ 124 * fb))
  let wp := sat32f (b.omega + stdRound (2 * bw * err) fb)
  { b.satIf wp.2 with
    thObs := thObs
    theta := m.theta + BitVec.ofInt 32 (stdRound (wp.1 * c.base) (2 ^ 61)) }

/-- Loss of lock in RUN (R175). -/
def Mot.checkLock (c : Ctx) (run : Bool) (fa fb : Int) (m : Mot) : Mot :=
  let far := decide (2 ^ 29 < (angDiff m.thObs m.theta).natAbs)
  let psim := c.p 0x007
  let weak := decide (4 * (fa * fa + fb * fb) < psim * psim) &&
    decide (c.p 0x047 * q29 < 2 * m.omega.natAbs * c.base)
  if run && (far || weak) then
    let b := { m with slRun := m.slRun + 1 }
    if 16 ≤ b.slRun then b.setCause 5 else b
  else { m with slRun := 0 }

/-- The sensorless source (R173 to R175): in every pour but those of the test pulses, after which it runs from the I/f
start on (Table 6-4). The position follows θ_pll in RUN and STOPPING. atan2(0, 0) saturates (03 Table 3-6). -/
def Mot.slSource (c : Ctx) (st : AxState) (m : Mot) : Mot :=
  if st = .start ∧ m.slPh = 0 then m
  else
    let o := m.observer c
    let th := if o.2.1 = 0 ∧ o.2.2 = 0 then 0 else BitVec.ofInt 32 (atan2Base o.2.2 o.2.1)
    let a := o.1.satIf (decide (o.2.1 = 0) && decide (o.2.2 = 0))
    let b := (a.tracker c th).checkLock c (decide (st = .run)) o.2.1 o.2.2
    if (st = .run ∨ st = .stopping) ∧ m.landing = false then b.accumulate m.theta b.theta else b

/-- Step 3 for the sources that need no imposed angle. -/
def Mot.source (c : Ctx) (x : Sens) (st : AxState) (m : Mot) : Mot :=
  match c.k with
  | 1 => m.encSource c x
  | 2 => m.slSource c st
  | _ => (m.hallSource c x).hallPosition c m.theta

/-- The currents in the frame of θ (R162). -/
def Mot.park (th : Word) (m : Mot) : Mot :=
  let ia := m.iu
  let ib := betaF m.iu m.iv
  let co := cosBase th
  let si := sinBase th
  let d := sat32f (stdRound (ia * co + ib.1 * si) (2 ^ 29))
  let q := sat32f (stdRound (ib.1 * co - ia * si) (2 ^ 29))
  { m.satIf (ib.2 || d.2 || q.2) with id := d.1, iq := q.1 }

/-- The bus current of six-step mode (R203), held to Q2.29. -/
def Mot.busCurrent (m : Mot) : Mot :=
  let q := sat32f (stdRound (m.d1.u * m.iu + m.d1.v * m.iv + m.d1.w * m.iw) (2 ^ 29))
  { m.satIf q.2 with id := 0, iq := q.1 }

/-- The measured currents of the pour: Park in the frame in use (R162), the bus current in six-step mode (R203). -/
def Mot.measure (c : Ctx) (m : Mot) : Mot :=
  if c.k = 3 then m.busCurrent else m.park (if m.landing then m.thF else m.theta)

/-! ### The angle source of another mould (R592) -/

/-- HALL after SL (log entry 170): the last code is the present one, and the edges run on at the tracker's speed. A forced
angle turns on in START: at the trajectory velocity in landing mode. -/
def Mot.seedHall (c : Ctx) (x : Sens) (m : Mot) : Mot :=
  let code := fld x.hall 2 0
  let six := if m.omega = 0 then 0 else (stdRound (2 ^ 93 * c.per) (m.omega.natAbs * c.base.toNat)).toNat
  { m with
    hallLast := if x.hall.getLsbD 3 then 0 else BitVec.ofNat 3 code
    hallBad := 0, hallDir := sgn m.omega, hallIvl := if m.omega = 0 then [] else List.replicate 6 (six / 6)
    edgeT := c.s.tick.base + c.s.tick.ofs.get c.n - fld x.hall 31 8
    fF := if m.landing then stdRound m.v.natAbs 64 else m.fF
    handQ := m.handQ || m.landing, landing := false }

/-- SL after HALL (log entry 170): the flux stands at the rotor angle with the magnitude PSIM, the forced angle at it. Start-up
is over (4) where HALL's was; an axis that starts with the new mould starts as SL does. -/
def Mot.seedFlux (c : Ctx) (st : AxState) (m : Mot) : Mot :=
  let ib := betaF m.iu m.iv
  let f (t i : Int) : Int := (sat32f (stdRound (c.p 0x007 * t + c.p 0x006 * i) (2 ^ 29))).1
  { m with
    fluxA := f (cosBase m.theta) m.iu, fluxB := f (sinBase m.theta) ib.1
    thObs := m.theta, thF := m.theta, slRun := 0
    slPh := if m.startDone || decide (st = .run) || decide (st = .stopping) || decide (st = .hold) then 4 else 0 }

/-- The reference of the angle source that a matched MOTn brings from another mould of its unit. -/
def Mot.reseed (c : Ctx) (x : Sens) (st : AxState) (m : Mot) : Mot := if c.k = 2 then m.seedFlux c st else m.seedHall c x

end Sys2Proof.Machine
end

