-- ==== Sys2Proof/Machine/StdMotion.lean ====
section
/-! DEFINITION. Standard moulds, steps 4 and 5 of 06 Table 6-2: stall, end stop, travel, obstruction and safety edge
(06 R188 to R199), learning (06 R192, R193), and the trajectory (06 R181 to R183). -/

namespace Sys2Proof.Machine

/-! ### Trajectory (R181 to R183) -/

/-- The limits in force: the job's own, otherwise the parameters, LEARNSPD while learning or homing (R181, R190, R192). -/
def Ctx.vmaxOf (c : Ctx) (m : Mot) : Int :=
  if 1 ≤ m.learn ∧ m.learn ≤ 3 then c.p 0x060 else m.vlim.getD (c.p 0x020)
def Ctx.amaxOf (c : Ctx) (m : Mot) : Int := m.alim.getD (c.p 0x021)

/-- The deceleration in force before R183. -/
def Ctx.dlOf (c : Ctx) (m : Mot) : Int :=
  match m.dlKind with
  | 1 => c.p 0x024
  | 2 => c.p 0x025
  | 3 => c.p 0x022
  | _ => m.dlim.getD (c.p 0x022)

/-- DMAX and DSTOP times kreg while VM exceeds VREGLIM; DOBS is never reduced (R183). -/
def Ctx.dlEff (c : Ctx) (x : Sens) (m : Mot) : Int :=
  let full := c.p 0x079
  let lim := c.p 0x07A
  let dl := c.dlOf m
  if m.dlKind = 2 ∨ x.vbus ≤ lim ∨ full ≤ lim then dl
  else
    let num := full - x.vbus
    let den := full - lim
    if 10 * num < den then stdRound dl 10
    else if den < num then dl
    else stdRound (dl * num) den.toNat

/-- `brake` of R181 as a fraction: numerator over 2 dl jmax, in 2^-64 units. -/
def brakeNum (v a dl jmax : Int) : Int := v * v * jmax + v.natAbs * (a.natAbs + dl) * dl

/-- The acceleration asked for by a positioning run; `dist` in 2^-64 units. -/
def areqPos (dist v a dl jmax vmax amax : Int) : Int :=
  let s := sgn dist
  if s = 0 ∨ (0 < s * v ∧ dist.natAbs * (2 * dl * jmax) ≤ brakeNum v a dl jmax + v.natAbs * (2 * dl * jmax)) then
    -(sgn v) * dl
  else if v.natAbs < vmax then s * amax
  else 0

/-- MOVE_VEL (R182): within the threshold of its velocity now or before, and the acceleration asked for. -/
def velReached (vcmd v amax : Int) (before : Bool) : Bool := before || decide ((vcmd - v).natAbs ≤ amax)
def areqVel (vcmd v amax : Int) (reached : Bool) : Int := if reached then 0 else sgn (vcmd - v) * amax

/-- One trajectory step (R181, R182) under the limits given. -/
def Mot.trajStep (dl jmax vmax amax : Int) (m : Mot) : Mot :=
  let reached := match m.vcmd with | some vc => velReached vc m.v amax m.vreached | none => false
  let areq := match m.vcmd with
    | some vc => areqVel vc m.v amax reached
    | none => areqPos ((m.target * 2 ^ 32 - m.p) * 2 ^ 32) m.v m.a dl jmax vmax amax
  let a := m.a + clampI (-jmax) jmax (areq - m.a)
  let v := clampI (-vmax) vmax (m.v + a)
  let p := wrapI 64 (m.p + stdRound v (2 ^ 32))
  let hit := m.vcmd.isNone && decide ((m.target * 2 ^ 32 - p).natAbs ≤ 2 ^ 32) && decide (v.natAbs ≤ jmax)
  if hit then
    { m with p := m.target * 2 ^ 32, v := 0, a := 0, moving := false, done := true
             ev := if m.moving then m.ev ||| 64 else m.ev, reacting := false, reversing := false }
  else { m with a := a, v := v, p := p, vreached := reached }

/-- Numerator over denominator rounded upwards. -/
def ceilDiv (n d : Int) : Int := -((-n) / d)

/-- The target of a stop (R182): where the braking ends, rounded in the direction of motion. -/
def Mot.stopTarget (dl jmax : Int) (m : Mot) : Int :=
  let den := 2 * dl * jmax
  let b := brakeNum m.v m.a dl jmax
  if m.v = 0 ∨ den ≤ 0 then nearEven m.p (2 ^ 32)
  else if 0 < m.v then ceilDiv (m.p * 2 ^ 32 * den + b) (den * 2 ^ 64)
  else (m.p * 2 ^ 32 * den - b) / (den * 2 ^ 64)

/-- A stop with a deceleration kind: the next trajectory step plans it (R182, R205). -/
def Mot.stopBy (kind : Nat) (m : Mot) : Mot :=
  { m with dlKind := kind, stopReq := true, vcmd := none, moving := true, done := false, dur := 0 }

/-- A stop asked for is planned with the deceleration in force (R182, R183). -/
def Mot.planStop (c : Ctx) (x : Sens) (m : Mot) : Mot :=
  if m.stopReq then { m with stopReq := false, target := m.stopTarget (c.dlEff x m) (c.p 0x023) } else m

/-- The DUR time of MOVE_VEL runs down; at its end the axis decelerates at DMAX (11 Table 11-7a). -/
def Mot.runDur (m : Mot) : Mot :=
  if m.dur = 0 then m else if m.dur = 1 then m.stopBy 3 else { m with dur := m.dur - 1 }

/-- Step 5, in every pour (R158, R181): a generator at rest on its target stays there. -/
def Mot.trajectory (c : Ctx) (x : Sens) (m : Mot) : Mot :=
  let b := m.runDur.planStop c x
  b.trajStep (c.dlEff x b) (c.p 0x023) (c.vmaxOf b) (c.amaxOf b)

/-- Step 5 in START. The job's target is in force in landing mode from the first I/f pour on (R180) and otherwise from the
entry to RUN on, which sets p and v anew (Table 6-3); until then the generator keeps its place (log entry 189). -/
def Mot.trajectoryStart (c : Ctx) (x : Sens) (m : Mot) : Mot :=
  if m.landing then m.trajectory c x
  else
    let d := m.runDur
    let b := ({ d with target := nearEven d.p (2 ^ 32), vcmd := none }).trajStep (c.dlEff x d) (c.p 0x023) (c.vmaxOf d) (c.amaxOf d)
    { d with p := b.p, v := b.v, a := b.a }

/-! ### Travel, ends, obstruction -/

/-- The closing direction (R192). -/
def Ctx.closing (c : Ctx) : Int := if c.p 0x06C = 0 then -1 else 1

/-- |POSOPEN - POSCLOSED| (R191). -/
def Mot.travel (m : Mot) : Int := (m.posO - m.posC).natAbs

/-- ENDZONE times travel, times 2^29. -/
def Mot.zone (c : Ctx) (m : Mot) : Int := c.p 0x068 * m.travel

/-- The direction the job moves in: of its velocity command, or towards its target; positive for a job that names neither
(log entry 174). -/
def Mot.jobDir (m : Mot) : Int :=
  let d := match m.vcmd with | some v => sgn v | none => sgn (m.target * 2 ^ 32 - m.p)
  if d = 0 then 1 else d

/-- The direction in which the axis moves, by its trajectory: 0 at rest; before its first step, the job's. -/
def Mot.dir (m : Mot) : Int := if m.v ≠ 0 then sgn m.v else if m.moving then m.jobDir else 0

/-- The end the axis moves towards. -/
def Mot.endAhead (c : Ctx) (m : Mot) : Int := if m.dir = c.closing then m.posC else m.posO

/-- Inside the end zone of the end ahead; at rest no end is approached (R195). -/
def Mot.inZone (c : Ctx) (m : Mot) : Bool :=
  decide (m.dir ≠ 0) && decide ((m.endAhead c - m.pos).natAbs * q29 ≤ m.zone c)

/-- A travel has been learned, in positions that are valid (R189, R190; log entry 137). -/
def Mot.learned (m : Mot) : Bool := m.posvalid && decide (m.travel ≠ 0)

/-- A stall here is an end stop (R189). In step 4 of LEARN_TRAVEL the ends are those of steps 2 and 3 (R192). -/
def Mot.atEnd (c : Ctx) (m : Mot) : Bool := !(m.learned || decide (4 ≤ m.learn)) || m.inZone c

/-- The axis stands at the closed end: it got there by an end stop, or within ENDZONE of POSCLOSED (R200). -/
def Mot.closedEnd (c : Ctx) (m : Mot) : Bool :=
  m.atClosed || (m.learned && decide ((m.posC - m.pos).natAbs * q29 ≤ m.zone c))

/-- The motion ends where the axis stands. -/
def Mot.endHere (m : Mot) : Mot :=
  { m with
    p := m.pos * 2 ^ 32, target := m.pos, vcmd := none, v := 0, a := 0, dur := 0, stallT := 0, stopReq := false
    moving := false, done := true, reacting := false, reversing := false }

/-- LEARN_TRAVEL that does not end DONE leaves the pair as it was (11 R357). -/
def Mot.learnDrop (m : Mot) : Mot :=
  if 2 ≤ m.learn then { m with learn := 0, posC := m.savC, posO := m.savO } else { m with learn := 0 }

/-- The learn job ends ABORTED with cause TRAVEL (Table 6-8: no FAULT within LEARN_TRAVEL). The trajectory halts at once, and
the axis holds (log entry 191). -/
def Mot.learnAbort (m : Mot) : Mot :=
  { m.endHere.learnDrop with cause := 8, causes := m.causes ||| bitB 16 8, learnBad := true }

/-- R191, in every state under control; within LEARN_TRAVEL the job ends ABORTED (Table 6-8). -/
def Mot.checkTravel (c : Ctx) (m : Mot) : Mot :=
  let lo := Min.min m.posC m.posO
  let hi := Max.max m.posC m.posO
  if m.learned && (decide (m.zone c < (lo - m.pos) * q29) || decide (m.zone c < (m.pos - hi) * q29)) then
    (if 2 ≤ m.learn then m.learnAbort else m.setCause 8)
  else m

/-- A reaction begins: one more for MGMT to see. -/
def Mot.reactNew (stop : Bool) (m : Mot) : Mot :=
  { m.learnDrop with reacting := true, reacts := m.reacts + 1, repStop := stop, reversing := !stop }

/-- A stop reaction with a deceleration kind (R182, R196): the axis goes to STOPPING. -/
def Mot.reactStop (code kind : Nat) (m : Mot) : Mot := ((m.setCause code).reactNew true).stopBy kind

/-- The reaction of an obstruction or an edge press (R196, R197): raises MEV0. A reversal at rest keeps its place as target,
and one runs with the limits of the job (log entry 177). -/
def Mot.react (c : Ctx) (code : Nat) (m : Mot) : Mot :=
  let b := { m with ev := m.ev ||| 1 }
  if c.p 0x066 = 0 ∨ m.reversing then b.reactStop code 2
  else
    let d := m.dir
    let t := if d = 0 ∨ 0 < c.p 0x067 then wrapI 32 (nearEven m.p (2 ^ 32) - d * c.p 0x067)
      else if d = c.closing then m.posO else m.posC
    { (b.setCause code).reactNew false with
      target := t, vcmd := none, moving := true, done := false, dur := 0, stopReq := false, dlKind := 0
      revDir := d, revNew := true, holdReq := 0 }

/-- What a TINT of the profile gives: its value, whether the index was clamped (02 R59), the words read. -/
structure ProfRead where
  val : Int
  clamped : Bool
  words : List Nat
  deriving DecidableEq, Repr

/-- A Pour data word as SECDED gives it (02 R61). -/
def Ctx.word (c : Ctx) (a : Nat) : Int := if c.s.pdmBad a then 0 else (c.s.pour.pdm.word (4 * a)).toInt

/-- The profile at x, interpolated (R195, 03 R102), in Q2.29: closing or opening half. 0 when a word read is beyond
correction (02 R61). -/
def Ctx.profile (c : Ctx) (m : Mot) (close : Bool) : ProfRead :=
  let base := profBase c.n.val + (if close then 0 else 1024)
  let span := m.posO - m.posC
  let num := (m.pos - m.posC) * 1023 * 65536 * sgn span
  let t := tintIdx ⟨base, 1024⟩ (if span = 0 then 0 else stdRound num span.natAbs)
  match t.2.1 with
  | none => ⟨c.word t.1, t.2.2, [t.1]⟩
  | some f =>
    ⟨if c.s.pdmBad t.1 || c.s.pdmBad (t.1 + 1) then 0
      else c.word t.1 + roundShift ((c.word (t.1 + 1) - c.word t.1) * f) 16 false, t.2.2, [t.1, t.1 + 1]⟩

/-- KA × a / AMAX in Q2.29 (R184, R193, R195). -/
def Ctx.share (c : Ctx) (m : Mot) : Int := stdRound (c.p 0x01A * m.a * 4) (c.p 0x021).toNat

/-- iq less the acceleration share, as R193 and R195 use it, held to Q2.29. -/
def Ctx.iqNet (c : Ctx) (m : Mot) : Int × Bool := sat32f (m.iq - c.share m)

/-- The obstruction test (R195): whether it declares one. LEARN_TRAVEL turns it off (R192). -/
def Mot.obstruction (c : Ctx) (x : Sens) (m : Mot) : Mot × Bool :=
  if x.bad || !m.posvalid || decide (2 ≤ m.learn) || decide (m.blank ≠ 0) || m.inZone c then (m, false)
  else
    let closing := decide (m.v = 0) || decide (sgn m.v = c.closing)
    let prof : ProfRead := if !m.profok && decide (c.dev 0x0004 = 0) then ⟨0, false, []⟩ else c.profile m closing
    let net := c.iqNet m
    let dev := sat32f ((net.1 - prof.val).natAbs : Int)
    let env := sat32f (c.p 0x062 + stdRound (c.p 0x063 * prof.val.natAbs) (2 ^ 29))
    let cnt := if env.1 < dev.1 then m.obsCnt + 1 else 0
    ({ m.satIf (net.2 || dev.2 || env.2) with
        dev := dev.1, obsCnt := cnt, clamped := m.clamped || prof.clamped, pdmUse := m.pdmUse ++ prof.words },
      decide (0 < cnt) && decide (c.p 0x064 ≤ cnt))

/-- The stall timer (R188). -/
def Mot.stall (c : Ctx) (x : Sens) (m : Mot) : Mot × Bool :=
  if x.bad then (m, false)
  else
    let slow := decide (m.omega.natAbs * c.base * c.uptN < c.p 0x058 * q29 * c.uptD)
    if slow && decide (c.p 0x059 < m.iq.natAbs) then
      let b := { m with stallT := m.stallT + 1 }
      (b, decide (c.p 0x05A ≤ b.stallT))
    else ({ m with stallT := 0 }, false)

/-- HOME at the closed end: p takes POSCLOSED and the position is valid (R190). -/
def Mot.homed (m : Mot) : Mot :=
  { m with posOfs := m.posOfs + (m.posC - m.pos), pos := m.posC, posvalid := true, learn := 0 }.endHere

/-! ### Learning (R192, R193) -/

/-- A new run of the mould's own: its limits are those of the parameters. -/
def Mot.newRun (m : Mot) : Mot :=
  { m with
    vlim := none, alim := none, dlim := none, dlKind := 0, stopReq := false, vreached := false
    moving := true, done := false, stallT := 0 }

/-- A velocity run in direction d at LEARNSPD. -/
def Mot.creep (c : Ctx) (d : Int) (m : Mot) : Mot := { m.newRun with vcmd := some (d * c.p 0x060) }

/-- A positioning run under the normal limits. -/
def Mot.goto (t : Int) (m : Mot) : Mot := { m.newRun with target := t, vcmd := none }

/-- An end stop (R189, R190, Table 6-5): learn 1 is HOME, 2 to 5 the steps of LEARN_TRAVEL. -/
def Mot.endStop (c : Ctx) (m : Mot) : Mot :=
  let b := { m with ev := m.ev ||| 4 }
  match m.learn with
  | 0 => { b.endHere with atClosed := decide (m.dir = c.closing) }
  | 1 => { b.homed with atClosed := true }
  | 2 => ({ b.endHere with posC := m.pos, learn := 3 }).creep c (-c.closing)
  | 3 =>
    let d : Mot := { b.endHere with posO := m.pos }
    if d.travel < (1024 : Int) then d.learnAbort else ({ d with learn := 4, passes := 0 }).goto d.posC
  | _ => b.endHere

/-- One recorded pour: iq less the acceleration share goes into its bin (R193). A position outside the travel goes into the
bin of the nearer end, and sets no flag (log entry 190). -/
def Mot.record (c : Ctx) (m : Mot) : Mot :=
  let span := m.posO - m.posC
  if span = 0 then m
  else
    let x := nearEven ((m.pos - m.posC) * 1023 * sgn span) span.natAbs
    let bin := (clampI 0 1023 x).toNat + (if m.learn = 4 then 0 else 1024)
    { m.satIf (c.iqNet m).2 with
      binS := Sparse.put 0 bin (Sparse.get 0 bin m.binS + (c.iqNet m).1) m.binS
      binN := Sparse.put 0 bin (Sparse.get 0 bin m.binN + 1) m.binN }

/-- The mean of a bin, when it is filled. -/
def Mot.binMean (m : Mot) (i : Nat) : Option Int :=
  let n := Sparse.get 0 i m.binN
  if n = 0 then none else some (stdRound (Sparse.get 0 i m.binS) n)

/-- The nearest filled bin at or below i, not below lo; and at or above i, below hi (fuel steps). -/
def Mot.binDown (m : Mot) : Nat → Nat → Option (Nat × Int)
  | 0, _ => none
  | f + 1, i => match m.binMean i with
    | some v => some (i, v)
    | none => if i = 0 then none else m.binDown f (i - 1)

def Mot.binUp (m : Mot) : Nat → Nat → Option (Nat × Int)
  | 0, _ => none
  | f + 1, i => match m.binMean i with
    | some v => some (i, v)
    | none => m.binUp f (i + 1)

/-- A profile point: the mean of its bin, interpolated or copied where the bin is empty (R193). -/
def Mot.point (m : Mot) (j : Nat) : Int :=
  let lo := 1024 * (j / 1024)
  match m.binDown (j - lo + 1) j, m.binUp (lo + 1024 - j) j with
  | some (a, x), some (b, y) => if a = b then x else x + stdRound ((y - x) * ((j : Int) - a)) (b - a)
  | some (_, x), none => x
  | none, some (_, y) => y
  | none, none => 0

/-- A pass of step 4 that reached its end: next pass, or the profiles are formed and the axis will hold in position mode
(Table 6-5). -/
def Mot.learnNext (c : Ctx) (m : Mot) : Mot :=
  match m.learn with
  | 4 => ({ m with learn := 5 }).goto m.posO
  | 5 =>
    if m.passes + 1 < c.p 0x061 then ({ m with learn := 4, passes := m.passes + 1 }).goto m.posC
    else { m with
      learn := 0, profok := true, posvalid := true, outLeft := 2048, formRun := m.stepNo + 1, inGot := 33, formed := true
      atClosed := false, holdReq := 0 }
  | _ => m

/-! ### Step 4 -/

/-- The safety edge (R199) for an axis moving in the closing direction: 0 nothing, 1 press, 2 broken. -/
def Ctx.edgeNow (c : Ctx) (m : Mot) : Nat :=
  if (c.dev 0x0001).toNat.testBit c.n.val && decide (m.dir = c.closing) then
    if c.s.std.edgeNoRef || decide (16 ≤ c.s.std.edgeAge) then 2
    else match c.s.std.edge with
      | none => 0
      | some r => if c.dev 0x0003 < r then 2 else if r < c.dev 0x0002 then 1 else 0
  else 0

/-- The stop reaction to an obstruction runs; the reversal still brakes the motion it reacted to, so that what it meets is
no further obstruction (R197, log entry 138). -/
def Mot.obsStopping (m : Mot) : Bool := m.reacting && !m.reversing && decide (m.dlKind = 2)
def Mot.reverseBraking (m : Mot) : Bool := m.reversing && decide (sgn m.v = m.revDir) && decide (m.v ≠ 0)

/-- Every cause present in the pour (R198): edge, obstruction, stall. -/
def Mot.present (e o t : Bool) (m : Mot) : Mot :=
  { m with causes := m.causes ||| (if e then bitB 16 2 else 0) ||| (if o then bitB 16 1 else 0) ||| (if t then bitB 16 3 else 0) }

/-- The reaction of the pour, in the precedence EDGE, OBSTRUCT, STALL (R196 to R199). `e` is the edge, `o` an obstruction,
`t` a stall. A broken edge stops with DSTOP (log entry 177). -/
def Mot.reaction (c : Ctx) (e : Nat) (o t : Bool) (m : Mot) : Mot :=
  let stop := t && m.atEnd c
  let b := m.present (decide (e ≠ 0)) o (t && !stop)
  let again := b.obsStopping || b.reverseBraking
  if b.faulting then b
  else if e = 1 ∧ again = false then b.react c 2
  else if e = 2 ∧ (b.reacting = false ∨ b.reversing) then b.reactStop 2 1
  else if o = true ∧ again = false then b.react c 1
  else if stop then b.endStop c
  else if t = true ∧ (b.reacting = false ∨ b.reversing) then
    (if 2 ≤ b.learn then b.learnAbort else b.reactStop 3 1)
  else b

/-- Step 4 in RUN and STOPPING, and without the tests of R188 and R195 in START and HOLD. -/
def Mot.supervise (c : Ctx) (x : Sens) (moves : Bool) (m : Mot) : Mot :=
  let o := if moves then m.obstruction c x else (m, false)
  let t := if moves then o.1.stall c x else (o.1, false)
  (t.1.reaction c (c.edgeNow t.1) o.2 t.2).checkTravel c

/-- Blanking runs down from the start of the job (R195). -/
def Mot.runBlank (m : Mot) : Mot := { m with blank := m.blank - 1 }

/-- Steps 4 and 5 in RUN and STOPPING. A learning pass is recorded after the trajectory step, with its new a (log entry
183). -/
def Mot.motion (c : Ctx) (x : Sens) (m : Mot) : Mot :=
  let d := (m.supervise c x true).trajectory c x
  let e := if d.learn = 4 ∨ d.learn = 5 then d.record c else d
  if (e.learn = 4 ∨ e.learn = 5) ∧ e.done then e.learnNext c else e

end Sys2Proof.Machine
end

