-- ==== Sys2Proof/Machine/StdLoops.lean ====
section
/-! DEFINITION. Standard moulds, steps 6 to 8 of 06 Table 6-2: position and speed loops, current limit, transforms,
current loops, modulation, six-step mode and brake (06 R162 to R167, R184, R186, R200 to R203), and the starts (06
R176 to R180). -/

namespace Sys2Proof.Machine

/-- The largest Q2.29 value of kbus: 3.99 (R164). -/
def kbusMax : Int := 2142114939

/-- kbus = VBASE / VM (R164). -/
def Ctx.kbus (c : Ctx) (x : Sens) : Int :=
  if x.vbus ≤ 0 then kbusMax else Min.min kbusMax (stdRound (c.p 0x003 * q29) x.vbus.toNat)

/-- Vmax = VLIM / (√3 kbus) (R165), held to Q2.29 (05 R143). -/
def Ctx.vmax (c : Ctx) (x : Sens) : Int × Bool := sat32f (stdRound (c.p 0x014 * 2 ^ 60 * q29) (sqrt3 * c.kbus x).toNat)

/-- ILIM = IMAX times kth (R186). -/
def Ctx.ilim (c : Ctx) : Int :=
  stdRound (c.p 0x015 * Sparse.get 0 (kthKey c.n.val) c.s.std.lat) (2 ^ 29)

def Ctx.unwind (c : Ctx) : Bool := decide (c.p 0x016 = 1)

/-- √(a² - b²), 0 when b is the larger. -/
def legOf (a b : Int) : Int := (rsqrt ((a * a - b * b).toNat) : Nat)

/-- The position error p - p_meas in pu of the position base (log entry 135), saturated to Q2.29 as every loop's error is
(05 R134). -/
def Ctx.posErr (c : Ctx) (m : Mot) : Int :=
  stdRound ((m.p - m.pos * 2 ^ 32) * 8 * c.uptD) (Sparse.get 0 (posBaseKey c.n.val) c.s.std.lat * c.uptN).toNat

/-- The position loop, a 2P2Z instance with b0 alone (Table 6-3): its limits are those of the format (log entry 135). At a
handover its state is preset with u0 = 0 and its reference is the measured value (05 R149, R150). -/
def Mot.posLoop (c : Ctx) (entry : Bool) (m : Mot) : Int × Mot :=
  let lo : Int := -(2 ^ 31)
  let hi : Int := 2 ^ 31 - 1
  let k := if entry then handover2 lo hi 0 else m.cPos
  let u := step2p2z ⟨c.p 0x01C, 0, 0, 0, 0⟩ lo hi (if entry then 0 else c.posErr m) 0 k
  (u.u, { m.satIf u.sat with cPos := u.k })

/-- Position loop then speed loop (R184): the q reference before the clamp. `entry` is a handover of the position loop,
`hand` one of the speed loop from u0, which then takes the measured speed as its reference (05 R150). -/
def Mot.speedLoop (c : Ctx) (entry : Bool) (hand : Option Int) (m : Mot) : Mot :=
  let lim := c.ilim
  let q := m.posLoop c entry
  let k := match hand with | some u0 => handover3 (-lim) lim u0 | none => m.cSpd
  let r := if hand.isSome then (m.omega, false) else sat32f (c.velPu m.v + q.1)
  let u := step3p3z ⟨c.p 0x018, 0, 0, 0, 0⟩ (c.p 0x019) (-lim) lim (-lim) lim c.unwind r.1 m.omega k
  let i := sat32f (u.u + c.share m)
  { q.2.satIf (r.2 || u.sat || i.2) with cSpd := u.k, iqRef := i.1 }

/-- The vector clamp (R186): the d reference has priority; LIM, and MEV5 on entry. -/
def Mot.clampCurrent (c : Ctx) (idRef : Int) (m : Mot) : Mot × Int :=
  let lim := c.ilim
  let d := clampI (-lim) lim idRef
  let q := clampI (-(legOf lim d)) (legOf lim d) m.iqRef
  let on := decide (d ≠ idRef) || decide (q ≠ m.iqRef)
  ({ m with iqRef := q, limOn := on, ev := m.ev ||| (if on && !m.limOn then 32 else 0) }, d)

/-- The d and q current loops and the inverse Park transform (R165, R166): the new voltage vector. -/
def Mot.currentLoops (c : Ctx) (x : Sens) (th : Word) (idRef : Int) (m : Mot) : Mot :=
  let vs := c.vmax x
  let vm := vs.1
  let d := step3p3z ⟨c.p 0x010, 0, 0, 0, 0⟩ (c.p 0x011) (-vm) vm (-vm) vm c.unwind idRef m.id m.cD
  let ql := legOf vm d.u
  let q := step3p3z ⟨c.p 0x012, 0, 0, 0, 0⟩ (c.p 0x013) (-ql) ql (-ql) ql c.unwind m.iqRef m.iq m.cQ
  let co := cosBase th
  let si := sinBase th
  let va := sat32f (stdRound (d.u * co - q.u * si) (2 ^ 29))
  let vb := sat32f (stdRound (d.u * si + q.u * co) (2 ^ 29))
  { m.satIf (vs.2 || d.sat || q.sat || va.2 || vb.2) with
    cD := d.k, cQ := q.k, iqImp := m.iqRef, va0 := va.1, vb0 := vb.1 }

/-- A compare of a duty given as numerator over denominator (R166). -/
def cmpOf (per : Nat) (num : Int) (den : Nat) : BitVec 20 :=
  BitVec.ofInt 20 (clampI 0 (per * 16) (nearEven (num * per * 16) den))

/-- Space-vector modulation (R166): the three compares. -/
def Mot.svm (c : Ctx) (x : Sens) (m : Mot) : Three (BitVec 20) :=
  let a := m.va0 * 2 ^ 61
  let r := sqrt3 * m.vb0
  let b := r - m.va0 * 2 ^ 60
  let w := -r - m.va0 * 2 ^ 60
  let off := Max.max a (Max.max b w) + Min.min a (Min.min b w)
  let kb := c.kbus x
  let duty (v : Int) : BitVec 20 := cmpOf c.per (2 ^ 120 + 2 * (2 * v - off) * kb) (2 ^ 121)
  ⟨duty a, duty b, duty w⟩

/-- The brake compare (R201). -/
def Ctx.brakeCmp (c : Ctx) (x : Sens) : BitVec 20 :=
  let lo := c.p 0x078
  let hi := c.p 0x079
  if hi ≤ lo then 0 else cmpOf c.per (clampI 0 (hi - lo) (x.vbus - lo)) (hi - lo).toNat

/-! ### Six-step (R202, R203) -/

/-- Table 6-6: the phases X, Y, Z of position k. -/
def sixPair (k : Nat) : Phase × Phase × Phase :=
  match k with
  | 0 => (.u, .w, .v)
  | 1 => (.v, .w, .u)
  | 2 => (.v, .u, .w)
  | 3 => (.w, .u, .v)
  | 4 => (.w, .v, .u)
  | _ => (.u, .v, .w)

/-- The six-step loop on the measured bus current: the duties in Q2.29. The direction of motion orders X and Y and the sign
of the reference; at rest it is that of the torque asked for (log entry 21). Before any valid code the pair is that of
k = 5, and u / 2 is rounded down (log entry 173). -/
def Mot.sixStep (c : Ctx) (m : Mot) : Mot :=
  let dir := if m.v ≠ 0 then sgn m.v else if m.iqRef < 0 then -1 else 1
  let u := step3p3z ⟨c.p 0x090, 0, 0, 0, 0⟩ (c.p 0x091) 0 (c.p 0x014) 0 (c.p 0x014) c.unwind (dir * m.iqRef) m.iq m.cBus
  let k := hallPos (decide (c.p 0x031 = 1)) m.hallLast.toNat
  let pr := sixPair k
  let xy := if dir < 0 then (pr.2.1, pr.1) else (pr.1, pr.2.1)
  let half := u.u / 2
  let d : Three Int := ((⟨2 ^ 28, 2 ^ 28, 2 ^ 28⟩ : Three Int).set xy.1 (2 ^ 28 + half)).set xy.2 (2 ^ 28 - half)
  { m.satIf u.sat with cBus := u.k, iqImp := m.iqRef, d0 := d }

/-- The compares of the duties held. -/
def Mot.dutyCmp (c : Ctx) (m : Mot) : Three (BitVec 20) :=
  ⟨cmpOf c.per m.d0.u (2 ^ 29), cmpOf c.per m.d0.v (2 ^ 29), cmpOf c.per m.d0.w (2 ^ 29)⟩

/-! ### Running, holding -/

/-- The closed-loop pour of RUN, STOPPING and HOLD in position mode. -/
def Mot.closed (c : Ctx) (x : Sens) (entry : Bool) (hand : Option Int) (m : Mot) : Mot :=
  let b := m.speedLoop c entry hand
  let l := b.clampCurrent c 0
  if c.k = 3 then l.1.sixStep c else l.1.currentLoops c x l.1.theta l.2

/-- A pour with an imposed current vector (id, iq) in the frame of θ. -/
def Mot.imposed (c : Ctx) (x : Sens) (th : Word) (idRef iqRef : Int) (m : Mot) : Mot :=
  let b := if c.k = 3 then m else m.park th
  let l := ({ b with iqRef := iqRef }).clampCurrent c idRef
  if c.k = 3 then l.1.sixStep c else l.1.currentLoops c x th l.2

/-- Force mode (R200): the loops above the current loops are cleared, and the q reference ramps to IHOLD in the closing
direction. -/
def Mot.forceHold (c : Ctx) (x : Sens) (m : Mot) : Mot :=
  let n := Nat.max 1 (c.p 0x072).toNat
  let t := Nat.min n (m.holdT + 1)
  let r := c.closing * stdRound (c.p 0x071 * t) n
  ({ m with holdT := t, cSpd := {}, cPos := {} }).imposed c x m.theta 0 r

/-! ### Starts (R176 to R180) -/

/-- The positive phase of test pulse k (log entry 22). -/
def ipdPhase (k : Nat) : Fin 4 := match k with | 0 => 0 | 1 => 1 | 2 => 1 | 3 => 2 | 4 => 2 | _ => 0

/-- The maximum result of a phase. -/
def Sens.mx (x : Sens) (ph : Fin 4) : Int := match ph with | 0 => x.mxU | 1 => x.mxV | _ => x.mxW

/-- Test pulse of tick t after the start of the tests, if one is written then. -/
def ipdPulse (gap t : Nat) : Option Nat :=
  if 1 ≤ t ∧ gap ≠ 0 ∧ (t - 1) % gap = 0 ∧ (t - 1) / gap < 6 then some ((t - 1) / gap) else none

/-- θ0 of Table 6-4, step 3. Of equal largest peaks the first counts (log entry 174). -/
def ipdAngle (p : List Int) : Word :=
  let m := (List.range 6).foldl (fun b k => if p.getD b 0 < p.getD k 0 then k else b) 0
  let hi := p.getD ((m + 1) % 6) 0
  let lo := p.getD ((m + 5) % 6) 0
  let den := 2 * p.getD m 0 - hi - lo
  BitVec.ofInt 32 (sixty m + (if den = 0 then 0 else stdRound ((hi - lo) * sgn den * 2 ^ 32) (12 * den.natAbs)))

/-- Contrast of the peaks is below IPDMIN (R179). -/
def ipdPoor (c : Ctx) (p : List Int) : Bool :=
  let mx := p.foldl Max.max 0
  let mn := p.foldl Min.min mx
  decide (mx = 0) || decide ((mx - mn) * q29 < c.p 0x044 * mx)

/-- The distance the forced ramp covers up to SLHAND, doubled, in 2^-32 units: f² / IFACC turns (R180). -/
def Ctx.landDist (c : Ctx) : Int := stdRound (c.p 0x047 * c.p 0x047 * 64) (c.p 0x046 * 2 ^ 32).toNat

/-- The job is a MOVE_TO too short for the forced ramp (R180). -/
def Mot.short (c : Ctx) (m : Mot) : Bool :=
  decide ((c.s.std.latStep.get c.n).opc = 0x0301) && m.vcmd.isNone &&
    decide ((m.target * 2 ^ 32 - m.p).natAbs < c.landDist)

/-- Steps 1 to 3: test pulses and their evaluation. Repeated pulses are counted anew from this pour, and the tracker starts
at θ0 with no speed on the flux it has (log entry 174). -/
def Mot.ipd (c : Ctx) (x : Sens) (m : Mot) : Mot :=
  let gap := (c.p 0x043).toNat
  let b : Mot := match ipdPulse gap (m.startT - 2) with
    | some k => { m with peaks := m.peaks ++ [x.mx (ipdPhase k)] }
    | none => m
  if b.peaks.length < 6 then b
  else if ipdPoor c b.peaks then
    if b.ipdTry = 0 then { b with ipdTry := 1, peaks := [], startT := 0 } else b.setCause 4
  else { b with
    slPh := 1, thF := ipdAngle b.peaks, theta := ipdAngle b.peaks, fF := 0, omega := 0, landing := b.short c }

/-- The forced angle moves on by d (2^-32 turns), with position integrated from it. -/
def Mot.forced (d : Int) (m : Mot) : Mot :=
  let th := m.thF + BitVec.ofInt 32 d
  { m.accumulate m.thF th with thF := th }

/-- The forced angle moves on by fF in a direction (I/f and blend). -/
def Mot.force1 (dir : Int) (m : Mot) : Mot := m.forced (dir * stdRound m.fF (2 ^ 32))

/-- Step 4: I/f. SLHAND and IFACC are held in 2^-64 turns per tick and per tick squared. -/
def Mot.ifStep (c : Ctx) (x : Sens) (m : Mot) : Mot :=
  let dir := m.jobDir
  let f := Min.min (c.p 0x047) (m.fF + c.p 0x046)
  let b := ({ m with fF := f }).force1 dir
  let d := if f = c.p 0x047 then { b with slPh := 2, blendT := 0 } else b
  d.imposed c x d.thF 0 (dir * c.p 0x045)

/-- Steps 5 and 6: blend; from its end until RUN the angle stays θ_pll. -/
def Mot.blend (c : Ctx) (x : Sens) (m : Mot) : Mot :=
  let dir := m.jobDir
  let n := Nat.max 1 (c.p 0x048).toNat
  let b := ({ m with blendT := Nat.min n (m.blendT + 1) }).force1 dir
  let diff := angDiff b.theta b.thF
  let th := b.thF + BitVec.ofInt 32 (stdRound (diff * b.blendT) n)
  let d := b.imposed c x th 0 (dir * c.p 0x045)
  if b.blendT < n ∨ d.slPh = 3 then d
  else if diff.natAbs * 6 ≤ 2 ^ 32 then { d with slPh := 3, startDone := true }
  else d.setCause 5

/-- Landing mode (R180): the forced angle follows the trajectory velocity; 64 position units are a turn. IIF has the sign of
the way to the target, and is positive once it is reached (log entry 174). -/
def Mot.land (c : Ctx) (x : Sens) (m : Mot) : Mot :=
  let b := m.forced (stdRound m.v (2 ^ 38))
  b.imposed c x b.thF 0 (b.jobDir * c.p 0x045)

/-- Alignment (R177): imposed for TALIGN, in whose last pour the count is recorded. From then until RUN the last voltage vector
stands (log entry 193). -/
def Mot.align (c : Ctx) (x : Sens) (m : Mot) : Mot :=
  if m.aligned then { m with startDone := true }
  else
    let b := m.imposed c x 0 (c.p 0x036) 0
    if (c.p 0x037).toNat ≤ m.startT then { b with cAlign := x.enc, aligned := true, startDone := true } else b

/-- A START that SL began and HALL ends after a swap (R592): the forced vector turns on until RUN (log entry 170). -/
def Mot.turnOn (c : Ctx) (x : Sens) (m : Mot) : Mot :=
  let b := { m with thF := m.thF + BitVec.ofInt 32 (m.jobDir * stdRound m.fF (2 ^ 32)) }
  b.imposed c x b.thF 0 b.iqImp

/-- START: one pour. In landing mode start-up is complete in the first I/f pour (R180), whenever the MOVE_TO was taken. -/
def Mot.start (c : Ctx) (x : Sens) (m : Mot) : Mot :=
  let b := { m with startT := m.startT + 1 }
  match c.k with
  | 1 => b.align c x
  | 2 =>
    if b.slPh = 0 then b.ipd c x
    else if b.slPh = 4 then { b with startDone := true }
    else if b.landing then { b.land c x with startDone := true }
    else if b.slPh = 1 then b.ifStep c x
    else b.blend c x
  | _ => { (if 1 ≤ b.slPh ∧ b.slPh ≤ 3 then b.turnOn c x else b) with startDone := true }

end Sys2Proof.Machine
end

