-- ==== Sys2Proof/Machine/StdMould.lean ====
section
/-! DEFINITION. One axis of a standard mould in one pour (06 R158, Table 6-2): states, compares, brake, status words,
profile streams and mould events; and the safety edge read once per pour (06 R199). -/

namespace Sys2Proof.Machine

/-- The words of a standard mould's outbound half (06 Table 6-10). -/
def Mot.flagWord (m : Mot) : Word :=
  flag 0 m.posvalid ||| flag 1 m.profok ||| flag 2 m.aligned ||| flag 3 m.limOn ||| flag 4 m.landing |||
    flag 5 (m.force && decide (m.stLast = AxState.hold.code))

def Mot.causeWord (m : Mot) : Word := at_ 16 m.causes.toNat ||| at_ 0 m.cause

/-- What the mould reports of the axis. -/
def Mot.report (st : AxState) (m : Mot) : Report :=
  { no := m.stepNo, st := st.code, startDone := m.startDone
    still := decide (m.learn = 0) && m.done && !m.moving
    learnBad := m.learnBad, fault := m.faulting, reacts := m.reacts, repStop := m.repStop }

/-- Status words and the report into the outbound half of the active buffer (Table 6-2, step 9), the words at the places of
their entries. -/
def State.stdStatus (s : State) (n : Fin 4) (m : Mot) : State :=
  let id (p : Nat) : Nat := 0x1000 * (n.val + 1) + p
  let w (x : Int) : Word := BitVec.ofInt 32 x
  let o := [(0x080, w m.posC), (0x081, w m.posO), (0x0C0, w m.pos), (0x0C1, w m.omega), (0x0C2, w m.iq),
    (0x0C3, w m.id), (0x0C4, w m.dev), (0x0C5, m.causeWord), (0x0C6, m.flagWord)].foldl
      (fun o x => Sparse.put 0 (id x.1) x.2 o) s.xAct.outId
  let b := (s.moulds.active.map fun a => a.par).getD [] |>.foldl (fun b e =>
    if e.dir = 1 ∧ e.id / 0x1000 = n.val + 1 then b.putWord (4 * (e.xofs - 2048)) (Sparse.get 0 e.id o) else b) s.xAct.outb
  s.setXAct { s.xAct with outId := o, outb := b, rep := s.xAct.rep.set n (m.report (s.axis n).st) }

/-! ### Job steps (01 R23; 06 R181, R182, R190, R192, R200) -/

/-- What every new job clears: reactions, causes, the blanking starts (R195). -/
def Mot.newJob (c : Ctx) (m : Mot) : Mot :=
  { m.learnDrop with
    cause := 0, causes := 0, reacts := 0, repStop := false, reacting := false, reversing := false
    blank := (c.p 0x065).toNat, holdReq := 0xFF, learnBad := false, stallT := 0, obsCnt := 0 }

/-- A motion of the job. -/
def Mot.newMove (q : JobStep) (m : Mot) : Mot :=
  { m with
    target := q.target, vlim := q.vlim, alim := q.alim, dlim := q.dlim, moving := true, done := false
    atClosed := false, landing := false, dur := 0, vreached := false, stopReq := false, dlKind := 0 }

/-- A MOVE_TO of SM-FOC-SL taken after the test pulses lands when it is short (R180): at θ_pll from closed motion, at the
forced angle otherwise. -/
def Mot.landShort (c : Ctx) (st : AxState) (old m : Mot) : Mot :=
  if c.k = 2 ∧ (st = .run ∨ st = .hold ∨ (st = .start ∧ m.slPh ≠ 0)) ∧ m.short c then
    { m with landing := true, thF := if st = .run ∧ old.landing = false then m.theta else m.thF }
  else m

/-- A job that ends landing mode in RUN hands the loops over from the imposed current (R176, 05 R150). -/
def Mot.leaveLanding (st : AxState) (old m : Mot) : Mot :=
  if st = .run ∧ old.landing ∧ m.landing = false then { m with handQ := true } else m

/-- A job step the mould takes. RELEASE lets what runs go on: the stop comes with STOPPING, or is under way (R200). -/
def Mot.take (c : Ctx) (st : AxState) (q : JobStep) (m : Mot) : Mot :=
  let b := m.newJob c
  match q.opc with
  | 0x0301 => ({ b.newMove q with vcmd := none }.landShort c st m).leaveLanding st m
  | 0x0302 => { b.newMove q with vcmd := some q.vel, dur := q.dur }.leaveLanding st m
  | 0x0303 =>
    let d := { b with holdReq := q.mode }
    if st = .hold then { d with stLast := 0xFF } else if d.moving ∨ d.v ≠ 0 then d.stopBy 3 else d
  | 0x0305 => { b with holdReq := m.holdReq, reacting := m.reacting, reversing := m.reversing }
  | 0x0306 =>
    ({ b with learn := 2, passes := 0, binS := [], binN := [], savC := m.posC, savO := m.posO
              atClosed := false, landing := false, dur := 0 }.creep c c.closing).leaveLanding st m
  | 0x0307 => ({ b with learn := 1, atClosed := false, landing := false, dur := 0 }.creep c c.closing).leaveLanding st m
  | _ => b

/-- The step loaded in this pour: a new one is taken, unless the axis is stopping. -/
def Mot.takeStep (c : Ctx) (st : AxState) (m : Mot) : Mot :=
  let q := c.s.std.latStep.get c.n
  if q.no = m.stepNo then m
  else
    let b := { m with stepNo := q.no, stopSeen := 0 }
    if q.stop ≠ 0 ∨ (st = .stopping ∧ q.opc ≠ 0x0303 ∧ q.opc ≠ 0x0305) then { b with reacts := 0, repStop := false }
    else b.take c st q

/-- The axis has entered STOPPING by MGMT: the mould stops it at DSTOP (R182), and a reverse reaction of the pour before
turns into a stop reaction (R198). A stop reaction of its own goes on, and so does a stop that a RELEASE meets. What MGMT has
still to read of a reversal in RUN is a stop now (R204). -/
def Mot.enterStop (m : Mot) : Mot :=
  if m.reacting && !m.reversing then m
  else if m.reversing && m.revNew then { m.stopBy 2 with reversing := false, repStop := true }
  else { m.learnDrop.stopBy 1 with reversing := false, reacting := false, repStop := true }

/-- The cause of a stop that MGMT asks for (Table 6-8), once for each; a reaction keeps its own, and the mask shows both
(R198). A STOP is a job, so the blanking starts (R195). -/
def Mot.stopCause (c : Ctx) (m : Mot) : Mot :=
  let q := c.s.std.latStep.get c.n
  if q.stop = 0 ∨ q.no ≠ m.stepNo ∨ q.stopNo = m.stopSeen then m
  else
    let n := { m with stopSeen := q.stopNo }
    let b := if q.stop = 9 then { n with blank := (c.p 0x065).toNat } else n
    if b.reacting then { b with causes := b.causes ||| bitB 16 q.stop } else b.setCause q.stop

/-! ### The axis states -/

/-- The states in which every compensator is cleared (05 Table 5-3). -/
def AxState.clears : AxState → Bool
  | .disabled | .fault | .test | .recovery => true
  | _ => false

/-- What a clearing state leaves (05 Table 5-3): no loop state, and the trajectory at rest on its target. -/
def Mot.cleared (m : Mot) (dis : Bool) : Mot :=
  { m.learnDrop with
    p := m.pos * 2 ^ 32, v := 0, a := 0, target := m.pos, vcmd := none, moving := false, done := true, dur := 0, stopReq := false
    cPos := {}, cSpd := {}, cD := {}, cQ := {}, cBus := {}, iqRef := 0, iqImp := 0, handQ := false
    va0 := 0, vb0 := 0, d0 := ⟨2 ^ 28, 2 ^ 28, 2 ^ 28⟩
    obsCnt := 0, stallT := 0, blank := 0, slRun := 0, refRun := 0
    startT := 0, startDone := false, slPh := 0, peaks := [], ipdTry := 0, landing := false, force := false
    reacting := false, reversing := false, revNew := false, faulting := false, limOn := false
    zFirst := if dis then none else m.zFirst, slips := if dis then 0 else m.slips }

/-- The causes that lead to FAULT (Table 6-8). -/
def faultCauses : BitVec 16 := 0x1F0

/-- A pour in a clearing state: steps 1 to 5 and 9 of R158. A cause is reported as it comes up, and keeps the axis in FAULT
only out of TEST (log entry 139). A job step that arrives now is void. -/
def Mot.idle (c : Ctx) (x : Sens) (st : AxState) (m : Mot) : Mot :=
  let b := (((m.learnDrop.checks c x false).source c x st).measure c).checkTravel c
  let new := b.causes &&& ~~~m.causes &&& faultCauses
  { b.cleared (decide (st = .disabled)) with
    ev := (b.ev &&& 16) ||| (if new = 0 then 0 else 8)
    faulting := decide (st = .test) && b.faulting
    stepNo := (c.s.std.latStep.get c.n).no, stopSeen := (c.s.std.latStep.get c.n).stopNo }

/-- Landing below SLHAND / 2 while decelerating (R180). -/
def Mot.checkLanding (c : Ctx) (m : Mot) : Mot :=
  if decide (c.k = 2) && !m.landing && decide (sgn m.a * sgn m.v < 0) &&
      decide (2 * (m.v.natAbs : Int) < c.p 0x047 * 64) then
    { m with landing := true, thF := m.theta }
  else m

/-- A handover to closed motion (Table 6-3): the trajectory starts from the measured position and speed. With no motion asked
for (a HOLD job) an axis that moves stops at DMAX, and one at rest holds its place (R200). -/
def Mot.enterRun (c : Ctx) (m : Mot) : Mot :=
  let b := { m with p := m.pos * 2 ^ 32, v := c.puVel m.omega, a := 0 }
  if b.moving then b else if b.v ≠ 0 then b.stopBy 3 else { b with target := m.pos }

/-- A pour of RUN or STOPPING. `entry` hands the position loop over with the trajectory; where the q current was imposed
before, both loops take over (05 R149, R150). Landing mode has no handover (R180). -/
def Mot.running (c : Ctx) (x : Sens) (entry : Bool) (m : Mot) : Mot :=
  let b := if entry && !m.landing then m.enterRun c else m
  let hand := if m.handQ then some m.iqImp else none
  let d := (b.motion c x).checkLanding c
  let e := if d.landing then d.land c x else d.closed c x (entry || b.handQ) hand
  { e with handQ := false }

/-- The mode of a HOLD that begins (R200): force when asked for, or under HOLDMODE 1 at the closed end. -/
def Mot.enterHold (c : Ctx) (m : Mot) : Mot :=
  let f := decide (m.holdReq = 1) || (decide (m.holdReq = 0xFF) && decide (c.p 0x070 = 1) && m.closedEnd c)
  { m with force := f, holdT := 0, thF := if m.landing then m.thF else m.theta }

/-- A pour of HOLD (R200). -/
def Mot.holding (c : Ctx) (x : Sens) (entry : Bool) (m : Mot) : Mot :=
  let b := ((if entry then m.enterHold c else m).supervise c x false).trajectory c x
  if c.k = 2 then { b.imposed c x b.thF 0 (c.closing * c.p 0x071) with handQ := true }
  else if b.force then { b.forceHold c x with handQ := true }
  else { b.closed c x b.handQ (if b.handQ then some b.iqImp else none) with handQ := false }

/-- The blanking time starts at the end of a reaction, however it ended (R195). -/
def Mot.blankAfter (c : Ctx) (was : Bool) (m : Mot) : Mot :=
  if was && !m.reacting then { m with blank := (c.p 0x065).toNat } else m

/-- Steps 2 to 8 of one pour for an axis under control. The end of START in SM-FOC-ENC is a handover of the speed loop, with or
without an alignment (log entry 194). -/
def Mot.active (c : Ctx) (x : Sens) (st : AxState) (m : Mot) : Mot :=
  let last := m.stLast
  let a := ((m.checks c x true).source c x st).measure c
  let b := (a.takeStep c st).runBlank
  let d := (if st = .stopping ∧ last ≠ st.code then b.enterStop else b).stopCause c
  let entry := (decide (st = .run) && decide (last ≠ st.code)) ||
    (decide (st = .stopping) && (decide (last = AxState.start.code) || d.handQ))
  let d := d.blankAfter c m.reacting
  let r := match st with
    | .start => { ((d.supervise c x false).trajectoryStart c x).start c x with handQ := decide (c.k = 1) || decide (c.k = 2) }
    | .hold => d.holding c x (decide (d.stLast ≠ st.code))
    | _ => d.running c x entry
  r.blankAfter c d.reacting

/-- The compares the pour writes (R178, R201, R205). -/
def Mot.compares (c : Ctx) (x : Sens) (st : AxState) (m : Mot) : CmpW :=
  let brk := c.brakeCmp x
  if m.faulting then ⟨some 0, some 0, some 0, some 0⟩
  else if c.k = 2 ∧ st = .start ∧ m.slPh = 0 then ⟨some 0, some 0, some 0, some brk⟩
  else
    let d := if c.k = 3 then m.dutyCmp c else m.svm c x
    ⟨some d.u, some d.v, some d.w, some brk⟩

/-- The immediate compare of a test pulse (R178): channel, DLD counts, cycle. -/
def Mot.pulseNow (c : Ctx) (st : AxState) (m : Mot) : List (Fin 4 × BitVec 20 × Nat) :=
  if c.k = 2 ∧ st = .start ∧ m.slPh = 0 ∧ m.faulting = false then
    match ipdPulse (c.p 0x043).toNat (m.startT - 1) with
    | some k =>
      let dld := c.per - 600
      let pw := Nat.min (c.p 0x042).toNat (dld - 800)
      [(ipdPhase k, BitVec.ofNat 20 (16 * dld), (dld + c.s.tick.ofs.get c.n - pw) % c.per)]
    | none => []
  else []

/-- A block of 64 profile points copied from the active buffer into the mould's table, in order; the last one brings the
pair into use, and PROFOK where the store holds a profile (R194, R587). A block of a store that does not hold the profile
learned last is not taken (log entry 18). -/
def State.profileIn (s : State) (n : Fin 4) (m : Mot) : State × Mot :=
  let w := s.std.lat
  let h := (Sparse.get 0 profHdrKey w).toNat
  let ix := (h - 1) / 2 % 32
  if h = 0 ∨ (h - 1) / 64 ≠ n.val ∨ (Sparse.get 0 profRunKey w).toNat < m.formRun ∨
      (ix ≠ m.inGot ∧ (ix ≠ 0 ∨ m.inGot = 1)) then (s, m)
  else
    let base := profBase n.val + 64 * ix
    let s1 := (List.range 64).foldl (fun t i => t.pdmWrite (base + i) (BitVec.ofInt 32 (Sparse.get 0 (profKey i) w))) s
    (s1, if ix = 31 then
        { m with inGot := 32, profok := decide ((h - 1) % 2 = 1)
                 posC := Sparse.get 0 (profPairKey false) w, posO := Sparse.get 0 (profPairKey true) w }
      else { m with inGot := ix + 1, profok := false })

/-- The learned profile is written into the mould's table when it is formed (R193). -/
def State.profileFormed (s : State) (n : Fin 4) (m : Mot) : State :=
  if m.formed then
    (List.range 2048).foldl (fun t i => t.pdmWrite (profBase n.val + i) (BitVec.ofInt 32 (m.point i))) s
  else s

/-- One profile point into the outbound half, read under SECDED (02 R60, R61). -/
def State.pointOut (n : Fin 4) (s : State) (i : Nat) : State :=
  let r := s.pdmRead (profBase n.val + i)
  r.2.setXAct { r.2.xAct with outId := Sparse.put 0 (outKey n.val i) r.1 r.2.xAct.outId }

/-- 64 points of a learned profile into the outbound half in every pour, each block at its own place under the number of
its run (R194, log entry 18). -/
def State.profileOut (s : State) (n : Fin 4) (m : Mot) : State × Mot :=
  if m.outLeft = 0 then (s, m)
  else
    let base := 2048 - m.outLeft
    let t := (List.range 64).foldl (fun t i => t.pointOut n (base + i)) s
    (t.setXAct { t.xAct with outId := Sparse.put 0 (outHdrKey n.val (base / 64)) (BitVec.ofNat 32 m.formRun) t.xAct.outId },
      { m with outLeft := m.outLeft - 64, ev := m.ev ||| 128 })

/-- The mould events of a step (Table 6-7). -/
def State.raiseMev (s : State) (ev : BitVec 8) : State :=
  [0, 1, 2, 3, 4, 5, 6, 7].foldl (fun t b => t.raiseIf (ev.getLsbD b) (208 + b)) s

/-- The Pour flags of a step (02 R59 to R61, R73): the words it read, an index clamped, a result saturated, one occurrence
each whatever the number of values (log entry 168). -/
def State.motFlags (s : State) (m : Mot) : State :=
  (((m.pdmUse.foldl (fun t a => (t.pdmRead a).2) s).setClamped m.clamped)).setSat m.sat

/-- R158: steps 1 to 9 of axis n in this pour. -/
def State.stdAxisStep (s : State) (k : Nat) (n : Fin 4) : State :=
  let c : Ctx := ⟨s, n, k⟩
  let x := readSens s n
  let st := (s.axis n).st
  let old := s.std.ax.get n
  let m0 : Mot := { old with ev := 0, sat := false, clamped := false, pdmUse := [], formed := false, revNew := false }
  let m1 := if st.clears then m0.idle c x st else ({ m0 with revNew := old.revNew }).active c x st
  let m2 : Mot := { m1 with
    stLast := st.code, faultT := if m1.faulting then m0.faultT + 1 else 0, va1 := m0.va0, vb1 := m0.vb0, d1 := m0.d0, revNew := m1.revNew && !old.revNew }
  let s1 := ((s.updPort n fun a => { a with cur := m2.compares c x st }).sendImm n (m2.pulseNow c st)).motFlags m2
  let s2 := s1.profileFormed n m2
  let r := s2.profileIn n m2
  let q := r.1.profileOut n r.2
  let s3 : State := { q.1 with std := { q.1.std with
    ax := q.1.std.ax.set n q.2, todo := q.1.std.todo &&& ~~~(bitB 4 n.val) } }
  (s3.stdStatus n q.2).raiseMev q.2.ev

/-- The step of an axis, when it is still to come in this pour. -/
def State.stdStep (s : State) (n : Fin 4) : State :=
  match s.moulds.active with
  | some m =>
    match m.std with
    | some k => if s.std.todo.getLsbD n.val then s.stdAxisStep k n else s
    | none => s
  | none => s

/-- The safety edge at the start of a pour (R199): the ADR result is read and marked. -/
def State.stdEdge (s : State) : State :=
  let t := s.conv.adrt
  if t.getLsbD 7 then
    let e : StdSt := if t.getLsbD 6 then { s.std with edge := some s.conv.adrv.toInt, edgeAge := 0, edgeNoRef := false }
      else { s.std with edgeNoRef := true, edgeAge := 0 }
    ({ s with std := e }).markRead 0x100
  else { s with std := { s.std with edgeAge := s.std.edgeAge + 1 } }

/-- Parameters, job steps and the profile block are loaded before XP, in the pour that uses them (05 R146, R159). -/
def State.stdLoad (s : State) : State :=
  { s with std := { s.std with lat := s.xAct.inId, latStep := s.xAct.step } }

/-- The first CODE word beyond correction of the program slot in use. -/
def Pour.firstBad (p : Pour) : Option Nat := (p.upsets.find? fun x => decide (2 ≤ x.2)).map fun x => x.1

/-- The bundle fetches of a standard mould's pour (02 R60, R62): every CODE word up to the first beyond correction, which cuts
the pour. How many axis steps came before the cut is free (log entry 195). -/
def State.stdFetch (s : State) (m : MouldInfo) : State :=
  match s.pour.firstBad with
  | none => s.fetchCorrect (s.pour.upsets.filter fun x => decide (x.2 = 1)).length
  | some w =>
    let t := (s.fetchCorrect (s.pour.upsets.filter fun x => decide (x.1 < w) && decide (x.2 = 1)).length).fetchCut
    { t with std := { t.std with todo := (Config.stdCut m.id w).1 } }

/-- A pour of a standard mould begins: the edge is read, the parameters are loaded, every axis's step is to come, unless a
fetch cuts the pour. -/
def State.stdBegin (s : State) (m : MouldInfo) : State :=
  let s1 := s.stdEdge.stdLoad
  ({ s1 with std := { s1.std with todo := 0xF } } : State).stdFetch m

/-- The steps that are still to come at the end of the pour. -/
def State.stdFinish (s : State) : State := axes.foldl State.stdStep s

end Sys2Proof.Machine
end

