-- ==== Sys2Proof/Machine/Jobs.lean ====
section
/-! DEFINITION. Jobs (11 R352 to R361, R593): their records and ends, what MGMT reads from a standard mould, the start of
queued and preempting jobs, immediate jobs, host silence, the settling of replay (12 R383), and an axis's change of
state at a tick boundary (01 R36 to R40). -/

namespace Sys2Proof.Machine

/-! ### Jobs and their words -/

def isImmediate (opc : Nat) : Bool := decide (opc = 0x0304 ∨ opc = 0x0308 ∨ opc = 0x0309)

/-- APPEND is 1, NOTIFY is 1 (11 Table 11-3). -/
def Job.append (q : Job) : Bool := q.flags.getLsbD 1
def Job.notify (q : Job) : Bool := q.flags.getLsbD 0

/-- A job that preempts (R357). -/
def Job.preempts (q : Job) : Bool := !isImmediate q.opc && !q.append

/-- Accepted, not yet started: a queued job (R355); one that awaits its commit counts (R354, log entry 113). -/
def JobSt.queued : JobSt → Bool
  | .awaiting | .accepted | .starting => true
  | .started => false
def Job.queued (q : Job) : Bool := !isImmediate q.opc && q.st.queued

def State.jobsOf (s : State) (n : Fin 4) : List Job := s.mgmt.jobs.filter fun q => decide (q.ax = n)

/-- The running job of an axis: a started job, or a STOP until it ends (R356, R358). -/
def State.running (s : State) (n : Fin 4) : Option Job :=
  s.mgmt.jobs.find? fun q => decide (q.ax = n) && decide (q.st = .started)

def State.queuedJobs (s : State) (n : Fin 4) : List Job := (s.jobsOf n).filter Job.queued

/-- The declared status word p of an axis, as MGMT reads it in the inactive buffer; 0 when the active mould does not
declare it (11 Table 11-9). -/
def State.statusWord (s : State) (n : Fin 4) (p : Nat) : Word :=
  let id := 0x1000 * (n.val + 1) + p
  match s.moulds.active with
  | none => 0
  | some m =>
    match m.ent id with
    | some e => if e.dir = 1 then
        (if m.std.isSome then Sparse.get 0 id s.xInact.outId else s.xInact.outb.word (4 * (e.xofs - 2048))) else 0
    | none => 0

/-- Standard mould k is active. -/
def State.stdK (s : State) : Option Nat := s.moulds.active.bind fun m => m.std

/-- CAUSE and POS of an axis for a job record (R351): the status words. -/
def State.causeOf (s : State) (n : Fin 4) : Word := s.statusWord n 0x0C5
def State.posOf (s : State) (n : Fin 4) : Word := s.statusWord n 0x0C0

/-! ### Records and ends -/

/-- A job record in state `st` (12 Table 12-3). -/
def Job.record (q : Job) (st : Nat) (cause pos : Word) (replay : Bool) : JRec :=
  { seq := q.seq, opc := BitVec.ofNat 16 q.opc, axis := BitVec.ofNat 8 q.ax.val
    state := BitVec.ofNat 8 st ||| (if replay then 0x40 else 0)
    param := (q.par ++ List.replicate 16 0).take 16 ++ [q.flags] ++ List.replicate 7 0 ++
      leBytes 4 cause.toNat ++ leBytes 4 pos.toNat ++ List.replicate 8 0
    heat := 0 }

/-- A transition takes its place in the next commit (11 R349); under a journal fault none is recorded (12 R375). -/
def State.transition (s : State) (q : Job) (st : Nat) (cause : Word) (replay : Bool) : State :=
  if s.jrn.fault then s
  else
    let p : Pend := { r := q.record st cause (s.posOf q.ax) replay, cls := 0, reply := none, rseq := q.seq
                      notify := if q.notify then some st else none }
    { s with jrn := s.jrn.add p }

def State.updJax (s : State) (n : Fin 4) (f : JobAx → JobAx) : State :=
  { s with mgmt := { s.mgmt with jax := s.mgmt.jax.set n (f (s.mgmt.jax.get n)) } }

/-- A job ends: its record, GET_AXIS's last job, the hold after ABORTED and INTERRUPTED (R359), and the start of the
throttle pause (17 R486). -/
def State.endJob (s : State) (q : Job) (disp : Nat) (cause : Word) : State :=
  let s1 := s.transition q disp cause false
  let s2 := s1.updJax q.ax fun j => { j with
    lastSeq := q.seq, lastOut := disp
    held := j.held || decide (disp = 5) || decide (disp = 6)
    waited := if !isImmediate q.opc && decide (q.st = .started) then 0 else j.waited }
  { s2 with mgmt := { s2.mgmt with jobs := s2.mgmt.jobs.filter fun x => !decide (x.seq = q.seq) } }

/-- Every job of a list ends CANCELLED. -/
def State.cancelJobs (s : State) (l : List Job) : State := l.foldl (fun t q => t.endJob q 7 0) s

/-- The running job ends, with the axis's CAUSE word. -/
def State.endRunning (s : State) (n : Fin 4) (disp : Nat) : State :=
  match s.running n with
  | none => s
  | some q => s.endJob q disp (s.causeOf n)

/-- Put a job's state to `st`. -/
def State.setJobSt (s : State) (q : Word) (st : JobSt) : State :=
  { s with mgmt := { s.mgmt with jobs := s.mgmt.jobs.map fun x => if x.seq = q then { x with st := st } else x } }

/-! ### Job steps (01 R23) -/

/-- The step of a job, in the mould's internal values (06 R156): 0 stands for the axis parameter (R363). -/
def Job.step (q : Job) (per no : Nat) : JobStep :=
  let w (o : Nat) : Nat := leAt q.par o 4
  let lim (k o : Nat) : Option Int := if w o = 0 then none else some (perTick k per (w o))
  match q.opc with
  | 0x0301 => { no, opc := q.opc, target := sx 32 (w 0), vlim := lim 1 4, alim := lim 2 8, dlim := lim 2 12 }
  | 0x0302 => { no, opc := q.opc, vel := perTick 1 per (sx 32 (w 0)), alim := lim 2 4, dur := ticksOf per (w 8 : Nat) }
  | 0x0303 => { no, opc := q.opc, mode := leAt q.par 0 1 }
  | _ => { no, opc := q.opc }

/-- MGMT has a new step for the mould, which its next publication carries. -/
def State.giveStep (s : State) (n : Fin 4) (f : JobStep → JobStep) : State :=
  let s1 := s.updJax n fun j => { j with step := f j.step, seen := if (f j.step).no = j.step.no then j.seen else 0 }
  { s1 with mgmt := { s1.mgmt with pubWanted := true } }

/-! ### What MGMT reads at a tick boundary (01 R24, Table 1-8; 06 R204, R205; 11 Table 11-7a) -/

/-- The report of an axis in the inactive buffer's outbound half. A custom mould's words for it are its own, and only an
axis in START, RUN, HOLD or STOPPING reports by them (log entry 140). -/
def State.report (s : State) (n : Fin 4) : Report :=
  match s.moulds.active with
  | none => {}
  | some m =>
    if m.std.isSome then s.xInact.rep.get n
    else
      let st := (s.axis n).st
      let c := if st = .start ∨ st = .run ∨ st = .hold ∨ st = .stopping then (Config.customReport m.id s.xInact.outb n.val).val
        else 0
      { no := (s.mgmt.jax.get n).step.no, st := (s.axis n).st.code, startDone := decide (c = 1), still := decide (c = 2)
        fault := decide (c = 3), reacts := if c = 4 then 1 else 0, repStop := true }

/-- A reaction the mould has begun: the job ends ABORTED; a stop takes the axis to STOPPING, a reversal that began there back
to RUN (06 Table 6-8). A running STOP goes on under a stop reaction, and under a reversal of a pour before it, which the
mould turns into a stop (06 R198). -/
def State.readReaction (s : State) (n : Fin 4) (r : Report) : State :=
  if r.reacts ≤ (s.mgmt.jax.get n).seen then s
  else
    let s1 := s.updJax n fun j => { j with seen := r.reacts }
    let stop := match s1.running n with | some q => decide (q.opc = 0x0304) | none => false
    let back := !r.repStop && decide ((s.axis n).st = .stopping) && decide (r.st = AxState.stopping.code)
    let s2 := if stop && !back then s1 else s1.endRunning n 6
    if r.repStop then s2.axNext n .stopping else if back then s2.axNext n .run else s2

/-- The motion has come to its end in RUN: the job ends DONE, or ABORTED where learning failed; the axis holds. -/
def State.readRun (s : State) (n : Fin 4) (r : Report) : State :=
  (s.endRunning n (if r.learnBad then 6 else 4)).axNext n .hold

/-- Standstill in STOPPING: RELEASE goes to DISABLED, everything else to HOLD; a HOST_TO stop ends its job ABORTED. -/
def State.readStop (s : State) (n : Fin 4) : State :=
  match s.running n with
  | none => s.axNext n .hold
  | some q =>
    if (s.mgmt.jax.get n).step.stop = 10 then (s.endJob q 6 (s.causeOf n)).axNext n .hold
    else if q.opc = 0x0305 then (s.endJob q 4 (s.causeOf n)).axNext n .disabled
    else if q.opc = 0x0304 ∨ q.opc = 0x0303 then (s.endJob q 4 (s.causeOf n)).axNext n .hold
    else (s.endJob q 6 (s.causeOf n)).axNext n .hold

/-- A FAULT cause of a standard mould that MGMT has not acted on: FAULT follows within 2 ticks of it (06 R205). -/
def State.mouldFault (s : State) (n : Fin 4) : Bool := s.stdK.isSome && decide (2 ≤ (s.std.ax.get n).faultT)

/-- What the mould reports of an axis, for the job step MGMT gave last. -/
def State.readMould (s : State) (n : Fin 4) : State :=
  let r := s.report n
  let st := (s.axis n).st
  if s.mouldFault n then s.axFault n
  else if s.moulds.active.isNone ∨ r.no ≠ (s.mgmt.jax.get n).step.no then s
  else if r.fault then s.axFault n
  else
    let new := decide ((s.mgmt.jax.get n).seen < r.reacts)
    let s1 := s.readReaction n r
    let still := r.still && decide (r.st = st.code) && !new
    match st with
    | .start => if r.startDone && !new then s1.axNext n .run else s1
    | .run => if still then s1.readRun n r else s1
    | .stopping => if still then s1.readStop n else s1
    | _ => s1

/-- The profile and its pair are in the store (06 R194). A pair that SET_PARAM has set since the learning stays, and is
streamed to the mould with the profile (06 R587). -/
def Travel.complete (n : Nat) (o : Sparse Word) (t : Travel) : Travel :=
  if t.outGot ≠ BitVec.allOnes 32 then t
  else
    let set := decide (t.outRun ≤ t.pairNo)
    let id (p : Nat) : Word := Sparse.get 0 (0x1000 * (n + 1) + p) o
    { t with
      prof := t.outProf, outProf := [], have_ := true, inLeft := if set then 2048 else 0
      closed := if set then t.closed else id 0x080, opened := if set then t.opened else id 0x081 }

/-- Block b of a learned profile, where it stands in the outbound half and is new: a new run begins the profile anew. -/
def Travel.takeBlock (n : Nat) (o : Sparse Word) (t : Travel) (b : Nat) : Travel :=
  let h := (Sparse.get 0 (outHdrKey n b) o).toNat
  if h = 0 ∨ h < t.outRun ∨ (h = t.outRun ∧ t.outGot.getLsbD b) then t
  else
    let u : Travel := if h = t.outRun then t else { t with outRun := h, outGot := 0, outProf := [] }
    let p := (List.range 64).foldl (fun q i =>
      Sparse.put 0 (64 * b + i) (Sparse.get 0 (outKey n (64 * b + i)) o) q) u.outProf
    ({ u with outProf := p, outGot := u.outGot ||| bitB 32 b } : Travel).complete n o

/-- The blocks of a learned profile that stand in the outbound half MGMT may read go into the travel store (06 R194). -/
def State.profStore (s : State) (n : Fin 4) : State :=
  if s.stdK.isNone then s
  else { s with mgmt := { s.mgmt with
    travel := s.mgmt.travel.set n ((List.range 32).foldl (Travel.takeBlock n.val s.xInact.outId) (s.mgmt.travel.get n)) } }

/-! ### The start of a job (R356, R357, Table 1-8) -/

/-- The state an axis takes when a job starts on it (01 Table 1-8, 06 R200; STOPPING to RUN is DEDUCED from R357,
R358). -/
def startTarget (opc : Nat) (moving : Bool) : AxState → AxState
  | .disabled => if opc = 0x0305 then .disabled else .start
  | .hold => if opc = 0x0305 then .disabled else if opc = 0x0303 then .hold else .run
  | .start => if opc = 0x0305 then .stopping else .start
  | .run => if opc = 0x0305 then .stopping else if opc = 0x0303 ∧ ¬ moving then .hold else .run
  | .stopping => if opc = 0x0305 ∨ opc = 0x0303 then .stopping else .run
  | st => st

/-- The mould declares the axis (R384). -/
def State.axisDeclared (s : State) (n : Fin 4) : Bool :=
  match s.moulds.active with
  | none => false
  | some m => m.axmask.getLsbD n.val

/-- A job starts now: STARTED, the axis's state, the motion; RELEASE and HOLD may end at once. -/
def State.startNow (s : State) (n : Fin 4) (q : Job) : State :=
  let st := (s.axis n).st
  let moving := !((s.report n).still && decide ((s.report n).no = (s.mgmt.jax.get n).step.no))
  let s1 := (s.setJobSt q.seq .started).giveStep n fun p => q.step s.tick.tper (p.no + 1)
  let q1 := { q with st := JobSt.started }
  let s2 := s1.transition q1 3 0 false
  let t := startTarget q.opc moving st
  let s3 := if t = st then s2 else s2.axNext n t
  if q.opc = 0x0305 ∧ (st = .disabled ∨ st = .hold) then s3.endJob q1 4 0
  else if q.opc = 0x0303 ∧ t = .hold then s3.endJob q1 4 0
  else s3

/-- The steps of R357 for a preempting job, and the takeover of a MOVE_VEL with DUR 0 (R356). -/
def State.clearTheWay (s : State) (n : Fin 4) (q : Job) : State :=
  if q.preempts then
    let s1 := s.cancelJobs ((s.queuedJobs n).filter fun x => decide (x.seq.toNat < q.seq.toNat))
    (s1.endRunning n 7).updJax n fun j => { j with held := false }
  else s.endRunning n 4

/-- A job that was to start on the axis at this boundary stays queued. -/
def State.unstart (s : State) (n : Fin 4) : State :=
  { s with mgmt := { s.mgmt with jobs := s.mgmt.jobs.map fun q =>
      if q.ax = n ∧ q.st = .starting then { q with st := JobSt.accepted } else q } }

/-- States in which no job starts (R356). -/
def AxState.blocks : AxState → Bool
  | .fault | .recovery | .test => true
  | _ => false

/-- No job starts on the axis: a journal fault (12 R375), its state (R356), a reset of its link, which keeps EN at 0 (16 R472),
or a device that is not in READY or RUN. -/
def State.jobsBarred (s : State) (n : Fin 4) : Bool :=
  s.jrn.fault || s.linkDown n || (s.axis n).st.blocks || !(decide (s.dev = .ready) || decide (s.dev = .run))

/-- The throttle wait of R486 is over. -/
def State.throttleFree (s : State) (n : Fin 4) : Bool :=
  decide (s.th.lv.get n ≤ (s.mgmt.jax.get n).waited)

/-- START, RUN and STOPPING: the axis moves (17 R486). -/
def AxState.moves : AxState → Bool
  | .start | .run | .stopping => true
  | _ => false

/-- The throttle does not hold a job back: a preempting one on a moving axis never waits (17 R486). -/
def State.unthrottled (s : State) (n : Fin 4) (q : Job) : Bool := (q.preempts && (s.axis n).st.moves) || s.throttleFree n

/-- The job chosen for an axis starts at this boundary, unless the axis has become held, barred or throttled since (R356,
R359; 17 R486). -/
def State.startChosen (s : State) (n : Fin 4) : State :=
  match (s.jobsOf n).find? fun q => decide (q.st = .starting) with
  | none => s
  | some q =>
    if s.jobsBarred n || ((s.mgmt.jax.get n).held && !q.preempts) || !s.unthrottled n q then s.unstart n
    else
      let s1 := s.clearTheWay n q
      if s1.axisDeclared n then s1.startNow n q else s1.endJob q 6 0

/-- A running MOVE_VEL with DUR 0 does not hold back the queue (R356). -/
def Job.endless (q : Job) : Bool := decide (q.opc = 0x0302) && decide (leAt q.par 8 4 = 0)

/-- The preempting job that takes effect: the largest SEQ of those that are due (R357). -/
def State.preemptor (s : State) (n : Fin 4) : Option Job :=
  ((s.queuedJobs n).filter fun q => q.preempts && q.due).foldl (fun r q =>
    match r with
    | none => some q
    | some x => if x.seq.toNat < q.seq.toNat then some q else some x) none

/-- The head of the queue: the lowest SEQ (R356). -/
def State.queueHead (s : State) (n : Fin 4) : Option Job :=
  (s.queuedJobs n).foldl (fun r q =>
    match r with
    | none => some q
    | some x => if q.seq.toNat < x.seq.toNat then some q else some x) none

/-- START, RUN, HOLD and STOPPING: a stop takes the axis to STOPPING (01 Table 1-8). -/
def AxState.stops (st : AxState) : Bool := st.moves || decide (st = .hold)

/-- The job that may start on an axis now (R356, R357, R359, R486; 12 R375). -/
def State.startable (s : State) (n : Fin 4) : Option Job :=
  if s.jobsBarred n || (s.jobsOf n).any (fun q => decide (q.st = .starting)) then none
  else
    match s.preemptor n with
    | some q => if s.unthrottled n q then some q else none
    | none =>
      let free := match s.running n with | none => true | some q => q.endless
      match s.queueHead n with
      | some q => if q.due && free && !(s.mgmt.jax.get n).held && s.throttleFree n then some q else none
      | none => none

/-- JOB_START (R356, R357): the job is chosen; it starts at the next tick boundary. -/
def execJobStart (n : Fin 4) (s : State) : Res :=
  match s.startable n with
  | none => .next s
  | some q => .next (s.setJobSt q.seq .starting)

/-! ### Immediate jobs (R358, R593) -/

/-- The oldest immediate job of an axis that is due. -/
def State.immediateDue (s : State) (n : Fin 4) : Option Job :=
  ((s.jobsOf n).filter fun q => isImmediate q.opc && decide (q.st = .accepted) && q.due).foldl (fun r q =>
    match r with
    | none => some q
    | some x => if q.seq.toNat < x.seq.toNat then some q else some x) none

/-- STOP: the running and the queued jobs end CANCELLED; at standstill STOP ends at once, in HOLD through STOPPING (01 Table
1-8). -/
def State.stopNow (s : State) (n : Fin 4) (q : Job) : State :=
  let s1 := (s.endRunning n 7).cancelJobs (s.queuedJobs n)
  let q1 := { q with st := JobSt.started }
  let s2 := (s1.setJobSt q.seq .started).transition q1 3 0 false
  let st := (s.axis n).st
  let s3 := if st.stops then s2.updJax n fun j => { j with req := 9 } else s2
  let s4 := if st.stops && !decide (st = .stopping) then s3.axNext n .stopping else s3
  if st.moves then s4 else s4.endJob q1 4 0

/-- CANCEL: the queued jobs named by CSEQ end CANCELLED. -/
def State.cancelNow (s : State) (n : Fin 4) (q : Job) : State :=
  let cseq := leAt q.par 0 4
  let s1 := s.transition q 3 0 false
  let s2 := s1.cancelJobs ((s1.queuedJobs n).filter fun x => decide (cseq = 0) || decide (x.seq.toNat = cseq))
  s2.endJob q 4 0

/-- RESUME: the hold of the axis is released. -/
def State.resumeNow (s : State) (n : Fin 4) (q : Job) : State :=
  ((s.transition q 3 0 false).updJax n fun j => { j with held := false }).endJob q 4 0

/-- IMMEDIATE_JOB_EFFECT (R358). -/
def execImmediateJobEffect (n : Fin 4) (s : State) : Res :=
  match s.immediateDue n with
  | none => .next s
  | some q =>
    if q.opc = 0x0304 then .next (s.stopNow n q)
    else if q.opc = 0x0309 then .next (s.cancelNow n q)
    else .next (s.resumeNow n q)

/-! ### Host silence and thermal stops -/

/-- A controlled stop with a cause MGMT gives, at the next boundary (01 Table 1-8). -/
def State.stopAxis (s : State) (n : Fin 4) (cause : Nat) : State :=
  if (s.axis n).st.stops then
    let s1 := s.updJax n fun j => { j with req := cause }
    if (s.axis n).st = .stopping then s1 else s1.axNext n .stopping
  else s

/-- RISE_FAST of an axis (17 R483): it stops with cause THERMAL, its running job ends ABORTED. -/
def State.thermalStop (s : State) (n : Fin 4) : State :=
  let stop := match s.running n with | some q => decide (q.opc = 0x0304) | none => false
  let s1 := s.stopAxis n 11
  if stop then s1
  else match s1.running n with
    | none => s1
    | some q => s1.endJob q 6 (at_ 16 (2 ^ 11) ||| 11)

/-- The action of HOSTACT on one axis (R361). -/
def State.silenceAxis (act : Word) (s : State) (n : Fin 4) : State :=
  if (s.running n).isSome ∨ (s.queuedJobs n).length ≠ 0 then
    let s1 := s.updJax n fun j => { j with held := true }
    if act = 1 then s1.stopAxis n 10 else s1
  else s

/-- HOST_SILENCE (R360, R361): in RUN, with HOSTTO above 0, once until the next accepted frame. -/
def execHostSilence (s : State) : Res :=
  if s.dev = .run ∧ sysValue s.mgmt.par 0xF001 ≠ 0 ∧ s.mgmt.silent = false then
    let s1 := (({ s with mgmt := { s.mgmt with silent := true } } : State).raise 249).logFault 249
    .next (axes.foldl (State.silenceAxis (sysValue s.mgmt.par 0xF002)) s1)
  else .next s

/-! ### An axis at a tick boundary (01 R36 to R40) -/

/-- Entry to FAULT or RECOVERY: a job that was to start stays queued, a started one becomes INTERRUPTED (R39, R358),
and a pending activation is cancelled (04 R130). -/
def State.axisLost (s : State) (n : Fin 4) : State :=
  (((s.unstart n).endRunning n 5).updJax n fun j => { j with req := 0 }).cancelActivation

/-- The stop MGMT asked for takes effect: the mould sees STOPPING, and its cause with the next publication. -/
def State.applyReq (s : State) (n : Fin 4) : State :=
  let r := (s.mgmt.jax.get n).req
  if r = 0 then s else (s.giveStep n fun p => { p with stop := r, stopNo := p.stopNo + 1 }).updJax n fun j => { j with req := 0 }

/-- A state is taken: FAULT, RECOVERY and DISABLED drop EN (R40); leaving FAULT or RECOVERY holds the axis (R359). -/
def State.enterAx (s : State) (n : Fin 4) (t : AxState) : State :=
  let old := (s.axis n).st
  let s1 := s.updAxis n fun a => { a with st := t, nxt := none }
  let s2 := if old = .fault ∨ old = .recovery then s1.updJax n fun j => { j with held := true } else s1
  if t = .fault ∨ t = .recovery ∨ t = .disabled then s2.enClear n else s2

/-- The state asked for is taken; with none asked for, a chosen job starts and its state is taken. -/
def State.axisChange (s : State) (n : Fin 4) : State :=
  match (s.axis n).nxt with
  | some t =>
    if t = (s.axis n).st then (s.applyReq n).updAxis n fun a => { a with nxt := none }
    else (if t = .fault ∨ t = .recovery then s.axisLost n
      else if t = .test then s.unstart n else s.applyReq n).enterAx n t
  | none =>
    let s1 := (s.applyReq n).startChosen n
    match (s1.axis n).nxt with
    | some t => s1.enterAx n t
    | none => s1

/-- One axis at the boundary. -/
def State.axisBoundary (s : State) (n : Fin 4) : State := ((s.profStore n).readMould n).axisChange n

/-- READY and RUN follow the axes (01 Table 1-6). -/
def State.devFromAxes (s : State) : State :=
  match s.dev with
  | .ready => if s.allDisabled then s else s.setDev .run
  | .run => if s.allDisabled then s.setDev .ready else s
  | _ => s

/-! ### Replay of jobs (12 R383) -/

/-- A job as the journal holds it. -/
def jobOf (r : JRec) (st : JobSt) : Job :=
  { seq := r.seq, opc := r.opc.toNat, ax := axOf r.axis.toNat, par := r.param.take 16
    flags := r.param.getD 16 0, st := st, due := true }

/-- The jobs that have not ended, in SEQ order, with their state (12 R382). -/
def Journal.unended (j : Journal) : List (Job × Nat) :=
  let seqs := ((j.recs.filter fun x => isJobOpc x.2.opc).map fun x => x.2.seq).eraseDups
  let live := seqs.filterMap fun q =>
    match j.latest q with
    | some x => if j.stateOf q < 4 then some (jobOf x.2 .accepted, j.stateOf q) else none
    | none => none
  live.foldl (fun l x => ins x l) []
where
  /-- Insertion by SEQ. -/
  ins (x : Job × Nat) : List (Job × Nat) → List (Job × Nat)
    | [] => [x]
    | y :: t => if x.1.seq.toNat < y.1.seq.toNat then x :: y :: t else y :: ins x t

/-- A transition that replay writes (R383): it holds no axis. -/
def State.replayEnd (s : State) (q : Job) (disp : Nat) : State :=
  let s1 := (s.transition q disp 0 true).updJax q.ax fun j => { j with lastSeq := q.seq, lastOut := disp }
  { s1 with mgmt := { s1.mgmt with jobs := s1.mgmt.jobs.filter fun x => !decide (x.seq = q.seq) } }

def State.replayEndAll (s : State) (l : List Job) (disp : Nat) : State := l.foldl (fun t q => t.replayEnd q disp) s

/-- Rule 2: an immediate job is completed. -/
def State.replayImmediate (s : State) (n : Fin 4) (q : Job) : State :=
  let cseq := leAt q.par 0 4
  let others := (s.jobsOf n).filter fun x => !isImmediate x.opc
  let s1 :=
    if q.opc = 0x0304 then s.replayEndAll others 7
    else if q.opc = 0x0309 then
      s.replayEndAll (others.filter fun x => decide (cseq = 0) || decide (x.seq.toNat = cseq)) 7
    else s
  s1.replayEnd q 4

/-- Rules 1 to 4 for one axis; `started` are the SEQs whose state is STARTED. -/
def State.replayAxis (started : List Word) (s : State) (n : Fin 4) : State :=
  let s1 := s.replayEndAll ((s.jobsOf n).filter fun q => !isImmediate q.opc && started.contains q.seq) 5
  let s2 := ((s1.jobsOf n).filter fun q => isImmediate q.opc).foldl (fun t q => t.replayImmediate n q) s1
  let s3 := match s2.preemptor n with
    | some p => (s2.replayEndAll ((s2.queuedJobs n).filter fun x => decide (x.seq.toNat < p.seq.toNat)) 7).replayEnd p 5
    | none => match s2.queueHead n with
      | some h => s2.replayEnd h 5
      | none => s2
  let pol := sysValue s.mgmt.par 0xF003
  if pol = 2 then s3.replayEndAll (s3.queuedJobs n) 7
  else if pol = 0 then s3.updJax n fun j => { j with held := !(s3.queuedJobs n).isEmpty }
  else s3

/-- Replay settles every axis (R383). -/
def State.replayJobs (s : State) : State :=
  let live := s.jrn.unended
  let s1 : State := { s with mgmt := { s.mgmt with jobs := live.map Prod.fst } }
  axes.foldl (State.replayAxis ((live.filter fun x => decide (x.2 = 3)).map fun x => x.1.seq)) s1

end Sys2Proof.Machine
end

