-- ==== Sys2Proof/Machine/Lanes.lean ====
section
/-! DEFINITION. Bytes on the lanes of a serial port (13 R395, Table 13-1; 14 R422, Table 14-1): the cycles in which a byte
leaves, and the bytes a port reads from cycles under the lane counts it has set (13 R396). -/

namespace Sys2Proof.Machine

/-- One clock cycle of up to eight lanes, lane k in bit k: the lanes that are driven, and their levels. -/
structure LaneCycle where
  drv : Byte
  val : Byte
  deriving DecidableEq, Repr

/-- Lane counts of the command, address and data phases. -/
structure LaneCount where
  cmd : Nat
  addr : Nat
  data : Nat
  deriving DecidableEq, Repr

/-- Table 13-1; codes 6 and 7 are taken as 0. -/
def sprueLanes (mode : Nat) : LaneCount :=
  match mode with
  | 1 => ⟨1, 2, 2⟩
  | 2 => ⟨1, 4, 4⟩
  | 3 => ⟨1, 8, 8⟩
  | 4 => ⟨4, 4, 4⟩
  | 5 => ⟨8, 8, 8⟩
  | _ => ⟨1, 1, 1⟩

/-- The lanes of a phase with n lanes. -/
def laneMask (n : Nat) : Byte := BitVec.ofNat 8 (2 ^ n - 1)

/-- The 8 / n cycles of one byte: in cycle j lane k carries bit 8 - n (j + 1) + k (R395). -/
def byteCycles (n : Nat) (b : Byte) : List LaneCycle :=
  (List.range (8 / n)).map fun j => ⟨laneMask n, (b >>> (8 - n * (j + 1))) &&& laneMask n⟩

/-- Bytes one after the other. -/
def bytesCycles (n : Nat) (l : List Byte) : List LaneCycle := l.flatMap (byteCycles n)

/-- Lanes that nothing drives read as levels the spec does not state (R396). -/
def levelsAt : Nat → List LaneCycle → List Byte
  | _, [] => []
  | i, c :: t => (c.val ||| (Config.idleLanes i &&& ~~~c.drv)) :: levelsAt (i + 1) t

/-- The byte that 8 / n cycles on n lanes carry (R395). -/
def laneByte (n : Nat) (l : List Byte) : Byte := l.foldl (fun b x => (b <<< n) ||| (x &&& laneMask n)) 0

/-- `k` bytes read on n lanes, and the cycles left; none when the cycles run out. -/
def readLanes (n : Nat) : Nat → List Byte → Option (List Byte × List Byte)
  | 0, l => some ([], l)
  | k + 1, l =>
    if l.length < 8 / n then none
    else (readLanes n k (l.drop (8 / n))).map fun x => (laneByte n (l.take (8 / n)) :: x.1, x.2)

end Sys2Proof.Machine
end

