-- ==== Sys2Proof/Machine/Pwm.lean ====
section
/-! DEFINITION. The carrier wrap: shadows, dither, minimum pulse, trips of the period, the reduction of the sense
window and the latch of the position inputs (07 R207 to R219, R243; 08 R263 to R266, R276; 09 R282 to R299;
10 R333), the sync chain and the device sync (07 R232 to R236). -/

namespace Sys2Proof.Machine

/-! ### Dither and minimum pulse -/

/-- The four bits of the dither index reversed (07 Table 7-1). -/
def bitrev4 (k : BitVec 4) : Nat :=
  (if k.getLsbD 0 then 8 else 0) + (if k.getLsbD 1 then 4 else 0) + (if k.getLsbD 2 then 2 else 0) +
    (if k.getLsbD 3 then 1 else 0)

/-- CMPeff (07 R210). -/
def cmpEff (cmp : BitVec 20) (k : BitVec 4) : Nat :=
  let i := cmp.toNat / 16
  if bitrev4 k < cmp.toNat % 16 then i + 1 else i

/-- Stage 2 (07 R213, R214): an on-time or off-time above 0 and below MINPW becomes 0. -/
def minPulse (per minpw e : Nat) : Nat :=
  let on := Nat.min e per
  if 0 < on ∧ on < minpw then 0
  else if 0 < per - on ∧ per - on < minpw then per
  else e

/-- MINPW of the axis. -/
def Axis.minpw (a : Axis) : Nat := fld a.drv.ctrl 15 8

/-- CMPeff of a channel after stages 1 and 2. -/
def Axis.effOf (a : Axis) (per : Nat) (ch : Fin 4) : Nat := minPulse per a.minpw (cmpEff (a.drv.acmp.get ch) a.k)

/-! ### Decimation (09 R282 to R286) -/

/-- Eight neighbouring values summed, at every place (one of the three stages of the sinc3 filter, R282). -/
def box8 : List Int → List Int
  | [] => []
  | x :: t => (x :: t.take 7).foldl (· + ·) 0 :: box8 t

/-- The stage-1 filter output at every modulator bit, before trim and saturation: sinc3 of ratio 8 over the bits and the 21
before them, full scale 2^17 (R282). A bit that history does not hold counts nothing. -/
def sinc3 (hist bits : List Bool) : List Int :=
  let f (b : Bool) : Int := if b then 256 else -256
  (box8 (box8 (box8 (List.replicate (21 - hist.length) 0 ++ hist.map f ++ bits.map f)))).take bits.length

/-- Saturation of stage 1 (R282). -/
def sat18 (x : Int) : Int := (satTo (-(2 ^ 17 - 1)) (2 ^ 17 - 1) x).1

/-- The stage-1 samples, one of every eight filter outputs, the first at input time 0 (R280, R282). -/
def samples (out : List Int) : List Int := (List.range ((out.length + 7) / 8)).map fun j => out.getD (8 * j) 0

/-- The figures of one channel and period; `gap` says that its window was empty or not wholly covered (R283 to R286, R293). -/
structure Meas where
  mean : Int
  min  : Int
  max  : Int
  snap : Int
  ovr  : Bool
  gap  : Bool
  deriving DecidableEq, Repr

/-- The period mean of N filter outputs of sum S (R283). -/
def meanOf (sum : Int) (n : Nat) : Int := sat24 (rdivEven (sum * 64) n)

/-- The smallest and the largest of the values, 0 for none (R286). -/
def minOf : List Int → Int
  | [] => 0
  | x :: t => t.foldl (fun m y => if y < m then y else m) x
def maxOf : List Int → Int
  | [] => 0
  | x :: t => t.foldl (fun m y => if m < y then y else m) x

/-- Stage 1 and stage 2 of a channel over window w of a period of `nb` modulator bits, snapshot point `sn` (R282 to R286). -/
def measure (trim : Int → Int) (w : Nat × Nat) (nb sn : Nat) (hist bits : List Bool) : Meas :=
  let raw := (sinc3 hist bits).map trim
  let out := raw.map sat18
  let win := (out.drop w.1).take (w.2 - w.1)
  let smp := samples out
  let ws := (smp.drop (w.1 / 8)).take ((w.2 - w.1 + 7) / 8)
  { mean := meanOf (win.foldl (· + ·) 0) (w.2 - w.1)
    min := minOf ws
    max := maxOf ws
    snap := smp.getD (if 8 * sn < nb then sn else (nb - 1) / 8) 0
    ovr := (samples raw).any fun x => decide (x ≠ sat18 x)
    gap := decide (w.2 ≤ w.1) || decide (bits.length < w.2) }

/-- TINJ ran on the channel: one of the floating modulators, its phase selected (R297). -/
def Axis.injected (a : Axis) (c : Nat) : Bool :=
  a.sense.tinj && decide (c < 3) && (a.sense.tinjTest || a.drv.sctrl.getLsbD (4 + c))

/-- The polarity of the test source: TINJNEG, or alternating per period under a test (R297; 19 Table 19-4). -/
def Axis.injNeg (a : Axis) : Bool := if a.sense.tinjTest then a.k.getLsbD 0 else a.drv.sctrl.getLsbD 8

/-- The figures of the test source: a mean of half the full scale within 09 Table 9-3, and free samples (R297). -/
def injMeas (neg : Bool) (n c : Nat) : Meas :=
  let s : Int := if neg then -1 else 1
  let smp (i : Fin 3) : Int := s * (Config.injSample n c i).val
  { mean := s * 2 ^ 22 + ((Config.injErr n c).val - 23592), min := smp 0, max := smp 1, snap := smp 2
    ovr := false, gap := false }

/-- A channel whose modulator delivered nothing. -/
def noBits : ChanBits := ⟨[], []⟩

/-- The figures under an internal bit-stream of density d / 256: an exact mean, and samples that only the stream's shape fixes (19
Table 19-4). -/
def loopMeas (n c : Nat) (d : Byte) : Meas :=
  { mean := sat24 (((d.toNat : Int) - 128) * 2 ^ 16)
    min := Config.loopSample n c d 0, max := Config.loopSample n c d 1, snap := Config.loopSample n c d 2
    ovr := false, gap := false }

/-- The figures of channel c of axis n in the period just ended. -/
def Axis.meas (a : Axis) (n : Fin 4) (bits : List ChanBits) (c : Nat) : Meas :=
  let m := measure (Config.senseTrim n.val c) a.window (a.per / 10) (fld a.drv.swin 23 16) (a.sense.hist.getD c [])
    (bits.getD c noBits).bits
  match a.sense.feed with
  | some d => loopMeas n.val c d
  | none => if a.injected c then { injMeas a.injNeg n.val c with gap := m.gap } else m

/-! ### Sense words (09 R283 to R299) -/

/-- A signed 24-bit value in a port word: Q2.29 (02 R65). -/
def port24 (v : Int) : Word := BitVec.ofInt 32 (v * 64)

/-- Phase bits of the three phases by a test. -/
def phaseMask (f : Phase → Bool) : BitVec 3 :=
  phases.foldl (fun m p => putBit m (phIx p) (f p)) 0

/-- The seven channels by a test. -/
def chanMask (f : Nat → Bool) : BitVec 7 := (List.range 7).foldl (fun m c => putBit m c (f c)) 0

/-- Until when each loss of the clock of channel c lasted, none for one that stands at the wrap: the clocks come back in the
order in which they were lost (R291). -/
def Axis.losses (a : Axis) (bits : List ChanBits) (c : Nat) : List (Nat × Option Nat) :=
  let t := (a.sense.lossAt.filter fun x => decide (x.1 = c)).map (·.2)
  let e := (bits.getD c noBits).back
  t.zip (e.map some ++ List.replicate t.length none)

/-- The count at which a bit-stream stuck since count t changes, none where it does not; `prev` is the last bit before the
period (R292). -/
def stuckUntil (prev : Option Bool) (bits : List Bool) (t : Nat) : Option Nat :=
  let i := t / 10
  match (if i = 0 then prev.or bits[0]? else bits[i]?) with
  | none => none
  | some b =>
    let e := i + ((bits.drop i).takeWhile (· == b)).length
    if e < bits.length then some (10 * e) else none

/-- Until when each stuck bit-stream of channel c lasted (R292). -/
def Axis.sticks (a : Axis) (bits : List ChanBits) (c : Nat) : List (Nat × Option Nat) :=
  (a.sense.stuckAt.filter fun x => decide (x.1 = c)).map fun x =>
    (x.2, stuckUntil (a.sense.hist.getD c []).getLast? (bits.getD c noBits).bits x.2)

/-- The clock of channel c was lost, or its bit-stream stuck, at some time in the window (R293). -/
def Axis.badCh (a : Axis) (bits : List ChanBits) (c : Nat) : Bool :=
  (a.losses bits c ++ a.sticks bits c).any fun x => a.inWindow x.1 (x.2.getD a.per)

/-- INV of channel c in the period just ended (R281, R293). -/
def Axis.invCh (a : Axis) (bits : List ChanBits) (c : Nat) (m : Meas) : Bool :=
  a.badCh bits c || (decide (c < 3) && ((a.fpgWin a.per).getLsbD c || a.sense.unboot.getLsbD c)) || m.gap ||
    (decide (3 ≤ c) && decide (c ≤ 5) && a.sense.vmodeNew) || a.sense.partial_

/-- SSTATn of the period just ended (Table 9-4). -/
def Axis.sstatOf (a : Axis) (bits : List ChanBits) (f : Nat → Meas) : Word :=
  at_ 28 a.k.toNat ||| flag 27 a.sense.tinj ||| at_ 20 (chanMask (a.badCh bits)).toNat ||| at_ 13 (chanMask fun c => (f c).ovr).toNat |||
    at_ 6 (chanMask fun c => a.invCh bits c (f c)).toNat ||| at_ 3 (a.fpgWin a.per).toNat |||
    at_ 0 (phaseMask fun p => (a.ph.get p).refRan).toNat

/-- GSTATn of the period just ended (08 Table 8-5). -/
def Axis.gstatOf (a : Axis) : Word :=
  flag 28 a.drv.ena ||| flag 27 a.vmloPer ||| flag 26 a.drv.refflt ||| flag 25 (decide (a.drv.tflag ≠ 0)) |||
    at_ 22 a.drv.shoot.toNat ||| at_ 19 a.drv.hsto.toNat ||| at_ 16 (phaseMask fun p => (a.ph.get p).fpgSeen).toNat |||
    at_ 13 (phaseMask fun p => (a.ph.get p).refRan).toNat ||| at_ 0 a.cbcPer.toNat

/-- The words of one channel, kinds 0 to 3 (R283, R286), or the last valid ones (R294). -/
def Axis.chanWords (a : Axis) (bits : List ChanBits) (c : Nat) (m : Meas) : List Word :=
  if a.invCh bits c m then (List.range 4).map fun k => a.sense.lastV.getD (4 * c + k) 0
  else [port24 m.mean, port24 (m.min * 64), port24 (m.max * 64), port24 (m.snap * 64)]

/-- MEANc as the host reads it (Table 9-6). -/
def Axis.chanMean (a : Axis) (bits : List ChanBits) (c : Nat) (m : Meas) : Word :=
  if a.invCh bits c m then a.sense.lastMean.getD c 0 else BitVec.ofInt 32 m.mean

/-- A list as a vector of words, zeros past its end. -/
def toVec (n : Nat) (l : List Word) : Vector Word n := Vector.ofFn fun i => l.getD i.val 0

/-- The frame formed of the period just ended (Table 9-2, step 3). -/
def Axis.reduce (a : Axis) (n : Fin 4) (bits : List ChanBits) : SenseWords :=
  let f := a.meas n bits
  { sens := toVec 28 ((List.range 7).flatMap fun c => a.chanWords bits c (f c))
    mean := toVec 7 ((List.range 7).map fun c => a.chanMean bits c (f c))
    sstat := a.sstatOf bits f
    gstat := a.gstatOf }

/-! ### Configuration taken up at a wrap (07 R219, R245; 08 R275; 09 R287) -/

/-- One honoured configuration write, by offset in the axis block. -/
def Drv.config (d : Drv) (o : Nat) (w : Word) : Drv :=
  if o = 0x000 then { d with ctrl := mergeW 0xFF00 d.ctrl w }
  else if o = 0x004 then { d with dt := w &&& 0x7FF }
  else if o = 0x034 then { d with brkhw := w &&& 0x8000FFFF }
  else if 0x080 ≤ o ∧ o < 0x0B4 then
    let k := (o - 0x080) / 4
    { d with tcfg := d.tcfg.setIfInBounds k ((w &&& 0xF000FF7F) ||| (if k = 12 then 0x80000000 else 0)) }
  else if o = 0x100 then { d with gdrv := w }
  else if o = 0x104 then { d with gbst := w &&& 0x1FF7 }
  else if o = 0x108 then { d with ghs := w &&& 0x7 }
  else if o = 0x10C then { d with gvds := w &&& 0x1F1F1F }
  else if o = 0x110 then { d with gocf := w &&& 0x1F }
  else if o = 0x114 then { d with gvm := w &&& 0xFFFF }
  else if o = 0x200 then { d with swin := w &&& 0xFFFFFF }
  else if o = 0x204 then { d with sctrl := w &&& 0x171 }
  else d

/-- The trip sources whose filters are enabled (07 R237). -/
def Drv.tripsOn (d : Drv) : BitVec 13 := (List.range 13).foldl (fun m k => putBit m k (tcEn (d.tcfg.getD k 0))) 0

/-- Every waiting configuration write, and whether VMODE changed (09 R293). A source whose filter is enabled while it is
active begins to count, one whose filter is disabled stops (07 R237); a backup that may not engage is inactive (R230). -/
def Axis.takeConfig (a : Axis) : Axis :=
  let d := a.cfgq.foldl (fun d x => d.config x.1 x.2) a.drv
  let on := d.tripsOn
  { a with
    drv := { d with bhact := d.bhact && d.bhMay }
    cfgq := []
    counting := (a.counting ||| (on &&& ~~~a.drv.tripsOn &&& d.tsrc)) &&& on
    filt := a.filt &&& on
    sense := { a.sense with vmodeNew := d.sctrl.getLsbD 0 != a.drv.sctrl.getLsbD 0 } }

/-! ### The wrap -/

/-- The trip bookkeeping of the period just ended (07 R243): TCBC; the sources that still hold act in the new period. -/
def Axis.endTrips (a : Axis) : Axis :=
  let hold := a.cbcHold &&& a.filt
  { a with
    cbcHold := hold
    cbcPer := hold
    drv := { a.drv with
      cbcLast := a.cbcPer
      cbcCnt := if a.cbcPer = 0 then a.drv.cbcCnt else sat16 a.drv.cbcCnt } }

/-- The last `n` of a list. -/
def lastN {α : Type} (n : Nat) (l : List α) : List α := l.drop (l.length - n)

/-- Phases whose floating supply has not come up: with PUMPEN, before the pump has charged CBOOT since VGD rose; without,
before the low side's first on-time (09 R281). -/
def Axis.notUp (a : Axis) : BitVec 3 :=
  if a.drv.gbst.getLsbD 12 then ~~~a.sense.pumped else ~~~a.sense.lowSeen

/-- The modulators as they stand at the wrap (09 R291, R292): the filter's history, a clock still lost, a stream still
stuck. What stands does so in the new period from its first count on. -/
def Axis.carryStreams (a : Axis) (bits : List ChanBits) : Axis :=
  let lost (c : Nat) : Bool := (a.losses bits c).any fun x => x.2.isNone
  let stuck (c : Nat) : Bool := (a.sticks bits c).any fun x => x.2.isNone
  { a with sense := { a.sense with
      hist := Vector.ofFn fun i => lastN 21 (a.sense.hist.getD i.val [] ++ (bits.getD i.val noBits).bits)
      lostNow := phaseMask fun p => lost (phIx p)
      stuckNow := chanMask stuck
      lossAt := ((List.range 3).filter lost).map fun c => (c, 0)
      stuckAt := ((List.range 7).filter stuck).map fun c => (c, 0) } }

/-- The sense state of the new period (09 R281, R283, R293, R297). -/
def Axis.startWindow (a : Axis) (w : SenseWords) (ovr : BitVec 7) : Axis :=
  { a with
    vmloPer := a.drv.vmlo && !a.noLock
    statIn := false
    ph := ⟨{ a.ph.u with refRan := decide (a.ph.u.refr ≠ 0), fpgSeen := a.drv.fpglow.getLsbD 0 },
      { a.ph.v with refRan := decide (a.ph.v.refr ≠ 0), fpgSeen := a.drv.fpglow.getLsbD 1 },
      { a.ph.w with refRan := decide (a.ph.w.refr ≠ 0), fpgSeen := a.drv.fpglow.getLsbD 2 }⟩
    drv := { a.drv with sovr := a.drv.sovr ||| ovr }
    sense := { a.sense with
      lastV := w.sens
      lastMean := w.mean
      fpg := 0
      fpgAt := ⟨0, 0, 0⟩
      unboot := a.notUp
      partial_ := false
      tinj := a.sense.tinjNext
      tinjNext := false
      tinjTest := a.sense.tinjTestN
      tinjTestN := false
      feed := a.sense.feedNext
      feedNext := none
      frame := some w } }

/-- A refresh whose time has ended gives its phase back at this wrap (08 Table 8-3). -/
def PhSt.endRefresh (p : PhSt) : PhSt := if p.refr = 2 then { p with refr := 0 } else p

/-- Shadows load, the dither index is the heat index, and the raw commands of the period start (07 R208, R210, R217). -/
def Axis.loadPeriod (a : Axis) (hidx : BitVec 4) (per : Nat) : Axis :=
  let b : Axis := { a with
    k := hidx
    per := per
    drv := { a.drv with acmp := a.drv.scmp, refcnt := if hidx = 0 then 0 else a.drv.refcnt }
    ph := ⟨a.ph.u.endRefresh, a.ph.v.endRefresh, a.ph.w.endRefresh⟩ }
  let e : Four Nat := ⟨b.effOf per 0, b.effOf per 1, b.effOf per 2, b.effOf per 3⟩
  { b with
    eff := e
    brk := decide (0 < e.a3)
    ph := ⟨{ b.ph.u with raw := decide (0 < e.a0) }, { b.ph.v with raw := decide (0 < e.a1) },
      { b.ph.w with raw := decide (0 < e.a2) }⟩
    drv := { b.drv with refact := phaseMask fun p => decide ((b.ph.get p).refr ≠ 0) } }

/-- A side whose output is enabled at this wrap takes its edge through stage 3 (07 R225). -/
def GateCh.reedge (dt0 poff : Bool) (g : GateCh) : GateCh :=
  if g.cmd then ({ g with cmd := false }).drive dt0 poff true else g

/-- EN as set takes effect, and hold-offs that waited for the wrap end (07 R225, R241; 08 R256, R274). -/
def Axis.applyWrap (a : Axis) : Axis :=
  let b := (phases.foldl Axis.drivePhase a)
  let c : Axis := { b with wrapOff := 0, wrapPh := 0, vmloWait := false }
  let d := c.rearm
  if a.enWait then
    let f (x : PhSt) : PhSt :=
      { x with
        h := { x.h with w3 := false, dt := false, w4 := false, s4 := false }.reedge a.dt0 x.l.off
        l := { x.l with w3 := false, dt := false, w4 := false, s4 := false }.reedge a.dt0 x.h.off }
    { d with
      enWait := false
      drv := { d.drv with ena := true }
      ph := ⟨f d.ph.u, f d.ph.v, f d.ph.w⟩ }
  else d

/-- Encoder mode (HMODE). -/
def Hall.encMode (h : Hall) : Bool := h.cfg.getLsbD 0

/-- The filtered code is none of the six of a motor (10 R330). -/
def Hall.invalid (h : Hall) : Bool := !h.encMode && decide (h.code = 0 ∨ h.code = 7)

/-- HALLn bits 2:0: the accepted code, an invalid one as it stands, or the filtered levels in encoder mode (10 R330 to
R332). -/
def Hall.shown (h : Hall) : BitVec 3 := if h.encMode || h.invalid then h.code else h.last

/-- The position inputs of the axis latch at its wrap (10 R333). -/
def Hall.latch (now : Nat) (h : Hall) : Hall :=
  let age := Nat.min (now - h.tLast) 0xFFFFFF
  { h with
    hall := at_ 0 h.shown.toNat ||| flag 3 h.invalid ||| flag 4 h.rdisc ||| at_ 8 age
    rdisc := false
    encL := h.enc
    enczL := h.encz }

def State.latchHall (s : State) (n : Fin 4) : State :=
  { s with hall := s.hall.set n ((s.hall.get n).latch (s.tick.base + s.tick.ofs.get n)) }

/-- The code of axis n is invalid and INVCODE does not tell so yet: it is set with HALLn bit 3, and POSERRn raised (10
R330). -/
def State.showInvalid (s : State) (n : Fin 4) : State :=
  if (s.hall.get n).invalid && !s.hallFlag.getLsbD n.val then
    ({ s with hallFlag := s.hallFlag ||| bitB 12 n.val }).raiseSns (172 + n.val)
  else s

/-- Channels newly saturated in SENSn.FLAG raise SOVR once each (09 R301). -/
def State.raiseSovr (s : State) (n : Fin 4) (ovr : BitVec 7) : State :=
  (List.range 7).foldl (fun t c => t.raiseDrvIf (ovr.getLsbD c && !(s.axis n).drv.sovr.getLsbD c) n 18) s

/-- With the front end of the axis unpowered, the floating modulators of channels 0 to 2 deliver nothing (20 R539). -/
def State.measured (s : State) (n : Fin 4) (bits : List ChanBits) : List ChanBits :=
  if s.pwr.axpwr.getLsbD n.val then bits else [noBits, noBits, noBits] ++ bits.drop 3

/-- A period of a test begins: the compares of a gate-drive test are the shadows that load at this wrap, and at LB-C the outputs are
enabled, but for a reset of the link (16 R472); LB-A of phase sensing feeds its bit-stream (19 Table 19-4). -/
def State.testPeriod (n : Fin 4) (s : State) : State :=
  match s.mgmt.bg with
  | none => s
  | some b =>
    if (s.axis n).st = .test then
      match b.op.compares n s.tick.tper (s.axis n).testI, b.op.density n (s.axis n).testI with
      | some c, _ =>
        let t := s.updAxis n fun a => { a with testI := a.testI + 1, drv := { a.drv with scmp := c } }
        match b.op with
        | .loopback _ 2 _ _ _ _ => if s.linkDown n then t else t.updAxis n Axis.enOn
        | _ => t
      | none, some d => s.updAxis n fun a => { a with testI := a.testI + 1, sense := { a.sense with feedNext := some d } }
      | none, none => s
    else s

/-- PERIOD_WRAP (07 R217): the period of axis n ends and the next begins. -/
def execPeriodWrap (n : Fin 4) (raw : List ChanBits) (s0 : State) : Res :=
  let s := s0.testPeriod n
  let a := s.axis n
  let bits := s.measured n raw
  let w := a.reduce n bits
  let ovr := chanMask fun c => (a.meas n bits c).ovr
  let s1 := (s.raiseSovr n ovr).raiseDrvIf (decide (a.cbcPer ≠ 0)) n 2
  let s2 := s1.updChain n fun a =>
    ((((a.endTrips.takeConfig).loadPeriod s.tick.hidx s.tick.tper).startWindow w ovr).carryStreams bits).applyWrap
  s0.whenOn (.drv n) (.next ((s2.latchHall n).showInvalid n))

/-! ### Sync -/

/-- SYNC_CHAIN_PULSE (07 R233): the predecessor's pulse came where it was expected. -/
def execSyncChainPulse (n : Fin 4) (s : State) : Res := .next (s.updAxis n fun a => { a with missRun := 0 })

/-- SYNCMISS (07 R233): DRV1 to DRV3 wrap on their own count; two misses in a row are an axis fault, which MGMT
applies when it sees the event. -/
def execSyncmiss (n : Fin 4) (s : State) : Res :=
  if n = 0 then .next s
  else s.whenOn (.drv n) <| .next ((s.updAxis n fun a => { a with
    missRun := a.missRun + 1
    missTwo := a.missTwo || decide (1 ≤ a.missRun)
    drv := { a.drv with miss := sat8 a.drv.miss } }).raiseDrv n 5)

/-- The count at which an acquired tick starts: cy 0 stands 10 cy + SDLY after the sampled edge, or, where that lies before
the pulse has been measured as 32 cy long, the count that places it there (07 R234). -/
def SyncSt.startCount (y : SyncSt) : Nat := 32 - (10 + fld y.cfg 30 16)

/-- A sync deviation (07 R236). -/
def State.syncDeviate (s : State) : State :=
  ({ s with sync := { s.sync with
      miss := sat8 s.sync.miss
      lost := s.sync.lost || s.sync.lock
      lock := false } }).raise 254

/-- The slave checks its sync edges (07 R236). -/
def SyncSt.checks (y : SyncSt) : Bool := decide (y.mode = 2) && !y.armed

/-- SYNC_EDGE: an edge `dev` cy from the expected position. -/
def execSyncEdge (dev : Int) (s : State) : Res :=
  if s.sync.checks && decide (fld s.sync.cfg 15 8 < dev.natAbs) then .next s.syncDeviate else .next s

/-- SYNC_EDGE_MISSING. -/
def execSyncEdgeMissing (s : State) : Res := if s.sync.checks then .next s.syncDeviate else .next s

/-- MODULATOR_LOST_CLOCK (09 R291). -/
def execModulatorLostClock (n : Fin 4) (p : PhaseAt) (s : State) : Res :=
  let k := phIx p.ph
  let old := (s.axis n).drv.slost.getLsbD k
  s.whenOn (.drv n) <| .next ((s.updAxis n fun a => { a with
    sense := { a.sense with lossAt := a.sense.lossAt ++ [(k, p.t)], lostNow := a.sense.lostNow ||| bitB 3 k }
    drv := { a.drv with slost := a.drv.slost ||| bitB 3 k } }).raiseDrvIf (!old) n 16)

/-- BITSTREAM_STUCK (09 R292). -/
def execBitstreamStuck (n : Fin 4) (c : ChanAt) (s : State) : Res :=
  let k := c.c.val
  let old := (s.axis n).drv.sstuck.getLsbD k
  s.whenOn (.drv n) <| .next ((s.updAxis n fun a => { a with
    sense := { a.sense with stuckAt := a.sense.stuckAt ++ [(k, c.t)], stuckNow := a.sense.stuckNow ||| bitB 7 k }
    drv := { a.drv with sstuck := a.drv.sstuck ||| bitB 7 k } }).raiseDrvIf (!old) n 17)

end Sys2Proof.Machine
end

