-- ==== Sys2Proof/Machine/Plind.lean ====
section
/-! DEFINITION. The Plind links (16 R463 to R473, R588): tick frames, immediate and register messages on the way down,
sense frames, status frames and event words on the way up. -/

namespace Sys2Proof.Machine

/-- LINKn changed in place. -/
def State.updLink (s : State) (n : Fin 4) (f : Link → Link) : State :=
  s.updAxis n fun a => { a with link := f a.link }

/-- A receiver at a frame header moves its sample point by at most one step of 78 ps toward the centre of the eye; beyond 32
steps it slips by a whole cycle and re-centres (16 R466). -/
def track (p : BitVec 8) (eye : Int) : BitVec 8 × Bool :=
  let q := p.toInt + (if p.toInt < eye then 1 else if eye < p.toInt then -1 else 0)
  if 32 < q.natAbs then (0, true) else (BitVec.ofInt 8 q, false)

/-- The receivers of a tick frame and of a sense frame (16 R466): a slip is counted, and SLIP raised where it happened. -/
def State.slipDown (s : State) (n : Fin 4) (eye : Int) : State :=
  let r := track (s.axis n).link.phd eye
  (s.updLink n fun l => { l with phd := r.1, slips := if r.2 then sat8 l.slips else l.slips }).raiseDrvIf r.2 n 23
def State.slipUp (s : State) (n : Fin 4) (eye : Int) : State :=
  let r := track (s.axis n).link.phu eye
  (s.updLink n fun l => { l with phu := r.1, slips := if r.2 then sat8 l.slips else l.slips }).raiseIf r.2 (axEv n 23)

/-- Compares of a tick frame entered into the shadows (07 R217). -/
def CmpW.load (c : CmpW) (f : Four (BitVec 20)) : Four (BitVec 20) :=
  ⟨c.u.getD f.a0, c.v.getD f.a1, c.w.getD f.a2, c.b.getD f.a3⟩

/-- The tick frame has left: writes that came after its deadline go into the next (07 R217, 02 R68). -/
def State.frameSent (s : State) (n : Fin 4) : State :=
  s.updPort n fun p => { p with cur := p.nxt, nxt := {}, sent := true }

/-- A test injects on axis n. -/
def State.testInjects (s : State) (n : Fin 4) : Bool :=
  match s.mgmt.bg with
  | some b => b.op.injects n && decide ((s.axis n).st = .test)
  | none => false

/-- The heat word of a tick frame: heat index in bits 31:28, heat counter bits 27:0 (16 Table 16-3). -/
def State.heatWord (s : State) : Word := at_ 28 s.tick.hidx.toNat ||| at_ 0 (s.tick.heat.toNat % 2 ^ 28)

/-- Words under their CRC-32C (16 R464). -/
def withCrc (w : List Word) : List Word := w ++ [crc32c (w.flatMap fun x => leBytes 4 x.toNat)]

/-- Words on the four lanes of a link, bits most significant first (16 R463; 00 R14; log entry 179). -/
def wordLanes (w : List Word) : List LaneCycle := bytesCycles 4 (w.flatMap fun x => leBytes 4 x.toNat)

/-- The 32 words of a sense frame: header, the words of 09 Table 9-2, CRC; and its lanes (16 Table 16-3). -/
def SenseWords.words (w : SenseWords) : List Word := withCrc (Config.upHeader false :: w.sens.toList ++ [w.sstat, w.gstat])
def SenseWords.lanes (w : SenseWords) : List LaneCycle := wordLanes w.words

/-- The two words of a register message, and its lanes (16 Table 16-3). -/
def RegMsg.words (m : RegMsg) : List Word := withCrc [Config.regWord m.addr m.val m.host]
def RegMsg.lanes (m : RegMsg) : List LaneCycle := wordLanes m.words

/-- The ten words of the tick frame of axis n (16 Table 16-3), whose CRC covers the words before it. -/
def State.tickWords (s : State) (n : Fin 4) : List Word :=
  let p := s.pour.ax.get n
  let c := p.cur.load (s.axis n).drv.scmp
  withCrc [Config.linkHeader, c.a0.setWidth 32, c.a1.setWidth 32, c.a2.setWidth 32, c.a3.setWidth 32, flag 0 p.imm,
    p.linkctl.setWidth 32, s.heatWord, Config.linkSpare]

/-- The tick frame on the lanes. -/
def State.tickLanes (s : State) (n : Fin 4) : List LaneCycle := wordLanes (s.tickWords n)

/-- A good tick frame at the drive die: HOLDPREV keeps the shadows, TINJ is for the next period (02 R67, R68). -/
def State.tickFrameGood (s : State) (n : Fin 4) : State :=
  let p := s.pour.ax.get n
  let hold := p.linkctl.getLsbD 0
  let test := s.testInjects n
  (s.updAxis n fun a => { a with
    dnRun := 0
    dieBadL := false
    link := { a.link with heatRx := s.heatWord }
    sense := { a.sense with tinjNext := p.linkctl.getLsbD 1 || test, tinjTestN := test }
    drv := { a.drv with scmp := if hold then a.drv.scmp else p.cur.load a.drv.scmp } })

/-- A bad tick frame (16 R467): shadows kept, PCTL and LINKCTL not applied; the drive die will report it, and two in a
row raise LINKFLT. -/
def State.tickFrameBad (s : State) (n : Fin 4) : State :=
  let s1 := (s.updAxis n fun a => { a with
    dnRun := a.dnRun + 1
    sense := { a.sense with tinjNext := false, tinjTestN := false }
    dieBadL := true
    dieBad := a.dieBad + 1 }).raiseDrv n 20
  s1.raiseDrvIf (decide (2 ≤ (s1.axis n).dnRun)) n 22

/-- TICK_FRAME (16 R464, R467): one in each tick. Under a standard mould the axis's step of this pour has run by then (06 R158). -/
def execTickFrame (n : Fin 4) (good : Bool) (eye : Int) (s0 : State) : Res :=
  let s := s0.stdStep n
  if s.linkDown n || (s.pour.ax.get n).sent then .next s
  else
    let s1 := s.slipDown n eye
    .next ((if good then s1.tickFrameGood n else s1.tickFrameBad n).frameSent n)

/-- An immediate load at its stamped count (07 R221, R222): the active compare changes, and stages 1 and 2 act on it
with the dither index of the running period. -/
def Axis.immLoad (a : Axis) (per : Nat) (c : Nat) (ch : Fin 4) (x : BitVec 20) : Axis :=
  let b : Axis := { a with drv := { a.drv with acmp := a.drv.acmp.set ch x } }
  let e := b.effOf per ch
  let on := decide (c < e)
  let d : Axis := { b with eff := b.eff.set ch e }
  match ch with
  | 0 => { d with ph := { d.ph with u := { d.ph.u with raw := on } } }.drivePhase .u
  | 1 => { d with ph := { d.ph with v := { d.ph.v with raw := on } } }.drivePhase .v
  | 2 => { d with ph := { d.ph with w := { d.ph.w with raw := on } } }.drivePhase .w
  | 3 => { d with brk := on }

/-- IMMEDIATE_MESSAGE (07 R221, 16 R467): the oldest message under way arrives; a bad one is discarded with IMMLOST. It goes
behind a tick frame that was due when it was sent off (R464). -/
def execImmediateMessage (n : Fin 4) (good : Bool) (s : State) : Res :=
  match (s.pour.ax.get n).immq with
  | [] => .next s
  | (ch, x, t) :: rest =>
    if s.behindFrame n t then .next s else
    let s1 := s.updPort n fun p => { p with immq := rest, regOn := p.regOn && !rest.isEmpty }
    if s.linkDown n then .next s1
    else if good then .next (s1.updChain n fun a => a.immLoad s.tick.tper (s.countAt n t) ch x)
    else .next ((s1.updLink n fun l => { l with immlost := sat8 l.immlost }).raiseDrv n 24)

/-- Configuration offsets of the axis block: honoured in DISABLED and TEST only (07 R245, 08 R275, 09 R287). -/
def isAxisConfig (o : Nat) : Bool :=
  decide (o = 0x004 ∨ o = 0x034 ∨ o = 0x200 ∨ o = 0x204) || (decide (0x080 ≤ o) && decide (o < 0x0B4)) ||
    (decide (0x100 ≤ o) && decide (o ≤ 0x114))

/-- States in which configuration writes are honoured. -/
def AxState.configOk : AxState → Bool
  | .disabled | .test => true
  | _ => false

/-- A write to PWMn.CTRL at the die: MINPW as configuration; EN by MGMT, or by the host in TEST outside FIELD
(07 R227, R245). -/
def State.ctrlWrite (s : State) (n : Fin 4) (val : Word) (host : Bool) : State :=
  let ok := (s.axis n).st.configOk
  let s1 := if ok then s.updAxis n fun a => { a with cfgq := a.cfgq ++ [(0, val)] } else s.raiseDrv n 6
  if !host || (decide ((s.axis n).st = .test) && decide (s.lc.st ≠ 2)) then
    if val.getLsbD 0 then s1.updAxis n Axis.enOn else s1.enClear n
  else s1

/-- A register write as the drive die takes it (16 R468). A sense flag whose condition stands stays 1 (00 R10, 09 Table 9-6). -/
def State.dieWrite (s : State) (n : Fin 4) (o : Nat) (val : Word) (host : Bool) : State :=
  if o = 0x000 then s.ctrlWrite n val host
  else if isAxisConfig o then
    if (s.axis n).st.configOk then s.updAxis n fun a => { a with cfgq := a.cfgq ++ [(o, val)] }
    else s.raiseDrv n 6
  else if o = 0x040 then s.tflagWrite n (val.setWidth 13)
  else if o = 0x124 then
    let s1 := if val.getLsbD 8 then s.updDrv n fun d => { d with refflt := false } else s
    (s1.shootWrite n (sf3 val 4)).hstoWrite n (sf3 val 0)
  else if o = 0x208 then
    s.updDrv n fun d => { d with
      sovr := d.sovr &&& ~~~(val.extractLsb' 10 7)
      sstuck := (d.sstuck &&& ~~~(val.extractLsb' 3 7)) ||| (s.axis n).sense.stuckNow
      slost := (d.slost &&& ~~~(val.extractLsb' 0 3)) ||| (s.axis n).sense.lostNow }
  else s
where
  /-- Three bits of a word. -/
  sf3 (w : Word) (lo : Nat) : BitVec 3 := w.extractLsb' lo 3

/-- An immediate message waits that a register message does not delay: none was on the lanes when it came (16 R464). -/
def PortAx.immFirst (p : PortAx) : Bool := !p.immq.isEmpty && !p.regOn

/-- The register message is not off CTL's lanes yet, or waits there: the link is down, immediate messages or a due tick frame go
first, or it has arrived and its acknowledge is under way (16 R464, R467). -/
def State.regWaits (s : State) (n : Fin 4) (m : RegMsg) : Bool :=
  s.linkDown n || (s.pour.ax.get n).immFirst || m.arr || s.behindFrame n m.since

/-- The register message at the head of CTL's list is at the drive die, and its acknowledge waits for the uplink. -/
def State.regArrives (s : State) (n : Fin 4) (m : RegMsg) (rest : List RegMsg) : State :=
  let t := (s.updAxis n fun a => { a with regq := { m with arr := true } :: rest }).updPort n fun p => { p with regOn := false }
  ((t.dieWrite n m.addr m.val m.host).updAxis n fun a => { a with evq := a.evq ++ [.ack] }).upNext n

/-- REGISTER_MESSAGE (16 R468): the oldest register message arrives, is applied or refused, and is acknowledged behind the event
words that came before (R588). It goes behind the immediate messages, but for one that was on the lanes already, and behind a
tick frame that was due (R464). -/
def execRegisterMessage (n : Fin 4) (s0 : State) : Res :=
  let s := s0.upNext n
  match (s.axis n).regq with
  | [] => .next s
  | m :: rest => if s.regWaits n m then .next s else .next (s.regArrives n m rest)

/-- CTL's list after a timeout; an acknowledge that has not left counts for the message as sent anew, or for none (log entry
197). -/
def State.regList (s : State) (n : Fin 4) (l : List RegMsg) : State :=
  s.updAxis n fun a => { a with regq := l, evq := a.evq.filter (· ≠ .ack) }

/-- REGISTER_ACK_TIMEOUT (16 R467): resent up to three times; the fourth failure drops it and raises REGFAIL. A reset of the
link drops what was in flight (R471). -/
def execRegisterAckTimeout (n : Fin 4) (s0 : State) : Res :=
  let s := s0.upNext n
  match (s.axis n).regq with
  | [] => .next s
  | m :: rest =>
    if s.linkDown n then .next s
    else if m.tries < 3 then .next (s.regList n ({ m with tries := m.tries + 1, since := s.tick.cy, arr := false } :: rest))
    else .next ((s.regList n rest).raise (axEv n 25))

/-- CTL's sum for the VM0 comparison: axis 0's VBUS means, leaving out INV (10 R321). -/
def State.addVbus (s : State) (w : SenseWords) : State :=
  if w.sstat.getLsbD 12 then s
  else { s with mon := { s.mon with vbSum := s.mon.vbSum + (w.mean.getD 6 0).toInt, vbN := s.mon.vbN + 1 } }

/-- The SENSn registers of a register set replaced by those of another (R468). -/
def Drv.withSens (d x : Drv) : Drv :=
  { d with swin := x.swin, sctrl := x.sctrl, sovr := x.sovr, sstuck := x.sstuck, slost := x.slost }

/-- A good sense frame: all words of the axis change together (02 R64, 09 R288). -/
def State.senseGood (s : State) (n : Fin 4) (w : SenseWords) : State :=
  let s1 := (s.updPort n fun p => { p with sens := w.sens, sstat := w.sstat, gstat := w.gstat }).updAxis n fun a =>
    { a with
      upRun := 0
      link := { a.link with upbadl := false }
      mir := a.mir.withSens a.drv
      sense := { a.sense with frame := none, mean := w.mean, sstat := w.sstat } }
  if n = 0 then s1.addVbus w else s1

/-- A bad sense frame (16 R467): the port words stay; two in a row raise LINKFLT. -/
def State.senseBad (s : State) (n : Fin 4) : State :=
  let s1 := (s.updAxis n fun a => { a with
    upRun := a.upRun + 1
    sense := { a.sense with frame := none }
    link := { a.link with upbadl := true, upbad := sat8 a.link.upbad } }).raise (axEv n 21)
  s1.raiseIf (decide (2 ≤ (s1.axis n).upRun)) (axEv n 22)

/-- SENSE_FRAME (09 R288, 16 R467). -/
def execSenseFrame (n : Fin 4) (good : Bool) (eye : Int) (s : State) : Res :=
  if s.linkDown n then .next s
  else
    let s1 := s.slipUp n eye
    match good, (s.axis n).sense.frame with
    | true, some w => .next (s1.senseGood n w)
    | true, none => .next s1
    | false, _ => .next (s1.senseBad n)

/-- What a status frame brings: every mirrored word but those of SENSn (16 R468), the bad tick frames of the die (R467),
and its VCORE, here as the difference from that of CTL (R470). -/
def Axis.statusGood (a : Axis) (vcoreMv : Int) : Axis :=
  { a with
    mir := a.drv.withSens a.mir
    statIn := true
    dieBad := 0
    upRun := 0
    link := { a.link with
      vcore := vcoreMv, dnbadl := a.dieBadL, dnbad := BitVec.ofNat 8 (Nat.min 255 (a.link.dnbad.toNat + a.dieBad)) } }

/-- A bad status frame brings nothing; two bad frames of the uplink in a row raise LINKFLT (16 R467; log entry 180). -/
def State.statusBad (s : State) (n : Fin 4) : State :=
  let s1 := s.updAxis n fun a => { a with upRun := a.upRun + 1, statIn := true }
  s1.raiseIf (decide (2 ≤ (s1.axis n).upRun)) (axEv n 22)

/-- STATUS_FRAME (16 R468): all of it changes in one cycle; with no VCORE the frame is bad (R467). -/
def execStatusFrame (n : Fin 4) (vcoreMv : Option Int) (s : State) : Res :=
  if s.linkDown n then .next s
  else match vcoreMv with
    | some v => .next (s.updAxis n fun a => a.statusGood v)
    | none => .next (s.statusBad n)

/-- DRV_EVENT_WORD (16 R588): the word of drive-die event j on the lanes arrives, and its occurrence is delivered in SYS. A word
enters the lanes in order of arrival, behind a sense frame or a status frame (log entry 181). -/
def execDrvEventWord (n : Fin 4) (j : Fin 40) (s0 : State) : Res :=
  let s := s0.upNext n
  if s.linkDown n || !decide ((s.axis n).upOn = some j.val) then .next s
  else .next (((s.updAxis n fun a => { a with upOn := none }).raise (axEv n j.val)).upNext n)

end Sys2Proof.Machine
end

