-- ==== Sys2Proof/Machine/Runner.lean ====
section
/-! DEFINITION. The Runner port (14): framing lengths and completion cycle, mould and MGMT transactions, results, and the
function reset. -/

namespace Sys2Proof.Machine

/-- Fields of RUN.DEVAk and RUN.DEVBk (Table 14-5). -/
def Runner.cfgA (r : Runner) (dev : Nat) : Word := r.deva.getD dev 0
def Runner.cfgB (r : Runner) (dev : Nat) : Word := r.devb.getD dev 0
def Runner.addren (r : Runner) (dev : Nat) : Bool := (r.cfgA dev).getLsbD 18
def Runner.alven (r : Runner) (dev : Nat) : Bool := (r.cfgA dev).getLsbD 17
def Runner.crcen (r : Runner) (dev : Nat) : Bool := (r.cfgA dev).getLsbD 16
def Runner.idle (r : Runner) (dev : Nat) : Nat := fld (r.cfgB dev) 31 24

/-- Command lanes and address-and-data lanes (Table 14-1). -/
def runLanes (code : Nat) : Nat × Nat :=
  match code with
  | 1 => (1, 2)
  | 2 => (1, 4)
  | 3 => (2, 2)
  | 4 => (4, 4)
  | _ => (1, 1)

/-- N of R423: RCK cycles of a transaction. -/
def Runner.cycles (r : Runner) (dev : Nat) (isRead : Bool) (txlen rxlen : Nat) : Nat :=
  let l := runLanes (fld (r.cfgA dev) 23 21)
  let crc := if r.crcen dev then 32 else 0
  let alv := if r.alven dev && isRead then 8 else 0
  let out := (if r.addren dev then 24 else 0) + alv + 8 * txlen + crc
  let back := if isRead then alv + 8 * rxlen + crc else 0
  8 / l.1 + out / l.2 + (if isRead then fld (r.cfgA dev) 15 11 else 0) + back / l.2

/-- C of R425 for a start at cy S; a DIV below 4 is taken as 4 (R421). -/
def Runner.doneAt (r : Runner) (dev : Nat) (isRead : Bool) (txlen rxlen start : Nat) : Nat :=
  start + 8 + fld (r.cfgB dev) 15 8 + r.cycles dev isRead txlen rxlen * 2 * Nat.max 4 (fld (r.cfgA dev) 31 24) +
    fld (r.cfgB dev) 23 16

/-- The alive value the next read of a device code carries (R424). -/
def Runner.alive (r : Runner) (dev : Nat) : Byte := BitVec.ofNat 8 (fld (r.cfgB dev) 7 0)

/-- The alive counter advances from 255 to 1 (R424). -/
def Runner.stepAlive (r : Runner) (dev : Nat) : Runner :=
  let n : Byte := if r.alive dev = 255 then 1 else r.alive dev + 1
  { r with devb := r.devb.setIfInBounds dev (mergeW 0xFF (r.cfgB dev) (n.setWidth 32)) }

/-- The bytes a transaction sends, in order (R423; ADDR most significant byte first, 00 R12; CRC little-endian, 00 R13). -/
def Runner.sentBytes (r : Runner) (dev : Nat) (isRead : Bool) (cmd : Byte) (addr : BitVec 24) (tx : List Byte) : List Byte :=
  let b := [cmd] ++ (if r.addren dev then [addr.extractLsb' 16 8, addr.extractLsb' 8 8, addr.extractLsb' 0 8] else []) ++
    (if r.alven dev && isRead then [r.alive dev] else []) ++ tx
  b ++ (if r.crcen dev then leBytes 4 (crc32c b).toNat else [])

/-- A transaction that starts at cy S (R423 to R425). -/
def Runner.txAt (r : Runner) (dev : BitVec 3) (mgmt isRead : Bool) (cmd : Byte) (addr : BitVec 24) (tx : List Byte)
    (rxlen res start : Nat) : RunTx :=
  let k := dev.toNat
  { dev := dev, mgmt := mgmt, isRead := isRead, alv := if isRead && r.alven k then r.alive k else 0
    rxlen := rxlen, res := res, tries := 0, start := start, c := r.doneAt k isRead tx.length rxlen start
    cfgA := r.cfgA k, cfgB := r.cfgB k, n := r.cycles k isRead tx.length rxlen
    sent := r.sentBytes k isRead cmd addr tx, cmd := cmd, addr := addr, tx := tx }

/-! ### Pins (R420 to R422, Table 14-2) -/

/-- What the port drives: RSEL, RSTBn, RCK and the RIO lanes, the last two only where the spec states them. -/
structure RunPins where
  rsel : BitVec 3
  rstb : Bool
  rck : Option Bool
  rio : Option LaneCycle
  deriving DecidableEq, Repr

/-- The idle level of RCK: CPOL of the device codes (R421); where they differ the spec does not say whose. -/
def Runner.idleRck (r : Runner) : Bool :=
  let p := (List.range 7).map fun i => (r.deva.getD (i + 1) 0).getLsbD 20
  if p.all id then true else if p.all not then false else Config.idleRck

/-- The idle port selects no device (R420); its lanes are driven, at levels the spec does not give (21 Table 21-2). -/
def Runner.idlePins (r : Runner) : RunPins := ⟨0, true, some r.idleRck, some ⟨0x0F, Config.idleRio.setWidth 8⟩⟩

/-- The RCK cycles in which the port drives lanes: CMD, then every later byte on the address and data lanes (R422, R423). -/
def RunTx.outCycles (t : RunTx) : List LaneCycle :=
  let l := runLanes (fld t.cfgA 23 21)
  bytesCycles l.1 (t.sent.take 1) ++ bytesCycles l.2 (t.sent.drop 1)

/-- Half an RCK cycle in cy; a DIV below 4 is taken as 4 (R421). -/
def RunTx.half (t : RunTx) : Nat := Nat.max 4 (fld t.cfgA 31 24)

/-- The pins of a transaction `d` cy after its start (Table 14-2). Data change where a cycle begins and are sampled in its
middle: with CPHA 0 on the first edge, which is the middle, with CPHA 1 on the second (R421). -/
def RunTx.pinsAt (t : RunTx) (d : Nat) : RunPins :=
  let lead := 4 + fld t.cfgB 15 8
  let clk := t.n * (2 * t.half)
  let runs := decide (lead ≤ d) && decide (d < lead + clk)
  let second := decide (t.half ≤ (d - lead) % (2 * t.half))
  { rsel := t.dev
    rstb := !(decide (4 ≤ d) && decide (d < lead + clk + fld t.cfgB 23 16))
    rck := some (t.cfgA.getLsbD 20 ^^ (runs && (second ^^ t.cfgA.getLsbD 19)))
    rio := if runs then t.outCycles[(d - lead) / (2 * t.half)]? else none }

/-- The pins at cycle `cy` of the tick. -/
def Runner.pins (r : Runner) (cy : Nat) : RunPins :=
  match r.tx with
  | none => r.idlePins
  | some t => if t.start ≤ cy ∧ cy < t.c then t.pinsAt (t.ahead + cy - t.start) else r.idlePins

/-- The port's pins at cycle `cy` of the tick; none of them is driven until boot step 7 and in hibernate (21 R554). -/
def State.runPins (s : State) (cy : Nat) : Option RunPins := if s.appOn then some (s.run.pins cy) else none

/-! ### Transactions -/

/-- The descriptor of the active mould. -/
def State.runDesc (s : State) (i : Fin 32) : Option RunDesc :=
  match s.moulds.active with
  | none => none
  | some m => m.run[i.val]?

/-- A Runner function reset is under way (R430). -/
def State.runnerDown (s : State) : Bool :=
  match s.mgmt.rfunc with
  | some (f, _, _) => decide (f = 4)
  | none => false

/-- The transaction of a descriptor (Table 14-3a). -/
def Runner.txOf (r : Runner) (d : RunDesc) : RunTx :=
  r.txAt (BitVec.ofNat 3 d.dev) false (decide (d.dir = 0)) d.cmd d.addr (d.tx.take d.txlen) d.rxlen d.res d.start

/-- Mould transactions run: in READY and RUN (R426). -/
def State.mouldRuns (s : State) : Bool := decide (s.dev = .ready) || decide (s.dev = .run)

/-- A descriptor's transaction can start (R425, R426): cy START of a tick HMASK names, once in that tick, in READY and RUN,
with the port free. -/
def State.mayRun (s : State) (i : Fin 32) (d : RunDesc) : Bool :=
  s.nowAt d.start && !s.run.ran.getLsbD i.val && d.hmask.getLsbD s.tick.hidx.toNat &&
    s.mouldRuns && s.run.tx.isNone && decide (s.run.free ≤ d.start) && !s.runnerDown

/-- RUNNER_MOULD_START (R426). -/
def execRunnerMouldStart (i : Fin 32) (s : State) : Res :=
  match s.runDesc i with
  | none => .next s
  | some d =>
    if s.mayRun i d then
      .next { s.reachXp d.start with run := { s.run with tx := some (s.run.txOf d), ran := s.run.ran ||| bitB 32 i.val } }
    else .next s

/-- A running transaction in the cycles of an acquired tick (07 R234). -/
def RunTx.rebase (t : RunTx) (old new : Nat) : RunTx :=
  { t with start := old + t.start - new, c := old + t.c - new, ahead := t.ahead + (new - (old + t.start)) }

/-- The mould that pours in the next tick: in tick 15 the one that the boundary to come activates (04 R125 to R128). -/
def State.nextMould (s : State) : Option MouldInfo :=
  if s.tick.hidx ≠ 15 then s.moulds.active
  else
    match s.moulds.pend with
    | none => s.moulds.active
    | some a =>
      match a.kind with
      | .live => if a.phase = 1 ∧ s.exch.pub = .boundary then a.info else s.moulds.active
      | .stopped => if a.phase = 0 then none else if a.phase = 2 then a.info else s.moulds.active
      | .deact => if a.phase = 0 then none else s.moulds.active

/-- The STARTs of a mould's descriptors that run in ticks of heat index `h` (R426). -/
def runStartsOf (m : Option MouldInfo) (h : BitVec 4) : List Nat :=
  match m with
  | none => []
  | some m => (m.run.filter fun d => d.hmask.getLsbD h.toNat).map fun d => d.start

/-- The STARTs of the mould transactions that can run in this tick from cycle `cy` on, and those of the next tick, counted
from the start of this one (R429). SAFE may be left at the boundary between (01 R38). -/
def State.runStarts (s : State) (cy : Nat) : List Nat :=
  (if s.mouldRuns then (runStartsOf s.moulds.active s.tick.hidx).filter fun d => decide (cy ≤ d) else []) ++
    (if s.mouldRuns || s.mgmt.clr.isSome then
      (runStartsOf s.nextMould (s.tick.hidx + 1)).map fun d => s.tick.tper + d else [])

/-- R429: the transaction fits into the window the mould leaves free. It delays no mould transaction: C + IDLE passes no
START of the next tick either (log entry 178). -/
def State.runFits (s : State) (dev cy c : Nat) : Bool :=
  decide (c ≤ s.tick.tper) && (s.runStarts cy).all fun st => decide (c + s.run.idle dev ≤ st)

/-- RUNNER_MGMT_START (R429). -/
def execRunnerMgmtStart (dev : BitVec 3) (cmd : Byte) (addr : BitVec 24) (isWrite : Bool) (tx : List Byte)
    (rxlen : BitVec 6) (s : State) : Res :=
  let cy := s.tick.cy
  let k := dev.toNat
  let t := s.run.txAt dev true (!isWrite) cmd addr tx rxlen.toNat 0 cy
  if decide (1 ≤ k) && s.tick.on && s.run.tx.isNone && s.run.retry.isNone && !s.runnerDown && decide (s.run.free ≤ cy) && s.runFits k cy t.c then
    .next { s with run := { s.run with tx := some t } }
  else .next s

/-- The data words of a read, four bytes a word, unused bits 0 (R428). -/
def runWords (n : Nat) (d : List Byte) : List Word :=
  (List.range ((n + 3) / 4)).map fun j => BitVec.ofNat 32 (leNat (sliceB (d.take n) (4 * j) 4))

/-- Words written upwards from an index of RUNRES. -/
def putWords (v : Vector Word 128) (o : Nat) : List Word → Vector Word 128
  | [] => v
  | w :: t => putWords (v.setIfInBounds o w) (o + 1) t

/-- The status word of Table 14-3b after a transaction. -/
def runStatus (old : Word) (alv : Byte) (alvErr crcErr valid : Bool) : Word :=
  at_ 16 alv.toNat ||| at_ 8 ((fld old 15 8 + 1) % 256) ||| flag 3 true ||| flag 2 alvErr ||| flag 1 crcErr ||| flag 0 valid

/-- A failed MGMT read that waits starts again, as soon as the port is free and a window holds it (R429). -/
def State.runAgain (s : State) : State :=
  match s.run.retry with
  | none => s
  | some t =>
    let st := Nat.max s.run.free s.tick.cy
    let x := s.run.txAt t.dev true t.isRead t.cmd t.addr t.tx t.rxlen 0 st
    if s.tick.on && s.run.tx.isNone && !s.runnerDown && s.runFits t.dev.toNat st x.c then
      { s with run := { s.run with tx := some { x with tries := t.tries }, retry := none } }
    else s

/-- A failed MGMT read is retried, up to three times (R429). -/
def State.runRetry (s : State) (t : RunTx) : State :=
  if t.tries < 3 then { s with run := { s.run with retry := some { t with tries := t.tries + 1 } } } else s

/-- The bytes a read received in the RCK cycles of its last phase: RIO1 on one lane, else the address and data lanes (R395,
R422). -/
def RunTx.recv (t : RunTx) (levels : List Byte) : List Byte :=
  let n := (runLanes (fld t.cfgA 23 21)).2
  let k := (if t.cfgA.getLsbD 17 then 1 else 0) + t.rxlen + (if t.cfgA.getLsbD 16 then 4 else 0)
  let l := padTo (k * (8 / n)) (if n = 1 then levels.map fun x : Byte => x >>> 1 else levels)
  match readLanes n k l with
  | some x => x.1
  | none => []

/-- What a read received (R423): the echo and the data, and whether their CRC matches. -/
def RunTx.data (t : RunTx) (rx : List Byte) : List Byte := (rx.drop (if t.cfgA.getLsbD 17 then 1 else 0)).take t.rxlen
def RunTx.crcBad (t : RunTx) (rx : List Byte) : Bool :=
  let n := (if t.cfgA.getLsbD 17 then 1 else 0) + t.rxlen
  t.isRead && t.cfgA.getLsbD 16 && decide (leAt rx n 4 ≠ (crc32c (padTo n rx)).toNat)
def RunTx.echoBad (t : RunTx) (rx : List Byte) : Bool :=
  t.isRead && t.cfgA.getLsbD 17 && decide (rx.getD 0 0 ≠ t.alv)

/-- RUNNER_COMPLETE (R424, R425, R428, R429): at cy C. `levels` are those of RIO0 to RIO3 in the RCK cycles of a read's last
phase. -/
def execRunnerComplete (levels : List Byte) (s0 : State) : Res :=
  match s0.run.tx with
  | none => .next s0
  | some t =>
   let rx := t.recv levels
   if s0.tick.on && !s0.nowAt t.c then .next s0
   else
    let s := s0.reachXp t.c
    let k := t.dev.toNat
    let crcErr := t.crcBad rx
    let alvErr := t.echoBad rx
    let valid := !crcErr && !alvErr
    let r0 : Runner := { s.run with
      tx := none, free := t.c + s.run.idle k
      flag := s.run.flag ||| flag k crcErr ||| flag (8 + k) alvErr ||| flag (16 + k) (t.mgmt && !valid) }
    let r1 := if t.isRead && valid && s.run.alven k then r0.stepAlive k else r0
    let r2 : Runner := if t.mgmt && t.isRead && valid then { r1 with mdata := t.data rx } else r1
    let res := if t.mgmt then s.pour.runres
      else
        let v := s.pour.runres.setIfInBounds t.res (runStatus (s.pour.runres.getD t.res 0) t.alv alvErr crcErr valid)
        if t.isRead && valid then putWords v (t.res + 1) (runWords t.rxlen (t.data rx)) else v
    let s1 : State := { s with run := r2, pour := { s.pour with runres := res } }
    let s2 := ((s1.raiseIf crcErr 192).raiseIf alvErr 193).raiseIf (t.mgmt && !valid) 195
    .next (if t.mgmt && !valid then s2.runRetry t else s2).runAgain

/-- R430: the function reset of the Runner port. -/
def State.runnerReset (s : State) : State :=
  let words := match s.moulds.active with | some m => m.run.map (fun (d : RunDesc) => d.res) | none => []
  { s with
    run := { s.run with
      tx := none, retry := none, free := 0
      devb := s.run.devb.map fun w => mergeW 0xFF w 1 }
    pour := { s.pour with runres := words.foldl (fun v o => v.setIfInBounds o 0) s.pour.runres } }

/-- RUN.STAT (Table 14-4). -/
def Runner.stat (r : Runner) : Word :=
  match r.tx with
  | none => 0
  | some t => at_ 4 t.dev.toNat ||| Machine.flag 0 t.mgmt

end Sys2Proof.Machine
end

