-- ==== Sys2Proof/Machine/Mailbox.lean ====
section
/-! DEFINITION. Masters and what they may write (15 R433, 00 R11, 19 R514, R515), the locks (15 R437 to R440) and the
mailboxes (15 R441 to R448). -/

namespace Sys2Proof.Machine

/-- Table 15-1. -/
def Master.id : Master → Nat
  | .mgmt => 1 | .host => 2 | .mon => 3 | .debug => 5

/-- R514: while the debug port is closed master 5 makes no access. -/
def State.canAccess (s : State) (m : Master) : Bool := s.appOn && (decide (m ≠ .debug) || s.lc.dbg)

/-- The permitted set of FIELD (19 Table 19-2), by address in the register window. -/
def permittedAddr (a : Nat) : Bool :=
  decide (a = 0x3800 ∨ a = 0x3804) || (decide (0x400 ≤ a) && decide (a ≤ 0x43F)) ||
    (decide (0x800 ≤ a) && decide (a < 0x1000) && decide ((a - 0x800) % 0x80 ≤ 0x48)) ||
    (decide (0x200 ≤ a) && decide (a ≤ 0x23F)) || (decide (0x300 ≤ a) && decide (a ≤ 0x320))

/-- The words of the register window that a register occupies, as ranges of byte addresses: the whole Identification
block, whose layout the spec does not give, and the registers of the register tables. -/
def regRanges : List (Nat × Nat) := [(0x0000, 0x0114), (0x0120, 0x012C), (0x0200, 0x02E0), (0x0300, 0x0324), (0x0340, 0x0344),
  (0x0400, 0x0448), (0x0480, 0x04C4), (0x3000, 0x3018), (0x3040, 0x3090), (0x3400, 0x349C), (0x3500, 0x3544),
  (0x3800, 0x3810), (0x3840, 0x3848), (0x3888, 0x38C0), (0x4000, 0x4058), (0x4060, 0x4070), (0x4400, 0x440C),
  (0x4800, 0x4808), (0x5000, 0x5010), (0x6000, 0x601C), (0x6020, 0x602C)]

/-- The same of an axis block; the device-wide sync registers stand in block 0 (07 Table 7-9). -/
def axisRanges : List (Nat × Nat) := [(0x000, 0x00C), (0x010, 0x038), (0x040, 0x04C), (0x080, 0x0B4), (0x100, 0x118),
  (0x120, 0x12C), (0x200, 0x20C), (0x210, 0x230), (0x300, 0x30C)]

def inRanges (l : List (Nat × Nat)) (a : Nat) : Bool := l.any fun r => decide (r.1 ≤ a) && decide (a < r.2)

/-- A register occupies the word at `a` (13 R408). -/
def occupied (a : Nat) : Bool :=
  if 0x800 ≤ a ∧ a < 0x1000 then decide (a % 0x80 < 0x4C)
  else if 0x1000 ≤ a ∧ a < 0x2000 then
    inRanges axisRanges (a % 0x400) || decide (0x10C0 ≤ a ∧ a < 0x10C8)
  else inRanges regRanges a

/-- R11: a host write to a register outside the permitted set in FIELD is ignored. -/
def State.mayWrite (s : State) (m : Master) (a : Nat) : Bool :=
  decide (m ≠ .host) || decide (s.lc.st ≠ 2) || permittedAddr a

/-- RANGE_PREV set for the next STATUS byte (13 R404). -/
def State.rangePrev (s : State) : State := { s with spr := { s.spr with flg := s.spr.flg ||| 1 } }

/-- A write by a master: refused access changes nothing, a write to a register outside the permitted set sets
RANGE_PREV, and otherwise `f` acts (00 R11, 19 R514). Of a word that no register occupies no flag tells, in FIELD as
elsewhere: 13 R408 is taken before R11, which speaks of registers (log entry 132). -/
def State.asMaster (s : State) (m : Master) (a : Nat) (f : State → State) : State :=
  if !s.canAccess m then s else if s.mayWrite m a then f s else if occupied a then s.rangePrev else s

/-! ### Locks -/

/-- R437: a read acquires a free lock and returns 0, or returns the owner. -/
def State.lockRead (s : State) (m : Master) (k : Fin 16) : Word × State :=
  let o := s.locks.owner.get k
  if o = 0 then
    (0, { s with locks := { s.locks with owner := s.locks.owner.set k.val (BitVec.ofNat 4 (Master.id m)) k.isLt } })
  else (o.setWidth 32, s)

/-- R438: a write of 0 by the owner frees the lock; any other write is ignored and sets BADREL. -/
def State.lockWrite (s : State) (m : Master) (k : Fin 16) (val : Word) : State :=
  if fld val 3 0 = 0 ∧ s.locks.owner.get k = BitVec.ofNat 4 (Master.id m) then
    { s with locks := { s.locks with owner := s.locks.owner.set k.val 0 k.isLt } }
  else { s with locks := { s.locks with err := s.locks.err ||| bitB 32 k.val } }

/-- R440: every lock of an owner is freed. -/
def Locks.free (l : Locks) (id : BitVec 4) : Locks :=
  { l with owner := l.owner.map fun o => if o = id then 0 else o }

/-! ### Mailboxes -/

/-- IDs that an enabled channel may join (R441). -/
def mbIdOk (s : State) (x : Nat) : Bool := decide (x = 1 ∨ x = 2 ∨ x = 3) || (decide (x = 5) && s.lc.dbg)

/-- Which endpoint of an enabled channel a master is: false A, true B (R441, R443). -/
def State.mbEnd (s : State) (m : Master) (ch : Fin 16) : Option Bool :=
  let w := (s.mail.ch.get ch).bind
  let a := fld w 3 0
  let b := fld w 7 4
  if a ≠ b ∧ mbIdOk s a ∧ mbIdOk s b then
    if Master.id m = a then some false else if Master.id m = b then some true else none
  else none

/-- The side of an endpoint, and the channel with that side replaced. -/
def MbCh.side (c : MbCh) (b : Bool) : MbSide := if b then c.b else c.a
def MbCh.setSide (c : MbCh) (b : Bool) (x : MbSide) : MbCh := if b then { c with b := x } else { c with a := x }

def State.updMb (s : State) (ch : Fin 16) (f : MbCh → MbCh) : State :=
  { s with mail := { s.mail with ch := s.mail.ch.set ch.val (f (s.mail.ch.get ch)) ch.isLt } }

/-- R443: an access by a master that is not bound to an enabled channel. -/
def State.mbDeny (s : State) (ch : Fin 16) : State :=
  { s with locks := { s.locks with err := s.locks.err ||| bitB 32 (16 + ch.val) } }

/-- Run `f` as the endpoint the master is bound as, or deny (R443). -/
def State.asEnd (s : State) (m : Master) (ch : Fin 16) (f : Bool → State → State) : State :=
  match s.mbEnd m ch with
  | some b => f b s
  | none => s.mbDeny ch

/-- REJWR set in a side's view (R444). -/
def MbSide.reject (x : MbSide) : MbSide := { x with flag := x.flag ||| 4 }

/-- R444: a write to DATA goes into the writer's send slot while TXFULL is 0. -/
def State.mbData (s : State) (ch i : Fin 16) (val : Word) (b : Bool) : State :=
  s.updMb ch fun c =>
    let x := c.side b
    c.setSide b (if x.txfull then x.reject else { x with slot := x.slot.set i.val val i.isLt })

/-- R444: the doorbell. -/
def State.mbRing (s : State) (ch : Fin 16) (b : Bool) : State :=
  if ((s.mail.ch.get ch).side b).txfull then s.updMb ch fun c => c.setSide b (c.side b).reject
  else (s.updMb ch fun c => c.setSide b { c.side b with txfull := true, timer := true }).raise (216 + ch.val)

/-- R444: ACK consumes the message the peer sent. Its time-out goes with it (DEDUCED, log entry 14). -/
def State.mbConsume (s : State) (ch : Fin 16) (b : Bool) : State :=
  if ((s.mail.ch.get ch).side !b).txfull then
    (s.updMb ch fun c => c.setSide (!b)
      { c.side (!b) with txfull := false, txto := false, timer := false, flag := (c.side (!b)).flag ||| 1 }).raise
        (216 + ch.val)
  else s

/-- R445: CANCEL after a time-out. -/
def State.mbCancelMsg (s : State) (ch : Fin 16) (b : Bool) : State :=
  if ((s.mail.ch.get ch).side b).txto then
    (s.updMb ch fun c =>
      (c.setSide b { c.side b with txfull := false, txto := false, timer := false }).setSide (!b)
        { c.side (!b) with flag := (c.side (!b)).flag ||| 2 }).raise (216 + ch.val)
  else s

/-- A write to MBn.CTRL: ACK, CANCEL and DB in this order (log entry 14). -/
def State.mbCtrl (s : State) (ch : Fin 16) (val : Word) (b : Bool) : State :=
  let s1 := if val.getLsbD 1 then s.mbConsume ch b else s
  let s2 := if val.getLsbD 2 then s1.mbCancelMsg ch b else s1
  if val.getLsbD 0 then s2.mbRing ch b else s2

/-- A write of 1 to bits of MBn.FLAG (Table 15-6). -/
def State.mbFlagClear (s : State) (ch : Fin 16) (val : Word) (b : Bool) : State :=
  s.updMb ch fun c => c.setSide b { c.side b with flag := (c.side b).flag &&& ~~~(val.setWidth 3) }

/-- The word of MBn.DATA, STAT or FLAG at an offset, in the accessor's view (Table 15-6). -/
def State.mbRead (s : State) (ch : Fin 16) (o : Nat) (b : Bool) : Word :=
  let c := s.mail.ch.get ch
  let me := c.side b
  let peer := c.side !b
  if o < 0x40 then (if peer.txfull then peer.slot.getD (o / 4) 0 else 0)
  else if o = 0x44 then
    at_ 8 (if b then fld c.bind 3 0 else fld c.bind 7 4) ||| flag 3 b ||| flag 2 me.txto ||| flag 1 peer.txfull |||
      flag 0 me.txfull
  else if o = 0x48 then me.flag.setWidth 32
  else 0

/-- A write to MBBINDn while MBLOCK.LOCK is 0: IDA and IDB are fixed for n = 0 to 2 (R442, Table 15-5). -/
def State.mbBind (s : State) (ch : Fin 16) (val : Word) : State :=
  if s.mail.lock then s
  else s.updMb ch fun c => { c with bind := mergeW (if ch.val < 3 then 0xFF00 else 0xFFFF) c.bind val }

/-- An empty channel with its binding kept (R448). -/
def MbCh.cleared (c : MbCh) : MbCh := { bind := c.bind }

/-! ### Rows -/

def lockAddr (k : Fin 16) : Nat := 0x400 + 4 * k.val
def mbAddr (ch : Fin 16) (o : Nat) : Nat := 0x800 + 0x80 * ch.val + o

/-- LOCK_READ (R437). -/
def execLockRead (m : Master) (k : Fin 16) (s : State) : Res :=
  if s.canAccess m then .next { (s.lockRead m k).2 with rdata := (s.lockRead m k).1 } else .next s

/-- LOCK_RELEASE (R438). -/
def execLockRelease (m : Master) (k : Fin 16) (val : Word) (s : State) : Res :=
  .next (s.asMaster m (lockAddr k) fun t => t.lockWrite m k val)

/-- MB_DATA_WRITE (R444). -/
def execMbDataWrite (m : Master) (ch i : Fin 16) (val : Word) (s : State) : Res :=
  .next (s.asMaster m (mbAddr ch 0) fun t => t.asEnd m ch fun b t => t.mbData ch i val b)

/-- MB_DOORBELL (R444). -/
def execMbDoorbell (m : Master) (ch : Fin 16) (s : State) : Res :=
  .next (s.asMaster m (mbAddr ch 0x40) fun t => t.asEnd m ch fun b t => t.mbRing ch b)

/-- MB_ACK (R444). -/
def execMbAck (m : Master) (ch : Fin 16) (s : State) : Res :=
  .next (s.asMaster m (mbAddr ch 0x40) fun t => t.asEnd m ch fun b t => t.mbConsume ch b)

/-- MB_CANCEL (R445). -/
def execMbCancel (m : Master) (ch : Fin 16) (s : State) : Res :=
  .next (s.asMaster m (mbAddr ch 0x40) fun t => t.asEnd m ch fun b t => t.mbCancelMsg ch b)

/-- MB_TIMEOUT (R445): the direction's timer runs, the message still stands and TO is not 0. -/
def execMbTimeout (ch : Fin 16) (sideB : Bool) (s : State) : Res :=
  let c := s.mail.ch.get ch
  let x := c.side sideB
  if x.timer && x.txfull && !decide (fld c.bind 15 8 = 0) then
    .next ((s.updMb ch fun c => c.setSide sideB { c.side sideB with txto := true, timer := false }).raise
      (216 + ch.val))
  else .next s

/-- The lock bit of the bindings (R442). -/
def State.mblockSet (s : State) (val : Word) : State :=
  if val.getLsbD 0 then { s with mail := { s.mail with lock := true } } else s

/-- MBLOCK_WRITE (R442). -/
def execMblockWrite (m : Master) (val : Word) (s : State) : Res :=
  .next (s.asMaster m 0x4C0 fun t => t.mblockSet val)

/-- The lock bit of the quench map (Table 15-8). -/
def State.qlockSet (s : State) (val : Word) : State :=
  if val.getLsbD 0 then { s with evm := { s.evm with qlock := true } } else s

/-- QLOCK_WRITE (R454). -/
def execQlockWrite (m : Master) (val : Word) (s : State) : Res :=
  .next (s.asMaster m 0x340 fun t => t.qlockSet val)

/-- GPIO_PULSE_END (R453): the pulse of GPIOk ends, the pin goes low and the microsecond begins in which an occurrence
still merges; where the pulse is over, that microsecond ends (log entry 68). -/
def execGpioPulseEnd (k : Fin 8) (s : State) : Res :=
  let b := bitB 8 k.val
  let e := s.evm
  if e.pulse.getLsbD k.val then
    .next { s with evm := { e with pulse := e.pulse &&& ~~~b, pin := e.pin &&& ~~~b, after := e.after ||| b } }
  else .next { s with evm := { e with after := e.after &&& ~~~b } }

/-- A MON-bank occurrence delivered (15 R450). -/
def Evm.deliverMon (k : Nat) (e : Evm) : Evm := { e with pendMon := e.pendMon ||| bitB 256 k }

/-- EVENT_CROSSING_DELIVERY (16 R460): the crossing of event k delivers one queued occurrence: into SYS for an event of
SNS or of MON, otherwise into the MON bank. -/
def execEventCrossingDelivery (k : BitVec 8) (s : State) : Res :=
  let e := k.toNat
  let take (key : Nat) (t : State) : State :=
    { t with evm := { t.evm with cnt := Sparse.put 0 key (Sparse.get 0 key t.evm.cnt - 1) t.evm.cnt } }
  if 0 < Sparse.get 0 (snsKey e) s.evm.cnt then .next ((take (snsKey e) s).raise e)
  else if 0 < Sparse.get 0 (monKey e) s.evm.cnt then .next ((take (monKey e) s).raise e)
  else if 0 < Sparse.get 0 e s.evm.cnt then
    .next { take e s with evm := (take e s).evm.deliverMon e }
  else .next s

end Sys2Proof.Machine
end

