-- ==== Sys2Proof/Machine/Sns.lean ====
section
/-! DEFINITION. The sense die: precision converter (10 R302 to R319), field inputs (10 R322 to R328) and position
inputs (10 R330 to R334). Its events cross into SYS (15 R449). -/

namespace Sys2Proof.Machine

/-! ### Converter -/

/-- CONV.FLAG bit `k` set. -/
def State.convFlag (s : State) (k : Nat) : State := { s with conv := { s.conv with flag := s.conv.flag ||| bitB 4 k } }

/-- The sequence entry of a position: injected or regular (Table 10-3). -/
def Conv.entry (c : Conv) (inj : Bool) (i : Nat) : BitVec 16 := (if inj then c.seqi else c.seqr).getD i 0

/-- Regular entries loaded; whether one is due. -/
def Conv.regular (c : Conv) : Option (Bool × Nat) := if c.seqr.isEmpty then none else some (false, c.due)

/-- What runs after entry `i` (R306, R308). -/
def Conv.after (c : Conv) (inj : Bool) (i : Nat) : Option (Bool × Nat) × Nat :=
  if inj then (if i + 1 < c.seqi.length then (some (true, i + 1), c.due) else (c.regular, c.due))
  else
    let nx := if i + 1 < c.seqr.length then i + 1 else 0
    (some (false, nx), nx)

/-- The tag of a result (R311, R312). -/
def adrTag (i : Nat) (inj ovr rdy : Bool) : Byte :=
  BitVec.ofNat 8 (i % 16) ||| (if inj then 0x10 else 0) ||| (if ovr then 0x20 else 0) |||
    (if rdy then 0x40 else 0) ||| 0x80

/-- R317: a MUX 15 result in mode 0 lies more than 0.010 of full scale from 0.400 0. -/
def refchkBad (v : Int) : Bool := decide (10 * 2 ^ 23 < (1000 * v - 400 * 2 ^ 23).natAbs)

/-- A REFSEL write takes effect: the reference is switched and REFRDY falls (R314, R315). MON suspends its comparison in
modes 1 and 2 (R320). -/
def Conv.switchRef (c : Conv) (r : BitVec 2) : Conv :=
  let x : BitVec 2 := if r = 3 then 0 else r
  if x = c.refsel then { c with refNext := none }
  else { c with refsel := x, refNext := none, refrdy := false, rdyAll := false, plsusp := decide (x ≠ 0) }

/-- VREF in nV: 1.200 V in mode 0, otherwise the voltage of REFIN or of the 1.5 V rail (R314). -/
def Conv.vref (c : Conv) (refNv : Nat) : Nat := if c.refsel = 0 then 1200000000 else refNv

/-- The code of a voltage: round(2^23 * V / FS), half to even, saturating, with FS = 1.25 * VREF (R302). -/
def Conv.codeOf (c : Conv) (nv : Int) (refNv : Nat) : BitVec 24 :=
  BitVec.ofInt 24 (sat24 (rdivEven (2 ^ 25 * nv) (5 * (c.vref refNv : Int))))

/-- The entry's result is written into ADR (R311, R312). -/
def State.adrWrite (s : State) (inj : Bool) (i : Nat) (code : BitVec 24) : State :=
  let ovr := s.conv.adrt.getLsbD 7
  let s1 : State := { s with conv := { s.conv with
    adrv := port24 code.toInt, adrt := adrTag i inj ovr s.conv.rdyAll } }
  if ovr then ((s1.convFlag 0).raiseSns 160).logFault 160 else s1

/-- The sequence moves on, a waiting REFSEL write takes effect, and INJDONE marks the end of an injected sequence. -/
def State.convAdvance (s : State) (inj : Bool) (i : Nat) : State :=
  let c1 := match s.conv.refNext with | some r => s.conv.switchRef r | none => s.conv
  let nx := c1.after inj i
  let c2 : Conv := { c1 with cur := nx.1, due := nx.2, rdyAll := c1.refrdy }
  let s1 : State := { s with conv := c2 }
  if inj && !decide (i + 1 < c1.seqi.length) then s1.raiseSns 165 else s1

/-- The end of an AIN11 entry is signalled to MON, which compares it when it was converted in mode 0 with REFRDY at 1
throughout (R320). -/
def Conv.signal11 (c : Conv) (mux : Nat) (code : BitVec 24) : Conv :=
  if mux = 11 then { c with ain11 := if decide (c.refsel = 0) && c.rdyAll then some code else none } else c

/-- CONVERSION_COMPLETE (R302, R304, R311, R312, R316, R317). -/
def execConversionComplete (v : ConvIn) (s0 : State) : Res :=
  match s0.conv.cur with
  | none => .next s0
  | some (inj, i) =>
    let code := s0.conv.codeOf v.nv v.refNv
    let mux := (s0.conv.entry inj i).toNat % 16
    let s : State := { s0 with conv := s0.conv.signal11 mux code }
    let bad := decide (mux = 15) && decide (s.conv.refsel = 0) && refchkBad code.toInt
    let s1 := s.adrWrite inj i code
    let s2 := if bad then (s1.convFlag 2).raiseSns 163 else s1
    .next (s2.convAdvance inj i)

/-- INJECTED_TRIGGER (R308 to R310): a regular entry of which no bit lies before the boundary has not been in progress. -/
def execInjectedTrigger (e : TrigAt) (s : State) : Res :=
  if !s.conv.inj.getLsbD 15 || !decide (fld s.conv.inj 7 0 = e.ev.toNat) || s.conv.seqi.isEmpty then .next s
  else
    match s.conv.cur with
    | some (true, _) => .next ((s.convFlag 1).raiseSns 161)
    | some (false, i) => .next { s with conv := { s.conv with
        aborts := if e.bits = 0 then s.conv.aborts else sat8 s.conv.aborts, due := i, cur := some (true, 0), rdyAll := s.conv.refrdy } }
    | none => .next { s with conv := { s.conv with cur := some (true, 0), rdyAll := s.conv.refrdy } }

/-- A write to CONV.REF or CONV.INJ is honoured only with no mould active; else SCFGREJ (R318). -/
def State.convHonour (s : State) (f : State → State) : State :=
  if s.moulds.active.isSome then s.raiseSns 164 else f s

/-- REFSEL written: at the end of the running entry, or at once (R316). -/
def State.refselSet (s : State) (val : Word) : State :=
  s.convHonour fun t =>
    let c : Conv := { t.conv with refw := val.setWidth 2 }
    { t with conv := if c.cur.isSome then { c with refNext := some c.refw } else c.switchRef c.refw }

/-- REFSEL_WRITE. -/
def execRefselWrite (m : Master) (val : Word) (s : State) : Res :=
  .next (s.asMaster m 0x3000 fun t => t.refselSet val)

/-- REFRDY_SET (R315). -/
def execRefrdySet (s : State) : Res := s.whenOn .snsref (.next { s with conv := { s.conv with refrdy := true } })

/-- REFRDY falls with no REFSEL write: REFRANGE and REFLOSS (R315). -/
def State.refLoss (s : State) : State :=
  if s.conv.refrdy then
    (({ s with conv := { s.conv with refrdy := false, rdyAll := false } }).convFlag 3).raiseSns 162
  else s

/-- REFERENCE_LOSS (R315): REFIN leaves its range, which counts in mode 1. -/
def execReferenceLoss (s : State) : Res := s.whenOn .snsref (.next (if s.conv.refsel = 1 then s.refLoss else s))

/-- SNS_PLL_UNLOCK (16 R457). -/
def execSnsPllUnlock (s : State) : Res :=
  s.whenOn .snsa (.next { s.refLoss with pwr := { s.refLoss.pwr with snslock := false } })

/-! ### Field inputs -/

/-- Configuration fields of an input (Table 10-7), as in force. -/
def FiIn.chn (f : FiIn) : Nat := fld f.cfgF 23 16
def FiIn.stksub (f : FiIn) : Bool := f.cfgF.getLsbD 10
def FiIn.safe (f : FiIn) : Bool := f.cfgF.getLsbD 9

/-- The filtered state is active (R324). -/
def FiIn.active (f : FiIn) : Bool := f.filt ^^ f.cfgF.getLsbD 8

/-- R326: the safe value replaces the filtered state. -/
def FiIn.subst (f : FiIn) : Bool := f.chatter || (f.stuck && f.stksub) || f.tpSub
def FiIn.value (f : FiIn) : Bool := if f.subst then f.safe else f.filt

/-- One input changed in place. -/
def State.updFi (s : State) (k : Fin 16) (f : FiIn → FiIn) : State :=
  { s with fi := { s.fi with inp := s.fi.inp.set k.val (f (s.fi.inp.get k)) k.isLt } }

/-- STUCK ends when the filtered state is inactive (R324). -/
def FiIn.unstick (f : FiIn) : FiIn := if f.active then f else { f with stuck := false }

/-- FILT in samples; 0 is 1 (R323). -/
def FiIn.filtN (f : FiIn) : Nat := Nat.max 1 (fld f.cfgF 7 0)

/-- A written configuration takes effect and restarts the filter count and the chatter window (R327); a change of POL can
end STUCK (R324). -/
def FiIn.takeCfg (f : FiIn) : FiIn :=
  if f.waits then ({ f with cfgF := f.cfg, stkF := f.stk, waits := false, cnt := 0, chg := 0 }).unstick else f

/-- One raw sample (R323, R325, R328): the filtered state takes a level after FILT consecutive samples at it, unless the
test pulse holds it. -/
def FiIn.sample (masked : Bool) (f0 : FiIn) (level : Bool) : FiIn :=
  let f := f0.takeCfg
  let c := if level = f.filt then 0 else f.cnt + 1
  let g : FiIn := { f with
    raw := level, cnt := c, chg := if level = f.raw then f.chg else f.chg + 1, hold := if masked then f.hold else f.hold - 1 }
  if masked || decide (f.hold ≠ 0) || decide (c < f.filtN) then g else ({ g with filt := level, cnt := 0 }).unstick

/-- A test forces the receiver levels of the field inputs: LB-B, and its self-test item (19 Tables 19-4, 19-5). -/
def BgOp.forcesFi : BgOp → Bool
  | .loopback 6 1 _ _ _ none => true
  | .selftest set false => set.getLsbD 14
  | _ => false

/-- The filtered state of the input holds: the test pulse runs and checks it (R328), or a test forces its level (19 Table
19-4). -/
def State.fiHeld (s : State) (k : Fin 16) : Bool :=
  (s.fi.pulse && s.fi.tpmask.getLsbD k.val) || (s.mgmt.bg.any fun b => b.op.forcesFi)

/-- The states hold for FILT samples more after such a test (R328; 19 Table 19-4). -/
def Fi.afterTest (f : Fi) : Fi := { f with inp := f.inp.map fun x => { x with hold := x.takeCfg.filtN } }

/-- FI_FILTER_CHANGE (R323): samples of one input. -/
def execFiFilterChange (k : Fin 16) (samples : List Bool) (s : State) : Res :=
  s.whenOn .field (.next (s.updFi k fun f => samples.foldl (FiIn.sample (s.fiHeld k)) f))

/-- FI_STUCK (R324). -/
def execFiStuck (k : Fin 16) (s : State) : Res :=
  let f := s.fi.inp.get k
  if f.active && !f.stuck && !decide (fld f.stkF 15 0 = 0) then
    s.whenOn .field (.next ((s.updFi k fun f => { f with stuck := true }).raiseSns 166))
  else .next s

/-- FI_CHATTER_WINDOW_END (R325): the window is judged after its last samples. -/
def execFiChatterWindowEnd (k : Fin 16) (samples : List Bool) (s0 : State) : Res :=
  let s := s0.updFi k fun f => samples.foldl (FiIn.sample (s0.fiHeld k)) f
  let f := s.fi.inp.get k
  s0.whenOn .field (
    if f.chg = 0 then .next (s.updFi k fun f => { f with chatter := false })
    else if decide (f.chn ≠ 0) && decide (f.chn < f.chg) && !f.chatter then
      .next ((s.updFi k fun f => { f with chatter := true, chg := 0 }).raiseSns 167)
    else .next (s.updFi k fun f => { f with chg := 0 }))

/-- TPGPIO, when the test pulse is enabled and names a GPIO (R328). -/
def Fi.tpGpio (f : Fi) : Option Nat := if f.tp.getLsbD 31 && decide (2 ≤ fld f.tp 2 0) then some (fld f.tp 2 0) else none

/-- The level of GPIOk as the device drives it, none where the pin is an input: the sync functions and the test pulse
override the event routes (07 R234, 10 R328, 15 R453). Every pin is an input in reset and in hibernate (21 R554). -/
def State.gpioOut (s : State) (k : Fin 8) : Option Bool :=
  if !s.appOn then none
  else if decide (k.val ≤ 1) && decide (s.sync.mode ≠ 0) then (if k.val = 1 then some s.syncOut else none)
  else if decide (s.fi.tpGpio = some k.val) then some (!s.fi.pulse)
  else if (s.evm.gpio.getD k.val 0).getLsbD 15 then some (s.evm.pin.getLsbD k.val) else none

/-- What REFOUT carries: REFSEL 0 the internal reference, 2 the analog rail; high impedance in mode 1, in reset and in hibernate
(10 R314; 21 R554). -/
def State.refout (s : State) : Option (BitVec 2) := if s.appOn && !decide (s.conv.refsel = 1) then some s.conv.refsel else none

/-- The trickle pumps of axis n run: from boot step 7 on, with PUMPEN, where the axis has a front end (09 R281; 20 R539; 21 R554). -/
def State.pumpOn (s : State) (n : Fin 4) : Bool := s.appOn && s.pwr.axpwr.getLsbD n.val && (s.axis n).drv.gbst.getLsbD 12

/-- FI_TEST_PULSE_START (R328). -/
def execFiTestPulseStart (s : State) : Res :=
  if s.fi.tpGpio.isSome && s.powered .field then .next { s with fi := { s.fi with pulse := true } } else .next s

/-- One input's last sample of the pulse; a masked one that reads ON fails, and holds for FILT samples more (R328). -/
def State.tpCheck (levels : BitVec 16) (s : State) (k : Fin 16) : State :=
  let on := levels.getLsbD k.val
  if s.fi.tpmask.getLsbD k.val then
    let s1 := s.updFi k fun f => { f.sample true on with tpSub := on, hold := f.takeCfg.filtN }
    if on then ({ s1 with fi := { s1.fi with tpfail := s1.fi.tpfail ||| bitB 16 k.val } }).raiseSns 168 else s1
  else s.updFi k fun f => f.sample (s.fiHeld k) on

/-- FI_TEST_PULSE_CHECK (R328). -/
def execFiTestPulseCheck (levels : BitVec 16) (s : State) : Res :=
  if s.fi.pulse then
    let s1 := (List.finRange 16).foldl (State.tpCheck levels) s
    .next { s1 with fi := { s1.fi with pulse := false } }
  else .next s

/-- A write to FI.CFGk or FI.STKk takes effect at the next sample (R327). -/
def State.fiConfig (s : State) (stk : Bool) (k : Fin 16) (val : Word) : State :=
  s.updFi k fun f => { (if stk then { f with stk := val &&& 0xFFFF } else { f with cfg := val &&& 0x0FFF07FF }) with waits := true }

/-- FI_CONFIG_WRITE. -/
def execFiConfigWrite (m : Master) (stk : Bool) (k : Fin 16) (val : Word) (s : State) : Res :=
  .next (s.asMaster m ((if stk then 0x3440 else 0x3400) + 4 * k.val) fun t => t.fiConfig stk k val)

/-- FISTATE and FICLASS as R326 forms them. -/
def Fi.stateWord (f : Fi) : Word :=
  (List.finRange 16).foldl (fun (w : Word) k =>
    w ||| flag k.val (f.inp.get k).value ||| flag (16 + k.val) (f.inp.get k).subst) 0

def Fi.classWord (f : Fi) : Word :=
  (List.finRange 16).foldl (fun (w : Word) k =>
    w ||| flag k.val (f.inp.get k).stuck ||| flag (16 + k.val) (f.inp.get k).chatter) 0

/-- The last raw samples (Table 10-8). -/
def Fi.rawWord (f : Fi) : Word := (List.finRange 16).foldl (fun (w : Word) k => w ||| flag k.val (f.inp.get k).raw) 0

/-- At cy 0 both port words change (R326); FICHGk and FICHG8 tell of changed states (Table 10-11). -/
def State.fiUpdate (s : State) : State :=
  let w := s.fi.stateWord
  let diff := (w ^^^ s.fi.state) &&& 0xFFFF
  let s1 : State := { s with fi := { s.fi with state := w, cls := s.fi.classWord } }
  let s2 := (List.range 8).foldl (fun t k => if diff.getLsbD k then t.raiseSns (176 + k) else t) s1
  if diff &&& 0xFF00 = 0 then s2 else s2.raiseSns 169

/-! ### Position inputs -/

/-- One axis's position inputs changed in place. -/
def State.updHall (s : State) (n : Fin 4) (f : Hall → Hall) : State := { s with hall := s.hall.set n (f (s.hall.get n)) }

/-- HALL.FLAG bit `k` set, and POSERRn. -/
def State.posErr (s : State) (n : Fin 4) (k : Nat) : State :=
  ({ s with hallFlag := s.hallFlag ||| bitB 12 k }).raiseSns (172 + n.val)

/-- FMAX in Hz; above 5 000 it is 5 000 (R331). -/
def Hall.fmax (h : Hall) : Nat := Nat.min (fld h.cfg 28 16) 5000

/-- Tmin in SYS cycles, rounded up (R331). -/
def Hall.tmin (h : Hall) : Nat := (200000000 + 6 * h.fmax - 1) / (6 * h.fmax)

/-- A valid edge is accepted at a time (R331). -/
def Hall.accept (h : Hall) (c : BitVec 3) (t : Nat) : Hall := { h with code := c, last := c, tLast := t, pend := false }

/-- Position of (A, B) in the sequence 00, 10, 11, 01 (R332). -/
def quadPos (a b : Bool) : Nat := if a then (if b then 2 else 1) else (if b then 3 else 0)

/-- New filtered levels (Z, B, A) in encoder mode (R332): an edge of A or B counts, both at once are an error, and a rising
edge of Z with ZEN latches the count held before. -/
def State.encEdge (s : State) (n : Fin 4) (c : BitVec 3) (zRise : Bool) : State :=
  let h := s.hall.get n
  let d := (quadPos (c.getLsbD 0) (c.getLsbD 1) + 4 - quadPos (h.code.getLsbD 0) (h.code.getLsbD 1)) % 4
  let s1 := s.updHall n fun h => { h with
    code := c
    enc := if d = 1 then h.enc + 1 else if d = 3 then h.enc - 1 else h.enc
    encz := if zRise && h.cfg.getLsbD 1 then h.enc else h.encz }
  if d = 2 then s1.posErr n (8 + n.val) else s1

/-- HALL_EDGE (R330, R331): a filtered code change at cycle `t`. In encoder mode it is new levels of A, B and Z (R332). -/
def execHallEdge (n : Fin 4) (code : BitVec 3) (t : Nat) (s : State) : Res :=
  let h := s.hall.get n
  s.whenOn .core (
    if h.encMode then .next (s.encEdge n code (code.getLsbD 2 && !h.code.getLsbD 2))
    else if code = 0 ∨ code = 7 then .next ((s.updHall n fun h => { h with code := code }).posErr n n.val)
    else if h.fmax = 0 ∨ h.tLast + h.tmin ≤ t then .next (s.updHall n fun h => h.accept code t)
    else .next (s.updHall n fun h => { h with code := code, pend := true }))

/-- HALL_RATE_DEFER_END (R331): the code that stands is accepted where it differs from the last one. -/
def execHallRateDeferEnd (n : Fin 4) (code : BitVec 3) (s : State) : Res :=
  let h := s.hall.get n
  if h.pend && !h.encMode then
    .next ((s.updHall n fun h0 =>
      let h : Hall := { h0 with code := code, pend := false }
      let g : Hall := if decide (code = h.last) || h.invalid then h else h.accept code (h.tLast + h.tmin)
      { g with rdisc := true }).posErr n (4 + n.val))
  else .next s

/-- ENCODER_EDGE (R332). -/
def execEncoderEdge (n : Fin 4) (a b : Bool) (s : State) : Res :=
  let h := s.hall.get n
  if h.encMode && s.powered .core then .next (s.encEdge n (putBit (putBit h.code 0 a) 1 b) false) else .next s

/-- ENCODER_Z_EDGE (R332): the level of Z shows whatever ZEN. -/
def execEncoderZEdge (n : Fin 4) (s : State) : Res :=
  let h := s.hall.get n
  if h.encMode && s.powered .core then .next (s.encEdge n (h.code ||| 4) true) else .next s

/-- A change of HMODE (R334): the counts are 0 and no deferred edge is left (R332); in Hall mode a valid code stands from now on
(R330). -/
def Hall.newMode (h : Hall) (w : Word) : Hall :=
  let g : Hall := { h with cfg := w, enc := 0, encz := 0, encL := 0, enczL := 0, pend := false }
  if g.encMode || g.invalid then g else { g with last := g.code }

/-- A write to HALL.CFGn (R334). -/
def State.hallConfig (s : State) (n : Fin 4) (val : Word) : State :=
  if decide ((s.axis n).st = .disabled) || decide ((s.axis n).st = .test) then
    let w := val &&& 0x1FFFFF03
    (s.updHall n fun h =>
      if w.getLsbD 0 = h.encMode then { h with cfg := w }
      else h.newMode w).showInvalid n
  else s.raiseSns 164

/-- HALL_CONFIG_WRITE. -/
def execHallConfigWrite (m : Master) (n : Fin 4) (val : Word) (s : State) : Res :=
  .next (s.asMaster m (0x3500 + 4 * n.val) fun t => t.hallConfig n val)

end Sys2Proof.Machine
end

