-- ==== Sys2Proof/Machine/Registers.lean ====
section
/-! DEFINITION. The register window (13 Table 13-7): the word of every register, the reads that latch a status group
(15 R436), acquire a lock or advance the trace (15 R437, 19 R525), and the writes by access code (00 R8, R10). -/

namespace Sys2Proof.Machine

/-! ### Words of the axis blocks, as the mirror holds them (16 R468) -/

/-- A compare register word of a set of four. -/
def cmpWord (c : Four (BitVec 20)) (i : Nat) : Word := (c.get (axOf i)).setWidth 32

/-- PWMn words (07 Tables 7-4 to 7-8); STAT without CNT and KIDX. -/
def Drv.pwmWord (d : Drv) (o : Nat) : Word :=
  if o = 0x000 then d.ctrl
  else if o = 0x004 then d.dt
  else if o = 0x008 then
    at_ 4 d.miss.toNat ||| flag 3 (decide (fld d.brkhw 15 8 ≤ fld d.brkhw 7 0)) ||| flag 2 d.bhact ||| flag 0 d.ena
  else if 0x010 ≤ o ∧ o < 0x020 then cmpWord d.acmp ((o - 0x010) / 4)
  else if 0x020 ≤ o ∧ o < 0x030 then cmpWord d.scmp ((o - 0x020) / 4)
  else if o = 0x030 then d.syncofs.setWidth 32
  else if o = 0x034 then d.brkhw
  else if o = 0x040 then d.tflag.setWidth 32
  else if o = 0x044 then d.tsrc.setWidth 32
  else if o = 0x048 then at_ 16 d.cbcCnt.toNat ||| d.cbcLast.setWidth 32
  else if 0x080 ≤ o ∧ o < 0x0B4 then d.tcfg.getD ((o - 0x080) / 4) 0
  else 0

/-- GATEn words (08 Tables 8-6 to 8-8). -/
def Drv.gateWord (d : Drv) (o : Nat) : Word :=
  if o = 0x100 then d.gdrv
  else if o = 0x104 then d.gbst
  else if o = 0x108 then d.ghs
  else if o = 0x10C then d.gvds
  else if o = 0x110 then d.gocf
  else if o = 0x114 then d.gvm
  else if o = 0x120 then
    at_ 24 d.refcnt.toNat ||| flag 19 (d.tsrc.getLsbD 12) ||| flag 18 (d.tsrc.getLsbD 11) |||
      flag 17 (d.tsrc.getLsbD 10) ||| flag 16 d.vmlo ||| at_ 12 d.lon.toNat ||| at_ 9 d.hon.toNat |||
      at_ 6 d.refact.toNat ||| at_ 3 d.fpglow.toNat ||| at_ 0 d.bstuv.toNat
  else if o = 0x124 then flag 8 d.refflt ||| at_ 4 d.shoot.toNat ||| at_ 0 d.hsto.toNat
  else if o = 0x128 then d.reftot.setWidth 32
  else 0

/-- SENSn words but MEANc and SSTAT (09 Tables 9-5, 9-6). -/
def Drv.sensWord (d : Drv) (o : Nat) : Word :=
  if o = 0x200 then d.swin
  else if o = 0x204 then d.sctrl
  else if o = 0x208 then at_ 10 d.sovr.toNat ||| at_ 3 d.sstuck.toNat ||| at_ 0 d.slost.toNat
  else 0

/-- LINKn words (16 Table 16-6). -/
def Link.word (l : Link) (o : Nat) : Word :=
  if o = 0x300 then
    at_ 16 l.phu.toNat ||| at_ 8 l.phd.toNat ||| flag 3 l.nbr ||| flag 2 l.trained ||| flag 1 l.dnbadl ||| flag 0 l.upbadl
  else if o = 0x304 then
    at_ 24 l.slips.toNat ||| at_ 16 l.immlost.toNat ||| at_ 8 l.dnbad.toNat ||| at_ 0 l.upbad.toNat
  else if o = 0x308 then at_ 16 l.dvcore.toNat ||| at_ 0 l.dtj.toNat
  else 0

/-- CNT and KIDX, computed on CTL at the read (07 R207, R208; 16 R468). -/
def State.carrier (s : State) (n : Fin 4) : Word :=
  if s.tick.on then
    at_ 16 (s.countAt n s.tick.cy) |||
      at_ 12 (if s.tick.ofs.get n ≤ s.tick.cy then s.tick.hidx else s.tick.hidx - 1).toNat
  else 0

/-- Offsets of the registers that a status frame carries (16 R468, Table 16-3). -/
def statusOffsets : List Nat :=
  [0x000, 0x004, 0x008, 0x010, 0x014, 0x018, 0x01C, 0x020, 0x024, 0x028, 0x02C, 0x030, 0x034, 0x040, 0x044, 0x048] ++
    ((List.range 13).map fun k => 0x080 + 4 * k) ++ [0x100, 0x104, 0x108, 0x10C, 0x110, 0x114, 0x120, 0x124, 0x128]

/-- The words of the status frame of a drive die with VCORE `mv`: header, register words, and its report, under their CRC (16
Table 16-3, R464). -/
def Axis.statusWords (a : Axis) (mv : Int) : List Word :=
  withCrc ([Config.upHeader true] ++
    (statusOffsets.map fun o => if o < 0x100 then a.drv.pwmWord o else a.drv.gateWord o) ++
    [Config.statusWord mv a.dieBadL a.dieBad])

/-- They leave on the four lanes of the uplink, bits most significant first (00 R14; 16 R463). -/
def Axis.statusLanes (a : Axis) (mv : Int) : List LaneCycle := wordLanes (a.statusWords mv)

/-- The word at an offset of the block of axis n. The device-wide sync registers stand in block 0 only. -/
def State.axisWord (s : State) (n : Fin 4) (o : Nat) : Word :=
  let a := s.axis n
  if o = 0x0C0 then (if n = 0 then s.sync.cfg else 0)
  else if o = 0x0C4 then
    (if n = 0 then at_ 8 s.sync.miss.toNat ||| flag 1 s.sync.lost ||| flag 0 s.sync.lock else 0)
  else if o = 0x008 then a.mir.pwmWord o ||| s.carrier n
  else if o < 0x100 then a.mir.pwmWord o
  else if o < 0x200 then a.mir.gateWord o
  else if 0x210 ≤ o ∧ o < 0x22C then a.sense.mean.getD ((o - 0x210) / 4) 0
  else if o = 0x22C then a.sense.sstat
  else if o < 0x300 then a.mir.sensWord o
  else a.link.word o

/-! ### Words of the other blocks -/

/-- VGDOK and V5OK: from trip source 12 of axis 0, and V5 on and not in current limit (log entry 24). -/
def State.vgdOk (s : State) : Bool := s.ax.a0.vgdArm && !s.ax.a0.drv.tsrc.getLsbD 12
def State.v5Ok (s : State) : Bool := s.pwr.v5en && s.pwr.vgd && !s.pwr.v5oc

/-- DSTAT words (01 Tables 1-9 to 1-12, 16 Table 16-5, 20 Tables 20-8, 20-9). -/
def State.dstatWord (s : State) (o : Nat) : Word :=
  if o = 0x100 then at_ 4 s.safecause.toNat ||| at_ 0 s.dev.code
  else if o = 0x104 then
    flag 22 s.moulds.active.isSome ||| at_ 19 s.tick.rate.toNat ||| at_ 15 s.tick.hidx.toNat ||| at_ 0 s.tick.tper
  else if o = 0x108 then s.tick.heat.setWidth 32
  else if o = 0x10C then (s.tick.heat >>> 32).setWidth 32
  else if o = 0x110 then s.axst
  else if o = 0x120 then
    flag 4 s.pwr.reflost ||| flag 3 s.pwr.snslock ||| flag 2 s.pwr.plllock ||| flag 1 s.pwr.xtalok ||| flag 0 s.pwr.refsrc
  else if o = 0x124 then
    flag 19 s.pwr.latchb ||| flag 18 s.pwr.retain ||| flag 17 s.pwr.fwb ||| at_ 8 s.pwr.wake.toNat ||| at_ 0 s.pwr.cause.toNat
  else if o = 0x128 then
    at_ 4 s.pwr.axpwr.toNat ||| flag 3 s.pwr.vgdreg ||| flag 2 s.pwr.v5oc ||| flag 1 s.v5Ok ||| flag 0 s.vgdOk
  else 0

/-- The pending bank a master sees (15 R450). -/
def Evm.bank (e : Evm) (m : Master) : EvSet :=
  match m with
  | .mgmt => e.pendMgmt
  | .mon => e.pendMon
  | .host => e.pendHost
  | .debug => e.pendHost

/-- Event-matrix words (15 Tables 15-7, 15-8). -/
def State.evmWord (s : State) (m : Master) (o : Nat) : Word :=
  let k := (o % 0x20) / 4
  let e := s.evm
  if o < 0x220 then evWord (e.bank m) k
  else if o < 0x240 then evWord e.enIrq k
  else if o < 0x260 then evWord e.enMgmt k
  else if o < 0x280 then evWord e.enMon k
  else if o < 0x2A0 then evWord e.enPour k
  else if o < 0x2C0 then evWord e.qmap k
  else if o < 0x2E0 then evWord e.ovf k
  else if o < 0x300 then 0
  else if o < 0x320 then e.gpio.getD k 0
  else if o = 0x320 then e.merge.setWidth 32
  else if o = 0x340 then flag 0 e.qlock
  else 0

/-- LOCK.STAT.HELD, LOCK.ERR, MBBINDn and MBLOCK (15 Tables 15-4, 15-5). -/
def State.lockWord (s : State) (o : Nat) : Word :=
  if o = 0x440 then (List.finRange 16).foldl (fun w k => w ||| flag k.val (decide (s.locks.owner.get k ≠ 0))) 0
  else if o = 0x444 then s.locks.err
  else if 0x480 ≤ o ∧ o < 0x4C0 then ((s.mail.ch[(o - 0x480) / 4]?).map fun c => c.bind).getD 0
  else if o = 0x4C0 then flag 0 s.mail.lock
  else 0

/-- Converter words (10 Tables 10-4 to 10-6). -/
def State.convWord (s : State) (o : Nat) : Word :=
  let c := s.conv
  if o = 0x3000 then flag 8 c.refrdy ||| c.refw.setWidth 32
  else if o = 0x3004 then c.inj
  else if o = 0x3008 then
    at_ 24 c.aborts.toNat ||| at_ 19 c.seqr.length ||| at_ 16 c.seqi.length ||| flag 2 c.plsusp |||
      flag 1 (match c.cur with | some (true, _) => true | _ => false) ||| flag 0 c.cur.isSome
  else if o = 0x300C then c.flag.setWidth 32
  else if o = 0x3010 then c.adrv
  else if o = 0x3014 then c.adrt.setWidth 32
  else if 0x3040 ≤ o ∧ o < 0x3080 then (c.seqr.getD ((o - 0x3040) / 4) 0).setWidth 32
  else if 0x3080 ≤ o ∧ o < 0x3090 then (c.seqi.getD ((o - 0x3080) / 4) 0).setWidth 32
  else 0

/-- Field-input and position words (10 Tables 10-7 to 10-10). -/
def State.fiWord (s : State) (o : Nat) : Word :=
  let f := s.fi
  if 0x3400 ≤ o ∧ o < 0x3440 then ((f.inp[(o - 0x3400) / 4]?).map fun x => x.cfg).getD 0
  else if 0x3440 ≤ o ∧ o < 0x3480 then ((f.inp[(o - 0x3440) / 4]?).map fun x => x.stk).getD 0
  else if o = 0x3480 then f.state
  else if o = 0x3484 then f.rawWord
  else if o = 0x3488 then f.cls
  else if o = 0x348C then f.tp
  else if o = 0x3490 then f.tpmask.setWidth 32
  else if o = 0x3494 then f.tpfail.setWidth 32
  else if o = 0x3498 then f.wake.setWidth 32
  else if 0x3500 ≤ o ∧ o < 0x3510 then (s.hall.get (axOf ((o - 0x3500) / 4))).cfg
  else if 0x3510 ≤ o ∧ o < 0x3520 then (s.hall.get (axOf ((o - 0x3510) / 4))).hall
  else if 0x3520 ≤ o ∧ o < 0x3530 then (s.hall.get (axOf ((o - 0x3520) / 4))).encL
  else if 0x3530 ≤ o ∧ o < 0x3540 then (s.hall.get (axOf ((o - 0x3530) / 4))).enczL
  else if o = 0x3540 then s.hallFlag.setWidth 32
  else 0

/-- An event routed to IRQn is pending (13 Table 13-4). -/
def State.eventPending (s : State) : Bool := decide (s.evm.pendHost ≠ 0)

/-- SAFE or THERMAL_LATCH. -/
def State.safeNow (s : State) : Bool := decide (s.dev = .safe) || decide (s.dev = .thermalLatch)

/-- The STATUS byte as it would be formed now (13 Table 13-4). -/
def State.statusByte (s : State) : Byte :=
  ((s.spr.flg.setWidth 8 <<< 4) : Byte) ||| (flag 3 (!s.mgmt.outlet.isEmpty) ||| flag 2 (decide (32 ≤ s.mgmt.ladle.length)) |||
    flag 1 s.eventPending ||| flag 0 s.safeNow).setWidth 8

/-- The port mode in force; codes 6 and 7 are taken as 0 (13 Table 13-1). -/
def Sprue.mode (p : Sprue) : Nat := if 6 ≤ fld p.cfg 2 0 then 0 else fld p.cfg 2 0

/-- Sprue and Runner words (13 Tables 13-8, 13-9; 14 Tables 14-4, 14-5). -/
def State.sprWord (s : State) (o : Nat) : Word :=
  let p := s.spr
  if o = 0x3800 then p.cfg
  else if o = 0x3804 then p.irq
  else if o = 0x3808 then
    at_ 17 p.mode ||| flag 16 p.sync ||| at_ 8 (if p.sync then p.exp.toNat else 0) ||| s.statusByte.setWidth 32
  else if o = 0x380C then at_ 24 p.eRange.toNat ||| at_ 16 p.eAbort.toNat ||| at_ 8 p.eAlive.toNat ||| at_ 0 p.eCrc.toNat
  else if o = 0x3840 then s.run.stat
  else if o = 0x3844 then s.run.flag
  else if 0x3888 ≤ o ∧ o < 0x38C0 then
    (if o % 8 = 0 then s.run.cfgA ((o - 0x3880) / 8) else s.run.cfgB ((o - 0x3880) / 8))
  else 0

/-- The throttle level of a class, with the floor of R484. -/
def ThClass.level (c : ThClass) : Nat := if c.rslow then Nat.max 1 c.lvl else c.lvl

/-- One bit per judged class. -/
def Thermal.mask (t : Thermal) (f : ThClass → Bool) : Nat :=
  (List.finRange 6).foldl (fun w k => w + (if f (t.cls.get k) then 2 ^ k.val else 0)) 0

/-- TH.LVL (17 Table 17-6). -/
def Thermal.lvlWord (t : Thermal) : Word :=
  at_ 24 (t.mask fun c => c.rfast) ||| at_ 18 (t.mask fun c => c.rslow) ||| at_ 15 (t.cls.get 4).level |||
    at_ 12 t.lv.a3 ||| at_ 9 t.lv.a2 ||| at_ 6 t.lv.a1 ||| at_ 3 t.lv.a0

/-- TH.TEMPk (17 Table 17-5). -/
def Sensor.word (x : Sensor) : Word := flag 31 x.broken ||| flag 30 x.subst ||| (s16 x.temp).setWidth 32

/-- TH.BROKEN (17 Table 17-7). -/
def Thermal.brokenWord (t : Thermal) : Word :=
  (List.finRange 22).foldl (fun w k => w ||| Machine.flag k.val (t.sens.get k).broken) 0

/-- Thermal words (17 Tables 17-5 to 17-7). -/
def State.thWord (s : State) (o : Nat) : Word :=
  if o < 0x4058 then ((s.th.sens[(o - 0x4000) / 4]?).map Sensor.word).getD 0
  else if o = 0x4060 then s.th.lvlWord
  else if o = 0x4064 then s.th.flag.setWidth 32
  else if o = 0x4068 then s.th.cfg
  else if o = 0x406C then s.th.brokenWord
  else 0

/-- MON drives QUENCHn; the level of FAULTn (18 R497, R498, R500). -/
def Mon.qdrv (m : Mon) : Bool := decide (m.fault ≠ 0) || m.reqQ
def Mon.faultN (m : Mon) : Bool :=
  m.up && decide (m.fault = 0) && !decide (m.dev = .safe) && !decide (m.dev = .thermalLatch)

/-- MON.STAT (18 Table 18-6). -/
def Mon.statWord (m : Mon) : Word :=
  at_ 24 m.sigrun ||| at_ 16 m.plain ||| at_ 12 m.plvm ||| flag 11 m.qext ||| flag 10 m.qdrv ||| flag 9 m.faultN |||
    flag 8 (decide (m.dev = .run))

/-- MON, life-cycle and test words (18 Table 18-6; 19 Tables 19-6, 19-7). -/
def State.sysWord (s : State) (o : Nat) : Word :=
  if o = 0x4400 then s.mon.fault.setWidth 32
  else if o = 0x4404 then s.mon.statWord
  else if o = 0x4408 then s.mon.miss
  else if o = 0x4800 then at_ 8 s.lc.fails.toNat ||| flag 2 s.lc.dbg ||| s.lc.st.setWidth 32
  else if o = 0x4804 then flag 8 s.lc.nonce.isSome ||| flag 1 s.lc.rkey.isSome ||| flag 0 s.lc.mkey.isSome
  else if o = 0x5000 then s.lc.lb
  else if o = 0x5004 then s.pour.trwp.setWidth 32
  else if o = 0x5008 then s.pour.trrp.setWidth 32
  else if o = 0x500C then (if s.lc.st = 2 then 0 else s.pour.trace.word (4 * s.pour.trrp.toNat))
  else 0

/-- POUR.PSIGX (02 Table 2-8). -/
def Moulds.psigx (m : Moulds) : Word := match m.active with | some i => i.psigx | none => 0

/-- A word of the Identification block: its layout is not given, and it holds the step A1 as GET_ID reports it (00 R2). -/
def identReg (a : Nat) : Word :=
  if a / 4 = Config.stepWord.val then
    mergeW (at_ (8 * Config.stepByte.val) 0xFF) (Config.identWord a) (at_ (8 * Config.stepByte.val) 0x11)
  else Config.identWord a

/-- The pour of this tick issues bundles: a mould is active and the pour is not cut (02 R62; log entry 131); after the tick has
stopped, to the end of the running pour (17 Table 17-4 step 3). -/
def State.pourActive (s : State) : Bool :=
  s.moulds.active.isSome && !s.pour.cutNow && (s.tick.on || s.bundlesCount)

/-- The signature of a tick becomes readable at cy 64 of the next (02 R78); PSOK goes with it. -/
def State.psigShown (s : State) : Word := if s.tick.cy < 64 then s.pour.psigOld else s.pour.psig
def State.psokShown (s : State) : Bool := if s.tick.cy < 64 then s.pour.psokOld else s.pour.psok

/-- Pour status words (02 Tables 2-7 to 2-11, 04 Tables 4-8, 4-9). -/
def State.pourWord (s : State) (o : Nat) : Word :=
  let p := s.pour
  let m := s.moulds
  if o = 0x6000 then
    at_ 16 p.eccc.toNat ||| flag 3 p.cut ||| flag 2 p.slot ||| flag 1 s.psokShown ||| flag 0 s.pourActive
  else if o = 0x6004 then s.psigShown
  else if o = 0x6008 then m.psigx
  else if o = 0x600C then p.pcnt
  else if o = 0x6010 then p.flags.setWidth 32
  else if o = 0x6014 then flag 0 p.even
  else if o = 0x6018 then p.ops.setWidth 32
  else if o = 0x6020 then
    at_ 16 (Nat.min m.loadleft 0xFFFF) ||| at_ 8 m.lastfail.toNat ||| flag 4 m.stageok ||| flag 3 m.inactok ||| at_ 1 m.swap.toNat
  else if o = 0x6024 then (match m.active with | some i => i.id | none => 0)
  else if o = 0x6028 then (match m.active with | some i => i.ver | none => 0)
  else 0

/-- The word a register reads as, with no side effect (13 Table 13-7); locks and mailboxes apart. -/
def State.regWord (s : State) (m : Master) (a : Nat) : Word :=
  if a < 0x100 then identReg a
  else if a < 0x200 then s.dstatWord a
  else if a < 0x400 then s.evmWord m a
  else if a < 0x800 then s.lockWord a
  else if a < 0x1000 then 0
  else if a < 0x2000 then s.axisWord (axOf ((a - 0x1000) / 0x400)) ((a - 0x1000) % 0x400)
  else if a < 0x3400 then s.convWord a
  else if a < 0x3800 then s.fiWord a
  else if a < 0x4000 then s.sprWord a
  else if a < 0x4400 then s.thWord a
  else if a < 0x6000 then s.sysWord a
  else s.pourWord a

/-! ### Status groups (15 R436) -/

/-- The later words of the group whose first word is `a` (01 R41, 02 R84, 07 R246, 09 R300, 10 R335, 17 R489,
18 R509). -/
def groupOf (a : Nat) : List Nat :=
  if a = 0x108 then [0x10C]
  else if a = 0x6000 then [0x6004, 0x6008, 0x600C]
  else if a = 0x3010 then [0x3014]
  else if a = 0x3480 then [0x3488]
  else if a = 0x4000 then (List.range 21).map (fun k => 0x4004 + 4 * k) ++ [0x4060]
  else if a = 0x4400 then [0x4404, 0x4408]
  else if 0x1000 ≤ a ∧ a < 0x2000 then
    let b := a - a % 0x400
    if a % 0x400 = 0x008 then (List.range 8).map fun k => b + 0x010 + 4 * k
    else if a % 0x400 = 0x210 then (List.range 7).map fun k => b + 0x214 + 4 * k
    else []
  else []

/-- Whether a word is a later word of some group. -/
def isLatched (a : Nat) : Bool :=
  decide (a = 0x10C ∨ a = 0x6004 ∨ a = 0x6008 ∨ a = 0x600C ∨ a = 0x3014 ∨ a = 0x3488 ∨ a = 0x4060 ∨ a = 0x4404 ∨ a = 0x4408) ||
    (decide (0x4004 ≤ a) && decide (a < 0x4058)) ||
    (decide (0x1000 ≤ a) && decide (a < 0x2000) &&
      ((decide (0x010 ≤ a % 0x400) && decide (a % 0x400 < 0x030)) ||
        (decide (0x214 ≤ a % 0x400) && decide (a % 0x400 ≤ 0x22C))))

/-- The latch of a master for an address; it is kept separately for each master (R436). -/
def latchKey (m : Master) (a : Nat) : Nat := Master.id m * 65536 + a

/-- Every later word of the group goes into the master's latch. -/
def State.latchGroup (s : State) (m : Master) (a : Nat) : State :=
  { s with latch := (groupOf a).foldl (fun l x => Sparse.put 0 (latchKey m x) (s.regWord m x) l) s.latch }

/-- A read of TEST.TRDATA advances TRRP, but not in FIELD (19 R525). -/
def State.advanceTrace (s : State) : State :=
  if s.lc.st = 2 then s else { s with pour := { s.pour with trrp := s.pour.trrp + 1 } }

/-- A mailbox word in the accessor's view, or the denial (15 R443). -/
def State.mbWordRead (s : State) (m : Master) (a : Nat) : Word × State :=
  let ch : Fin 16 := ⟨(a - 0x800) / 0x80 % 16, Nat.mod_lt _ (by decide)⟩
  match s.mbEnd m ch with
  | some b => (s.mbRead ch ((a - 0x800) % 0x80) b, s)
  | none => (0, s.mbDeny ch)

/-- One register read by a master: its value and its side effect. -/
def State.regRead (s : State) (m : Master) (a : Nat) : Word × State :=
  if !s.canAccess m then (0, s)
  else if 0x400 ≤ a ∧ a < 0x440 then s.lockRead m ⟨(a - 0x400) / 4 % 16, Nat.mod_lt _ (by decide)⟩
  else if 0x800 ≤ a ∧ a < 0x1000 then s.mbWordRead m a
  else if isLatched a then (Sparse.get 0 (latchKey m a) s.latch, s)
  else if a = 0x500C then (s.regWord m a, s.advanceTrace)
  else (s.regWord m a, s.latchGroup m a)

/-- A read with its value in `rdata`. -/
def State.readInto (s : State) (m : Master) (a : Nat) : State :=
  { (s.regRead m a).2 with rdata := (s.regRead m a).1 }

/-! ### Writes -/

/-- Events whose MGMT enable is read-only 1: the axis-fault events, EV203, EV249, EV250 (15 R451; axis faults of
06 R205, 07 R233, R240, 08 R277, 16 R473). -/
def fixedMgmt : EvSet :=
  ([203, 211, 249, 250] ++ (axes.flatMap fun n => [1, 5, 9, 10, 11, 22].map fun j => axEv n j)).foldl
    (fun e k => e ||| bitB 256 k) 0

/-- W1C of the reader's bank (15 R450). -/
def Evm.clearPend (e : Evm) (m : Master) (k : Nat) (val : Word) : Evm :=
  let mask : EvSet := ~~~((val.setWidth 256 : EvSet) <<< (32 * k))
  match m with
  | .mgmt => { e with pendMgmt := e.pendMgmt &&& mask }
  | .mon => { e with pendMon := e.pendMon &&& mask }
  | .host => { e with pendHost := e.pendHost &&& mask }
  | .debug => { e with pendHost := e.pendHost &&& mask }

/-- A write to the event matrix (15 Tables 15-7, 15-8). -/
def State.evmWrite (s : State) (m : Master) (o : Nat) (val : Word) : State :=
  let k := (o % 0x20) / 4
  let e := s.evm
  if o < 0x220 then { s with evm := e.clearPend m k val }
  else if o < 0x240 then { s with evm := { e with enIrq := setEvWord e.enIrq k val } }
  else if o < 0x260 then { s with evm := { e with enMgmt := setEvWord e.enMgmt k val ||| fixedMgmt } }
  else if o < 0x280 then { s with evm := { e with enMon := setEvWord e.enMon k val } }
  else if o < 0x2A0 then { s with evm := { e with enPour := setEvWord e.enPour k val } }
  else if o < 0x2C0 then
    (if e.qlock then s else { s with evm := { e with qmap := setEvWord e.qmap k val ||| bitB 256 203 } })
  else if o < 0x2E0 then { s with evm := { e with ovf := e.ovf &&& ~~~((val.setWidth 256 : EvSet) <<< (32 * k)) } }
  else if 0x300 ≤ o ∧ o < 0x320 then { s with evm := { e with gpio := e.gpio.setIfInBounds k (val &&& 0x81FF) } }
  else if o = 0x320 then { s with evm := { e with merge := e.merge &&& ~~~(val.setWidth 8) } }
  else if o = 0x340 then s.qlockSet val
  else s

/-- A write to the locks and bindings (15 Tables 15-4, 15-5). -/
def State.lockBlockWrite (s : State) (m : Master) (o : Nat) (val : Word) : State :=
  if o < 0x440 then s.lockWrite m ⟨(o - 0x400) / 4 % 16, Nat.mod_lt _ (by decide)⟩ val
  else if o = 0x444 then { s with locks := { s.locks with err := s.locks.err &&& ~~~val } }
  else if 0x480 ≤ o ∧ o < 0x4C0 then s.mbBind ⟨(o - 0x480) / 4 % 16, Nat.mod_lt _ (by decide)⟩ val
  else if o = 0x4C0 then s.mblockSet val
  else s

/-- A write to a mailbox window (15 R443, R444). -/
def State.mbWrite (s : State) (m : Master) (a : Nat) (val : Word) : State :=
  let ch : Fin 16 := ⟨(a - 0x800) / 0x80 % 16, Nat.mod_lt _ (by decide)⟩
  let o := (a - 0x800) % 0x80
  s.asEnd m ch fun b t =>
    if o < 0x40 then t.mbData ch ⟨o / 4 % 16, Nat.mod_lt _ (by decide)⟩ val b
    else if o = 0x40 then t.mbCtrl ch val b
    else if o = 0x48 then t.mbFlagClear ch val b
    else t

/-- PWMG.SYNC (07 R234 to R236): honoured only with no mould active; MODE 2 arms acquisition. A
TOL of 0 is taken as 0 (log entry 184). -/
def State.syncWrite (s : State) (val : Word) : State :=
  if s.moulds.active.isSome then s
  else { s with sync := { s.sync with cfg := val &&& 0x7FFFFF03, armed := decide (fld val 1 0 = 2) } }

/-- Registers of the axis block that a register message carries (16 R468). -/
def axisWritable (o : Nat) : Bool := decide (o = 0x000 ∨ o = 0x040 ∨ o = 0x124 ∨ o = 0x208) || isAxisConfig o

/-- A write to an axis block: it travels to the drive die as a register message (16 R468). -/
def State.axisWrite (s : State) (m : Master) (n : Fin 4) (o : Nat) (val : Word) : State :=
  if o = 0x0C0 then (if n = 0 then s.syncWrite val else s)
  else if o = 0x0C4 then
    (if n = 0 ∧ val.getLsbD 1 then { s with sync := { s.sync with lost := false } } else s)
  else if axisWritable o then
    s.updAxis n fun a =>
      { a with regq := a.regq ++ [{ addr := o, val := val, host := decide (m ≠ .mgmt), tries := 0, since := s.tick.cy }] }
  else s

/-- A write to the converter registers (10 R318). -/
def State.convWrite (s : State) (o : Nat) (val : Word) : State :=
  if o = 0x3000 then s.refselSet val
  else if o = 0x3004 then s.convHonour fun t => { t with conv := { t.conv with inj := val &&& 0x80FF } }
  else if o = 0x300C then { s with conv := { s.conv with flag := s.conv.flag &&& ~~~(val.setWidth 4) } }
  else s

/-- INVCODE of the axes whose code is invalid as it stands: the flag stays 1 under a clear (00 R10, 10 R330). -/
def State.invCodes (s : State) : BitVec 12 := axes.foldl (fun m n => putBit m n.val (s.hall.get n).invalid) 0

/-- A write to the field-input and position registers (10 R327, R334). -/
def State.fiWrite (s : State) (o : Nat) (val : Word) : State :=
  if 0x3400 ≤ o ∧ o < 0x3480 then
    s.fiConfig (decide (0x3440 ≤ o)) ⟨(o % 0x40) / 4 % 16, Nat.mod_lt _ (by decide)⟩ val
  else if o = 0x348C then { s with fi := { s.fi with tp := val &&& 0x80FFFF07 } }
  else if o = 0x3490 then { s with fi := { s.fi with tpmask := val.setWidth 16 } }
  else if o = 0x3494 then { s with fi := { s.fi with tpfail := s.fi.tpfail &&& ~~~(val.setWidth 16) } }
  else if o = 0x3498 then { s with fi := { s.fi with wake := val.setWidth 2 } }
  else if 0x3500 ≤ o ∧ o < 0x3510 then s.hallConfig (axOf ((o - 0x3500) / 4)) val
  else if o = 0x3540 then
    { s with hallFlag := (s.hallFlag &&& ~~~(val.setWidth 12)) ||| (s.hallFlag &&& s.invCodes) }
  else s

/-- A write to RUN.DEVAk or RUN.DEVBk (14 R431). -/
def State.runDevWrite (s : State) (o : Nat) (val : Word) : State :=
  if s.moulds.active.isSome then s.raise 194
  else
    let k := (o - 0x3880) / 8
    if o % 8 = 0 then { s with run := { s.run with deva := s.run.deva.setIfInBounds k (val &&& 0xFFFFF800) } }
    else { s with run := { s.run with devb := s.run.devb.setIfInBounds k (mergeW 0xFFFFFF00 (s.run.cfgB k) val) } }

/-- A write to the Sprue and Runner registers (13 R396, R418; 14 R431). -/
def State.sprWrite (s : State) (o : Nat) (val : Word) : State :=
  if o = 0x3800 then { s with spr := { s.spr with cfg := val &&& 0x00FF1F07 } }
  else if o = 0x3804 then { s with spr := { s.spr with irq := val &&& 7 } }
  else if o = 0x3844 then { s with run := { s.run with flag := s.run.flag &&& ~~~val } }
  else if 0x3888 ≤ o ∧ o < 0x38C0 then s.runDevWrite o val
  else s

/-- A write to the thermal, test and Pour status registers (02 R85; 17 Tables 17-6, 17-7; 19 Table 19-7). -/
def State.sysWrite (s : State) (o : Nat) (val : Word) : State :=
  if o = 0x4064 then { s with th := { s.th with flag := s.th.flag &&& ~~~(val.setWidth 6) } }
  else if o = 0x4068 then { s with th := { s.th with cfg := val &&& 0xFFFF } }
  else if o = 0x5008 then { s with pour := { s.pour with trrp := val.setWidth 16 } }
  else if o = 0x6010 then { s with pour := { s.pour with flags := s.pour.flags &&& ~~~(val.setWidth 3) } }
  else if o = 0x6014 then { s with pour := { s.pour with even := val.getLsbD 0 } }
  else s

/-- One register write that the master may make (00 R8, R10): by block. -/
def State.regSet (s : State) (m : Master) (a : Nat) (val : Word) : State :=
  if a < 0x200 then s
  else if a < 0x400 then s.evmWrite m a val
  else if a < 0x800 then s.lockBlockWrite m a val
  else if a < 0x1000 then s.mbWrite m a val
  else if a < 0x2000 then s.axisWrite m (axOf ((a - 0x1000) / 0x400)) ((a - 0x1000) % 0x400) val
  else if a < 0x3400 then s.convWrite a val
  else if a < 0x3800 then s.fiWrite a val
  else if a < 0x4000 then s.sprWrite a val
  else s.sysWrite a val

/-- A register write under the access rules of its master (00 R11, 19 R514, R515). -/
def State.regWrite (s : State) (m : Master) (a : Nat) (val : Word) : State := s.asMaster m a fun t => t.regSet m a val

/-! ### Rows -/

/-- REGISTER_WRITE: a word address of the window (13 R408). -/
def execRegisterWrite (m : Master) (addr : BitVec 16) (val : Word) (s : State) : Res :=
  if addr.toNat % 4 = 0 ∧ addr.toNat < 0x8000 then .next (s.regWrite m addr.toNat val) else .next s

/-- HEAT0_READ (01 R41). -/
def execHeat0Read (m : Master) (s : State) : Res := .next (s.readInto m 0x108)

/-- POUR_STAT_READ (02 R84). -/
def execPourStatRead (m : Master) (s : State) : Res := .next (s.readInto m 0x6000)

/-- PWM_STAT_READ (07 R246). -/
def execPwmStatRead (m : Master) (n : Fin 4) (s : State) : Res := .next (s.readInto m (0x1008 + 0x400 * n.val))

/-- SENS_MEAN0_READ (09 R300). -/
def execSensMean0Read (m : Master) (n : Fin 4) (s : State) : Res := .next (s.readInto m (0x1210 + 0x400 * n.val))

/-- ADRV_READ (10 R335): it does not mark the result read (R313). -/
def execAdrvRead (m : Master) (s : State) : Res := .next (s.readInto m 0x3010)

/-- FI_STATE_READ (10 R335). -/
def execFiStateRead (m : Master) (s : State) : Res := .next (s.readInto m 0x3480)

/-- TH_TEMP0_READ (17 R489). -/
def execThTemp0Read (m : Master) (s : State) : Res := .next (s.readInto m 0x4000)

/-- MON_FAULT_READ (18 R509). -/
def execMonFaultRead (m : Master) (s : State) : Res := .next (s.readInto m 0x4400)

/-- TRDATA_READ (19 R525). -/
def execTrdataRead (m : Master) (s : State) : Res := .next (s.readInto m 0x500C)

end Sys2Proof.Machine
end

