-- ==== Sys2Proof/Machine/Ecdsa.lean ====
section
/-! DEFINITION. SHA-256, the curve P-256 and the verification of an ECDSA signature, which the spec takes by these names
(04 Table 4-3, 19 R516, R520). Coordinates, r and s are little-endian, 32 bytes each. The constants are those of the
public standards the names stand for (FIPS 180-4 and 186-4; PRESUMED, log entry 35). -/

namespace Sys2Proof.Machine

/-! ### SHA-256 -/

/-- The round constants. -/
def shaK : List Word :=
  [0x428A2F98, 0x71374491, 0xB5C0FBCF, 0xE9B5DBA5, 0x3956C25B, 0x59F111F1, 0x923F82A4, 0xAB1C5ED5] ++
  [0xD807AA98, 0x12835B01, 0x243185BE, 0x550C7DC3, 0x72BE5D74, 0x80DEB1FE, 0x9BDC06A7, 0xC19BF174] ++
  [0xE49B69C1, 0xEFBE4786, 0x0FC19DC6, 0x240CA1CC, 0x2DE92C6F, 0x4A7484AA, 0x5CB0A9DC, 0x76F988DA] ++
  [0x983E5152, 0xA831C66D, 0xB00327C8, 0xBF597FC7, 0xC6E00BF3, 0xD5A79147, 0x06CA6351, 0x14292967] ++
  [0x27B70A85, 0x2E1B2138, 0x4D2C6DFC, 0x53380D13, 0x650A7354, 0x766A0ABB, 0x81C2C92E, 0x92722C85] ++
  [0xA2BFE8A1, 0xA81A664B, 0xC24B8B70, 0xC76C51A3, 0xD192E819, 0xD6990624, 0xF40E3585, 0x106AA070] ++
  [0x19A4C116, 0x1E376C08, 0x2748774C, 0x34B0BCB5, 0x391C0CB3, 0x4ED8AA4A, 0x5B9CCA4F, 0x682E6FF3] ++
  [0x748F82EE, 0x78A5636F, 0x84C87814, 0x8CC70208, 0x90BEFFFA, 0xA4506CEB, 0xBEF9A3F7, 0xC67178F2]

/-- The eight words of a hash. -/
structure Sha where
  a : Word
  b : Word
  c : Word
  d : Word
  e : Word
  f : Word
  g : Word
  h : Word
  deriving DecidableEq, Repr

def shaInit : Sha := ⟨0x6A09E667, 0xBB67AE85, 0x3C6EF372, 0xA54FF53A, 0x510E527F, 0x9B05688C, 0x1F83D9AB, 0x5BE0CD19⟩

def rotr (x : Word) (n : Nat) : Word := (x >>> n) ||| (x <<< (32 - n))

/-- The number big-endian bytes stand for. -/
def beNat (l : List Byte) : Nat := l.foldl (fun n b => 256 * n + b.toNat) 0

/-- The next word of the message schedule; the words so far are given newest first. -/
def shaNext (w : List Word) : Word :=
  let x := w.getD 1 0
  let y := w.getD 14 0
  (rotr x 17 ^^^ rotr x 19 ^^^ (x >>> 10)) + w.getD 6 0 + (rotr y 7 ^^^ rotr y 18 ^^^ (y >>> 3)) + w.getD 15 0

def shaExtend : Nat → List Word → List Word
  | 0, w => w
  | n + 1, w => shaExtend n (shaNext w :: w)

/-- The 64 words of the schedule of a block of 64 bytes. -/
def shaSchedule (m : List Byte) : List Word :=
  (shaExtend 48 ((List.range 16).map fun i => BitVec.ofNat 32 (beNat (sliceB m (4 * i) 4))).reverse).reverse

/-- One round with its constant and its word. -/
def shaRound (s : Sha) (kw : Word × Word) : Sha :=
  let t1 := s.h + (rotr s.e 6 ^^^ rotr s.e 11 ^^^ rotr s.e 25) + ((s.e &&& s.f) ^^^ (~~~s.e &&& s.g)) + kw.1 + kw.2
  let t2 := (rotr s.a 2 ^^^ rotr s.a 13 ^^^ rotr s.a 22) + ((s.a &&& s.b) ^^^ (s.a &&& s.c) ^^^ (s.b &&& s.c))
  ⟨t1 + t2, s.a, s.b, s.c, s.d + t1, s.e, s.f, s.g⟩

def shaBlock (s : Sha) (m : List Byte) : Sha :=
  let r := (shaK.zip (shaSchedule m)).foldl shaRound s
  ⟨s.a + r.a, s.b + r.b, s.c + r.c, s.d + r.d, s.e + r.e, s.f + r.f, s.g + r.g, s.h + r.h⟩

def shaBlocks : Nat → List Byte → Sha → Sha
  | 0, _, s => s
  | n + 1, m, s => shaBlocks n (m.drop 64) (shaBlock s (m.take 64))

/-- The padded message: a 1 bit, zeros, and the length in bits as eight big-endian bytes. -/
def shaPad (m : List Byte) : List Byte :=
  m ++ [0x80] ++ List.replicate ((119 - m.length % 64) % 64) 0 ++ (leBytes 8 (8 * m.length)).reverse

/-- The digest as the number its bytes stand for, first byte highest. -/
def sha256 (m : List Byte) : Nat :=
  let p := shaPad m
  let s := shaBlocks (p.length / 64) p shaInit
  [s.a, s.b, s.c, s.d, s.e, s.f, s.g, s.h].foldl (fun n w => n * 2 ^ 32 + w.toNat) 0

/-! ### The curve -/

/-- The field prime, the coefficient b, the order of the base point, and the base point. -/
def ecP : Nat := 0xFFFFFFFF00000001000000000000000000000000FFFFFFFFFFFFFFFFFFFFFFFF
def ecB : Nat := 0x5AC635D8AA3A93E7B3EBBD55769886BC651D06B0CC53B0F63BCE3C3E27D2604B
def ecN : Nat := 0xFFFFFFFF00000000FFFFFFFFFFFFFFFFBCE6FAADA7179E84F3B9CAC2FC632551
def ecGx : Nat := 0x6B17D1F2E12C4247F8BCE6E563A440F277037D812DEB33A0F4A13945D898C296
def ecGy : Nat := 0x4FE342E2FE1A7F9B8EE7EB4A7C0F9E162BCE33576B315ECECBB6406837BF51F5

/-- Arithmetic of the field; arguments are below the prime. -/
def fMul (x y : Nat) : Nat := x * y % ecP
def fAdd (x y : Nat) : Nat := (x + y) % ecP
def fSub (x y : Nat) : Nat := (x + (ecP - y)) % ecP

/-- x ^ e modulo m, e below 2 ^ 256. -/
def powMod (x e m : Nat) : Nat :=
  (List.range 256).foldl (fun r i => if e.testBit (255 - i) then r * r % m * x % m else r * r % m) 1

/-- A point in Jacobian coordinates; Z = 0 is the point at infinity. -/
structure Jac where
  x : Nat
  y : Nat
  z : Nat
  deriving DecidableEq, Repr

def Jac.double (a : Jac) : Jac :=
  let zz := fMul a.z a.z
  let yy := fMul a.y a.y
  let s := fMul 4 (fMul a.x yy)
  let m := fMul 3 (fMul (fSub a.x zz) (fAdd a.x zz))
  let x := fSub (fMul m m) (fAdd s s)
  ⟨x, fSub (fMul m (fSub s x)) (fMul 8 (fMul yy yy)), fMul 2 (fMul a.y a.z)⟩

def Jac.add (a b : Jac) : Jac :=
  if a.z = 0 then b
  else if b.z = 0 then a
  else
    let za := fMul a.z a.z
    let zb := fMul b.z b.z
    let u := fMul a.x zb
    let s := fMul a.y (fMul zb b.z)
    let h := fSub (fMul b.x za) u
    let r := fSub (fMul b.y (fMul za a.z)) s
    if h = 0 then (if r = 0 then a.double else ⟨1, 1, 0⟩)
    else
      let hh := fMul h h
      let hhh := fMul hh h
      let v := fMul u hh
      let x := fSub (fSub (fMul r r) hhh) (fAdd v v)
      ⟨x, fSub (fMul r (fSub v x)) (fMul s hhh), fMul h (fMul a.z b.z)⟩

/-- u a + v b, bit by bit from the top. -/
def Jac.mul2 (u v : Nat) (a b : Jac) : Jac :=
  let c := a.add b
  (List.range 256).foldl (fun r i =>
    let d := r.double
    match u.testBit (255 - i), v.testBit (255 - i) with
    | false, false => d
    | true, false => d.add a
    | false, true => d.add b
    | true, true => d.add c) ⟨1, 1, 0⟩

/-- (X, Y), each 32 little-endian bytes, is a point of the curve (19 R516). -/
def onCurve (x y : List Byte) : Bool :=
  let a := leNat x
  let b := leNat y
  decide (a < ecP) && decide (b < ecP) && decide (fMul b b = fAdd (fSub (fMul a (fMul a a)) (fMul 3 a)) ecB)

/-- A signature, r then s, over the SHA-256 digest of a message verifies with a key, X then Y (04 Table 4-3, 19 R520). -/
def ecdsaVerifies (key msg sig : List Byte) : Bool :=
  let r := leAt sig 0 32
  let s := leAt sig 32 32
  if r = 0 ∨ s = 0 ∨ ecN ≤ r ∨ ecN ≤ s ∨ onCurve (sliceB key 0 32) (sliceB key 32 32) = false then false
  else
    let w := powMod s (ecN - 2) ecN
    let q := Jac.mul2 (sha256 msg * w % ecN) (r * w % ecN) ⟨ecGx, ecGy, 1⟩ ⟨leAt key 0 32, leAt key 32 32, 1⟩
    if q.z = 0 then false
    else
      let i := powMod q.z (ecP - 2) ecP
      decide (fMul q.x (fMul i i) % ecN = r)

end Sys2Proof.Machine
end

