-- ==== Sys2Proof/Machine/Slots.lean ====
section
/-! DEFINITION. What the mould check knows of a slot operation: its encoding (03 R89, Tables 3-2 to 3-9), the registers
it reads and writes, and its latency (03 Table 3-10). -/

namespace Sys2Proof.Machine

/-- One operation as the check sees it. Registers are numbered as in CERT: V 0 to 63, P 64 to 71, A 72 to 79
(04 Table 4-3). -/
structure OpInfo where
  op : Nat
  g : Guard
  /-- Operand fields: lowest bit and value (03 Table 3-3). -/
  fields : List (Nat × Nat)
  reads : List Nat
  writes : List Nat
  lat : Nat
  deriving DecidableEq, Repr

def bN (b : Bool) : Nat := if b then 1 else 0
def vR (r : BitVec 6) : Nat := r.toNat
def pR (k : BitVec 3) : Nat := 64 + k.toNat
def aR (u : Bool) (k : BitVec 2) : Nat := 72 + (accIx u k).val

/-- D, with the registers above it that the operation also writes (03 R98). -/
def dW (d : BitVec 6) (more : Nat) : List Nat := (List.range (1 + more)).map fun j => d.toNat + j

/-- A write of P0 is ignored (02 R50). -/
def pW (k : BitVec 3) : List Nat := if k = 0 then [] else [pR k]

/-- Both registers of limit pair L (03 R89). -/
def lR (l : BitVec 5) : List Nat := [2 * l.toNat, 2 * l.toNat + 1]

def fMA (k : BitVec 2) (a b : BitVec 6) (sc : BitVec 2) (rm : Bool) : List (Nat × Nat) :=
  [(18, k.toNat), (12, a.toNat), (6, b.toNat), (4, sc.toNat), (3, bN rm)]
def fR3 (d a b : BitVec 6) : List (Nat × Nat) := [(14, d.toNat), (8, a.toNat), (2, b.toNat)]
def fRS (d a : BitVec 6) (sh : BitVec 5) : List (Nat × Nat) := [(14, d.toNat), (8, a.toNat), (3, sh.toNat)]
def fCP (pd : BitVec 3) (a b : BitVec 6) : List (Nat × Nat) := [(17, pd.toNat), (11, a.toNat), (5, b.toNat)]
def fPL (pd pa pb : BitVec 3) : List (Nat × Nat) := [(17, pd.toNat), (14, pa.toNat), (11, pb.toNat)]

/-- Operations of XU0 and XU1 (03 Table 3-5). -/
def macInfo : Instr → Option OpInfo
  | .mul u g k a b sc rm => some ⟨0x01, g, fMA k a b sc rm, [vR a, vR b], [aR u k], 1⟩
  | .mac u g k a b sc rm => some ⟨0x02, g, fMA k a b sc rm, [vR a, vR b, aR u k], [aR u k], 1⟩
  | .msu u g k a b sc rm => some ⟨0x03, g, fMA k a b sc rm, [vR a, vR b, aR u k], [aR u k], 1⟩
  | .madv u g k a b c =>
    some ⟨0x04, g, [(18, k.toNat), (12, a.toNat), (6, b.toNat), (0, c.toNat)], [vR a, vR b, vR c], [aR u k], 1⟩
  | .mulv _ g d a b ss rm => some ⟨0x05, g, fR3 d a b ++ [(1, bN ss), (0, bN rm)], [vR a, vR b], dW d 0, 3⟩
  | .mova u g d k rm f h =>
    some ⟨0x08, g, [(14, d.toNat), (12, k.toNat), (11, bN rm), (10, bN f), (9, bN h)],
      aR u k :: (if h then [vR d] else []), dW d (bN h), 3⟩
  | .movac u g d k rm h l pd =>
    some ⟨0x09, g, [(14, d.toNat), (12, k.toNat), (11, bN rm), (10, bN h), (5, l.toNat), (2, pd.toNat)],
      aR u k :: lR l ++ (if h then [vR d] else []), dW d (bN h) ++ pW pd, 3⟩
  | .lda u g k a => some ⟨0x0A, g, [(18, k.toNat), (12, a.toNat)], [vR a], [aR u k], 1⟩
  | .clra u g k => some ⟨0x0B, g, [(18, k.toNat)], [], [aR u k], 1⟩
  | .adda u g k j => some ⟨0x0C, g, [(18, k.toNat), (16, j.toNat)], [aR u k, aR u j], [aR u k], 1⟩
  | _ => none

/-- Operations of XU2 (03 Table 3-6). -/
def trigInfo : Instr → Option OpInfo
  | .sincos g d a => some ⟨0x20, g, fR3 d a 0, [vR a], dW d 1, 12⟩
  | .atan2 g d a b => some ⟨0x21, g, fR3 d a b, [vR a, vR b], dW d 0, 12⟩
  | .sqrt g d a => some ⟨0x22, g, fR3 d a 0, [vR a], dW d 0, 12⟩
  | .recip g d a => some ⟨0x23, g, fR3 d a 0, [vR a], dW d 0, 12⟩
  | .mag g d a b => some ⟨0x24, g, fR3 d a b, [vR a, vR b], dW d 0, 12⟩
  | _ => none

/-- Arithmetic, selection and moves of XU3 (03 Table 3-7). -/
def arithInfo : Instr → Option OpInfo
  | .add g d a b => some ⟨0x40, g, fR3 d a b, [vR a, vR b], dW d 0, 1⟩
  | .sub g d a b => some ⟨0x41, g, fR3 d a b, [vR a, vR b], dW d 0, 1⟩
  | .addw g d a b => some ⟨0x42, g, fR3 d a b, [vR a, vR b], dW d 0, 1⟩
  | .subw g d a b => some ⟨0x43, g, fR3 d a b, [vR a, vR b], dW d 0, 1⟩
  | .neg g d a => some ⟨0x44, g, fR3 d a 0, [vR a], dW d 0, 1⟩
  | .abs g d a => some ⟨0x45, g, fR3 d a 0, [vR a], dW d 0, 1⟩
  | .min g d a b => some ⟨0x46, g, fR3 d a b, [vR a, vR b], dW d 0, 1⟩
  | .max g d a b => some ⟨0x47, g, fR3 d a b, [vR a, vR b], dW d 0, 1⟩
  | .clamp g d a l pd =>
    some ⟨0x48, g, [(14, d.toNat), (8, a.toNat), (3, l.toNat), (0, pd.toNat)], vR a :: lR l, dW d 0 ++ pW pd, 1⟩
  | .sel g d a b n => some ⟨0x49, g, fR3 d a b ++ [(0, n.toNat)], [vR a, vR b, 68 + n.toNat], dW d 0, 1⟩
  | .mov g d a => some ⟨0x4A, g, fR3 d a 0, [vR a], dW d 0, 1⟩
  | .push g d a => some ⟨0x4B, g, fR3 d a 0, [vR a, vR d], dW d 1, 1⟩
  | .subh g d a b => some ⟨0x4C, g, fR3 d a b, [vR a, vR b, vR d, vR d + 1], dW d 2, 1⟩
  | _ => none

/-- Logic, shifts, immediates, compares and predicate logic of XU3 (03 Table 3-7). -/
def logicInfo : Instr → Option OpInfo
  | .and g d a b => some ⟨0x50, g, fR3 d a b, [vR a, vR b], dW d 0, 1⟩
  | .or g d a b => some ⟨0x51, g, fR3 d a b, [vR a, vR b], dW d 0, 1⟩
  | .xor g d a b => some ⟨0x52, g, fR3 d a b, [vR a, vR b], dW d 0, 1⟩
  | .andn g d a b => some ⟨0x53, g, fR3 d a b, [vR a, vR b], dW d 0, 1⟩
  | .shl g d a sh => some ⟨0x58, g, fRS d a sh, [vR a], dW d 0, 1⟩
  | .shr g d a sh => some ⟨0x59, g, fRS d a sh, [vR a], dW d 0, 1⟩
  | .shll g d a sh => some ⟨0x5A, g, fRS d a sh, [vR a], dW d 0, 1⟩
  | .shrl g d a sh => some ⟨0x5B, g, fRS d a sh, [vR a], dW d 0, 1⟩
  | .shrr g d a sh => some ⟨0x5C, g, fRS d a sh, [vR a], dW d 0, 1⟩
  | .ldi g d imm => some ⟨0x60, g, [(14, d.toNat), (0, imm.toNat)], [], dW d 0, 1⟩
  | .lui g d imm => some ⟨0x61, g, [(14, d.toNat), (0, imm.toNat)], [], dW d 0, 1⟩
  | .cmplt g pd a b => some ⟨0x68, g, fCP pd a b, [vR a, vR b], pW pd, 1⟩
  | .cmple g pd a b => some ⟨0x69, g, fCP pd a b, [vR a, vR b], pW pd, 1⟩
  | .cmpeq g pd a b => some ⟨0x6A, g, fCP pd a b, [vR a, vR b], pW pd, 1⟩
  | .cmpne g pd a b => some ⟨0x6B, g, fCP pd a b, [vR a, vR b], pW pd, 1⟩
  | .cmpltu g pd a b => some ⟨0x6C, g, fCP pd a b, [vR a, vR b], pW pd, 1⟩
  | .tstb g pd a bit => some ⟨0x6D, g, [(17, pd.toNat), (11, a.toNat), (6, bit.toNat)], [vR a], pW pd, 1⟩
  | .pand g pd pa pb => some ⟨0x70, g, fPL pd pa pb, [pR pa, pR pb], pW pd, 1⟩
  | .por g pd pa pb => some ⟨0x71, g, fPL pd pa pb, [pR pa, pR pb], pW pd, 1⟩
  | .pxor g pd pa pb => some ⟨0x72, g, fPL pd pa pb, [pR pa, pR pb], pW pd, 1⟩
  | _ => none

/-- Operations of XU4 and XU5 (03 Tables 3-8, 3-9). -/
def memInfo : Instr → Option OpInfo
  | .ld g d ad => some ⟨0x80, g, [(14, d.toNat), (0, ad.toNat)], [], dW d 0, 4⟩
  | .st g a ad => some ⟨0x81, g, [(14, a.toNat), (0, ad.toNat)], [vR a], [], 1⟩
  | .ldx g d x => some ⟨0x82, g, [(14, d.toNat), (0, x.toNat)], [], dW d 0, 4⟩
  | .stx g a x => some ⟨0x83, g, [(14, a.toNat), (0, x.toNat)], [vR a], [], 1⟩
  | .ldr g d i k => some ⟨0x84, g, [(14, d.toNat), (8, i.toNat), (4, k.toNat)], [vR i], dW d 0, 4⟩
  | .str g a i k => some ⟨0x85, g, [(14, a.toNat), (8, i.toNat), (4, k.toNat)], [vR a, vR i], [], 1⟩
  | .strc g a i k q qi =>
    some ⟨0x86, g, [(14, a.toNat), (8, i.toNat), (4, k.toNat), (1, q.toNat), (0, bN qi)], [vR a, vR i, pR q], [], 1⟩
  | .tint g d x k rm =>
    some ⟨0x88, g, [(14, d.toNat), (8, x.toNat), (4, k.toNat), (3, bN rm)], [vR x], dW d 0, 6⟩
  | .prd g d pa => some ⟨0xC0, g, [(14, d.toNat), (0, pa.toNat)], [], dW d 0, 2⟩
  | .pwr g a pa => some ⟨0xC1, g, [(14, a.toNat), (0, pa.toNat)], [vR a], [], 1⟩
  | .pwri g imm pa => some ⟨0xC2, g, [(12, imm.toNat), (0, pa.toNat)], [], [], 1⟩
  | _ => none

/-- Whatever the unit. -/
def opInfo (i : Instr) : Option OpInfo :=
  (macInfo i).or ((trigInfo i).or ((arithInfo i).or ((logicInfo i).or (memInfo i))))

/-- The slot word: opcode, guard, fields, everything else 0 (03 Tables 3-2, 3-3). -/
def OpInfo.word (x : OpInfo) : Word :=
  BitVec.ofNat 32 (x.fields.foldl (fun n f => n + f.2 * 2 ^ f.1) (x.op * 2 ^ 24 + bN x.g.gi * 2 ^ 23 + x.g.gp.toNat * 2 ^ 20))

/-- The word of a slot operation. -/
def encodeSlot (i : Instr) : Word :=
  match opInfo i with
  | some x => x.word
  | none => 0

/-- Registers read, the guard's predicate and the conditions among them; P0 reads as 1 and is left out (03 R106). -/
def OpInfo.readSet (x : OpInfo) : List Nat := ((64 + x.g.gp.toNat) :: x.reads).filter fun r => decide (r ≠ 64)

end Sys2Proof.Machine
end

