-- ==== Sys2Proof/Machine/Mould.lean ====
section
/-! DEFINITION. The mould image (04 R107, R108) and the mould check (04 R113 to R116, Table 4-4): the checks in the order
of the table, each answering the failure code, the byte offset of the offending item and its issue cycle, and what the
device keeps of an image that passes. Offsets of an item are DESIGN CHOICE where the spec names none (log entry 23). -/

namespace Sys2Proof.Machine

/-! ### Images as bytes -/

/-- The `n` bytes of a buffer from address `a` on, given that the buffer lists nothing below `a`. -/
def Mem.expand : Mem → Nat → Nat → List Byte
  | _, _, 0 => []
  | [], _, n + 1 => List.replicate (n + 1) emptyByte
  | (j, v) :: t, a, n + 1 => if j = a then v :: Mem.expand t (a + 1) n else emptyByte :: Mem.expand ((j, v) :: t) (a + 1) n

/-- Bytes as a buffer from address 0. -/
def Mem.ofBytes (l : List Byte) : Mem :=
  ((List.range l.length).zip l).filter fun x => decide (x.2 ≠ emptyByte)

/-- One entry of the section table, with its own offset (04 R108). -/
structure Sect where
  ty : List Byte
  off : Nat
  len : Nat
  crc : Nat
  ent : Nat
  deriving DecidableEq, Repr

def tyCode : List Byte := [0x43, 0x4F, 0x44, 0x45]
def tyData : List Byte := [0x44, 0x41, 0x54, 0x41]
def tyTabl : List Byte := [0x54, 0x41, 0x42, 0x4C]
def tyPmap : List Byte := [0x50, 0x4D, 0x41, 0x50]
def tyParm : List Byte := [0x50, 0x41, 0x52, 0x4D]
def tyCary : List Byte := [0x43, 0x41, 0x52, 0x59]
def tyCert : List Byte := [0x43, 0x45, 0x52, 0x54]
def tySig : List Byte := [0x53, 0x49, 0x47, 0x20]
def sectTypes : List (List Byte) := [tyCode, tyData, tyTabl, tyPmap, tyParm, tyCary, tyCert, tySig]

/-- The section table (04 R108). -/
def imgSects (b : List Byte) : List Sect :=
  (List.range (Nat.min 8 (leAt b 0x0A 2))).map fun i =>
    let e := leAt b 0xD0 4 + 16 * i
    { ty := sliceB b e 4, off := leAt b (e + 4) 4, len := leAt b (e + 8) 4, crc := leAt b (e + 12) 4, ent := e }

/-- The entry of a section, and its bytes; none and no bytes where it is absent. -/
def findSect (b : List Byte) (ty : List Byte) : Option Sect := (imgSects b).find? fun x => decide (x.ty = ty)
def sectBytes (b : List Byte) (ty : List Byte) : List Byte :=
  match findSect b ty with
  | some x => sliceB b x.off x.len
  | none => []
def sectOff (b : List Byte) (ty : List Byte) : Nat :=
  match findSect b ty with
  | some x => x.off
  | none => leAt b 0xD0 4

/-- Consecutive entries of `n` bytes. -/
def entries (n k : Nat) (l : List Byte) : List (List Byte) := (List.range k).map fun i => sliceB l (n * i) n

/-- A byte and a halfword of the header. -/
def h8 (b : List Byte) (o : Nat) : Nat := leAt b o 1
def h16 (b : List Byte) (o : Nat) : Nat := leAt b o 2
def h32 (b : List Byte) (o : Nat) : Nat := leAt b o 4

/-- DRANGE or TRANGE (Table 4-1). -/
def hRange (b : List Byte) (o : Nat) : Rng := ⟨h16 b o, h16 b (o + 2)⟩

/-- A range lies within another. -/
def Rng.inside (x y : Rng) : Bool := decide (y.base ≤ x.base) && decide (x.base + x.len ≤ y.base + y.len)

/-- RDk as declared (Table 4-1). -/
def hRd (b : List Byte) (k : Nat) : Option Rng :=
  if (h16 b 0x3C).testBit k then some ⟨h16 b (0x40 + 4 * k), h16 b (0x42 + 4 * k) + 1⟩ else none

/-! ### Entries (Table 4-3, Table 14-3a) -/

def pwinOf (l : List Byte) : PWin := { pa := leAt l 0 2, kind := leAt l 2 1, first := leAt l 4 2, last := leAt l 6 2 }

def runDescOf (l : List Byte) : RunDesc :=
  { start := leAt l 0 2, hmask := BitVec.ofNat 16 (leAt l 2 2), dev := leAt l 4 1, cmd := l.getD 5 0
    addr := BitVec.ofNat 24 (leAt l 6 3), dir := leAt l 9 1, txlen := leAt l 10 1, rxlen := leAt l 11 1
    res := leAt l 12 1, resv := l.getD 13 0, done := leAt l 14 2, tx := sliceB l 16 8 }

def parEntOf (l : List Byte) : ParEnt :=
  { id := leAt l 0 2, xofs := leAt l 2 2, fmt := leAt l 4 1, dir := leAt l 5 1, min := BitVec.ofNat 32 (leAt l 8 4)
    max := BitVec.ofNat 32 (leAt l 12 4), dflt := BitVec.ofNat 32 (leAt l 16 4) }

def carEntOf (l : List Byte) : CarEnt :=
  { name := sliceB l 0 16, kind := leAt l 16 1, fmt := leAt l 17 1, count := leAt l 18 2, loc := leAt l 20 4 }

/-- Words of a section. -/
def sectWords (l : List Byte) : List Word := (List.range (l.length / 4)).map fun i => BitVec.ofNat 32 (leAt l (4 * i) 4)

/-! ### CODE -/

/-- A bundle of CODE with its issue cycle and its byte offset in CODE (03 R87). -/
structure CkBundle where
  cy : Nat
  off : Nat
  b : Bundle
  deriving DecidableEq, Repr

/-- The bundles of CODE, and the offset and issue cycle of the bundle where reading stops short of its end (code 0x10). -/
def readCode : Nat → List Byte → Nat → Nat → List CkBundle × Option (Nat × Nat)
  | 0, _, off, cy => ([], some (off, cy))
  | f + 1, l, off, cy =>
    if l.isEmpty then ([], none)
    else
      match takeBundle l with
      | none => ([], some (off, cy))
      | some b =>
        if fld b.hdr 31 24 ≠ 0 then ([], some (off, cy))
        else
          let r := readCode f (l.drop b.size) (off + b.size) (cy + 1 + hdrIdle b.hdr)
          (⟨cy, off, b⟩ :: r.1, r.2)

/-- One slot operation of CODE with its offset in the image. -/
structure CkOp where
  cy : Nat
  off : Nat
  unit : Nat
  w : Word
  ins : Option Instr
  deriving DecidableEq, Repr

/-- The slot operations of a bundle. -/
def CkBundle.ops (base : Nat) (x : CkBundle) : List CkOp :=
  ((List.range x.b.slots.length).zip x.b.slots).map fun y =>
    { cy := x.cy, off := base + x.off + 4 + 4 * y.1, unit := y.2.1, w := y.2.2, ins := decodeSlot y.2.1 y.2.2 }

def CkOp.info (x : CkOp) : Option OpInfo := x.ins.bind opInfo
def CkOp.writes (x : CkOp) : List Nat := match x.info with | some y => y.writes | none => []
def CkOp.reads (x : CkOp) : List Nat := match x.info with | some y => y.readSet | none => []
def CkOp.lat (x : CkOp) : Nat := match x.info with | some y => y.lat | none => 1

/-- The write-back cycle (02 R45). -/
def CkOp.wb (x : CkOp) : Nat := x.cy + x.lat - 1

/-! ### The checks -/

/-- A failure: code, byte offset, issue cycle (04 R113). -/
structure CkFail where
  code : Nat
  off : Nat
  cy : Nat
  deriving DecidableEq, Repr

/-- A check of an item without a cycle, and of a slot operation. -/
def ckIf (bad : Bool) (code off : Nat) : Option CkFail := if bad then some ⟨code, off, 0xFFFF⟩ else none
def ckOp (code : Nat) (bad : CkOp → Bool) (l : List CkOp) : Option CkFail :=
  (l.find? bad).map fun x => ⟨code, x.off, x.cy⟩

/-- The first failure of a list of checks (04 R113). -/
def firstFail (l : List (Option CkFail)) : Option CkFail := l.findSome? id

/-- Codes 0x01 to 0x04. -/
def ckIdentity (b : List Byte) (len : Nat) : Option CkFail :=
  firstFail [
    ckIf (decide (sliceB b 0 4 ≠ [0x4C, 0x59, 0x4D, 0x44])) 0x01 0,
    ckIf (decide (h16 b 4 ≠ 1)) 0x01 4,
    ckIf (decide (h16 b 6 ≠ 0x0480)) 0x01 6,
    ckIf (decide (0x11 < h8 b 8)) 0x02 8,
    ckIf (decide (b.length < 256) || decide (h32 b 0xFC ≠ (crc32c (b.take 0xFC)).toNat)) 0x03 0xFC,
    ckIf (decide (h32 b 0x0C ≠ len) || decide (524288 < len)) 0x04 0x0C]

/-- The entries of the section table in order: `prev` is where the last one ended (04 R108). A TYPE that comes a second
time fails here too (log entry 134). -/
def ckTable (b : List Byte) (n : Nat) : List Sect → Nat → List (List Byte) → Nat → Option CkFail
  | [], _, _, _ => none
  | x :: t, prev, seen, i =>
    let bad := !sectTypes.contains x.ty || seen.contains x.ty || !decide (x.off % 4 = 0) || decide (x.off < prev) ||
      decide (b.length < x.off + x.len) || (decide (0 < i) && (sliceB b prev (x.off - prev)).any (fun y => decide (y ≠ 0))) ||
      (decide (x.ty = tySig) &&
        !(decide (i + 1 = n) && decide (x.len = 64) && decide (x.off + x.len = b.length)))
    if bad then some ⟨0x05, x.ent, 0xFFFF⟩ else ckTable b n t (x.off + x.len) (x.ty :: seen) (i + 1)

/-- A section's length against the header counts (04 R108). -/
def ckLen (b : List Byte) (ty : List Byte) (n : Nat) : Option CkFail :=
  match findSect b ty with
  | some x => ckIf (decide (x.len ≠ n)) 0x05 x.ent
  | none => none

/-- Code 0x05. -/
def ckSections (b : List Byte) : Option CkFail :=
  let n := h16 b 0x0A
  let so := h32 b 0xD0
  let missing (ty : List Byte) : Bool := (findSect b ty).isNone
  firstFail [
    ckIf (decide (n < 4) || decide (8 < n)) 0x05 0x0A,
    ckIf (decide (so ≠ 0x100)) 0x05 0xD0,
    ckIf (decide (b.length < so + 16 * n)) 0x05 so,
    ckTable b n (imgSects b) (so + 16 * n) [] 0,
    ckIf (missing tyCode || missing tyPmap || missing tyParm || missing tyCert) 0x05 so,
    ckIf (missing tyCary == decide (0 < h16 b 0xAE)) 0x05 so,
    ckLen b tyPmap (8 * h16 b 0xAC + 24 * h8 b 0xAA),
    ckLen b tyParm (32 * h16 b 0xB0),
    ckLen b tyCary (24 * h16 b 0xAE),
    ckLen b tyCert (16 + 8 * leAt (sectBytes b tyCert) 8 4)]

/-- Code 0x06. -/
def ckSectCrc (b : List Byte) : Option CkFail :=
  ((imgSects b).find? fun x => decide ((crc32c (sliceB b x.off x.len)).toNat ≠ x.crc)).map fun x => ⟨0x06, x.ent, 0xFFFF⟩

/-- Tick periods of Table 1-1. -/
def tperListed (t : Nat) : Bool := [20000, 16000, 12500, 10000, 8000, 6250, 5000].contains t

/-- Codes 0x07 to 0x0A. A DATA or TABL section that is no whole number of words fails under 0x09 (log entry 134). -/
def ckHeader (b : List Byte) : Option CkFail :=
  let tper := h16 b 0x10
  let dr := hRange b 0x30
  let tr := hRange b 0x34
  let fits (ty : List Byte) (r : Rng) : Bool :=
    match findSect b ty with
    | some x => decide (x.len % 4 = 0) && decide (x.len ≤ 4 * r.len)
    | none => true
  firstFail ([
    ckIf (!tperListed tper) 0x07 0x10,
    ckIf (decide (6 < h8 b 0x12) || decide (tperOf (BitVec.ofNat 3 (h8 b 0x12)) ≠ tper)) 0x07 0x12,
    ckIf (decide (h16 b 0x18 < 560) || decide (800 < h16 b 0x18)) 0x08 0x18,
    ckIf (decide (h16 b 0x1A < 1) || decide (tper - 1 < h16 b 0x1A)) 0x08 0x1A,
    ckIf (decide (h16 b 0x1C ≠ tper - 600)) 0x08 0x1C,
    ckIf (decide (h8 b 0x1E ≠ 15)) 0x08 0x1E,
    ckIf (!(decide (h16 b 0x20 ≤ h16 b 0x22) && decide (h16 b 0x22 ≤ h16 b 0x24) && decide (h16 b 0x24 < tper))) 0x08 0x20,
    ckIf (decide (2048 < h16 b 0x38)) 0x08 0x38,
    ckIf (decide (2048 < h16 b 0x3A)) 0x08 0x3A,
    ckIf (decide (16 < h8 b 0xA8)) 0x08 0xA8,
    ckIf (decide (4 < h8 b 0xA9)) 0x08 0xA9,
    ckIf (decide (32 < h8 b 0xAA)) 0x08 0xAA,
    ckIf (decide (65536 < dr.base + dr.len)) 0x09 0x30,
    ckIf (decide (65536 < tr.base + tr.len)) 0x09 0x34,
    ckIf (decide (dr.len ≠ 0) && decide (tr.len ≠ 0) && decide (dr.base < tr.base + tr.len) &&
      decide (tr.base < dr.base + dr.len)) 0x09 0x34,
    ckIf (!fits tyData dr) 0x09 0x30,
    ckIf (!fits tyTabl tr) 0x09 0x34] ++
    (List.range 16).map (fun k =>
      match hRd b k with
      | some r => ckIf (!(r.inside dr || r.inside tr)) 0x09 (0x40 + 4 * k)
      | none => none) ++
    [ckIf (decide (leAt (sectBytes b tyCert) 4 4 ≠ 0x04800011)) 0x0A (sectOff b tyCert + 4)])

/-- Codes 0x31 and 0x30, in FIELD only. -/
def ckSign (lc : Lc) (b : List Byte) : Option CkFail :=
  if lc.st ≠ 2 then none
  else
    let vendor := (h8 b 9).testBit 0
    let key := if vendor then some Config.vendorKey else lc.mkey
    match key with
    | none => some ⟨0x31, 9, 0xFFFF⟩
    | some k =>
      match findSect b tySig with
      | none => some ⟨0x30, h32 b 0xD0, 0xFFFF⟩
      | some x => ckIf (!ecdsaVerifies k (b.take x.off) (sliceB b x.off 64)) 0x30 x.off

/-- SC = 3 in a multiply of format MA (03 R90, R92). -/
def OpInfo.badMode (x : OpInfo) : Bool :=
  decide (1 ≤ x.op) && decide (x.op ≤ 3) && x.fields.any fun f => decide (f = (4, 3))

/-- Codes 0x11 to 0x13 for one slot word. -/
def CkOp.badOp (x : CkOp) : Bool := match x.info with | some y => y.badMode | none => true
def CkOp.badZero (x : CkOp) : Bool := match x.info with | some y => decide (y.word ≠ x.w) | none => true
def CkOp.badReg (x : CkOp) : Bool := x.writes.contains 64

/-- Code 0x16: an operation that writes a register in a cycle in which an earlier one of the list does. -/
def ckSingle : List CkOp → List (Nat × Nat) → Option CkFail
  | [], _ => none
  | x :: t, seen =>
    let mine := x.writes.map fun r => (r, x.wb)
    if mine.any seen.contains then some ⟨0x16, x.off, x.cy⟩ else ckSingle t (mine ++ seen)

/-- Code 0x17 for one dependence entry (03 R106). -/
def depReal (l : List CkOp) (d : List Byte) : Bool :=
  let r := leAt d 4 1
  let ccy := leAt d 2 2
  match l.find? (fun x => decide (x.cy = leAt d 0 2) && decide (x.unit = leAt d 5 1)),
      l.find? (fun x => decide (x.cy = ccy) && decide (x.unit = leAt d 6 1)) with
  | some p, some c =>
    p.writes.contains r && c.reads.contains r && decide (p.wb < ccy) &&
      !l.any fun x => x.writes.contains r && decide (p.wb < x.wb) && decide (x.wb < ccy)
  | _, _ => false

/-- Code 0x17. The cycle reported is the entry's CCY (log entry 23). -/
def ckDeps (b : List Byte) (l : List CkOp) : Option CkFail :=
  let c := sectBytes b tyCert
  let n := leAt c 8 4
  ((List.range n).find? fun i => !depReal l (sliceB c (16 + 8 * i) 8)).map fun i =>
    ⟨0x17, sectOff b tyCert + 16 + 8 * i, leAt c (18 + 8 * i) 2⟩

/-- Code 0x18: a direct address outside the declared ranges, or an undeclared descriptor (02 R55). -/
def badAddr (b : List Byte) (x : CkOp) : Bool :=
  let inD (a : Nat) : Bool := (Rng.mk a 1).inside (hRange b 0x30) || (Rng.mk a 1).inside (hRange b 0x34)
  match x.ins with
  | some (.ld _ _ a) => !inD a.toNat
  | some (.st _ _ a) => !inD a.toNat
  | some (.ldx _ _ o) =>
    if o.toNat < 2048 then decide (h16 b 0x38 ≤ o.toNat) else decide (2048 + h16 b 0x3A ≤ o.toNat)
  | some (.stx _ _ o) => decide (o.toNat < 2048) || decide (2048 + h16 b 0x3A ≤ o.toNat)
  | some (.ldr _ _ _ k) => (hRd b k.toNat).isNone
  | some (.str _ _ _ k) => (hRd b k.toNat).isNone
  | some (.strc _ _ _ k _ _) => (hRd b k.toNat).isNone
  | some (.tint _ _ _ k _) => (hRd b k.toNat).isNone
  | _ => false

/-- Code 0x19. -/
def badTint (b : List Byte) (x : CkOp) : Bool :=
  match x.ins with
  | some (.tint _ _ _ k _) => match hRd b k.toNat with | some r => decide (r.len < 2) | none => true
  | _ => false

/-- The port address of an operation, and whether it writes. -/
def CkOp.port (x : CkOp) : Option (Nat × Bool) :=
  match x.ins with
  | some (.prd _ _ pa) => some (pa.toNat, false)
  | some (.pwr _ _ pa) => some (pa.toNat, true)
  | some (.pwri _ _ pa) => some (pa.toNat, true)
  | _ => none

/-- Code 0x1A. -/
def badPort (x : CkOp) : Bool :=
  match x.port with
  | some (pa, w) => !(if w then portWritable pa else portReadable pa)
  | none => false

/-- A cycle lies in a window; FIRST > LAST runs across the tick boundary (Table 4-3). -/
def PWin.has (w : PWin) (cy : Nat) : Bool :=
  if w.first ≤ w.last then decide (w.first ≤ cy) && decide (cy ≤ w.last) else decide (w.first ≤ cy) || decide (cy ≤ w.last)

/-- ADRV and ADRT. -/
def isAdr (pa : Nat) : Bool := decide (pa = 0x100 ∨ pa = 0x101)

/-- The port windows the image declares. -/
def imgWindows (b : List Byte) : List PWin := (entries 8 (h16 b 0xAC) (sectBytes b tyPmap)).map pwinOf

/-- Code 0x1B: outside every declared window of its PA. -/
def badWindow (ws : List PWin) (x : CkOp) : Bool :=
  match x.port with
  | some (pa, w) => !ws.any fun y => decide (y.pa % 4096 = pa) && y.has x.cy &&
      (if w then decide (y.kind = 1) else decide (y.kind = 0) || (decide (y.kind = 2) && isAdr pa))
  | none => false

/-- PCTLn.IMM as the check follows it for one axis: it may be 1, it surely is 1 (07 R220: 0 at cy 0). -/
structure ImmKnow where
  may : Bool := false
  sure : Bool := false
  deriving DecidableEq, Repr

/-- A PCTLn write: PWRI gives its bit, a register is not known, a guarded write may not take place (02 R51). -/
def ImmKnow.pctl (k : ImmKnow) (x : CkOp) : ImmKnow :=
  let v : ImmKnow := match x.ins with
    | some (.pwri _ imm _) => ⟨imm.getLsbD 0, imm.getLsbD 0⟩
    | _ => ⟨true, false⟩
  let free := match x.info with | some y => decide (y.g.gp = 0) && !y.g.gi | none => true
  if free then v else ⟨k.may || v.may, k.sure && v.sure⟩

/-- The CMPn writes of axis n in order, with what is known of IMM as each issues. -/
def immTrace (n : Nat) : List CkOp → ImmKnow → List (CkOp × ImmKnow)
  | [], _ => []
  | x :: t, k =>
    match x.port with
    | some (pa, true) =>
      if pa = 0x304 + 0x20 * n then immTrace n t (k.pctl x)
      else if 0x300 + 0x20 * n ≤ pa ∧ pa ≤ 0x303 + 0x20 * n then (x, k) :: immTrace n t k
      else immTrace n t k
    | _ => immTrace n t k

/-- 16 R465: of the writes that can issue with IMM at 1, the fifth within 48 cycles; the next pour's follow this one's. -/
def immBurst : List CkOp → Option CkFail
  | a :: rest =>
    match rest.drop 3 with
    | e :: _ => if e.cy - a.cy < 48 then some ⟨0x1B, e.off, e.cy⟩ else immBurst rest
    | [] => none
  | [] => none

def ckBurst (tper : Nat) (l : List CkOp) : Option CkFail :=
  firstFail ((List.range 4).map fun n =>
    let w := ((immTrace n l {}).filter fun y => y.2.may).map Prod.fst
    immBurst (w ++ w.map fun x => { x with cy := x.cy + tper }))

/-- Code 0x1C for one port access (01 R21, R22): sense reads from UPL on, CMPn writes that are not surely immediate and
LINKCTLn writes up to DLD, each with its axis in AXMASK. PCTLn writes are not bound, and immediate CMPn writes only by
AXMASK: outside START they are shadow writes (07 R223). -/
def badTime (b : List Byte) (l : List CkOp) (x : CkOp) : Bool :=
  let tper := h16 b 0x10
  let ofs (n : Nat) : Nat := if n = 0 then 0 else h16 b (0x1E + 2 * n)
  let inMask (n : Nat) : Bool := (h8 b 0x13).testBit n
  let late (n : Nat) : Bool := decide ((h16 b 0x1C + ofs n) % tper < x.cy)
  match x.port with
  | some (pa, false) =>
    if pa < 0x100 then
      let n := pa / 0x40
      !inMask n || decide (x.cy < (h16 b 0x18 + ofs n) % tper)
    else false
  | some (pa, true) =>
    if 0x300 ≤ pa ∧ pa < 0x380 then
      let n := (pa - 0x300) / 0x20
      let sure := (immTrace n l {}).any fun y => decide (y.1.off = x.off) && y.2.sure
      !decide (pa % 0x20 = 4) && (!inMask n || (!sure && late n))
    else if 0x380 ≤ pa ∧ pa < 0x384 then !inMask (pa - 0x380) || late (pa - 0x380)
    else false
  | none => false

/-- RUNRES words of a descriptor (14 R428). -/
def RunDesc.words (d : RunDesc) : Nat := 1 + (d.rxlen + 3) / 4

/-- Field ranges of Table 14-3a, C against DONE and TPER, and the end of the result words (14 R427). -/
def RunDesc.bad (r : Runner) (tper : Nat) (d : RunDesc) : Bool :=
  let c := r.doneAt d.dev (decide (d.dir = 0)) d.txlen d.rxlen d.start
  decide (d.dev < 1) || decide (7 < d.dev) || decide (1 < d.dir) || decide (8 < d.txlen) || decide (32 < d.rxlen) ||
    (decide (d.dir = 1) && decide (d.rxlen ≠ 0)) || decide (127 < d.res) || decide (d.resv ≠ 0) ||
    decide (d.done < c) || decide (tper < c) || decide (128 < d.res + d.words)

/-- Two descriptors clash: result words overlap, or they can run in one tick and break the gap (14 R427). -/
def RunDesc.clash (r : Runner) (d e : RunDesc) : Bool :=
  let c (x : RunDesc) : Nat := r.doneAt x.dev (decide (x.dir = 0)) x.txlen x.rxlen x.start + r.idle x.dev
  let ordered := decide (c d ≤ e.start) || decide (c e ≤ d.start)
  (decide (d.res < e.res + e.words) && decide (e.res < d.res + d.words)) || (decide (d.hmask &&& e.hmask ≠ 0) && !ordered)

/-- The index of the first descriptor that breaks R427. -/
def ckRunAt (r : Runner) (tper : Nat) : List RunDesc → List RunDesc → Nat → Option (Nat × RunDesc)
  | [], _, _ => none
  | d :: t, before, i =>
    if d.bad r tper || before.any (fun e => d.clash r e) then some (i, d) else ckRunAt r tper t (d :: before) (i + 1)

/-- The descriptors the image declares. -/
def imgRun (b : List Byte) : List RunDesc :=
  (entries 24 (h8 b 0xAA) ((sectBytes b tyPmap).drop (8 * h16 b 0xAC))).map runDescOf

/-- 14 R427. The cycle reported is the descriptor's START (log entry 23). -/
def ckRunner (r : Runner) (b : List Byte) : Option CkFail :=
  (ckRunAt r (h16 b 0x10) (imgRun b) [] 0).map fun x =>
    ⟨0x1D, sectOff b tyPmap + 8 * h16 b 0xAC + 24 * x.1, x.2.start⟩

/-- Code 0x1D for a port read: ADR slots, and Runner results no earlier than DONE (02 R63). -/
def badResult (b : List Byte) (ws : List PWin) (x : CkOp) : Bool :=
  match x.port with
  | some (pa, false) =>
    if isAdr pa then !ws.any fun y => decide (y.pa % 4096 = pa) && y.has x.cy && decide (y.kind = 2)
    else if 0x200 ≤ pa ∧ pa < 0x280 then
      (imgRun b).any fun d => decide (d.res ≤ pa - 0x200) && decide (pa - 0x200 < d.res + d.words) && decide (x.cy < d.done)
    else false
  | _ => false

/-- Codes 0x10 to 0x1F over CODE. -/
def ckCode (r : Runner) (b : List Byte) : Option CkFail :=
  let code := sectBytes b tyCode
  let base := sectOff b tyCode
  let c := readCode (code.length + 1) code 0 0
  let l := c.1.flatMap fun x => x.ops base
  let total := (c.1.map fun x => 1 + hdrIdle x.b.hdr).foldl (fun a n => a + n) 0
  let tper := h16 b 0x10
  let ws := imgWindows b
  firstFail [
    c.2.map fun o => ⟨0x10, base + o.1, o.2⟩,
    ckOp 0x11 CkOp.badOp l,
    ckOp 0x12 CkOp.badZero l,
    ckOp 0x13 CkOp.badReg l,
    ckIf (decide (total ≠ h32 b 0x14) || decide (total ≠ tper)) 0x14 0x14,
    ckOp 0x15 (fun x => decide (tper ≤ x.wb)) l,
    ckSingle l [],
    ckDeps b l,
    ckOp 0x18 (badAddr b) l,
    ckOp 0x19 (badTint b) l,
    ckOp 0x1A badPort l,
    ckOp 0x1B (badWindow ws) l,
    (ckBurst tper l).map fun f => { f with cy := f.cy % tper },
    ckOp 0x1C (badTime b l) l,
    ckRunner r b,
    ckOp 0x1D (badResult b ws) l,
    ckIf (decide (l.length ≠ h32 b 0x2C)) 0x1E 0x2C,
    ckIf (decide ((crc32c (c.1.flatMap fun x => x.b.stream)).toNat ≠ h32 b 0x28)) 0x1F 0x28]

/-- Code 0x20 for one PARAM entry, given the IDs before it. -/
def parBad (b : List Byte) (seen : List Nat) (e : ParEnt) : Bool :=
  decide (3 < e.fmt) || decide (1 < e.dir) || seen.contains e.id || !e.inRange e.dflt ||
    (if e.dir = 0 then decide (h16 b 0x38 ≤ e.xofs)
     else decide (e.xofs < 2048) || decide (2048 + h16 b 0x3A ≤ e.xofs))

/-- Code 0x21 for one CARRY entry, given the names before it. -/
def carBad (b : List Byte) (seen : List (List Byte)) (e : CarEnt) : Bool :=
  let fmtOk := match e.kind with
    | 1 => decide (e.fmt = 4)
    | 2 => decide (e.fmt = 5)
    | _ => decide (e.fmt ≤ 3)
  let r : Rng := ⟨e.loc, e.count⟩
  let locOk := match e.kind with
    | 0 => decide (e.loc + e.count ≤ 64)
    | 1 => decide (e.loc + e.count ≤ 8)
    | 2 => decide (e.loc + e.count ≤ 8)
    | _ => r.inside (hRange b 0x30) || r.inside (hRange b 0x34)
  decide (3 < e.kind) || seen.contains e.name || !fmtOk || !locOk

/-- The first bad entry of a list of entries of `sz` bytes from offset `o`. -/
def ckEntries {α β : Type} (code sz : Nat) (bad : List β → α → Bool) (key : α → β) :
    List α → List β → Nat → Option CkFail
  | [], _, _ => none
  | e :: t, seen, o => if bad seen e then some ⟨code, o, 0xFFFF⟩ else ckEntries code sz bad key t (key e :: seen) (o + sz)

def imgPar (b : List Byte) : List ParEnt := (entries 32 (h16 b 0xB0) (sectBytes b tyParm)).map parEntOf
def imgCar (b : List Byte) : List CarEnt := (entries 24 (h16 b 0xAE) (sectBytes b tyCary)).map carEntOf

/-- The mould check over an exact byte range (04 R113). -/
def mouldCheck (lc : Lc) (r : Runner) (b : List Byte) (len : Nat) : Option CkFail :=
  firstFail [
    ckIdentity b len,
    ckSections b,
    ckSectCrc b,
    ckHeader b,
    ckSign lc b,
    ckCode r b,
    ckEntries 0x20 32 (parBad b) ParEnt.id (imgPar b) [] (sectOff b tyParm),
    ckEntries 0x21 24 (carBad b) CarEnt.name (imgCar b) [] (sectOff b tyCary)]

/-- HCRC and every SCRC of a copy (04 Table 4-5). -/
def imageCrcOk (b : List Byte) : Bool :=
  decide (256 ≤ b.length) && decide (h32 b 0xFC = (crc32c (b.take 0xFC)).toNat) && (ckSectCrc b).isNone

/-- What the device holds of an image that passed (04 R107). -/
def parseMould (b : List Byte) : MouldInfo :=
  let code := sectBytes b tyCode
  let l := (readCode (code.length + 1) code 0 0).1.flatMap fun x => x.ops 0
  { std := none
    id := BitVec.ofNat 32 (h32 b 0xB4)
    ver := BitVec.ofNat 32 (h32 b 0xB8)
    imgLen := h32 b 0x0C
    tper := h16 b 0x10
    rate := BitVec.ofNat 3 (h8 b 0x12)
    axmask := BitVec.ofNat 4 (h8 b 0x13)
    upl := h16 b 0x18
    xp := h16 b 0x1A
    dld := h16 b 0x1C
    ofs := ⟨0, h16 b 0x20, h16 b 0x22, h16 b 0x24⟩
    psigx := BitVec.ofNat 32 (h32 b 0x28)
    ops := l.length
    xu4 := (l.filter fun x => decide (x.unit = 4)).length
    drange := hRange b 0x30
    trange := hRange b 0x34
    xin := h16 b 0x38
    xout := h16 b 0x3A
    rd := (List.range 16).map (hRd b)
    seqreg := (List.range (h8 b 0xA8)).map fun i => BitVec.ofNat 16 (h16 b (0x80 + 2 * i))
    seqinj := (List.range (h8 b 0xA9)).map fun i => BitVec.ofNat 16 (h16 b (0xA0 + 2 * i))
    pwin := imgWindows b
    run := imgRun b
    par := imgPar b
    car := imgCar b
    data := sectWords (sectBytes b tyData)
    tabl := sectWords (sectBytes b tyTabl)
    code := code }

/-- Bytes of an image held as bytes. -/
def Image.bytes : Image → List Byte
  | .raw len cells => Mem.expand cells 0 len
  | .std _ => []
def Image.len : Image → Nat
  | .raw len _ => len
  | .std c => (stdInfo c).imgLen

/-- The check of an image; a vendor standard mould passes (04 R132, log entry 11). -/
def Image.check (lc : Lc) (r : Runner) : Image → Option CkFail
  | .raw len cells => mouldCheck lc r (Mem.expand cells 0 len) len
  | .std _ => none

/-- HCRC and every SCRC of an image. -/
def Image.crcOk : Image → Bool
  | .raw len cells => imageCrcOk (Mem.expand cells 0 len)
  | .std _ => true

/-- The declarations of an image. -/
def Image.info : Image → MouldInfo
  | .raw len cells => parseMould (Mem.expand cells 0 len)
  | .std c => stdInfo c

/-- R427 repeated at activation: whether the mould's descriptors still meet it. -/
def MouldInfo.runOk (m : MouldInfo) (r : Runner) : Bool := (ckRunAt r m.tper m.run [] 0).isNone

end Sys2Proof.Machine
end

