-- ==== Sys2Proof/Machine/Packets.lean ====
section
/-! DEFINITION. Sorac packets (11): the layout of requests and replies, the checks of R342, and the queries, parameters,
jobs and journal opcodes of Tables 11-8 to 11-10. -/

namespace Sys2Proof.Machine

/-! ### Fields of a request (Table 11-1) -/

def pOpc (p : List Byte) : Nat := leAt p 0 2
def pFlags (p : List Byte) : BitVec 8 := BitVec.ofNat 8 (leAt p 2 1)
def pAx (p : List Byte) : BitVec 8 := BitVec.ofNat 8 (leAt p 3 1)
def pSeq (p : List Byte) : Word := BitVec.ofNat 32 (leAt p 4 4)
def pLen (p : List Byte) : Nat := leAt p 8 2

/-- `n` bytes of the parameters from offset `o`, as a number. -/
def pPar (p : List Byte) (o n : Nat) : Nat := leAt p (12 + o) n

/-- The parameter bytes. -/
def pBody (p : List Byte) : List Byte := sliceB p 12 (pLen p)

/-- The axis an AXMASK with one bit names. -/
def pAxis (p : List Byte) : Fin 4 :=
  if (pAx p).getLsbD 0 then 0 else if (pAx p).getLsbD 1 then 1 else if (pAx p).getLsbD 2 then 2 else 3

/-- PERSIST is 1 (Table 11-3). -/
def pPersist (p : List Byte) : Bool := (pFlags p).getLsbD 2

/-- A refusal of a packet, and its OK reply without a record (R338, R341). -/
def refuse (p : List Byte) (st dcode dofs : Nat) : Reply := refusal (pOpc p) (pSeq p) st dcode dofs
def accept (p : List Byte) (data : List Byte) : Reply := okReply (pOpc p) (pSeq p) data

/-- A refusal when a condition holds. -/
def refuseIf (b : Bool) (r : Reply) : Option Reply := if b then some r else none

/-- The first check that fails decides the reply (R342). -/
def firstRefusal (l : List (Option Reply)) : Option Reply := l.findSome? id

/-- A reply as it leaves the outlet (Table 11-2). -/
def Reply.head (r : Reply) : List Byte :=
  leBytes 2 r.opc ++ leBytes 1 r.status ++ leBytes 1 r.disp ++ leBytes 4 r.seq.toNat ++ leBytes 2 r.data.length ++
    leBytes 2 r.jidx ++ r.data
def Reply.bytes (r : Reply) : List Byte := r.head ++ leBytes 4 (crc32c r.head).toNat

/-! ### The opcode tables -/

/-- How many axes an opcode names (R340). -/
inductive AxRule where
  | none | one | any | byFunc | byIface
  deriving DecidableEq, Repr

/-- Device states a row lists. -/
inductive StRule where
  /-- Rd Rn Sf TL: the queries. -/
  | query
  /-- Rd Rn Sf. -/
  | safe
  /-- Rd Rn. -/
  | live
  /-- Rd. -/
  | ready
  deriving DecidableEq, Repr

/-- A row of Tables 11-8 and 11-10: parameter bytes before any list, bytes per listed entry, reserved parameter bytes,
axes, device states, FLAGS honoured. -/
structure OpRow where
  opc : Nat
  len : Nat
  ent : Nat
  resv : List Nat
  ax : AxRule
  st : StRule
  flags : BitVec 8
  deriving DecidableEq, Repr

/-- Table 11-8. -/
def queryRows : List OpRow := [
  ⟨0x0101, 0, 0, [], .none, .query, 0⟩,
  ⟨0x0102, 0, 0, [], .none, .query, 0⟩,
  ⟨0x0103, 0, 0, [], .one, .query, 0⟩,
  ⟨0x0104, 8, 0, [6, 7], .none, .query, 0⟩,
  ⟨0x0202, 4, 2, [2, 3], .none, .query, 0⟩,
  ⟨0x0501, 4, 0, [], .none, .query, 0⟩,
  ⟨0x0502, 4, 0, [], .none, .query, 0⟩,
  ⟨0x0801, 0, 0, [], .none, .query, 0⟩,
  ⟨0x0901, 0, 0, [], .none, .query, 0⟩]

/-- The jobs and the configuration opcodes of Table 11-10. -/
def jobRows : List OpRow := [
  ⟨0x0201, 4, 8, [2, 3], .none, .safe, 4⟩,
  ⟨0x0203, 0, 0, [], .none, .safe, 0⟩,
  ⟨0x0301, 16, 0, [], .one, .live, 3⟩,
  ⟨0x0302, 12, 0, [], .one, .live, 3⟩,
  ⟨0x0303, 4, 0, [1, 2, 3], .one, .live, 3⟩,
  ⟨0x0304, 0, 0, [], .one, .live, 1⟩,
  ⟨0x0305, 0, 0, [], .one, .live, 3⟩,
  ⟨0x0306, 0, 0, [], .one, .live, 3⟩,
  ⟨0x0307, 0, 0, [], .one, .live, 3⟩,
  ⟨0x0308, 0, 0, [], .one, .live, 1⟩,
  ⟨0x0309, 4, 0, [], .one, .safe, 1⟩]

/-- Moulds and system of Table 11-10. -/
def sysRows : List OpRow := [
  ⟨0x0401, 4, 0, [], .none, .safe, 0⟩,
  ⟨0x0403, 0, 0, [], .none, .safe, 0⟩,
  ⟨0x0404, 0, 0, [], .none, .safe, 0⟩,
  ⟨0x0405, 4, 0, [1, 2, 3], .none, .live, 0⟩,
  ⟨0x0406, 4, 0, [2, 3], .none, .safe, 0⟩,
  ⟨0x0503, 4, 0, [], .none, .safe, 0⟩,
  ⟨0x0601, 4, 0, [2, 3], .byFunc, .safe, 0⟩,
  ⟨0x0602, 4, 0, [], .none, .safe, 0⟩,
  ⟨0x0603, 0, 0, [], .none, .ready, 0⟩,
  ⟨0x0604, 0, 0, [], .any, .safe, 0⟩,
  ⟨0x0701, 8, 0, [], .byIface, .safe, 0⟩,
  ⟨0x0702, 4, 0, [], .none, .ready, 0⟩,
  ⟨0x0802, 12, 0, [1, 2, 3], .none, .ready, 0⟩,
  ⟨0x0803, 0, 0, [], .none, .ready, 0⟩,
  ⟨0x0804, 128, 0, [], .none, .ready, 0⟩,
  ⟨0x0805, 68, 0, [1, 2, 3], .none, .ready, 0⟩]

def opRows : List OpRow := queryRows ++ jobRows ++ sysRows

/-- The row of an opcode. -/
def opRow (opc : Nat) : Option OpRow := opRows.find? fun r => decide (r.opc = opc)

/-! ### Checks 1 to 6 of R342 -/

/-- R339: PLEN, the length, the length the opcode requires, the CRC. -/
def ckPacket (row : Option OpRow) (p : List Byte) : Option Reply :=
  let n := pLen p
  let need := match row with
    | some r => r.len + r.ent * (if r.ent = 0 then 0 else pPar p 0 2)
    | none => n
  firstRefusal [
    refuseIf (decide (1024 < n) || decide (p.length ≠ 16 + n) || decide (n ≠ need)) (refuse p stBadParam 2 8),
    refuseIf (decide ((crc32c (p.take (12 + n))).toNat ≠ leAt p (12 + n) 4)) (refuse p stBadParam 1 (12 + n))]

/-- Whether AXMASK matches the opcode (R340). IFACE above 6 asks for at most one axis (log entry 8). -/
def OpRow.axOk (r : OpRow) (p : List Byte) : Bool :=
  let m := fld ((pAx p).setWidth 32) 3 0
  let one := decide (m = 1 ∨ m = 2 ∨ m = 4 ∨ m = 8)
  match r.ax with
  | .none => decide (m = 0)
  | .one => one
  | .any => true
  | .byFunc => if pPar p 0 1 ≤ 1 then one else decide (m = 0)
  | .byIface =>
    if 2 ≤ pPar p 0 1 ∧ pPar p 0 1 ≤ 4 then one
    else if pPar p 0 1 ≤ 6 then decide (m = 0)
    else one || decide (m = 0)

/-- Offsets of every reserved parameter byte, those of list entries among them. -/
def OpRow.resvAll (r : OpRow) (p : List Byte) : List Nat :=
  if r.ent = 8 then r.resv ++ (List.range (pPar p 0 2)).flatMap fun i => [6 + 8 * i, 7 + 8 * i] else r.resv

/-- FLAGS, reserved fields and AXMASK (R340, log entry 25). -/
def OpRow.ckFields (r : OpRow) (p : List Byte) : Option Reply :=
  firstRefusal [
    refuseIf (decide (pFlags p &&& ~~~r.flags ≠ 0)) (refuse p stBadParam 3 2),
    refuseIf (decide (leAt p 10 2 ≠ 0)) (refuse p stBadParam 3 10),
    refuseIf (decide (16 ≤ (pAx p).toNat)) (refuse p stBadParam 3 3),
    ((r.resvAll p).find? fun o => decide (pPar p o 1 ≠ 0)).map fun o => refuse p stBadParam 3 (12 + o),
    refuseIf (!r.axOk p) (refuse p stBadAxis 0 3)]

/-- The SEQ-bearing packets (R352). -/
def seqBearing (p : List Byte) : Bool :=
  (decide (0x0301 ≤ pOpc p) && decide (pOpc p ≤ 0x0309)) || (decide (pOpc p = 0x0201) && pPersist p)

/-- SEQ 0, awaiting, duplicate, stale (R352 to R354). -/
def State.ckSeq (s : State) (p : List Byte) : Option Reply :=
  let q := pSeq p
  if !seqBearing p then none
  else if q = 0 then some (refuse p stBadParam 4 4)
  else if s.jrn.awaiting q then some (refuse p stBusy 12 0xFFFF)
  else if s.jrn.holds q then
    match s.jrn.latest q with
    | some x => some { opc := pOpc p, status := stOK, disp := 2, seq := q, jidx := x.1
                       data := [BitVec.ofNat 8 (s.jrn.stateOf q), 0] }
    | none => none
  else if q.toNat < s.jrn.maxSeq.toNat ∨ q.toNat ≤ s.jrn.trim.toNat then some (refuse p stStaleSeq 0 4)
  else none

/-- The life-cycle state forbids the packet (R366, 19 R516, R520, R522); RMA counts once its entry is under way (19 R511). -/
def State.lcForbids (s : State) (p : List Byte) : Bool :=
  let st := if s.lc.rma then 3 else s.lc.st
  match pOpc p with
  | 0x0802 => decide (st ≠ 1)
  | 0x0805 =>
    decide (st ≠ 1) || (decide (pPar p 0 1 = 0) && s.lc.mkey.isSome) || (decide (pPar p 0 1 = 1) && s.lc.rkey.isSome)
  | 0x0803 => decide (st ≠ 1 ∧ st ≠ 2) || decide (s.lc.fails = 3)
  | 0x0804 => decide (st ≠ 1 ∧ st ≠ 2) || decide (s.lc.fails = 3)
  | 0x0701 => decide (st = 2) && decide (pPar p 1 1 = 2) && decide (pPar p 0 1 = 1 ∨ pPar p 0 1 = 5)
  | _ => false

/-- The device state is one the row lists. -/
def StRule.allows (r : StRule) (d : DevState) : Bool :=
  match r, d with
  | _, .ready => true
  | .query, .run => true
  | .query, .safe => true
  | .query, .thermalLatch => true
  | .safe, .run => true
  | .safe, .safe => true
  | .live, .run => true
  | _, _ => false

/-- Device state (R362; 19 R523). -/
def State.ckDev (s : State) (r : OpRow) (p : List Byte) : Option Reply :=
  if !r.st.allows s.dev then
    some (refuse p (match s.dev with | .safe => stSafeState | .thermalLatch => stThermalBlock | _ => stBadState) 0 0xFFFF)
  else if s.dev = .safe ∧ pOpc p = 0x0701 ∧ pPar p 0 1 = 3 ∧ (pPar p 1 1 = 1 ∨ pPar p 1 1 = 2) then
    some (refuse p stSafeState 0 0xFFFF)
  else none

/-- Checks 1 to 6 of R342. -/
def State.precheck (s : State) (p : List Byte) : Option Reply :=
  let row := opRow (pOpc p)
  (ckPacket row p).or
    (match row with
    | none => some (refuse p stBadOpcode 0 0)
    | some r =>
      (r.ckFields p).or ((s.ckSeq p).or
        ((refuseIf (s.lcForbids p) (refuse p stNotPermitted 0 0xFFFF)).or (s.ckDev r p))))

/-! ### Taking a packet (R343, R344) -/

/-- MGMT runs and takes packets. -/
def State.mgmtUp (s : State) : Bool :=
  decide (s.pwr.phase = .done) && (decide (s.dev = .ready) || decide (s.dev = .run) || decide (s.dev = .safe) ||
    decide (s.dev = .thermalLatch))

/-- One outlet entry can be reserved (R344). -/
def State.outletRoom (s : State) : Bool := decide (s.mgmt.outlet.length + s.mgmt.reserved < 32)

/-- The head of the ladle is taken when `sel` holds of it; it is refused by the checks 1 to 6 of R342, or handled by
`f` (log entry 7). -/
def State.onPacket (s : State) (sel : List Byte → Bool) (f : List Byte → State → State) : State :=
  match s.mgmt.ladle with
  | [] => s
  | p :: rest =>
    if s.mgmtUp && s.outletRoom && sel p then
      let s1 : State := { s with mgmt := { s.mgmt with ladle := rest } }
      match s1.precheck p with
      | some r => s1.pushReply r
      | none => f p s1
    else s

/-- The head has this opcode. -/
def isOpc (o : Nat) (p : List Byte) : Bool := decide (pOpc p = o)

/-- A query answered from the state alone. -/
def State.answer (s : State) (opc : Nat) (f : List Byte → State → Reply) : State :=
  s.onPacket (isOpc opc) fun p t => t.pushReply (f p t)

/-- An outlet entry is reserved for a reply that comes later (R344). -/
def State.reserve (s : State) : State := { s with mgmt := { s.mgmt with reserved := s.mgmt.reserved + 1 } }

/-- Checks 7 to 9 of an opcode: a refusal is answered, otherwise `f` acts. -/
def State.unless (s : State) (c : List (Option Reply)) (f : State → State) : State :=
  match firstRefusal c with
  | some r => s.pushReply r
  | none => f s

/-- A background operation starts, its reply to come (R346). -/
def State.startBg (s : State) (p : List Byte) (op : BgOp) : State :=
  let s1 := s.reserve
  { s1 with mgmt := { s1.mgmt with bg := some ⟨op, pOpc p, pSeq p⟩ } }

/-- BUSY, DCODE 9 (R346). -/
def State.bgBusy (s : State) (p : List Byte) : Option Reply := refuseIf s.mgmt.bg.isSome (refuse p stBusy 9 0xFFFF)

/-! ### Queries (Table 11-8) -/

/-- GET_ID. -/
def idData (s : State) : List Byte :=
  leBytes 2 0x0480 ++ [0x11, BitVec.ofNat 8 s.lc.st.toNat] ++ leBytes 4 (Config.fwver s.pwr.fwb).toNat ++
    (List.range 8).map Config.serial

/-- Low byte of the running background opcode. -/
def State.bgop (s : State) : Nat := match s.mgmt.bg with | some b => b.opc % 256 | none => 0

/-- GET_STATUS. -/
def statusData (s : State) : List Byte :=
  leBytes 4 (s.dstatWord 0x100).toNat ++ leBytes 4 (s.dstatWord 0x104).toNat ++ leBytes 4 s.axst.toNat ++
    leBytes 8 s.tick.heat.toNat ++ leBytes 4 (s.pourWord 0x6024).toNat ++ leBytes 2 s.mgmt.outloss.toNat ++
    leBytes 1 s.mgmt.ladle.length ++ leBytes 1 s.bgop

/-- The axis is stopped by a RISE_FAST that persists: of its die, of the CTL class or of MON (17 R483). -/
def State.riseBlock (s : State) (n : Fin 4) : Bool :=
  (s.th.cls.getD n.val {}).rfast || (s.th.cls.get 4).rfast || (s.th.cls.get 5).rfast

/-- GET_AXIS (Table 11-9). -/
def axisData (s : State) (n : Fin 4) : List Byte :=
  let j := s.mgmt.jax.get n
  let w (p : Nat) : List Byte := leBytes 4 (s.statusWord n p).toNat
  leBytes 1 (s.axis n).st.code ++ leBytes 1 (s.queuedJobs n).length ++
    leBytes 1 (flag 0 j.held ||| flag 1 (s.riseBlock n)).toNat ++ leBytes 1 (s.th.lv.get n) ++
    leBytes 4 (match s.running n with | some q => q.seq.toNat | none => 0) ++ leBytes 4 j.lastSeq.toNat ++
    leBytes 4 j.lastOut ++ w 0x0C5 ++ w 0x0C6 ++ w 0x0C0 ++ w 0x0C1

/-- One byte of the telemetry mirror (13 R412). -/
def telemByte (s : State) (a : Nat) : Byte :=
  if a < 8 then BitVec.ofNat 8 (s.exch.telemHeat.toNat >>> (8 * a))
  else if 16 ≤ a ∧ a < 0x2010 then s.exch.telem.get (a - 16)
  else 0

/-- GET_TELEMETRY. -/
def telemReply (p : List Byte) (s : State) : Reply :=
  let ofs := pPar p 0 4
  let len := pPar p 4 2
  if 65535 < ofs then refuse p stBadParam 4 12
  else if len < 1 ∨ 1016 < len ∨ 65536 < ofs + len then refuse p stBadParam 4 16
  else accept p (leBytes 8 s.exch.telemHeat.toNat ++ (List.range len).map fun i => telemByte s (ofs + i))

/-- A parameter's value as GET_PARAM returns it, none when the ID is unknown (R367; 04 R109; 06 R587; 15 R452). -/
def State.paramValue (s : State) (id : Nat) : Option Word :=
  if isSysPar id then some (sysValue s.mgmt.par id)
  else
    match s.moulds.active with
    | none => none
    | some m =>
      match m.ent id, posId id, m.std with
      | some _, some (n, o), some _ => some (if o then (s.mgmt.travel.get n).opened else (s.mgmt.travel.get n).closed)
      | some e, _, k =>
        if isEvpour id then
          some ((if s.exch.pub = Pub.none then s.xAct else s.xInact).inb.word (4 * e.xofs))
        else if e.dir = 0 then some (parValue s.mgmt.par e)
        else some (if k.isSome then Sparse.get 0 id s.xInact.outId else s.xInact.outb.word (4 * (e.xofs - 2048)))
      | none, _, _ => none

/-- GET_PARAM. -/
def paramReply (p : List Byte) (s : State) : Reply :=
  let n := pPar p 0 2
  let ids := (List.range n).map fun i => (i, pPar p (4 + 2 * i) 2)
  if n < 1 ∨ 127 < n then refuse p stBadParam 4 12
  else
    match ids.find? fun x => (s.paramValue x.2).isNone with
    | some x => refuse p stBadParam 5 (16 + 2 * x.1)
    | none => accept p (ids.flatMap fun x =>
        leBytes 2 x.2 ++ [0, 0] ++ leBytes 4 ((s.paramValue x.2).getD 0).toNat)

/-- The oldest index: the first valid, unretired index at or after wp (12 R385). -/
def Journal.oldest (j : Journal) : Nat :=
  (j.recs.foldl (fun (r : Option Nat) x =>
    match r with
    | none => some x.1
    | some y => if j.ahead x.1 < j.ahead y then some x.1 else some y) none).getD j.wp

/-- JOURNAL_QUERY (Table 11-9, 12 R385). -/
def queryData (s : State) (q : Word) : List Byte :=
  let j := s.jrn
  let found := j.holds q
  let b := match j.latest q with
    | some x =>
      if found then
        [1, BitVec.ofNat 8 (j.stateOf q), x.2.axis, 0] ++ leBytes 2 x.2.opc.toNat ++ leBytes 2 x.1 ++ leBytes 8 x.2.heat.toNat
      else List.replicate 16 0
    | none => List.replicate 16 0
  b ++ leBytes 4 j.maxSeq.toNat ++ leBytes 2 j.oldest ++ leBytes 2 ((j.wp + jrnSize - 1) % jrnSize) ++
    leBytes 2 (wear j.lapA) ++ leBytes 2 (wear j.lapB) ++ leBytes 4 0

/-- Records of one copy from an index, wrapping at 8 191 (12 R386). -/
def Journal.slots (c : Sparse Slot) (ix n : Nat) : List Byte :=
  (List.range n).flatMap fun i => (Sparse.get .blank ((ix + i) % jrnSize) c).bytes

/-- JOURNAL_READ. -/
def readReply (p : List Byte) (s : State) : Reply :=
  let ix := pPar p 0 2
  let n := pPar p 2 1
  let c := pPar p 3 1
  if 8191 < ix then refuse p stBadParam 4 12
  else if n < 1 ∨ 16 < n then refuse p stBadParam 4 14
  else if 1 < c then refuse p stBadParam 4 15
  else accept p (Journal.slots (if c = 0 then s.jrn.a else s.jrn.b) ix n)

/-- LC_STATE. -/
def lcData (s : State) : List Byte :=
  [BitVec.ofNat 8 s.lc.st.toNat, BitVec.ofNat 8 (flag 0 s.lc.mkey.isSome ||| flag 1 s.lc.rkey.isSome).toNat, 0, 0]

/-- THERMAL_STATUS: the levels are those of DRV0 to DRV3 themselves and of the CTL class (11 Table 11-8). -/
def thermalData (s : State) : List Byte :=
  (s.th.sens.toList.flatMap fun x => leBytes 2 (s16 x.temp).toNat) ++ leBytes 4 s.th.brokenWord.toNat ++
    ((List.finRange 5).map fun k => BitVec.ofNat 8 (s.th.cls.get ⟨k.val, by omega⟩).level) ++
    [ if s.pwr.therm then 1 else 0, 0, 0]

def execGetId (s : State) : Res := .next (s.answer 0x0101 fun p t => accept p (idData t))
def execGetStatus (s : State) : Res := .next (s.answer 0x0102 fun p t => accept p (statusData t))
def execGetAxis (s : State) : Res := .next (s.answer 0x0103 fun p t => accept p (axisData t (pAxis p)))
def execGetTelemetry (s : State) : Res := .next (s.answer 0x0104 telemReply)
def execGetParam (s : State) : Res := .next (s.answer 0x0202 paramReply)
def execJournalQuery (s : State) : Res :=
  .next (s.answer 0x0501 fun p t => accept p (queryData t (BitVec.ofNat 32 (pPar p 0 4))))
def execJournalRead (s : State) : Res := .next (s.answer 0x0502 readReply)
def execLcState (s : State) : Res := .next (s.answer 0x0801 fun p t => accept p (lcData t))
def execThermalStatus (s : State) : Res := .next (s.answer 0x0901 fun p t => accept p (thermalData t))

/-- UNLISTED_OPCODE (R362): a packet whose opcode has no row; the checks of R342 refuse it. -/
def execUnlistedOpcode (s : State) : Res :=
  .next (s.onPacket (fun p => (opRow (pOpc p)).isNone) fun p t => t.pushReply (refuse p stBadOpcode 0 0))

/-! ### SET_PARAM (04 R109, 06 R201, R587; 11 R367; 12 R371) -/

/-- The entries: index, ID, value. -/
def setEntries (p : List Byte) : List (Nat × Nat × Word) :=
  (List.range (pPar p 0 2)).map fun i => (i, pPar p (4 + 8 * i) 2, BitVec.ofNat 32 (pPar p (8 + 8 * i) 4))

/-- What SET_PARAM makes of an ID: a system parameter, a pair entry of a standard mould, an inbound entry, unknown. -/
inductive SetKind where
  | sys | pos (n : Fin 4) | ent (e : ParEnt) | unknown
  deriving DecidableEq, Repr

def State.setKind (s : State) (id : Nat) : SetKind :=
  if isSysPar id then .sys
  else if isEvpour id then .unknown
  else
    match s.moulds.active with
    | none => .unknown
    | some m =>
      match m.ent id, posId id, m.std with
      | some _, some (n, _), some _ => .pos n
      | some e, _, _ => if e.dir = 0 then .ent e else .unknown
      | none, _, _ => .unknown

/-- Marked D in Table 6-9: accepted only while the axis is in DISABLED (06 R155). -/
def isDisPar (id : Nat) : Bool :=
  decide (0x1000 ≤ id) && decide (id < 0x5000) && parRows.any fun r => r.dis && decide (r.p = id % 0x1000)

/-- The axis of an entry must be in DISABLED for it to be written. -/
def State.setNeedsDisabled (s : State) (id : Nat) : Bool :=
  match s.setKind id with
  | .pos n => decide ((s.axis n).st ≠ .disabled)
  | .ent _ =>
    (match s.stdK with | some _ => true | none => false) && isDisPar id &&
      decide ((s.axis (axOf (id / 0x1000 - 1))).st ≠ .disabled)
  | _ => false

/-- One entry's own value check: unknown ID or out of range. -/
def State.ckEntry (s : State) (p : List Byte) (x : Nat × Nat × Word) : Option Reply :=
  match s.setKind x.2.1 with
  | .unknown => some (refuse p stBadParam 5 (16 + 8 * x.1))
  | .sys => refuseIf (!sysParOk x.2.1 x.2.2) (refuse p stBadParam 4 (20 + 8 * x.1))
  | .pos _ => none
  | .ent e => refuseIf (!e.inRange x.2.2) (refuse p stBadParam 4 (20 + 8 * x.1))

/-- The value of an ID after the packet. -/
def State.afterSet (s : State) (l : List (Nat × Nat × Word)) (id : Nat) : Int :=
  match (l.reverse.find? fun x => decide (x.2.1 = id)) with
  | some x => x.2.2.toInt
  | none => ((s.paramValue id).getD 0).toInt

/-- 06 R201: VBRKSTART < VBRKFULL and VREGLIM < VBRKFULL after the packet, on every axis it touches. -/
def State.ckBrake (s : State) (p : List Byte) (l : List (Nat × Nat × Word)) : Option Reply :=
  if s.stdK.isNone then none
  else
    (l.find? fun x =>
      let b := x.2.1 - x.2.1 % 0x1000
      decide (x.2.1 % 0x1000 = 0x078 ∨ x.2.1 % 0x1000 = 0x079 ∨ x.2.1 % 0x1000 = 0x07A) &&
        (decide (s.afterSet l (b + 0x079) ≤ s.afterSet l (b + 0x078)) ||
          decide (s.afterSet l (b + 0x079) ≤ s.afterSet l (b + 0x07A)))).map fun x =>
      refuse p stBadParam 4 (20 + 8 * x.1)

/-- The parameter bytes of one configuration record (12 Table 12-3). -/
def cfgParam (l : List (Nat × Nat × Word)) : List Byte :=
  (l.flatMap fun x => leBytes 2 x.2.1 ++ [0, 0] ++ leBytes 4 x.2.2.toNat)

/-- The configuration records of a persisted SET_PARAM; the last one carries the reply (R350, R371). -/
def cfgPends (p : List Byte) (l : List (Nat × Nat × Word)) : List Pend :=
  let n := (l.length + 4) / 5
  (List.range n).map fun k =>
    { r := { seq := pSeq p, opc := 0x0201, axis := BitVec.ofNat 8 (16 * (n - 1) + k), state := 4
             param := cfgParam ((l.drop (5 * k)).take 5), heat := 0 }
      cls := 2
      reply := if k + 1 = n then some (leBytes 2 l.length ++ [0, 0]) else none
      rseq := pSeq p, notify := none }

/-- A SET_PARAM that passed its checks. -/
def State.setAccept (s : State) (p : List Byte) : State :=
  let l := setEntries p
  if pPersist p then
    let s1 := s.reserve
    { s1 with jrn := s1.jrn.accept (cfgPends p l) (pSeq p) }
  else
    let s1 := l.foldl (fun t x => t.applyPar false x.2) s
    let s2 : State := { s1 with mgmt := { s1.mgmt with pubWanted := s1.moulds.active.isSome } }
    let s3 : State := match s2.moulds.active with
      | some m => if s2.exch.pub = Pub.none then s2.publishFor m .ordinary else s2
      | none => s2
    s3.pushReply (accept p (leBytes 2 l.length ++ [0, 0]))

/-- SET_PARAM. -/
def execSetParam (s : State) : Res :=
  .next (s.onPacket (isOpc 0x0201) fun p t =>
    let l := setEntries p
    t.unless [
      refuseIf (l.any fun x => t.setNeedsDisabled x.2.1) (refuse p stBadState 0 0xFFFF),
      refuseIf (decide (l.length < 1) || decide (127 < l.length) || (pPersist p && decide (80 < l.length)))
        (refuse p stBadParam 4 12),
      l.findSome? (t.ckEntry p),
      t.ckBrake p l,
      refuseIf (pPersist p && t.commitFull (cfgPends p l)) (refuse p stBusy 7 0xFFFF)]
      fun u => u.setAccept p)

/-- STORE_CONFIG (R346, 12 R371). -/
def execStoreConfig (s : State) : Res :=
  .next (s.onPacket (isOpc 0x0203) fun p t => t.unless [t.bgBusy p] fun u => u.startBg p .storeConfig)

/-! ### Jobs (R352 to R358, R363) -/

/-- A declared axis parameter of the active mould as MGMT holds it. -/
def State.axPar (s : State) (n : Fin 4) (p : Nat) : Option Int :=
  match s.moulds.active with
  | none => none
  | some m =>
    match m.ent (0x1000 * (n.val + 1) + p) with
    | some e => if e.dir = 0 then some (parValue s.mgmt.par e).toInt else none
    | none => none

/-- POSVALID and PROFOK of an axis: bits of its status word FLAGS (06 Table 6-10). PROFOK is clear while a profile is
being streamed to a standard mould (06 R194, R587). -/
def State.posValid (s : State) (n : Fin 4) : Bool := (s.statusWord n 0x0C6).getLsbD 0
def State.profOk (s : State) (n : Fin 4) : Bool :=
  (s.statusWord n 0x0C6).getLsbD 1 && (s.stdK.isNone || decide ((s.mgmt.travel.get n).inLeft = 0))

/-- LEARNREQ of the standard moulds (06 R190). -/
def State.learnReq (s : State) : Bool := s.stdK.isSome && decide ((s.paramValue 0x0004).getD 0 = 1)

/-- A value of 0, or from 1 to the parameter (R363); without a declared parameter there is no limit (log entry 26). -/
def withinPar (lim : Option Int) (v : Nat) : Bool :=
  decide (v = 0) || (match lim with | some m => decide ((v : Int) ≤ m) | none => true)

/-- TARGET lies between POSCLOSED and POSOPEN. -/
def State.targetOk (s : State) (n : Fin 4) (x : Int) : Bool :=
  let c := ((s.paramValue (0x1000 * (n.val + 1) + 0x080)).map fun w => w.toInt)
  let o := ((s.paramValue (0x1000 * (n.val + 1) + 0x081)).map fun w => w.toInt)
  match c, o with
  | some a, some b => decide (min a b ≤ x) && decide (x ≤ max a b)
  | _, _ => true

/-- Values of a job (R363, R358, Table 11-10). -/
def State.ckJobVal (s : State) (p : List Byte) (n : Fin 4) : Option Reply :=
  let bad (b : Bool) (o : Nat) : Option Reply := refuseIf b (refuse p stBadParam 4 o)
  match pOpc p with
  | 0x0301 => firstRefusal [
      bad (!withinPar (s.axPar n 0x020) (pPar p 4 4)) 16,
      bad (!withinPar (s.axPar n 0x021) (pPar p 8 4)) 20,
      bad (!withinPar (s.axPar n 0x022) (pPar p 12 4)) 24,
      bad (s.posValid n && !s.targetOk n (sx 32 (pPar p 0 4))) 12]
  | 0x0302 => firstRefusal [
      bad (!withinPar (s.axPar n 0x021) (pPar p 4 4)) 16,
      bad (match s.axPar n 0x020 with | some m => decide (m < (sx 32 (pPar p 0 4)).natAbs) | none => false) 12]
  | 0x0303 => bad (!decide (pPar p 0 1 = 0 ∨ pPar p 0 1 = 1 ∨ pPar p 0 1 = 0xFF)) 12
  | 0x0309 =>
    let q := pPar p 0 4
    bad (!decide (q = 0) && !((s.jobsOf n).any fun x => decide (x.seq.toNat = q)) &&
      !s.jrn.knowsJob q n) 12
  | _ => none

/-- CSEQ names a job of this axis that has started or ended (R358): an ended one by its records, be they in the ring or still to be
programmed. -/
def State.cancelLate (s : State) (p : List Byte) (n : Fin 4) : Bool :=
  let q := pPar p 0 4
  decide (pOpc p = 0x0309) && decide (q ≠ 0) &&
    (match (s.jobsOf n).find? fun x => decide (x.seq.toNat = q) with
    | some x => decide (x.st = .started)
    | none => s.jrn.knowsJob q n)

/-- Axis, job and mould state (R342 step 7; Table 11-5; 06 R190; 17 R483; 18 R501; 20 R539). -/
def State.ckJobState (s : State) (p : List Byte) (n : Fin 4) : Option Reply :=
  let no (b : Bool) (st : Nat) : Option Reply := refuseIf b (refuse p st 0 0xFFFF)
  firstRefusal [
    no (!s.axisDeclared n) stBadAxis,
    no (!s.pwr.axpwr.getLsbD n.val) stBadState,
    no s.mgmt.monlost stBadState,
    no (s.riseBlock n) stThermalBlock,
    no (decide (pOpc p = 0x0301 ∨ pOpc p = 0x0302) && s.learnReq && !(s.posValid n && s.profOk n)) stBadState,
    no (s.cancelLate p n) stBadState]

/-- The job of a packet, and its ACCEPTED record. -/
def jobFrom (p : List Byte) (n : Fin 4) : Job :=
  { seq := pSeq p, opc := pOpc p, ax := n, par := pBody p, flags := pFlags p, st := .awaiting, due := false }
def jobPend (p : List Byte) (n : Fin 4) : Pend :=
  { r := (jobFrom p n).record 1 0 0 false, cls := 2, reply := some [], rseq := pSeq p, notify := none }

/-- Places: a journal fault leaves none (12 R375); 8 queued jobs per axis (R355), 16 places of a commit (R349). -/
def State.ckJobRoom (s : State) (p : List Byte) (n : Fin 4) : Option Reply :=
  let q := (s.jobsOf n).filter fun x => !isImmediate x.opc && decide (x.st ≠ .started)
  firstRefusal [
    refuseIf s.jrn.fault (refuse p stBusy 7 0xFFFF),
    refuseIf (!isImmediate (pOpc p) && decide (8 ≤ q.length)) (refuse p stBusy 6 0xFFFF),
    refuseIf (s.commitFull [jobPend p n]) (refuse p stBusy 7 0xFFFF)]

/-- A checked job: it has its place in the commit and its outlet entry (R349, R354). -/
def State.jobChecked (s : State) (p : List Byte) (n : Fin 4) : State :=
  let s1 := s.reserve
  { s1 with
    mgmt := { s1.mgmt with jobs := s1.mgmt.jobs ++ [jobFrom p n] }
    jrn := s1.jrn.accept [jobPend p n] (pSeq p) }

/-- A job packet. -/
def State.jobPacket (opc : Nat) (s : State) : State :=
  s.onPacket (isOpc opc) fun p t =>
    let n := pAxis p
    t.unless [t.ckJobState p n, t.ckJobVal p n, t.ckJobRoom p n] fun u => u.jobChecked p n

def execMoveTo (s : State) : Res := .next (s.jobPacket 0x0301)
def execMoveVel (s : State) : Res := .next (s.jobPacket 0x0302)
def execHold (s : State) : Res := .next (s.jobPacket 0x0303)
def execStop (s : State) : Res := .next (s.jobPacket 0x0304)
def execRelease (s : State) : Res := .next (s.jobPacket 0x0305)
def execLearnTravel (s : State) : Res := .next (s.jobPacket 0x0306)
def execHome (s : State) : Res := .next (s.jobPacket 0x0307)
def execResume (s : State) : Res := .next (s.jobPacket 0x0308)
def execCancel (s : State) : Res := .next (s.jobPacket 0x0309)

/-! ### JOURNAL_TRIM (12 R389) -/

/-- The trim record (12 Table 12-3). -/
def trimPend (p : List Byte) : Pend :=
  { r := { seq := 0, opc := 0x0503, axis := 0xFF, state := 4, param := leBytes 4 (pPar p 0 4), heat := 0 }
    cls := 2, reply := some [], rseq := pSeq p, notify := none }

/-- JOURNAL_TRIM. -/
def execJournalTrim (s : State) : Res :=
  .next (s.onPacket (isOpc 0x0503) fun p t =>
    let q := pPar p 0 4
    t.unless [
      refuseIf (t.mgmt.jobs.any fun x => decide (x.seq.toNat ≤ q)) (refuse p stBadState 0 0xFFFF),
      refuseIf (decide (q = 0) || decide (t.jrn.maxSeq.toNat < q)) (refuse p stBadParam 4 12),
      refuseIf (decide (t.jrn.trim.toNat < q) && t.commitFull [trimPend p]) (refuse p stBusy 7 0xFFFF)]
      fun u =>
        if q ≤ u.jrn.trim.toNat then u.pushReply (accept p [0, 0, 0, 0])
        else { u.reserve with jrn := u.jrn.add (trimPend p) })

end Sys2Proof.Machine
end

