-- ==== Sys2Proof/Machine/MouldCmd.lean ====
section
/-! DEFINITION. Mould packets (04 R118 to R132, R591; 11 R365): staging, check, commit, store, select, the load of a
live swap, and the carry of an activation (04 R131). -/

namespace Sys2Proof.Machine

/-! ### Places of images -/

/-- The inactive program slot. -/
def State.inactImage (s : State) : Option Image := if s.pour.slot then s.moulds.slot0 else s.moulds.slot1
/-- The inactive program slot is written: its code words are sound again (02 R60). -/
def State.setInact (s : State) (i : Option Image) (ok : Bool) : State :=
  if s.pour.slot then
    { s with moulds := { s.moulds with slot0 := i, inactok := ok }, pour := { s.pour with slot0Upset := [] } }
  else { s with moulds := { s.moulds with slot1 := i, inactok := ok }, pour := { s.pour with slot1Upset := [] } }

/-- The staged image of length L (R591): the first L bytes of the staging window. -/
def State.stagedImage (s : State) : Option Image :=
  s.moulds.stageLen.map fun n => .raw n (s.moulds.staging.filter fun c => decide (c.1 < n))

/-- The staged image, or one of no bytes where no length is recorded. -/
def State.staged (s : State) : Image := s.stagedImage.getD (.raw 0 [])

/-- A host write to the staging window clears STAGEOK (R120). -/
def State.stageWrite (s : State) (a : Nat) (l : List Byte) : State :=
  { s with moulds := { s.moulds with staging := s.moulds.staging.putBytes a l, stageok := false } }

/-! ### LOCK0 (R119) -/

/-- LOCK0 is free for MGMT, or its own already. -/
def State.lock0Free (s : State) : Bool := decide ((s.locks.owner.get 0).toNat ≤ 1)

def State.lock0Set (s : State) (o : BitVec 4) : State :=
  { s with locks := { s.locks with owner := s.locks.owner.set 0 o } }

/-- MGMT releases LOCK0. -/
def State.lock0Release (s : State) : State := if s.locks.owner.get 0 = 1 then s.lock0Set 0 else s

/-- BUSY, DCODE 8 (R119). -/
def State.lock0Busy (s : State) (p : List Byte) : Option Reply := refuseIf (!s.lock0Free) (refuse p stBusy 8 0xFFFF)

/-- BAD_STATE, DCODE 0 (R591); BUSY, DCODE 10 (R121). -/
def badState (p : List Byte) (b : Bool) : Option Reply := refuseIf b (refuse p stBadState 0 0xFFFF)

/-- A MOULD_SELECT whose reply has not entered the outlet. -/
def State.selectOpen (s : State) : Bool :=
  s.moulds.pend.isSome || (match s.mgmt.bg with | some ⟨.selectCopy _ _, _, _⟩ => true | _ => false)
def State.actBusy (s : State) (p : List Byte) : Option Reply := refuseIf s.selectOpen (refuse p stBusy 10 0xFFFF)

/-! ### Carry (R131) -/

/-- The entry of the outgoing mould that an entry matches. -/
def CarEnt.matchIn (e : CarEnt) (old : Option MouldInfo) : Option CarEnt :=
  match old with
  | none => none
  | some m => m.car.find? fun o =>
    decide (o.name = e.name) && decide (o.kind = e.kind) && decide (o.fmt = e.fmt) && decide (o.count = e.count) &&
      (decide (e.kind ≠ 3) || decide (o.loc = e.loc))

/-- UNMATCHED of the reply. -/
def MouldInfo.unmatched (m : MouldInfo) (old : Option MouldInfo) : Nat :=
  (m.car.filter fun e => (e.matchIn old).isNone).length

/-- Whether a word belongs to a matched KIND 3 entry: it keeps its place. -/
def MouldInfo.keeps (m : MouldInfo) (old : Option MouldInfo) : Nat → Bool :=
  let l := m.car.filter fun e => decide (e.kind = 3) && (e.matchIn old).isSome
  fun w => l.any fun e => decide (e.loc ≤ w) && decide (w < e.loc + e.count)

/-- The registers of a new mould: 0, but for matched entries (02 R52). -/
def Pour.carryRegs (p : Pour) (m : MouldInfo) (old : Option MouldInfo) : Pour :=
  let z : Pour := { p with
    v := Vector.replicate 64 0, acc := Vector.replicate 8 0, p := 1, inflight := [] }
  m.car.foldl (fun q e =>
    match e.matchIn old with
    | none => q
    | some o => (List.range e.count).foldl (fun q i =>
        match e.kind with
        | 0 => { q with v := q.v.setIfInBounds (e.loc + i) (p.v.getD (o.loc + i) 0) }
        | 1 => { q with acc := q.acc.setIfInBounds (e.loc + i) (p.acc.getD (o.loc + i) 0) }
        | 2 => { q with p := if e.loc + i = 0 then q.p else putBit q.p (e.loc + i) (p.p.getLsbD (o.loc + i)) }
        | _ => q) q) z

/-! ### Loading (R127, R129) -/

/-- A word lies in a range. -/
def Rng.has (r : Rng) (w : Nat) : Bool := decide (r.base ≤ w) && decide (w < r.base + r.len)

/-- Words of the new ranges that the load engine writes. -/
def MouldInfo.loadWords (m : MouldInfo) (old : Option MouldInfo) : Nat :=
  let keep := m.keeps old
  let cnt (r : Rng) : Nat := ((List.range r.len).filter fun i => !keep (r.base + i)).length
  cnt m.drange + cnt m.trange

/-- Section words written from a base upwards, but those that stay. -/
def loadSect (stays : Nat → Bool) (base : Nat) (l : List Word) (d : Mem) : Mem :=
  ((List.range l.length).zip l).foldl (fun d x => if stays (base + x.1) then d else d.putWord (4 * (base + x.1)) x.2) d

/-- Pour data memory after a load in which the words `stays` names keep their contents. -/
def Pour.loadBut (p : Pour) (m : MouldInfo) (stays : Nat → Bool) : Pour :=
  { p with
    pdm := loadSect stays m.trange.base m.tabl (loadSect stays m.drange.base m.data (p.pdm.filter fun c => stays (c.1 / 4)))
    pdmUpset := p.pdmUpset.filter fun c => stays c.1 }

/-- Pour data memory after a load: of everything, or of the new ranges only. -/
def Pour.load (p : Pour) (m : MouldInfo) (old : Option MouldInfo) (all : Bool) : Pour :=
  let keep := m.keeps old
  p.loadBut m fun w => keep w || !(all || m.drange.has w || m.trange.has w)

/-- The words that the load of a stopped activation writes, in ascending order (R127). -/
def MouldInfo.stopWords (m : MouldInfo) (old : Option MouldInfo) : List Nat :=
  let keep := m.keeps old
  (List.range 65536).filter fun w => !keep w

/-- Pour data memory with the first k of them written. -/
def Pour.loadFirst (p : Pour) (m : MouldInfo) (old : Option MouldInfo) (k : Nat) : Pour :=
  let keep := m.keeps old
  let lim := (m.stopWords old).getD k 65536
  p.loadBut m fun w => keep w || decide (lim ≤ w)

/-- F of R129: cycles per tick without an XU4 operation of the active mould. -/
def MouldInfo.loadRate (m : MouldInfo) : Nat := m.tper - m.xu4

/-- R126. -/
def State.liveOk (s : State) (a m : MouldInfo) : Bool :=
  let keep := m.keeps (some a)
  let shared (r : Rng) : Bool := (List.range r.len).any fun i =>
    let w := r.base + i
    !keep w && (a.drange.has w || a.trange.has w)
  decide (m.tper = a.tper) && decide (m.ofs.a1 = a.ofs.a1) && decide (m.ofs.a2 = a.ofs.a2) &&
    decide (m.ofs.a3 = a.ofs.a3) &&
    (axes.all fun n => decide ((s.axis n).st = .disabled) || m.axmask.getLsbD n.val) &&
    !shared m.drange && !shared m.trange && decide (m.loadWords (some a) ≤ 4096 * a.loadRate)

/-- A live swap applies: a mould is active and an axis is outside DISABLED (R125). -/
def State.swapLive (s : State) : Bool := s.moulds.active.isSome && !s.allDisabled

/-- The mould may be activated now: R126 where the swap is live. -/
def State.activatable (s : State) (m : MouldInfo) : Bool :=
  match s.moulds.active with
  | some a => s.allDisabled || s.liveOk a m
  | none => s.allDisabled

/-- The activation is pending (R121, Table 4-6 step 1). SWAP reads 2 while a deactivation is (log entry 196). -/
def State.beginActivation (s : State) (m : Option MouldInfo) (seq : Word) (boot : Bool) : State :=
  let live := s.swapLive && m.isSome
  let a : Activation :=
    { kind := if m.isNone then .deact else if live then .live else .stopped
      info := m, phase := 0, seq := seq, unmatched := 0, heat := 0, ticks := 0, boot := boot }
  let left := match m, live with | some i, true => i.loadWords s.moulds.active | _, _ => 0
  { s with moulds := { s.moulds with pend := some a, swap := if live then 1 else 2, loadleft := left } }

/-- An image that passed is activated, or refused: R427 repeated, then R126 (14 R427, 04 R126). -/
def State.resolve (s : State) (m : MouldInfo) (seq : Word) (boot : Bool) : State :=
  let say (r : Reply) (t : State) : State := if boot then t else t.pushReserved r
  if !m.runOk s.run then
    say (refusal opcMouldSelect seq stMouldInvalid 0 0xFFFF) { s with moulds := { s.moulds with lastfail := 0x1D } }
  else if !s.activatable m then say (refusal opcMouldSelect seq stBadState 0 0xFFFF) s
  else s.beginActivation (some m) seq boot

/-! ### Packets -/

/-- A MOULD_CHECK that still runs no longer speaks of the staged image: packets take effect in ladle order (R121). -/
def BgOp.begun : BgOp → BgOp
  | .mouldCheck i _ => .mouldCheck i true
  | o => o

/-- MOULD_BEGIN (Table 4-5). -/
def execMouldBegin (s : State) : Res :=
  .next (s.onPacket (isOpc 0x0401) fun p t =>
    let n := pPar p 0 4
    t.unless [refuseIf (decide (n < 1) || decide (524288 < n)) (refuse p stBadParam 4 12)] fun u =>
      ({ u with
        moulds := { u.moulds with stageLen := some n, stageok := false }
        mgmt := { u.mgmt with bg := u.mgmt.bg.map fun (b : Bg) => ({ b with op := b.op.begun } : Bg) } }).pushReply (accept p []))

/-- MOULD_CHECK (R113, R119, R346, R591). -/
def execMouldCheck (s : State) : Res :=
  .next (s.onPacket (isOpc 0x0403) fun p t =>
    t.unless [badState p t.moulds.stageLen.isNone, t.lock0Busy p, t.bgBusy p] fun u =>
      (u.lock0Set 1).startBg p (.mouldCheck u.staged false))

/-- STATUS of a failure code (R115). -/
def failStatus (code : Nat) : Nat := if code = 0x30 ∨ code = 0x31 then stSigInvalid else stMouldInvalid

/-- The background operation ends. -/
def State.bgEnd (s : State) : State := { s with mgmt := { s.mgmt with bg := none } }

/-- Run `f` when the background operation in progress satisfies `sel`. -/
def State.onBg (s : State) (sel : BgOp → Bool) (f : Bg → State → State) : State :=
  match s.mgmt.bg with
  | some b => if sel b.op then f b s.bgEnd else s
  | none => s

/-- FAIL, reserved, CYCLE, OFFSET (11 Table 11-10). -/
def checkData (r : Option CkFail) : List Byte :=
  match r with
  | none => leBytes 2 0 ++ leBytes 2 0xFFFF ++ leBytes 4 0
  | some f => leBytes 2 f.code ++ leBytes 2 f.cy ++ leBytes 4 f.off

/-- The image a MOULD_CHECK runs on, and whether a pass still sets STAGEOK. -/
def BgOp.checks : BgOp → Option (Image × Bool)
  | .mouldCheck i stale => some (i, !stale)
  | _ => none

/-- MOULD_CHECK_DONE (R113, R115). -/
def execMouldCheckDone (s : State) : Res :=
  .next (s.onBg (fun o => o.checks.isSome) fun b t =>
    match b.op.checks with
    | none => t
    | some (i, counts) =>
      let r := i.check t.lc t.run
      let code := match r with | none => 0 | some f => f.code
      let u := ({ t with moulds := { t.moulds with
        lastfail := BitVec.ofNat 8 code, stageok := t.moulds.stageok || (r.isNone && counts) } }).lock0Release
      u.pushReserved { opc := b.opc, status := if r.isNone then stOK else failStatus code, disp := if r.isNone then 0 else 8
                       seq := b.seq, jidx := 0xFFFF, data := checkData r })

/-- MOULD_COMMIT (R119, R121, R346, R591). -/
def execMouldCommit (s : State) : Res :=
  .next (s.onPacket (isOpc 0x0404) fun p t =>
    t.unless [badState p (!t.moulds.stageok), t.actBusy p, t.lock0Busy p, t.bgBusy p] fun u =>
      (u.lock0Set 1).startBg p (.mouldCommit u.staged))

/-- The image a MOULD_COMMIT copies. -/
def BgOp.commits : BgOp → Option Image
  | .mouldCommit i => some i
  | _ => none

/-- MOULD_COMMIT_DONE: the copy verifies, or leaves INACTOK at 0 (R122). -/
def execMouldCommitDone (verified : Bool) (s : State) : Res :=
  .next (s.onBg (fun o => o.commits.isSome) fun b t =>
    match b.op.commits with
    | none => t
    | some i =>
      let ok := verified && i.crcOk
      let u := (t.setInact (if ok then some i else none) ok).lock0Release
      u.pushReserved (if ok then okReply b.opc b.seq [] else refusal b.opc b.seq stMouldInvalid 0 0xFFFF))

/-- The image a MOULD_STORE copies, as it stands when the packet is accepted. -/
def State.storeSource (s : State) (src : Nat) : Image := if src = 0 then s.staged else s.inactImage.getD (.raw 0 [])

/-- MOULD_STORE (R119, R121, R346, R591). -/
def execMouldStore (s : State) : Res :=
  .next (s.onPacket (isOpc 0x0406) fun p t =>
    let src := pPar p 0 1
    let dst := pPar p 1 1
    t.unless [
      badState p ((decide (src = 0) && !t.moulds.stageok) || (decide (src = 1) && !t.moulds.inactok)),
      refuseIf (decide (1 < src)) (refuse p stBadParam 4 12),
      refuseIf (decide (3 < dst)) (refuse p stBadParam 4 13),
      if src = 1 then t.actBusy p else t.lock0Busy p,
      t.bgBusy p] fun u =>
        (if src = 0 then u.lock0Set 1 else u).startBg p (.mouldStore src dst (u.storeSource src)))

/-- The customer slot a MOULD_STORE programs, its image, and whether the source is the staging window. -/
def BgOp.stores : BgOp → Option (Fin 4 × Image × Bool)
  | .mouldStore src dst i => some (axOf dst, i, decide (src = 0))
  | _ => none

/-- MOULD_STORE_DONE: the slot verifies, or is marked invalid (R122). -/
def execMouldStoreDone (verified : Bool) (s : State) : Res :=
  .next (s.onBg (fun o => o.stores.isSome) fun b t =>
    match b.op.stores with
    | none => t
    | some (dst, i, staging) =>
      let ok := verified && i.crcOk
      let u : State := { t with moulds := { t.moulds with cust := t.moulds.cust.set dst (some i, ok) } }
      (if staging then u.lock0Release else u).pushReserved
        (if ok then okReply b.opc b.seq [] else refusal b.opc b.seq stMouldInvalid 0 0xFFFF))

/-- The image of an NVM source: customer slot Cn or standard mould c (R365); an invalid slot has none (R591). -/
def State.nvmImage (s : State) (src : Nat) : Image :=
  if src < 0x20 then
    match s.moulds.cust.get (axOf (src - 0x10)) with
    | (some i, true) => i
    | _ => .raw 0 []
  else .std (src - 0x20)

/-- SRC codes of R365. -/
def srcNvm (src : Nat) : Bool := decide (0x10 ≤ src ∧ src ≤ 0x13) || decide (0x20 ≤ src ∧ src ≤ 0x2F)

/-- State conditions of MOULD_SELECT at its acceptance (R126, R128, R591). A customer image that fails its check is
refused after the copy. -/
def State.selectBad (s : State) (src : Nat) : Bool :=
  if src = 0xFF then !s.allDisabled
  else if src = 0 then
    !s.moulds.inactok || (match s.inactImage with | some i => !s.activatable i.info | none => true)
  else if srcNvm src then
    let i := s.nvmImage src
    (i.check s.lc s.run).isNone && !s.activatable i.info
  else false

/-- MOULD_SELECT accepted. With no mould active SRC 0xFF is answered with the heat counter as it stands, and SWAP stays 0
until the copy of an NVM source is done (log entry 196). -/
def State.selectGo (s : State) (p : List Byte) (src : Nat) : State :=
  if src = 0xFF then
    if s.moulds.active.isNone then s.pushReply (accept p (leBytes 8 s.tick.heat.toNat ++ [0, 0, 0, 0]))
    else s.reserve.beginActivation none (pSeq p) false
  else if src = 0 then
    match s.inactImage with
    | some i => s.reserve.resolve i.info (pSeq p) false
    | none => s
  else s.startBg p (.selectCopy src false)

/-- MOULD_SELECT (R121, R125 to R128, R365). -/
def execMouldSelect (s : State) : Res :=
  .next (s.onPacket (isOpc 0x0405) fun p t =>
    let src := pPar p 0 1
    let committing := match t.mgmt.bg with | some b => b.op.commits.isSome | none => false
    t.unless [
      badState p (t.selectBad src),
      refuseIf (!(decide (src = 0 ∨ src = 0xFF) || srcNvm src)) (refuse p stBadParam 4 12),
      t.actBusy p,
      if srcNvm src || (decide (src = 0) && committing) then t.bgBusy p else none]
      fun u => u.selectGo p src)

/-- MOULD_SELECT_COPY_DONE (Table 4-5, R591; 19 R518): the copy stands in the inactive slot and is checked in full. -/
def execMouldSelectCopyDone (s : State) : Res :=
  .next (s.onBg (fun o => match o with | .selectCopy _ _ => true | _ => false) fun b t =>
    match b.op with
    | .selectCopy src boot =>
      let i := t.nvmImage src
      match i.check t.lc t.run with
      | some f =>
        let u := (t.setInact none false)
        let w : State := { u with moulds := { u.moulds with lastfail := BitVec.ofNat 8 f.code } }
        if boot then w else w.pushReserved (refusal b.opc b.seq (failStatus f.code) 0 0xFFFF)
      | none =>
        let u := t.setInact (some i) true
        ({ u with moulds := { u.moulds with lastfail := 0 } }).resolve i.info b.seq boot
    | _ => t)

/-- LIVE_LOAD_COMPLETE (R129, Table 4-6 step 2): the load has started, its last words are written in this tick, and the
swap arms. -/
def execLiveLoadComplete (s : State) : Res :=
  match s.moulds.pend, s.moulds.active with
  | some a, some old =>
    match a.kind, a.info with
    | .live, some m =>
      if a.phase = 0 ∧ 1 ≤ a.ticks ∧ s.moulds.loadleft ≤ old.loadRate then
        .next { s with
          pour := s.pour.load m s.moulds.active false
          moulds := { s.moulds with pend := some { a with phase := 1 }, swap := 3, loadleft := 0 } }
      else .next s
    | _, _ => .next s
  | _, _ => .next s

end Sys2Proof.Machine
end

