-- ==== Sys2Proof/Machine/Tick.lean ====
section
/-! DEFINITION. The tick and heat boundaries (01 R15 to R20, R36 to R40): the close of a pour and its signature (02 R77
to R80), activation and deactivation (04 R125 to R131), what MGMT does once per heat (06 R187, 16 R470), the outcome of
CLEAR_FAULT (01 R33, R38; 18 R508), the heat reservation (01 R19) and axis faults (15 R451). -/

namespace Sys2Proof.Machine

/-! ### The end of a pour (02 R47, R77 to R80) -/

/-- POUR.PSIG of the pour that ends: a custom mould's own stream, a standard mould's expected value (log entry 11), which a cut
pour differs from (02 R62), and 0 with no mould. -/
def State.pourSig (s : State) : Word :=
  match s.moulds.active with
  | none => 0
  | some m =>
    if m.std.isSome then
      match s.pour.cutNow, s.pour.firstBad with
      | true, some w => m.psigx ^^^ BitVec.ofNat 32 ((Config.stdCut m.id w).2.val + 1)
      | _, _ => m.psigx
    else s.pour.sig ^^^ 0xFFFFFFFF

/-- The pour closes: every result is written, and the signature stands beside the value expected of it. -/
def State.closePour (s : State) : State :=
  if s.pour.poured then
    let s1 := s.stdFinish
    let p := retire (2 ^ 32) s1.pour
    let sig := s1.pourSig
    { s1 with
      pour := { p with
        psigOld := p.psig, psokOld := p.psok
        psig := sig, psigxPrev := s1.moulds.psigx, psok := decide (sig = s1.moulds.psigx)
        cut := p.cutNow, cutNow := false, poured := false, ended := true }
      mon := { s1.mon with xSig := s1.mon.xSig.write (sig, s1.moulds.psigx) } }
  else s

/-! ### No mould (04 R127, R128) -/

/-- The mould holds a FAULT cause on the axis that MGMT has still to act on (06 R205). -/
def State.faultWaits (s : State) (n : Fin 4) : Bool :=
  s.stdK.isSome && (s.std.ax.get n).faulting && !decide ((s.axis n).st = .fault) && !decide ((s.axis n).nxt = some .fault)

/-- MGMT acts on the FAULT causes of a mould that goes at this boundary: the axis enters FAULT at the tick that begins here (06
R205). -/
def State.settleFaults (s : State) : State := axes.foldl (fun t n => if t.faultWaits n then t.axFault n else t) s

/-- R218: shadow and active compares of every axis are 0; SYNCOFSn are 0 (R232). -/
def Axis.noCompares (a : Axis) : Axis :=
  { a with drv := { a.drv with acmp := ⟨0, 0, 0, 0⟩, scmp := ⟨0, 0, 0, 0⟩, syncofs := 0 } }

/-- CMPn writes that still wait are gone with their mould. -/
def PortAx.noCompares (p : PortAx) : PortAx := { p with cur := {}, nxt := {}, immq := [], regOn := false }

/-- From this boundary on no mould is active. POUR.PCNT and POUR.STAT.SLOT keep their values, and POUR.OCC.OPS reads 0 (log
entry 131). -/
def State.toNoMould (s0 : State) : State :=
  let s := s0.settleFaults
  { s with
    ax := s.ax.map Axis.noCompares
    tick := { s.tick with ofs := ⟨0, 0, 0, 0⟩ }
    conv := { s.conv with cur := none, seqr := [], seqi := [], due := 0 }
    exch := { s.exch with pub := .none }
    std := { s.std with todo := 0 }
    pour := { s.pour with ended := true, ops := 0, ax := s.pour.ax.map PortAx.noCompares }
    moulds := { s.moulds with
      active := none
      outgoing := if s.moulds.active.isSome then s.moulds.active else s.moulds.outgoing } }

/-! ### A mould becomes active (04 R125 to R131) -/

/-- SYNCOFS1 to SYNCOFS3 of the offsets (07 R232). -/
def syncOfs (o : Four Nat) : Four (BitVec 15) :=
  ⟨0, BitVec.ofNat 15 o.a1, BitVec.ofNat 15 (o.a2 - o.a1), BitVec.ofNat 15 (o.a3 - o.a2)⟩

def State.loadOffsets (s : State) (o : Four Nat) : State :=
  let s1 : State := { s with tick := { s.tick with ofs := o } }
  axes.foldl (fun t n => t.updDrv n fun d => { d with syncofs := (syncOfs o).get n }) s1

/-- The program-slot pointer changes; the slot it leaves is now the inactive one. -/
def State.toggleSlot (s : State) : State :=
  let old := if s.pour.slot then s.moulds.slot1 else s.moulds.slot0
  { s with pour := { s.pour with slot := !s.pour.slot }, moulds := { s.moulds with inactok := old.isSome } }

/-- The converter's sequences (10 R306, R307): identical ones continue in a live swap; others start with entry 0, and a regular entry
in progress is aborted (Table 10-5). -/
def State.loadSequences (s : State) (m : MouldInfo) (live : Bool) : State :=
  if live && decide (s.conv.seqr = m.seqreg) && decide (s.conv.seqi = m.seqinj) then s
  else { s with conv := { s.conv with
    aborts := match s.conv.cur with | some (false, _) => if live then sat8 s.conv.aborts else s.conv.aborts | _ => s.conv.aborts
    seqr := m.seqreg, seqi := m.seqinj, due := 0
    cur := if m.seqreg.isEmpty then none else some (false, 0), rdyAll := s.conv.refrdy } }

/-- Whether the entry named for axis n is matched (04 R131). -/
def MouldInfo.carries (m : MouldInfo) (old : Option MouldInfo) (nm : String) (n : Fin 4) : Bool :=
  match m.car.find? fun e => decide (e.name = nameOf (nm ++ toString n.val)) with
  | some e => (e.matchIn old).isSome
  | none => false

/-- The name of MOTn by position unit (06 R592, log entry 27). -/
def motName (k : Nat) : String := if k = 1 then "MOTENC" else if k = 3 then "MOTEDGE" else "MOTTURN"

/-- What a standard mould starts with on an axis (05 Table 5-3, 06 R592): matched entries are carried. A job step given
before is not taken again. -/
def MouldInfo.carryMot (m : MouldInfo) (old : Option MouldInfo) (k : Nat) (n : Fin 4) (q : JobStep) (o : Mot) : Mot :=
  let has (nm : String) : Bool := m.carries old nm n
  let b : Mot := if has (motName k) then o else { stepNo := q.no, stopSeen := q.stopNo }
  let keep (nm : String) (c : Comp) : Comp := if has nm then c else {}
  let prof := has "PROF"
  { b with
    cPos := keep "POS2P2Z" o.cPos, cSpd := keep "SPD3P3Z" o.cSpd
    cD := keep "D3P3Z" o.cD, cQ := keep "Q3P3Z" o.cQ, cBus := keep "BUS3P3Z" o.cBus
    posC := if prof then o.posC else 0, posO := if prof then o.posO else 0, profok := prof && o.profok
    inGot := if prof then o.inGot else 0, formRun := if prof then o.formRun else 0, outLeft := if prof then o.outLeft else 0 }

/-- The store of an axis is streamed in again: its pair, and its profile if it holds one (06 R194, R587). What a mould was
streaming out is lost with its table. -/
def State.streamAgain (s : State) (n : Fin 4) : State :=
  let t := s.mgmt.travel.get n
  let u : Travel := { t with inLeft := 2048, outGot := BitVec.allOnes 32, outProf := [] }
  { s with mgmt := { s.mgmt with travel := s.mgmt.travel.set n u } }

/-- An unmatched MOTn (06 R592): the new mould takes the axis from its measured position, at rest and not valid. -/
def State.freshMot (s : State) (k : Nat) (n : Fin 4) : State :=
  let m := (s.std.ax.get n).source ⟨s, n, k⟩ (readSens s n) .disabled
  let r : Mot := { m with
    p := m.pos * 2 ^ 32, v := 0, a := 0, omega := 0, target := m.pos, posvalid := false, ev := 0
    stLast := (s.axis n).st.code }
  { s with std := { s.std with ax := s.std.ax.set n r } }

/-- On an axis outside DISABLED PROFOK is cleared, the running job ends INTERRUPTED and the axis is held (06 R592). PROFn
stays. -/
def State.motLost (s : State) (n : Fin 4) : State :=
  let m := { s.std.ax.get n with profok := false }
  let s1 : State := { s with std := { s.std with ax := s.std.ax.set n m } }
  (s1.endRunning n 5).updJax n fun j => { j with held := true }

/-- A matched MOTn from the other mould of its unit: the reference of the angle source is taken over (06 R592). -/
def State.reseedMot (s : State) (k : Nat) (n : Fin 4) : State :=
  { s with std := { s.std with ax := s.std.ax.set n ((s.std.ax.get n).reseed ⟨s, n, k⟩ (readSens s n) (s.axis n).st) } }

/-- The motion state of one axis at an activation. -/
def State.startMot (s : State) (m : MouldInfo) (old : Option MouldInfo) (k : Nat) (live : Bool) (n : Fin 4) : State :=
  let c := m.carryMot old k n (s.mgmt.jax.get n).step (s.std.ax.get n)
  let s1 : State := { s with std := { s.std with ax := s.std.ax.set n c } }
  let s2 := if m.carries old "PROF" n then s1 else s1.streamAgain n
  if m.carries old (motName k) n then
    (if (old.bind fun o => o.std) = some k then s2 else s2.reseedMot k n)
  else
    let s3 := s2.freshMot k n
    if live && !decide ((s.axis n).st = .disabled) then s3.motLost n else s3

/-- A standard mould starts. -/
def State.startStd (s : State) (m : MouldInfo) (old : Option MouldInfo) (live : Bool) : State :=
  match m.std with
  | none => s
  | some k =>
    let s1 : State := { s with std := { s.std with todo := 0, edgeAge := 0, edge := none, edgeNoRef := false } }
    axes.foldl (fun t n => t.startMot m old k live n) s1.stdLoad

/-- What every activation changes (Table 4-6 step 4). -/
def State.takeMould (s0 : State) (m : MouldInfo) (old : Option MouldInfo) (live : Bool) : State :=
  let s := s0.settleFaults
  let s1 : State := { s with
    pour := { s.pour.carryRegs m old with pcnt := 0, ops := BitVec.ofNat 17 m.ops, runres := Vector.replicate 128 0 }
    moulds := { s.moulds with active := some m } }
  ((s1.toggleSlot.loadSequences m live).loadOffsets m.ofs).startStd m old live

/-- Both exchange buffers in the new layout before the first pour after a heat with no mould (01 R590). -/
def State.fillBuffers (s : State) (m : MouldInfo) : State :=
  { s with exch := { s.exch with buf0 := s.filled m s.exch.buf0, buf1 := s.filled m s.exch.buf1 } }
def State.fillBoth (s : State) (m : MouldInfo) : State := (s.fillBuffers m).streamed.imageTaken m

/-- The activation record once the mould has become active. -/
def State.activated (s : State) (a : Activation) (m : MouldInfo) (old : Option MouldInfo) : State :=
  let b : Activation := { a with phase := 3, unmatched := m.unmatched old, heat := s.tick.heat, ticks := 0 }
  { s with moulds := { s.moulds with pend := some b, loadleft := 0 } }

/-! ### Once per heat -/

/-- kth of an axis (06 R187), with the parameters of the active standard mould. -/
def kthOf (t0 lo gov : Int) : Word :=
  if gov ≤ 100 * t0 then 0x20000000
  else if 14000 < gov then BitVec.ofInt 32 lo
  else BitVec.ofInt 32 (2 ^ 29 - stdRound ((2 ^ 29 - lo) * (gov - 100 * t0)) (14000 - 100 * t0).toNat)

/-- A parameter of axis n as MGMT holds it for a mould. -/
def State.parOf (s : State) (m : MouldInfo) (n : Fin 4) (p : Nat) : Int :=
  match m.ent (0x1000 * (n.val + 1) + p) with
  | some e => (parValue s.mgmt.par e).toInt
  | none => 0

/-- MGMT computes kth of every axis, and publishes a change. -/
def State.kthUpdate (s : State) : State :=
  match s.moulds.active with
  | none => s
  | some m =>
    if m.std.isNone then s
    else
      let f (n : Fin 4) : Word := kthOf (s.parOf m n 0x052) (s.parOf m n 0x053) (s.th.cls.getD n.val {}).gov
      let k : Four Word := ⟨f 0, f 1, f 2, f 3⟩
      { s with mgmt := { s.mgmt with kth := k, pubWanted := s.mgmt.pubWanted || decide (k ≠ s.mgmt.kth) } }

/-- DTJ and DVCORE of axis n (16 R470): entry to an excursion raises NBRLIM. -/
def State.neighbour (s : State) (n : Fin 4) : State :=
  let tj (k : Nat) : Int := (s.th.sens.getD k {}).temp
  let dtj := tj (4 * n.val + 3) - Max.max (tj 16) (tj 17)
  let l := (s.axis n).link
  let lim := decide (7500 < dtj.natAbs) || decide (50 < l.vcore.natAbs)
  (s.updAxis n fun a => { a with link := { l with dtj := s16 dtj, dvcore := s16 l.vcore, nbr := lim } }).raiseIf
    (lim && !l.nbr) (axEv n 26)

/-- CTL passes the sum and count of axis 0's VBUS means of the heat on to MON (10 R321). -/
def Mon.passVbus (m : Mon) : Mon :=
  let v := if m.vbN = 0 then none else some (m.vbSum, m.vbN)
  { m with vbOut := v, xVb := m.xVb.write v, vbSum := 0, vbN := 0 }

/-- A rate that waited takes effect (01 R17). -/
def Tick.takeRate (t : Tick) : Tick :=
  match t.nextRate with
  | some r => { t with rate := r, tper := tperOf r, nextRate := none }
  | none => t

/-- The boundary itself: heat index 0 is next, the counter advances (01 R18, R19), and jobs accepted in the heat are due
(11 R356). -/
def State.nextHeat (s : State) : State :=
  let t := s.tick
  let u : Tick := { t with base := t.base + t.tper, hidx := 0, atZero := true, start := 0, cy := 0, heat := t.heat + 1 }
  { s with
    tick := u.takeRate
    run := { s.run with free := s.run.free - t.tper }
    mon := { s.mon.passVbus with tperNext := u.takeRate.tper, xHeat := s.mon.xHeat.write u.heat }
    mgmt := { s.mgmt with jobs := s.mgmt.jobs.map fun q =>
      if q.st = .accepted then { q with due := true } else q } }

/-- The publications that no PUBLISH has made in the heat: that of the Pour image for a mould that declares its words (15
R452), and that of values MGMT has for the mould (06 R187; log entry 172). -/
def State.imageDue (s : State) : State :=
  match s.moulds.active with
  | none => s
  | some m =>
    let due := (m.par.any fun e => isEvpour e.id) && !s.mgmt.pubDone
    let s1 := if (due || s.mgmt.pubWanted) && decide (s.exch.pub = .none) then s.publishFor m .ordinary else s
    { s1 with mgmt := { s1.mgmt with pubDone := false } }

/-- The reply data of MOULD_SELECT: HEAT, UNMATCHED (11 Table 11-10). -/
def selectData (heat : BitVec 64) (unmatched : Nat) : List Byte :=
  leBytes 8 heat.toNat ++ leBytes 2 unmatched ++ [0, 0]

/-- The reply to an activation. -/
def State.selectReply (s : State) (a : Activation) : State :=
  let s1 : State := { s with moulds := { s.moulds with pend := none, swap := 0, loadleft := 0 } }
  if a.boot then s1 else s1.pushReserved (okReply opcMouldSelect a.seq (selectData a.heat a.unmatched))

/-- A stopped activation (R127): first the heat with no mould, then the load and the mould. -/
def State.stoppedBoundary (s : State) (a : Activation) (m : MouldInfo) : State :=
  if a.phase = 0 then
    let s1 := s.toNoMould
    { s1 with
      tick := { s1.tick with nextRate := some m.rate }
      moulds := { s1.moulds with
        pend := some { a with phase := 2, ticks := 0 }, loadleft := (m.stopWords s1.moulds.outgoing).length } }
  else if a.phase = 2 then
    let old := s.moulds.outgoing
    let s1 : State := { s with pour := s.pour.load m old true, ax := s.ax.map Axis.noCompares }
    (((((s1.fillBuffers m).takeMould m old false).activated a m old).kthUpdate).fillBoth m)
  else s

/-- A live swap (Table 4-6): once it is armed and its boundary publication stands. -/
def State.liveBoundary (s : State) (a : Activation) (m : MouldInfo) : State :=
  if a.phase = 1 ∧ s.exch.pub = .boundary then
    let old := s.moulds.active
    let s1 := ({ s with exch := { s.exch with act := !s.exch.act, pub := .none } } : State).streamed
    ((s1.takeMould m old true).activated a m old).kthUpdate
  else s.kthUpdate

/-- A deactivation (R128): its reply follows this boundary. -/
def State.deactBoundary (s : State) (a : Activation) : State :=
  if a.phase = 0 then
    let s1 := s.toNoMould
    let s2 : State := { s1 with tick := { s1.tick with nextRate := some s.mgmt.bootRate } }
    s2.selectReply { a with heat := s.tick.heat, unmatched := 0 }
  else s

/-- What a pending activation does at a heat boundary. -/
def State.activationBoundary (s : State) : State :=
  match s.moulds.pend with
  | none => s.kthUpdate
  | some a =>
    match a.kind, a.info with
    | .stopped, some m => s.stoppedBoundary a m
    | .live, some m => s.liveBoundary a m
    | .deact, _ => s.deactBoundary a
    | _, none => s

/-- HEAT_BOUNDARY (R18): between tick 15 of a heat and tick 0 of the next. -/
def execHeatBoundary (s : State) : Res :=
  if s.tick.on && decide (s.tick.hidx = 15) && !s.tick.atZero && s.tick.acqBase.isNone then
    .next (axes.foldl State.neighbour s.closePour.nextHeat.activationBoundary.imageDue)
  else .next s

/-! ### CLEAR_FAULT (01 R33, R38; 18 R508) -/

/-- R33: causes that only a higher level clears. -/
def State.clearBarred (s : State) : Bool := decide (s.mon.fault ≠ 0) || s.mgmt.ev203 || s.mon.qext

/-- Every trip, HSTO, SHOOT and REFFLT flag of an axis written 1 (07 R242, 08 R256). -/
def State.clearFlags (s : State) (n : Fin 4) : State :=
  (((s.updDrv n fun d => { d with refflt := false }).tflagWrite n 0x1FFF).shootWrite n 7).hstoWrite n 7

/-- A fault source of the axis is still active: a flag that stays, a link that fails, a sync chain that misses. -/
def Axis.faultActive (a : Axis) : Bool :=
  decide (a.drv.tflag ≠ 0) || decide (a.drv.hsto ≠ 0) || decide (a.drv.shoot ≠ 0) || a.drv.refflt ||
    decide (2 ≤ a.dnRun) || decide (2 ≤ a.upRun) || decide (2 ≤ a.missRun)

/-- The axes a mask names. -/
def namedAxes (m : BitVec 4) : List (Fin 4) := axes.filter fun n => m.getLsbD n.val

/-- The named axes that may leave FAULT. -/
def State.leaving (s : State) (m : BitVec 4) : List (Fin 4) :=
  (namedAxes m).filter fun n => decide ((s.axis n).st = .fault) && !(s.axis n).faultActive

/-- A named axis in FAULT keeps an active source. -/
def State.keepsFault (s : State) (m : BitVec 4) : Bool :=
  (namedAxes m).any fun n => decide ((s.axis n).st = .fault) && (s.axis n).faultActive

/-- SAFE is left, and CTL withdraws its quench request (18 R498). SAFECAUSE stays: it names the last entry (Table 1-9). -/
def State.leaveSafe (s : State) : State :=
  let t := if s.dev = .safe then s.setDev .ready else s
  { t with mon := { t.mon with req := false } }

/-- The outcome of CLEAR_FAULT at the boundary, before the axes change: the state and, for an OK reply, the axes that
leave FAULT; none when the reply is NOT_PERMITTED. -/
def State.clearNow (s : State) (m : BitVec 4) (cause : BitVec 4) : State × Option (List (Fin 4)) :=
  if s.clearBarred then (s, none)
  else
    let s1 := (namedAxes m).foldl State.clearFlags s
    let l := s1.leaving m
    if s.dev ≠ .safe ∧ l = [] ∧ s1.keepsFault m then (s1, none)
    else if cause ≠ 0 then ({ s1 with safecause := cause }, some [])
    else (l.foldl (fun t n => t.axNext n .disabled) s1.leaveSafe, some l)

/-- The reply of CLEAR_FAULT, after the axes changed. -/
def State.clearReply (s : State) (seq : Word) (r : Option (List (Fin 4))) : State :=
  match r with
  | none => s.pushReserved (refusal 0x0604 seq stNotPermitted 0 0xFFFF)
  | some l =>
    let m := (l.filter fun n => decide ((s.axis n).st = .disabled)).foldl (fun k n => k + 2 ^ n.val) 0
    s.pushReserved (okReply 0x0604 seq (leBytes 1 m ++ [0, 0, 0]))

/-- Axis states change at the boundary (R36), with the outcome of a CLEAR_FAULT. -/
def State.axesBoundary (s : State) : State :=
  match s.mgmt.clr with
  | none => axes.foldl State.axisBoundary s
  | some (m, seq, cause) =>
    let s0 : State := { s with mgmt := { s.mgmt with clr := none } }
    let r := s0.clearNow m cause
    (axes.foldl State.axisBoundary r.1).clearReply seq r.2

/-! ### The tick boundary -/

/-- The tick that begins: an acquired one (07 R234), tick 0 of a heat, or the next of the heat. -/
def Tick.next (t : Tick) : Tick :=
  match t.acqBase with
  | some b => { t with acqBase := none, base := b, hidx := 0, atZero := false, cy := t.start, start := 0 }
  | none =>
    if t.atZero then { t with atZero := false, cy := t.start, start := 0 }
    else { t with base := t.base + t.tper, hidx := t.hidx + 1, cy := 0 }

/-- The Runner's cycles in the tick that begins. -/
def Runner.next (r : Runner) (t : Tick) : Runner :=
  match t.acqBase with
  | some b => { r with free := t.base + r.free - b, tx := r.tx.map fun x => x.rebase t.base b, ran := 0 }
  | none => { r with free := if t.atZero then r.free else r.free - t.tper, ran := 0 }

/-- The tick counts on: heat index, position, the sync output (07 R234), and the Runner window's cycle. A tick marker goes
to MON, whose acknowledge is still missing (18 R501). -/
def State.nextTick (s : State) : State :=
  { s with
    tick := s.tick.next
    sync := { s.sync with pulse := s.sync.pulseAt (s.tick.atZero || s.tick.acqBase.isSome) }
    run := s.run.next s.tick
    mon := { s.mon with ackMiss := Nat.min 8 (s.mon.ackMiss + 1) }
    mgmt := { s.mgmt with tickCause := 0 } }

/-- What the ports start a tick with (02 R68, 07 R220; XSTAT bit 0); its XP is still to come. -/
def State.freshPorts (s : State) : State :=
  { s with
    pour := { s.pour with ax := s.pour.ax.map fun p => { p with imm := false, linkctl := 0, sent := false } }
    exch := { s.exch with swapped := false, xpPast := false } }

/-- Words the load engine wrote in the tick that ends (R127, R129): in a live swap one per cycle without an XU4 operation
of the active mould, with no mould one per cycle; none before the load has started. -/
def State.loadedWords (s : State) (a : Activation) : Nat :=
  match a.kind, s.moulds.active with
  | .live, some m => if a.ticks = 0 then 0 else m.loadRate
  | .live, none => 0
  | _, _ => if a.phase = 2 ∧ 1 ≤ a.ticks then s.tick.tper else 0

/-- The words that the load of a stopped activation has written stand in Pour data memory, whatever becomes of it (R127,
R130). -/
def State.loadTick (s : State) (a : Activation) : State :=
  let left := s.moulds.loadleft - s.loadedWords a
  let p := match a.info with
    | some m =>
      if a.phase = 2 ∧ 1 ≤ a.ticks then
        s.pour.loadFirst m s.moulds.outgoing ((m.stopWords s.moulds.outgoing).length - left)
      else s.pour
    | none => s.pour
  { s with pour := p, moulds := { s.moulds with pend := some { a with ticks := a.ticks + 1 }, loadleft := left } }

/-- A pending activation at a tick: the load goes on (R127, R129), and the reply is due in the second tick of the new
mould (11 R365). -/
def State.activationTick (s : State) : State :=
  match s.moulds.pend with
  | none => s
  | some a =>
    if a.phase = 3 then
      if 1 ≤ a.ticks then s.selectReply a
      else { s with moulds := { s.moulds with pend := some { a with ticks := a.ticks + 1 } } }
    else s.loadTick a

/-- The pour of this tick begins (R20): bundle 0 of a custom mould issues, a standard mould reads its edge, and with no
mould no bundle issues (02 R79). POUR.PCNT counts the pour here (log entry 131). -/
def State.startPour (s : State) : Res :=
  let p0 : Pour := { s.pour with poured := true, sig := 0xFFFFFFFF, boff := 0, nextCy := 0, cutNow := false, ended := true }
  match s.moulds.active with
  | none => .next { s with pour := p0 }
  | some m =>
    let s1 : State := { s with pour := { p0 with pcnt := p0.pcnt + 1, ended := m.std.isSome } }
    if m.std.isSome then .next (s1.stdBegin m) else issueBundle m s1

/-- With no mould active the snapshot of the heat is taken in tick 15 (13 R412). -/
def State.idleSnapshot (s : State) : State :=
  if s.tick.hidx = 15 ∧ s.moulds.active = none then s.snapshot else s

/-- FISTATE and FICLASS change at the end of cy 0 (10 R326): after bundle 0. -/
def endOfCy0 : Res → Res
  | .next s => .next s.fiUpdate
  | r => r

/-- TICK_BOUNDARY (R20, R36): the last pour closes and the next tick begins. In tick 15 the boundary to come is the
heat's. -/
def execTickBoundary (s : State) : Res :=
  if s.tick.on && (!decide (s.tick.hidx = 15) || s.tick.atZero || s.tick.acqBase.isSome) then
    endOfCy0 (((s.closePour.nextTick.freshPorts.runAgain).axesBoundary.devFromAxes).activationTick.idleSnapshot).startPour
  else .next s

/-! ### Rows -/

/-- The tick to come is an acquired one: heat index 0, its cy 0 placed 10 cy + SDLY after the edge, which was sampled 32 cy
ago (07 R234). The heat in progress keeps its counter (log entry 17), and MON is told not to judge the interval (18 R494). -/
def State.acquired (s : State) : State :=
  let base := s.tick.base + s.tick.cy + (10 + fld s.sync.cfg 30 16) - 32
  { s with
    tick := { s.tick with acqBase := some base, start := s.sync.startCount }
    sync := { s.sync with armed := false, lock := true, miss := 0 }
    mon := { s.mon with acq := true } }

/-- SYNC_ACQUIRE (07 R234): an armed slave restarts its tick. Where cy 0 of the new tick lies before the cycle of the
acquisition, the tick begins here, at its count; else the TICK_BOUNDARY that follows begins it at cy 0. -/
def execSyncAcquire (s : State) : Res :=
  if s.sync.armed && decide (s.sync.mode = 2) && s.moulds.active.isNone && s.tick.on then
    (if s.sync.startCount = 0 then .next s.acquired else execTickBoundary s.acquired)
  else .next s

/-- The reservation in force (R19). -/
def Tick.reserved (t : Tick) : Nat := t.ring.foldl (fun m x => Nat.max m x.2.toNat) 0

/-- One more reservation is programmed into the next ring entry. -/
def Tick.reserveHeat (t : Tick) (h : BitVec 64) : Tick :=
  { t with ring := Sparse.put 0 t.ringNext (h + 0x1000000) t.ring, ringNext := (t.ringNext + 1) % 64 }

/-- HEAT_RESERVATION (R19): the counter has come within 2^23 of the reservation in force. -/
def execHeatReservation (s : State) : Res :=
  if s.tick.on && decide (s.tick.reserved ≤ s.tick.heat.toNat + 2 ^ 23) then
    .next { s with tick := s.tick.reserveHeat s.tick.heat }
  else .next s

/-- The drive-die events that are axis faults (07 R240, R233; 08 R277; 16 R473): a SYNCMISS is one where
two came in a row. -/
def Axis.faultEvent (a : Axis) (j : Nat) : Bool := decide (j ≠ 5) || a.missTwo

/-- MGMT takes EV211 FAULTREQ for axis n: the CAUSE words name the axes, so the event stays pending while another axis waits
(06 R204, R205; log entry 169). -/
def State.takeFaultReq (s : State) (n : Fin 4) : State :=
  if s.stdK.isSome && s.evm.pendMgmt.getLsbD 211 then
    let s1 := if s.faultWaits n then s.axFault n else s
    if axes.any fun k => !decide (k = n) && s.faultWaits k then s1
    else { s1 with evm := { s1.evm with pendMgmt := s1.evm.pendMgmt &&& ~~~(bitB 256 211) } }
  else s

/-- AXIS_FAULT_APPLY (06 R205, 15 R451): MGMT takes a pending fault event of the axis; FAULT follows at the next boundary. -/
def execAxisFaultApply (n : Fin 4) (s : State) : Res :=
  let js := [1, 5, 9, 10, 11, 22].filter fun j => s.evm.pendMgmt.getLsbD (axEv n j)
  let s1 : State := { s with evm := { s.evm with
    pendMgmt := js.foldl (fun p j => p &&& ~~~(bitB 256 (axEv n j))) s.evm.pendMgmt } }
  let s2 := s1.updAxis n fun a => { a with missTwo := a.missTwo && !js.contains 5 }
  .next ((if js.any (s.axis n).faultEvent then s2.axFault n else s2).takeFaultReq n)

end Sys2Proof.Machine
end

