-- ==== Sys2Proof/Machine/System.lean ====
section
/-! DEFINITION. System packets (11 R364): function resets (16 Table 16-4, 18 Table 18-4), device reset, hibernate and
CLEAR_FAULT; STORE_CONFIG's end (12 R371, 23 R586); loopback tests and self-test (19 R522 to R524). -/

namespace Sys2Proof.Machine

/-! ### Function resets -/

/-- FUNC, CH and the opcode of RESET_FUNC; FUNC above 5 is handled by RESET_FUNC_AXIS (log entry 8). -/
def isFunc (k : Nat) (p : List Byte) : Bool :=
  decide (pOpc p = 0x0601) && (decide (pPar p 0 1 = k) || (decide (k = 0) && decide (5 < pPar p 0 1)))

/-- The head of the ladle passes the checks 1 to 6 of R342: a packet they refuse waits for nothing (R347). -/
def State.headGood (s : State) : Bool := match s.mgmt.ladle with | [] => true | p :: _ => (s.precheck p).isNone

/-- A RESET_FUNC that passes those checks is taken while none is under way; until then it stays at the head. -/
def State.onFunc (s : State) (k : Nat) (f : List Byte → State → State) : State :=
  if s.mgmt.rfunc.isSome && s.headGood then s else s.onPacket (isFunc k) f

/-- The reset is under way, its reply to come. -/
def State.beginFunc (s : State) (p : List Byte) (k n : Nat) : State :=
  let s1 := s.reserve
  { s1 with mgmt := { s1.mgmt with rfunc := some (k, n, pSeq p) } }

/-- The registers of a drive die after RESET_FUNC of its axis (Table 18-4): compares 0, trip, gate and sense flags and
counters cleared, configuration kept; comparators and sources go on. -/
def Drv.funcReset (d : Drv) : Drv :=
  { ({} : Drv) with
    ctrl := d.ctrl &&& 0xFF00, dt := d.dt, brkhw := d.brkhw, syncofs := d.syncofs, tcfg := d.tcfg
    gdrv := d.gdrv, gbst := d.gbst, ghs := d.ghs, gvds := d.gvds, gocf := d.gocf, gvm := d.gvm
    swin := d.swin, sctrl := d.sctrl
    hon := d.hon, lon := d.lon, vmlo := d.vmlo, fpglow := d.fpglow, bstuv := d.bstuv, tsrc := putBit (d.tsrc &&& 0x1C0F) 11 false }

/-- LINKn after its crossing pair was reset and retrained (R472, Table 16-6). -/
def Link.retrained (l : Link) : Link :=
  { l with phu := 0, phd := 0, trained := true, dnbadl := false, upbadl := false
           slips := 0, immlost := 0, dnbad := 0, upbad := 0 }

/-- The link of an axis after its reset: transfers in flight are gone, the event word under way with them, and bad frames are
counted anew (R471, R472). -/
def Axis.linkReset (a : Axis) : Axis :=
  { a with link := a.link.retrained, regq := [], dnRun := 0, upRun := 0, dieBadL := false, dieBad := 0
           evq := a.evq.filter (· ≠ .ack), upOn := none
           sense := { a.sense with frame := none } }

/-- The axis after RESET_FUNC (Table 16-4, Table 18-4, R468): the mirror takes what the drive die holds. -/
def Axis.funcReset (a : Axis) : Axis :=
  let b := a.linkReset
  let d := b.drv.funcReset
  let ph (p : Phase) : PhSt :=
    let x := b.ph.get p
    { h := { off := x.h.off }, l := { off := x.l.off }, fpgSeen := d.fpglow.getLsbD (phIx p), lateHigh := x.lateHigh }
  { b with
    drv := d, mir := d, ph := ⟨ph .u, ph .v, ph .w⟩, brk := false, enWait := false
    filt := 0, cbcHold := 0, cbcPer := 0, counting := d.tsrc &&& d.tripsOn, wrapOff := 0, wrapPh := 0
    vmloPer := d.vmlo && !b.noLock, vmloWait := false, uvArm := false, missRun := 0, missTwo := false, evq := []
    sense := { b.sense with
      hist := Vector.replicate 7 [], lostNow := 0, stuckNow := 0, lossAt := [], stuckAt := [], fpg := 0, fpgAt := ⟨0, 0, 0⟩
      partial_ := true, vmodeNew := false, tinj := false, tinjNext := false, tinjTest := false, tinjTestN := false } }

/-- Compares and messages of an axis that wait on CTL; and the messages alone, which the crossing pair of the link loses while
the compares in the ports of CTL, function state, stay (16 R471). -/
def State.dropCompares (s : State) (n : Fin 4) : State := s.updPort n PortAx.noCompares
def State.dropMessages (s : State) (n : Fin 4) : State := s.updPort n fun p => { p with immq := [], regOn := false }

/-- RESET_FUNC_AXIS (FUNC 0): the axis goes to RECOVERY at the next boundary; a test of it is cut short. -/
def execResetFuncAxis (s : State) : Res :=
  .next (s.onFunc 0 fun p t =>
    t.unless [refuseIf (decide (5 < pPar p 0 1)) (refuse p stBadParam 4 12)] fun u =>
      let n := pAxis p
      ((u.beginFunc p 0 n.val).axNext n .recovery).abortTest (BgOp.testsAxis n))

/-- A test of one interface. -/
def BgOp.testsIface (k : Nat) : BgOp → Bool
  | .loopback i _ _ _ _ _ => decide (i = k)
  | _ => false

/-- The running job of an axis ends INTERRUPTED and its queue is held (Table 18-4). -/
def State.interrupted (s : State) (n : Fin 4) : State := (s.endRunning n 5).updJax n fun j => { j with held := true }

/-- RESET_FUNC_LINK (FUNC 1, R472): only in DISABLED or FAULT. -/
def execResetFuncLink (s : State) : Res :=
  .next (s.onFunc 1 fun p t =>
    let n := pAxis p
    t.unless [refuseIf (!decide ((t.axis n).st = .disabled ∨ (t.axis n).st = .fault)) (refuse p stBadState 0 0xFFFF)]
      fun u => ((u.beginFunc p 1 n.val).interrupted n).abortTest fun o => o.testsIface 2 && o.testsAxis n)

/-- RESET_FUNC_SNS (FUNC 2): its crossings lose what is queued, an unread result is lost, the regular sequence restarts. -/
def execResetFuncSns (s : State) : Res :=
  .next (s.onFunc 2 fun p t =>
    let u := (t.beginFunc p 2 0).abortTest fun o => o.testsIface 5 || o.testsIface 6
    let c := u.conv
    { u with
      evm := { u.evm with cnt := u.evm.cnt.filter fun x => decide (x.1 < snsKey 0) || decide (monKey 0 ≤ x.1) }
      conv := { c with
        adrt := c.adrt &&& 0x7F, due := 0, rdyAll := c.refrdy, ain11 := none
        cur := if c.seqr.isEmpty then none else some (false, 0) } })

/-- RESET_FUNC_SPRUE (FUNC 3): the reply comes first, the reset when it is taken (R364, 13 R416). -/
def execResetFuncSprue (s : State) : Res :=
  if s.mgmt.defer.isSome && s.headGood then .next s
  else .next (s.onFunc 3 fun p t =>
    let u := (t.pushReply (accept p [])).abortTest (BgOp.testsIface 0)
    { u with mgmt := { u.mgmt with defer := some (.sprueReset, pSeq p) } })

/-- RESET_FUNC_RUNNER (FUNC 4, 14 R430). -/
def execResetFuncRunner (s : State) : Res :=
  .next (s.onFunc 4 fun p t => ((t.beginFunc p 4 0).runnerReset).abortTest (BgOp.testsIface 1))

/-- RESET_FUNC_MAILBOX (FUNC 5, 15 R448). -/
def execResetFuncMailbox (s : State) : Res :=
  .next (s.onFunc 5 fun p t =>
    let ch := pPar p 1 1
    t.unless [refuseIf (decide (15 < ch)) (refuse p stBadParam 4 13)] fun u =>
      (u.beginFunc p 5 ch).updMb ⟨ch % 16, Nat.mod_lt _ (by decide)⟩ MbCh.cleared)

/-- The reset under way is over. -/
def State.funcEnd (s : State) (seq : Word) : State :=
  ({ s with mgmt := { s.mgmt with rfunc := none } }).pushReserved (okReply 0x0601 seq [])

/-- After a reset of SNS its PLL has locked again and the reference check starts anew (18 Table 18-5, log entry 159). -/
def State.snsRestored (s : State) : State :=
  { s with
    pwr := { s.pwr with snslock := true }
    conv := { s.conv with flag := s.conv.flag &&& ~~~4 } }

/-- RESET_FUNC_DONE (R364, R471): both sides of every pair report completion. An axis is in RECOVERY by then and returns
to DISABLED. -/
def execResetFuncDone (s : State) : Res :=
  match s.mgmt.rfunc with
  | none => .next s
  | some (f, n, seq) =>
    if f = 0 then
      if (s.axis (axOf n)).st = .recovery then
        .next ((((s.updAxis (axOf n) Axis.funcReset).dropCompares (axOf n)).axNext (axOf n) .disabled).funcEnd seq)
      else .next s
    else if f = 1 then .next (((s.updAxis (axOf n) Axis.linkReset).dropMessages (axOf n)).funcEnd seq)
    else if f = 2 then .next (s.snsRestored.funcEnd seq)
    else .next (s.funcEnd seq)

/-! ### Device reset, hibernate, clear -/

/-- The reply enters the outlet; the action follows when it is taken, or 2 ms later (R364). -/
def State.deferAction (s : State) (p : List Byte) (a : Deferred) : State :=
  let u := s.pushReply (accept p [])
  { u with mgmt := { u.mgmt with defer := some (a, pSeq p) } }

/-- RESET_DEVICE (R364). A second deferred action waits until the first has happened. -/
def execResetDevice (s : State) : Res :=
  if s.mgmt.defer.isSome && s.headGood then .next s
  else .next (s.onPacket (isOpc 0x0602) fun p t =>
    t.unless [refuseIf (decide (pPar p 0 4 ≠ 0x5A5A0602)) (refuse p stBadParam 4 12)] fun u => u.deferAction p .deviceReset)

/-- Records await commit (R364). -/
def Journal.waits (j : Journal) : Bool := !j.pend.isEmpty || !j.com.isEmpty || !j.held.isEmpty

/-- HIBERNATE (R364, 01 R32). -/
def execHibernate (s : State) : Res :=
  if s.mgmt.defer.isSome && s.headGood then .next s
  else .next (s.onPacket (isOpc 0x0603) fun p t =>
    t.unless [
      refuseIf (!t.mgmt.ladle.isEmpty) (refuse p stBusy 11 0xFFFF),
      t.bgBusy p,
      refuseIf t.jrn.waits (refuse p stBusy 7 0xFFFF)] fun u => u.deferAction p .hibernate)

/-- CLEAR_FAULT (01 R33, R38): the next tick boundary decides its outcome. One at a time. -/
def execClearFault (s : State) : Res :=
  if s.mgmt.clr.isSome && s.headGood then .next s
  else .next (s.onPacket (isOpc 0x0604) fun p t =>
    let u := t.reserve
    { u with mgmt := { u.mgmt with clr := some ((pAx p).setWidth 4, pSeq p, u.mgmt.tickCause) } })

/-! ### STORE_CONFIG (12 R371, 23 R586) -/

/-- Offsets of the configuration registers of an axis block (Table 18-4). -/
def axisCfgOffsets : List Nat :=
  [0x000, 0x004, 0x034] ++ ((List.range 13).map fun k => 0x080 + 4 * k) ++
    [0x100, 0x104, 0x108, 0x10C, 0x110, 0x114, 0x200, 0x204]

/-- The configuration words of one drive die, with their addresses. -/
def Drv.cfgWords (d : Drv) (n : Fin 4) : List (Nat × Word) :=
  axisCfgOffsets.map fun o =>
    (0x1000 + 0x400 * n.val + o,
      if o = 0 then d.ctrl &&& 0xFF00 else if o < 0x100 then d.pwmWord o else if o < 0x200 then d.gateWord o else d.sensWord o)

/-- Every configuration register in force (R586). -/
def State.cfgWords (s : State) : List (Nat × Word) :=
  (axes.flatMap fun n => (s.axis n).drv.cfgWords n) ++
    [(0x10C0, s.sync.cfg), (0x3000, s.conv.refsel.setWidth 32), (0x3004, s.conv.inj)] ++
    ((List.finRange 16).flatMap fun k =>
      [(0x3400 + 4 * k.val, (s.fi.inp.get k).cfgF), (0x3440 + 4 * k.val, (s.fi.inp.get k).stkF)]) ++
    [(0x348C, s.fi.tp), (0x3490, s.fi.tpmask.setWidth 32), (0x3498, s.fi.wake.setWidth 32)] ++
    (axes.map fun n => (0x3500 + 4 * n.val, (s.hall.get n).cfg)) ++
    ((List.range 7).flatMap fun i => [(0x3888 + 8 * i, s.run.cfgA (i + 1)), (0x388C + 8 * i, s.run.cfgB (i + 1))])

/-- Bindings of MB3 to MB15 (15 R442). -/
def State.bindWords (s : State) : List (Nat × Word) :=
  (List.range 13).map fun i => (i + 3, ((s.mail.ch[i + 3]?).map fun c => c.bind).getD 0)

/-- A list of words as a table. -/
def asTable (l : List (Nat × Word)) : Sparse (Option Word) := l.foldl (fun t x => Sparse.put none x.1 (some x.2) t) []

/-- HEAT of the newest configuration record committed; those of a commit in progress are not (R371). -/
def Journal.newestCfg (j : Journal) : BitVec 64 :=
  j.settled.foldl (fun h x => if x.2.opc = 0x0201 ∧ h.toNat < x.2.heat.toNat then x.2.heat else h) j.cfgHeat

/-- The configuration partition is written. -/
def State.storeAll (s : State) : State :=
  { s with
    mgmt := { s.mgmt with
      stored := { par := s.mgmt.par, regs := asTable s.cfgWords, binds := asTable s.bindWords, qmap := s.evm.qmap }
      travel := s.mgmt.travel.map fun t =>
        { t with nvClosed := t.closed, nvOpened := t.opened, nvProf := t.prof, nvHave := t.have_ } }
    jrn := { s.jrn with cfgHeat := s.jrn.newestCfg } }

/-- STORE_CONFIG_DONE: with the values in force now. -/
def execStoreConfigDone (s : State) : Res :=
  .next (s.onBg (fun o => decide (o = .storeConfig)) fun b t => t.storeAll.pushReserved (okReply b.opc b.seq []))

/-! ### Loopback and self-test (19 R522 to R524) -/

/-- TEST.LB with BUSY set: the rest stays that of the last test (log entry 28). -/
def State.testBegin (s : State) : State := { s with lc := { s.lc with lb := s.lc.lb ||| 0x8000 } }

/-- IFACE of a LOOPBACK; above 6 it is handled by LOOPBACK_SPRUE (log entry 8). -/
def isLoop (k : Nat) (p : List Byte) : Bool :=
  decide (pOpc p = 0x0701) && (decide (pPar p 0 1 = k) || (decide (k = 0) && decide (6 < pPar p 0 1)))

/-- Value checks (R522, Table 19-4). -/
def ckLoop (p : List Byte) : List (Option Reply) :=
  let i := pPar p 0 1
  let d := pPar p 1 1
  let n := pPar p 2 2
  [refuseIf (decide (6 < i)) (refuse p stBadParam 4 12),
   refuseIf (decide (2 < d) || (decide (i = 0) && decide (d = 2))) (refuse p stBadParam 4 13),
   refuseIf (decide (n = 0) || (decide (i = 0) && decide (d = 0) && decide (4096 < n))) (refuse p stBadParam 4 14)]

/-- VBUS of an axis as its last sense frame gives it, in units of 96 V / 2^23 (09 Table 9-6). -/
def State.vbusOf (s : State) (n : Fin 4) : Int := ((s.axis n).sense.mean.getD 6 0).toInt

/-- The supplies of a gate-drive test: VM below 2 V and VGD up at LB-B, VM from 8 V to 80 V at LB-C (Table 19-4; log entry 200). -/
def State.gateSupplies (s : State) (d : Nat) (n : Fin 4) : Bool :=
  match d with
  | 1 => decide (96 * s.vbusOf n < 2 * 2 ^ 23) && s.pwr.vgd
  | 2 => decide (8 * 2 ^ 23 ≤ 96 * s.vbusOf n) && decide (96 * s.vbusOf n ≤ 80 * 2 ^ 23)
  | _ => true

/-- State checks: the axis, its front end (20 R539) and supplies, the mould, the reference, the test pulse's GPIO. -/
def State.ckLoopState (s : State) (p : List Byte) : Option Reply :=
  let i := pPar p 0 1
  let d := pPar p 1 1
  let n := pAxis p
  let onAxis := decide (2 ≤ i) && decide (i ≤ 4)
  badState p ((onAxis && !decide ((s.axis n).st = .disabled)) ||
    (decide (i = 3 ∨ i = 4) && !s.pwr.axpwr.getLsbD n.val) ||
    (decide (i = 3) && !s.gateSupplies d n) ||
    (decide (i = 5) && decide (d = 1 ∨ d = 2) && s.moulds.active.isSome) ||
    (decide (i = 5) && decide (d = 1) && !decide (s.conv.refsel = 0)) ||
    (decide (i = 6) && decide (d = 2) && decide (fld s.fi.tp 2 0 < 2)))

/-- A LOOPBACK that passed its checks; LB-C of the field inputs gives its test pulse at once. -/
def State.loopGo (s : State) (p : List Byte) : State :=
  let i := pPar p 0 1
  let n := pAxis p
  let onAxis := decide (2 ≤ i) && decide (i ≤ 4)
  let w := BitVec.ofNat 32 (pPar p 4 4)
  let u := (s.startBg p (.loopback i (pPar p 1 1) (pPar p 2 2) w (if onAxis then n else 0) none)).testBegin
  let v := if i = 3 ∧ pPar p 1 1 = 1 then u.updAxis n fun a => { a with noLock := true } else u
  if onAxis then (v.updAxis n fun a => { a with testI := 0 }).axNext n .test
  else if i = 6 ∧ pPar p 1 1 = 2 then { v with fi := { v.fi with pulse := true } }
  else v

/-- A LOOPBACK of one interface. -/
def State.loopPacket (k : Nat) (s : State) : State :=
  s.onPacket (isLoop k) fun p t => t.unless (t.ckLoopState p :: ckLoop p ++ [t.bgBusy p]) fun u => u.loopGo p

def execLoopbackSprue (s : State) : Res := .next (s.loopPacket 0)
def execLoopbackRunner (s : State) : Res := .next (s.loopPacket 1)
def execLoopbackPlind (s : State) : Res := .next (s.loopPacket 2)
def execLoopbackGateDrive (s : State) : Res := .next (s.loopPacket 3)
def execLoopbackPhaseSensing (s : State) : Res := .next (s.loopPacket 4)
def execLoopbackConverter (s : State) : Res := .next (s.loopPacket 5)
def execLoopbackFieldInputs (s : State) : Res := .next (s.loopPacket 6)

/-- An axis in TEST returns to DISABLED; one that was about to enter TEST stays where it is. The VM lockout acts again, and the
compares of a gate-drive test are gone (log entry 182). -/
def State.testLeave (s0 : State) (n : Fin 4) : State :=
  let s1 := s0.updAxis n Axis.lockBack
  let s := (s1.raiseDrvIf (s1.axis n).lockDue n 12).updChain n fun a => { a with
    lockDue := false, testI := 0, sense := { a.sense with feedNext := none }
    drv := { a.drv with scmp := if a.testI = 0 ∨ a.sense.feedNext.isSome ∨ a.sense.feed.isSome then a.drv.scmp else ⟨0, 0, 0, 0⟩ } }
  if (s.axis n).st = .test then s.axNext n .disabled
  else s.updAxis n fun a => if a.nxt = some .test then { a with nxt := none } else a

/-- ERRORS and FIRST of the reply: those of the run, or those of an abort (R522). -/
def loopResult (errors : Nat) (first : Word) (aborted : Bool) : Nat × Word :=
  if aborted then (0xFFFF, first)
  else if errors = 0 then (0, 0xFFFFFFFF)
  else (Nat.min errors 0xFFFE, first)

/-- TEST.LB after a LOOPBACK (Table 19-7). -/
def lbWord (i d : Nat) (n : Fin 4) (errors : Nat) : Word :=
  at_ 16 errors ||| flag 14 (decide (errors = 0)) ||| at_ 8 (d % 4) ||| at_ 4 (i % 8) |||
    (if 2 ≤ i ∧ i ≤ 4 then at_ 0 n.val else 0)

/-- A test still waits for its precondition (Table 19-4): RSTBn high for LB-B and LB-C of the Runner, EN 0 for LB-C of phase
sensing. -/
def State.loopWaits (s : State) : BgOp → Bool
  | .loopback 1 d _ _ _ none => decide (1 ≤ d) && s.run.tx.isSome
  | .loopback 4 2 _ _ n none => (s.axis n).drv.ctrl.getLsbD 0
  | _ => false

/-- What a test leaves behind: after LB-B of gate drive every low side has been on (09 R281); after LB-B of the field inputs, and
its self-test item, the filtered states hold as R328 of 10 says (Table 19-4). -/
def State.testTrace (s : State) : BgOp → State
  | .loopback 3 1 _ _ n none => s.updAxis n fun a => { a with sense := { a.sense with lowSeen := 7 } }
  | .loopback 6 1 _ _ _ _ => { s with fi := s.fi.afterTest }
  | .selftest set _ => if set.getLsbD 14 then { s with fi := s.fi.afterTest } else s
  | _ => s

/-- LOOPBACK_DONE (R522): its items gave `errors` failures, the first at `first`; after an abort `first` counts the items
completed. -/
def execLoopbackDone (errors : Nat) (first : Word) (s : State) : Res :=
  .next (s.onBg (fun o => (match o with | .loopback _ _ _ _ _ _ => true | _ => false) && !s.loopWaits o) fun b t =>
    match b.op with
    | .loopback i d _ _ n ab =>
      let r := loopResult errors first ab.isSome
      let u := (if 2 ≤ i ∧ i ≤ 4 then t.testLeave n else t).testTrace b.op
      let w : State := { u with lc := { u.lc with lb := lbWord i d n r.1 } }
      (w.raise 253).pushReserved (okReply b.opc b.seq
        ((if r.1 = 0 then [1] else [0]) ++ [0] ++ leBytes 2 r.1 ++ leBytes 4 r.2.toNat))
    | _ => t)

/-- SELFTEST (R524): in READY, so every axis is in DISABLED; all four go to TEST. -/
def execSelftest (s : State) : Res :=
  .next (s.onPacket (isOpc 0x0702) fun p t =>
    let n := pPar p 0 4
    t.unless [refuseIf (decide (n = 0) || decide (2 ^ 18 ≤ n)) (refuse p stBadParam 4 12), t.bgBusy p] fun u =>
      axes.foldl (fun w k => w.axNext k .test) (u.startBg p (.selftest (BitVec.ofNat 18 n) false)).testBegin)

/-- Every valid customer slot has its HCRC and every SCRC (Table 19-5, item 2). -/
def State.slotsOk (s : State) : Bool :=
  let f (x : Option Image × Bool) : Bool := match x with | (some i, true) => i.crcOk | _ => true
  f s.moulds.cust.a0 && f s.moulds.cust.a1 && f s.moulds.cust.a2 && f s.moulds.cust.a3

/-- Items 2 and 15 to 17 as the state decides them, and item 3: the standard moulds pass their check (Table 19-5). -/
def State.selfItems (s : State) : BitVec 18 :=
  putBit (putBit (putBit (if s.slotsOk then 0xC else 8) 15 ((List.finRange 22).all fun k => !(s.th.sens.get k).broken))
    16 (decide (s.mon.fault = 0) && !s.mgmt.monlost))
    17 (s.pwr.plllock && s.pwr.snslock && !s.pwr.reflost)

/-- The items that cannot run: the gate-drive and phase-sensing items of an axis without a front end (20 R539), and item 13
while a mould is active or the reference is not in mode 0 (Table 19-4). -/
def State.selfBarred (s : State) : BitVec 18 :=
  let off : BitVec 18 := (~~~s.pwr.axpwr).setWidth 18
  (off <<< 4) ||| (off <<< 8) ||| (if s.moulds.active.isSome || !decide (s.conv.refsel = 0) then 0x2000 else 0)

/-- The items that ran and passed, and those that ran and failed: `passed` and `failed` tell of items 0 to 14, of which the
state decides 3, and 2 where a slot is not whole. An abort leaves out the items it cut short. -/
def State.selfResult (s : State) (set passed failed : BitVec 18) (aborted : Bool) : BitVec 18 × BitVec 18 :=
  let own : BitVec 18 := if aborted then 0 else (if s.slotsOk then 0x38008 else 0x3800C) &&& set
  let run := set &&& ~~~s.selfBarred &&& (if s.slotsOk then 0x7FF7 else 0x7FF3)
  let good := s.selfItems
  ((passed &&& run) ||| (own &&& good), (failed &&& run &&& ~~~passed) ||| (own &&& ~~~good))

/-- SELFTEST_DONE (R524). -/
def execSelftestDone (passed failed : BitVec 18) (s : State) : Res :=
  .next (s.onBg (fun o => match o with | .selftest _ _ => true | _ => false) fun b t =>
    match b.op with
    | .selftest set ab =>
      let r := t.selfResult set passed failed ab
      let u := (axes.foldl State.testLeave t).testTrace b.op
      let w : State := { u with lc := { u.lc with lb := u.lc.lb &&& ~~~0x8000 } }
      (w.raise 253).pushReserved (okReply b.opc b.seq (leBytes 4 r.1.toNat ++ leBytes 4 r.2.toNat))
    | _ => t)

end Sys2Proof.Machine
end

