-- ==== Sys2Proof/Machine/Power.lean ====
section
/-! DEFINITION. Supplies, resets and boot (20 R531 to R549): what each reset keeps, the boot steps the table has a row
for, hibernate and wake; the RMA wipe (19 Table 19-3) and the load of the life-cycle state (19 R513). -/

namespace Sys2Proof.Machine

/-! ### What survives (20 Table 20-5a) -/

/-- The travel store as it stands in NVM (06 R587). -/
def Travel.cold (t : Travel) : Travel :=
  { closed := t.nvClosed, opened := t.nvOpened, prof := t.nvProf, have_ := t.nvHave
    nvClosed := t.nvClosed, nvOpened := t.nvOpened, nvProf := t.nvProf, nvHave := t.nvHave }

/-- The journal in NVM; what awaited commit is gone (12 R381). -/
def Journal.cold (j : Journal) : Journal :=
  { a := j.a, b := j.b, wp := j.wp, retA := j.retA, retB := j.retB, lapA := j.lapA, lapB := j.lapB
    wearRaised := j.wearRaised, cfgHeat := j.cfgHeat, tornN := j.tornN }

/-- A life-cycle block after a reset: copies, keys and the wipe flag stand in NVM (19 R512, R519 to R521). -/
def Lc.cold (l : Lc) : Lc :=
  { st := l.st, ctl := l.ctl, mem := l.mem, mkey := l.mkey, rkey := l.rkey, nonceN := l.nonceN, cutN := l.cutN, wipe := l.wipe }

/-- A customer slot that a store was writing holds no valid image (log entry 29). -/
def State.coldSlots (s : State) : Four (Option Image × Bool) :=
  match s.mgmt.bg with
  | some ⟨.mouldStore _ dst _, _, _⟩ => s.moulds.cust.set (axOf dst) (none, false)
  | _ => s.moulds.cust

/-- A transition to state x cut while it programs the copies, MEM before CTL, and for RMA the flag after them (19 R512, R521). -/
def Lc.cutAdvance (l : Lc) (x : BitVec 2) (k : Nat) : Lc :=
  match k with
  | 0 => l
  | 1 => { l with mem := none }
  | 2 => { l with mem := some x }
  | 3 => { l with mem := some x, ctl := none }
  | 4 => { l with mem := some x, ctl := some x }
  | _ => { l with mem := some x, ctl := some x, wipe := l.wipe || decide (x = 3) }

/-- A key cut while it is programmed: stored, or torn and not provisioned (19 R516). -/
def Lc.cutKey (l : Lc) (kind : Nat) (key : List Byte) (k : Nat) : Lc :=
  if 4 ≤ k then (if kind = 0 then { l with mkey := some key } else { l with rkey := some key }) else l

/-- The life-cycle block through a reset that may cut its programming. -/
def State.coldLc (s : State) : Lc :=
  let l := s.lc.cold
  let k := (Config.nvmCut l.cutN).val
  if s.lc.rma then { l.cutAdvance 3 k with cutN := l.cutN + 1 }
  else match s.mgmt.bg with
    | some ⟨.lcAdvance, _, _⟩ => { l.cutAdvance 2 k with cutN := l.cutN + 1 }
    | some ⟨.lcSetKey kind key, _, _⟩ => { l.cutKey kind key k with cutN := l.cutN + 1 }
    | _ => l

/-- NVM, the retention cells and the pin RESETn, and every other field as after a reset. -/
def State.cold (s : State) : State :=
  { pending := s.pending
    tick := { ring := s.tick.ring, ringNext := s.tick.ringNext }
    moulds := { cust := s.coldSlots }
    mgmt := { stored := s.mgmt.stored, travel := s.mgmt.travel.map Travel.cold, flog := s.mgmt.flog }
    jrn := s.jrn.cold
    spr := { lateN := s.spr.lateN }
    mon := { fault := s.mon.fault }
    lc := s.coldLc
    pwr := { vdd := s.pwr.vdd, rstLow := s.pwr.rstLow, therm := s.pwr.therm, latchb := s.pwr.latchb, retain := s.pwr.retain
             kept := s.pwr.therm || decide (s.mon.fault ≠ 0) } }

/-- MON through a device reset (R546; 16 R471): its checks stop, the counts of MON.STAT start anew (18 Table 18-6), CTL's line is
withdrawn and its crossings are empty; its latches, its log, its readings and what it last received stay, and the level of
FAULTn with them (21 Table 21-2; log entry 186). -/
def Mon.warm (m : Mon) : Mon :=
  { up := m.up, fault := m.fault, miss := m.miss, qext := m.qext, marks := m.marks, tmeas := m.tmeas
    tper := m.tper, tperNext := m.tper, ratM := m.ratM, ratS := m.ratS, begun := m.begun, tickrun := m.tickrun, lcrun := m.lcrun
    dev := m.dev, heat := m.heat, lc := m.lc, log := m.log, logN := m.logN, gates := m.gates
    ts := m.ts, missG := m.missG, wout := m.wout }

/-- A reset of CAUSE 1 to 4: BOOT from step 4. The journal engines complete the record in progress (12 Table 12-4). -/
def State.reboot (s : State) (cause : BitVec 3) (ph : BootPhase) : State :=
  let c := ({ s with jrn := s.jrn.cut true true } : State).cold
  { c with
    mon := s.mon.warm
    pwr := { c.pwr with cause := cause, phase := ph, v5en := s.pwr.v5en, v5oc := s.pwr.v5oc, vgd := s.pwr.vgd } }

/-- The states a reset leaves (01 Table 1-6); THERMAL_LATCH is left by no reset (R34). -/
def State.resettable (s : State) : Bool :=
  match s.dev with
  | .boot | .ready | .run | .safe => true
  | _ => false

/-- A device reset, where the state allows one. -/
def State.deviceReset (s : State) (cause : BitVec 3) : State :=
  if s.resettable then s.reboot cause .rom
  else { s with mgmt := { s.mgmt with defer := none } }

/-- RESETN_ASSERT (R545): BOOT before step 4 for as long as it is held low. -/
def execResetnAssert (s : State) : Res :=
  let t := if s.resettable then s.reboot 1 .held else s
  .next { t with pwr := { t.pwr with rstLow := true } }

/-- RESETN_RELEASE (Table 20-5a): boot starts at the rising edge. -/
def execResetnRelease (s : State) : Res :=
  .next { s with pwr := { s.pwr with rstLow := false, phase := if s.pwr.phase = .held then .rom else s.pwr.phase } }

/-- WATCHDOG_EXPIRY (Table 20-5a): MGMT runs, and fails to service the watchdog. -/
def execWatchdogExpiry (s : State) : Res :=
  if s.pwr.phase = .mgmt ∨ s.pwr.phase = .done then .next (s.deviceReset 3) else .next s

/-! ### Supplies (R531, R536, R537) -/

/-- VDD_FALL: OFF at once. Copy A's record is torn, copy B's completes while VDD stays at 1.40 V or more (12 Table
12-4). -/
def execVddFall (memAbove140 : Bool) (s : State) : Res :=
  if s.pwr.vdd then
    let c := ({ s with jrn := s.jrn.cut false memAbove140 } : State).cold
    .next { c with dev := .off, pwr := { c.pwr with vdd := false } }
  else .next s

/-- Where a boot from step 1 or 2 stands: held before step 4 while RESETn is low (R545). -/
def Power.bootPhase (p : Power) : BootPhase := if p.rstLow then .held else .rom

/-- POR_RELEASE: BOOT from step 1; RETAIN tells of a latch the retention cells still hold (Table 20-8). -/
def execPorRelease (s : State) : Res :=
  if s.dev = .off then
    let c := s.cold
    let held := s.pwr.therm || decide (s.mon.fault ≠ 0)
    .next { c with dev := .boot, pwr := { c.pwr with vdd := true, cause := 0, phase := s.pwr.bootPhase, retain := held, kept := held } }
  else .next s

/-- RETENTION_EXPIRY (R537): VDD stayed low without a break. -/
def execRetentionExpiry (s : State) : Res :=
  if s.pwr.vdd then .next s
  else .next { s with pwr := { s.pwr with therm := false }, mon := { s.mon with fault := 0 } }

/-- V5_CURRENT_LIMIT (R531): V5 is on. -/
def execV5CurrentLimit (limited : Bool) (s : State) : Res :=
  .next { s with pwr := { s.pwr with v5oc := limited && s.pwr.v5en && s.pwr.vgd } }

/-! ### The life-cycle state at boot (19 R513) -/

/-- The state that applies, and whether EV255 is raised. -/
def Lc.load (l : Lc) : Lc × Bool :=
  match l.ctl, l.mem with
  | some a, some b =>
    let m := if a.toNat < b.toNat then b else a
    ({ l with st := m, ctl := some m, mem := some m, dbg := decide (m ≠ 2) }, decide (a ≠ b))
  | some a, none => ({ l with st := a, mem := some a, dbg := decide (a ≠ 2) }, true)
  | none, some b => ({ l with st := b, ctl := some b, dbg := decide (b ≠ 2) }, true)
  | none, none => ({ l with st := 2, dbg := false }, true)

/-- Table 19-3, erased: configuration, customer slots, journal and reservation ring (12 R393), travel store, fault log,
keys. The flag is cleared with it. -/
def State.wipeAll (s : State) : State :=
  { s with
    tick := { s.tick with ring := [], ringNext := 0 }
    moulds := { s.moulds with cust := ⟨(none, false), (none, false), (none, false), (none, false)⟩ }
    mgmt := { s.mgmt with bg := none, stored := {}, travel := ⟨{}, {}, {}, {}⟩, flog := [] }
    jrn := { tornN := s.jrn.tornN }
    lc := { s.lc with mkey := none, rkey := none, wipe := false } }

/-- Both copies of the life-cycle record (R512). -/
def Lc.program (l : Lc) (x : BitVec 2) : Lc := { l with mem := some x, ctl := some x }

/-- RMA_WIPE_DONE (19 R521): RMA stands in both copies, the wipe is complete, and the device resets. -/
def execRmaWipeDone (s : State) : Res :=
  if s.lc.rma ∧ s.resettable = true then
    .next (({ s with lc := { s.lc.program 3 with rma := false } } : State).wipeAll.deviceReset 4)
  else .next s

/-! ### Boot (R540 to R543) -/

/-- MON_BOOT_DONE (18 R491, R496): MON holds its copy of the life-cycle state. A ROM mismatch latches fault 8 by
`latch`. -/
def State.monBoot (s : State) : State := { s with mon := { s.mon with up := true, lc := s.lc.mem } }

/-- One stored configuration register written back at step 7 (23 R586). -/
def State.bootReg (s : State) (e : Nat × Option Word) : State :=
  match e.2 with
  | none => s
  | some w =>
    if 0x1000 ≤ e.1 ∧ e.1 < 0x2000 then
      (if e.1 = 0x10C0 then s.syncWrite w
        else s.updDrv (axOf ((e.1 - 0x1000) / 0x400)) fun d => d.config ((e.1 - 0x1000) % 0x400) w)
    else s.regSet .mgmt e.1 w

/-- One stored binding loaded in FIELD and RMA (15 R442). -/
def State.bootBind (s : State) (e : Nat × Option Word) : State :=
  match e.2 with
  | none => s
  | some w => s.updMb ⟨e.1 % 16, Nat.mod_lt _ (by decide)⟩ fun c => { c with bind := w }

/-- Bindings and MBLOCK in FIELD and RMA (15 R442). -/
def State.bootMail (s : State) : State :=
  if s.lc.st = 2 ∨ s.lc.st = 3 then
    let t := s.mgmt.stored.binds.foldl State.bootBind s
    { t with mail := { t.mail with lock := true } }
  else s

/-- A boot parameter as the boot record holds it (R550). -/
def State.bootPar (s : State) (id : Nat) : Word := sysValue s.mgmt.stored.par id

/-- CRYSTAL_LOSS (16 R456; step 4 of Table 20-4 for a crystal that does not start): only while the crystal is the source. -/
def execCrystalLoss (s : State) : Res :=
  if decide (s.dev = .off) || decide (s.dev = .hibernate) || s.pwr.refsrc || s.pwr.reflost || (!s.appOn && decide (s.bootPar 0xF006 = 1)) then .next s
  else .next (({ s with pwr := { s.pwr with reflost := true, refsrc := true, xtalok := false } }).raise 251)

/-- Clocks, front ends, V5 and the regulator as the boot record has them, which is read at step 4, before a wipe (R550); links
trained. -/
def State.powerUp (s : State) : State :=
  let rc := s.pwr.reflost || decide (s.bootPar 0xF006 = 1)
  { s with
    pwr := { s.pwr with
      plllock := true, snslock := true, refsrc := rc, xtalok := !rc
      axpwr := (s.bootPar 0xF009).setWidth 4, vgdreg := decide (s.bootPar 0xF007 = 1), v5en := decide (s.bootPar 0xF008 = 1)
      v5oc := s.pwr.v5oc && decide (s.bootPar 0xF008 = 1) }
    ax := s.ax.map fun a => { a with link := { a.link with trained := true } } }

/-- Step 7: MGMT starts and applies the stored configuration. -/
def State.mgmtStart (t : State) : State :=
  let u : State := { t with
    pwr := { t.pwr with phase := .mgmt }
    mgmt := { t.mgmt with par := t.mgmt.stored.par }
    evm := { t.evm with qmap := t.mgmt.stored.qmap ||| bitB 256 203 } }
  (u.mgmt.stored.regs.foldl State.bootReg u).bootMail

/-- The life-cycle state is loaded; in RMA a pending wipe completes before MGMT starts (R542). -/
def State.lcBoot (s : State) : State :=
  let r := s.lc.load
  let t : State := { s with lc := r.1 }
  let u := if t.lc.wipe && decide (t.lc.st = 3) then t.wipeAll else t
  u.raiseIf r.2 255

/-- FIRMWARE_VERIFIED (R540 steps 5 to 7, R541). -/
def execFirmwareVerified (imgA imgB : Bool) (s : State) : Res :=
  if s.pwr.phase = .rom ∧ (s.dev = .boot ∨ s.dev = .thermalLatch) then
    if imgA || imgB then
      let t : State := { s with pwr := { s.pwr with fwb := !imgA } }
      .next t.powerUp.lcBoot.mgmtStart
    else .next { s with pwr := { s.pwr with phase := .stuck }, mon := { s.mon with dev := .boot, heat := 0 } }
  else .next s

/-- Step 8 (12 R382, R383). -/
def State.replay (s : State) : State :=
  (({ s with jrn := s.jrn.replayed } : State).replayConfig).replayJobs

/-- The resume value (01 R19). -/
def State.resumeHeat (s : State) : BitVec 64 := BitVec.ofNat 64 (Nat.max s.jrn.nextHeat.toNat s.tick.reserved)

/-- The tick starts at BOOTRATE, its heat reserved (01 R16, R19). -/
def State.startTick (s : State) : State :=
  let h := s.resumeHeat
  let rate : BitVec 3 := (sysValue s.mgmt.par 0xF005).setWidth 3
  let t := s.tick.reserveHeat h
  { s with
    tick := { t with on := true, rate := rate, tper := tperOf rate, hidx := 0, heat := h, cy := 0, base := 0, atZero := true, start := 0, acqBase := none }
    mgmt := { s.mgmt with bootRate := rate }
    mon := { s.mon with tper := tperOf rate, tperNext := tperOf rate, xHeat := s.mon.xHeat.write h } }

/-- Step 9 (R542): the tick starts, and the device is in THERMAL_LATCH, SAFE or READY. A pull on QUENCHn that still lasts, and a
quench that a fault of the boot has requested, are taken into SAFE too (log entry 45). MON receives the state it ends in. -/
def State.bootState (s : State) : State :=
  let l := s.pwr.kept && (s.pwr.therm || decide (s.mon.fault ≠ 0))
  let t := ({ s with pwr := { s.pwr with phase := .done, latchb := l }, evm := { s.evm with qlock := true } } : State).startTick
  let u : State := { t with dev := if t.pwr.therm then .thermalLatch else .ready }
  let v := if u.mon.fault ≠ 0 then u.enterSafe 1 else u
  let w := if v.mon.qext then v.enterSafe 2 else v
  let x := if w.mon.req then w.enterSafe 3 else w
  { x with mon := { x.mon with xDev := { hold := some x.dev } } }

/-- Step 10 (R543): BOOTMOULD is copied and checked as a background operation. -/
def State.bootMould (s : State) : State :=
  let src := (sysValue s.mgmt.par 0xF004).toNat
  if srcNvm src ∧ s.dev ≠ .thermalLatch then
    { s with mgmt := { s.mgmt with bg := some ⟨.selectCopy src true, opcMouldSelect, 0⟩ } }
  else s

/-- BOOT_COMPLETE (Table 20-4 steps 8 to 10). -/
def execBootComplete (s : State) : Res :=
  if s.pwr.phase = .mgmt then .next (s.replay.bootState).bootMould else .next s

/-! ### Hibernate and wake (R548, R549) -/

/-- HIBERNATE takes effect: the engines finish, and only NVM, the retention cells and the wake configuration stay. -/
def State.hibernateNow (s : State) : State :=
  let c := ({ s with jrn := s.jrn.drain } : State).cold
  { c with dev := .hibernate, fi := { c.fi with wake := s.fi.wake } }

/-- The sources that are enabled: WAKE and SCSn always, FI0 and FI1 by FI.WAKE. -/
def Fi.wakeMask (f : Fi) : BitVec 4 := putBit (putBit 9 1 (f.wake.getLsbD 0)) 2 (f.wake.getLsbD 1)

/-- WAKE: BOOT from step 2 with CAUSE 5; the source is recorded (01 Table 1-6, log entry 30). -/
def execWake (srcs : BitVec 4) (s : State) : Res :=
  let w := srcs &&& s.fi.wakeMask
  if s.dev = .hibernate ∧ w ≠ 0 then
    let c := s.cold
    .next (({ c with pwr := { c.pwr with cause := 5, wake := w, phase := c.pwr.bootPhase } } : State).logFault (512 + w.toNat))
  else .next s

end Sys2Proof.Machine
end

