-- ==== Sys2Proof/Machine/LifeCycle.lean ====
section
/-! DEFINITION. Life-cycle packets (19 R516 to R521) and the actions that wait for their reply to be taken (11 R364). -/

namespace Sys2Proof.Machine

/-! ### LC_ADVANCE (R517) -/

/-- SERIAL as GET_ID returns it. -/
def serialBytes : List Byte := (List.range 8).map Config.serial

/-- Every byte of CODE is that of SERIAL exclusive-or 0xA5. -/
def advanceCode (p : List Byte) : Bool := decide (sliceB p 16 8 = serialBytes.map fun b => b ^^^ 0xA5)

/-- LC_ADVANCE: the conditions in the order of R517. -/
def execLcAdvance (s : State) : Res :=
  .next (s.onPacket (isOpc 0x0802) fun p t =>
    t.unless [
      badState p t.lc.rkey.isNone,
      refuseIf (decide (pPar p 0 1 ≠ 2)) (refuse p stBadParam 4 12),
      refuseIf (!advanceCode p) (refuse p stBadParam 4 16),
      t.bgBusy p] fun u => u.startBg p .lcAdvance)

/-- An OK reply whose action follows when it is taken, or 2 ms later (11 R364). -/
def State.replyThen (s : State) (b : Bg) (a : Deferred) : State :=
  let u := s.pushReserved (okReply b.opc b.seq [])
  { u with mgmt := { u.mgmt with defer := some (a, b.seq) } }

/-- LC_ADVANCE_DONE: both copies are programmed before the reply, the reset follows. While another deferred action
waits, this one is not yet done. -/
def execLcAdvanceDone (s : State) : Res :=
  if s.mgmt.defer.isSome then .next s
  else .next (s.onBg (fun o => decide (o = .lcAdvance)) fun b t =>
    (({ t with lc := t.lc.program 2 } : State).replyThen b .lcReset))

/-! ### Keys (R516) -/

/-- LC_SET_MOULD_KEY; a provisioned key and the life-cycle state are checked before (R366). -/
def execLcSetMouldKey (s : State) : Res :=
  .next (s.onPacket (isOpc 0x0805) fun p t =>
    t.unless [
      refuseIf (decide (1 < pPar p 0 1)) (refuse p stBadParam 4 12),
      refuseIf (!onCurve (sliceB p 16 32) (sliceB p 48 32)) (refuse p stBadParam 4 16),
      t.bgBusy p] fun u => u.startBg p (.lcSetKey (pPar p 0 1) (sliceB p 16 64)))

/-- LC_SET_MOULD_KEY_DONE: the key is programmed before the reply. -/
def execLcSetMouldKeyDone (s : State) : Res :=
  .next (s.onBg (fun o => match o with | .lcSetKey _ _ => true | _ => false) fun b t =>
    match b.op with
    | .lcSetKey k key =>
      let l : Lc := if k = 0 then { t.lc with mkey := some key } else { t.lc with rkey := some key }
      ({ t with lc := l }).pushReserved (okReply b.opc b.seq [])
    | _ => t)

/-! ### RMA (R519 to R521) -/

/-- The n-th nonce of the random source. -/
def nonceBytes (n : Nat) : List Byte := (List.range 32).map (Config.nonce n)

/-- LC_RMA_CHALLENGE: a fresh nonce replaces any earlier one. -/
def execLcRmaChallenge (s : State) : Res :=
  .next (s.onPacket (isOpc 0x0803) fun p t =>
    t.unless [t.bgBusy p] fun u =>
      let n := nonceBytes u.lc.nonceN
      ({ u with lc := { u.lc with nonce := some n, nonceN := u.lc.nonceN + 1 } }).pushReply (accept p n))

/-- NONCE_EXPIRY: 10 minutes after its reply. -/
def execNonceExpiry (s : State) : Res := .next { s with lc := { s.lc with nonce := none } }

/-- LC_RMA_ENTER: verified as a background operation; without a nonce it is refused. -/
def execLcRmaEnter (s : State) : Res :=
  .next (s.onPacket (isOpc 0x0804) fun p t =>
    t.unless [badState p t.lc.nonce.isNone, t.bgBusy p] fun u =>
      u.startBg p (.lcRmaEnter (u.lc.nonce.getD []) (sliceB p 12 64) (sliceB p 76 64)))

/-- "LYSRMA-C" and "LYSRMA-V". -/
def rmaTag (last : Byte) : List Byte := [0x4C, 0x59, 0x53, 0x52, 0x4D, 0x41, 0x2D, last]

/-- Both responses verify (R520): the customer part by the RMA key, or 64 zero bytes where none is provisioned. -/
def Lc.rmaOk (l : Lc) (nonce cresp vresp : List Byte) : Bool :=
  (match l.rkey with
    | some k => ecdsaVerifies k (rmaTag 0x43 ++ serialBytes ++ nonce) cresp
    | none => decide (cresp = List.replicate 64 0)) &&
  ecdsaVerifies Config.vendorKey (rmaTag 0x56 ++ serialBytes ++ nonce ++ cresp) vresp

/-- RMAFAILS, saturating at 3. -/
def failsUp (f : BitVec 2) : BitVec 2 := if f = 3 then 3 else f + 1

/-- LC_RMA_ENTER_DONE: either way the nonce that it used is used up. -/
def execLcRmaEnterDone (s : State) : Res :=
  if s.mgmt.defer.isSome then .next s
  else .next (s.onBg (fun o => match o with | .lcRmaEnter _ _ _ => true | _ => false) fun b t =>
    match b.op with
    | .lcRmaEnter n c v =>
      let ok := t.lc.rmaOk n c v
      let u : State := { t with lc := { t.lc with nonce := none } }
      if ok then u.replyThen b .rmaEnter
      else
        let w : State := { u with lc := { u.lc with fails := failsUp u.lc.fails } }
        (w.raise 248).pushReserved (refusal b.opc b.seq stSigInvalid 0 0xFFFF)
    | _ => t)

/-- A transition that programs the life-cycle record or a key. -/
def BgOp.programsLc : BgOp → Bool
  | .lcAdvance | .lcSetKey _ _ => true
  | _ => false

/-- RMA entry (R521): the quench request; RMA is programmed into both copies, the flag set, and the wipe runs, until
RMA_WIPE_DONE or a reset that cuts it. No other transition goes on (R511). -/
def State.rmaEnterNow (s : State) : State :=
  { s with
    mon := { s.mon with req := true }
    mgmt := { s.mgmt with bg := s.mgmt.bg.filter fun b => !b.op.programsLc }
    lc := { s.lc with rma := true } }

/-! ### Deferred actions (11 R364) -/

/-- The Sprue function reset (13 R416); every lock that HOST owns is freed (15 R440). -/
def State.sprueReset (s : State) : State :=
  { s with
    spr := { lateN := s.spr.lateN }
    locks := { s.locks with owner := s.locks.owner.map fun o => if o = 2 then 0 else o } }

/-- The deferred action takes place. -/
def State.perform (s : State) (a : Deferred) : State :=
  let t : State := { s with mgmt := { s.mgmt with defer := none } }
  match a with
  | .sprueReset => t.sprueReset
  | .deviceReset => t.deviceReset 2
  | .hibernate => if t.dev = .ready then t.hibernateNow else t
  | .rmaEnter => if t.dev = .thermalLatch then t else t.rmaEnterNow
  | .lcReset => t.deviceReset 4

/-- DEFERRED_ACTION_TIMEOUT: 2 ms after the reply entered the outlet. -/
def execDeferredActionTimeout (s : State) : Res :=
  match s.mgmt.defer with
  | none => .next s
  | some (a, _) => .next (s.perform a)

end Sys2Proof.Machine
end

