-- ==== Sys2Proof/Machine/Sprue.lean ====
section
/-! DEFINITION. The Sprue port (13 R394 to R419): acceptance of a frame, its flags and events, the STATUS byte, reads of
the address map, and what each frame does at its select release. -/

namespace Sys2Proof.Machine

/-! ### Frames (Table 13-2) -/

/-- The commands of Table 13-2. -/
inductive Cmd where
  | write | post | read | take | status | echo
  deriving DecidableEq, Repr

def Cmd.code : Cmd → Nat
  | .write => 0x21 | .post => 0x22 | .read => 0x41 | .take => 0x42 | .status => 0x60 | .echo => 0x7E

def Cmd.ofCode (c : Byte) : Option Cmd :=
  [Cmd.write, .post, .read, .take, .status, .echo].find? fun x => decide (x.code = c.toNat)

/-- LEN limits. -/
def Cmd.lenOk (c : Cmd) (n : Nat) : Bool :=
  match c with
  | .write => decide (1 ≤ n) && decide (n ≤ 4096)
  | .post => decide (16 ≤ n) && decide (n ≤ 1040)
  | .read => decide (1 ≤ n) && decide (n ≤ 4096)
  | .take => decide (16 ≤ n) && decide (n ≤ 4096)
  | .status => decide (n = 0)
  | .echo => decide (1 ≤ n) && decide (n ≤ 256)

/-- The one ADDR a command requires. -/
def Cmd.addrOk (c : Cmd) (a : Nat) : Bool :=
  match c with
  | .write => true
  | .read => true
  | .post => decide (a = 0x8000)
  | .take => decide (a = 0x9000)
  | .status => decide (a = 0)
  | .echo => decide (a = 0)

/-- The host sends DATA. -/
def Cmd.sends : Cmd → Bool
  | .write => true
  | .post => true
  | .echo => true
  | _ => false

/-- The device answers. -/
def Cmd.answers : Cmd → Bool
  | .write => false
  | .post => false
  | _ => true

/-- Data bytes of the device's answer. -/
def Cmd.outLen (c : Cmd) (f : Frame) : Nat := match c with | .status => 0 | _ => f.len.toNat

/-- A frame as it can reach the device: the host sent LEN bytes of DATA, or none. -/
def Cmd.shaped (c : Cmd) (f : Frame) : Bool := decide (f.data.length = if c.sends then f.len.toNat else 0)

/-- The bytes of a frame up to its CRC, whatever its first byte names (R397). -/
def frameBytes (cmd : Byte) (f : Frame) : List Byte :=
  [cmd, f.addr.extractLsb' 16 8, f.addr.extractLsb' 8 8, f.addr.extractLsb' 0 8, f.alive] ++ leBytes 2 f.len.toNat ++ f.data

/-- The bytes the host's CRC covers (R397). -/
def frameBody (c : Cmd) (f : Frame) : List Byte := frameBytes (BitVec.ofNat 8 c.code) f

def frameCrcOk (c : Cmd) (f : Frame) : Bool := decide (f.crc = crc32c (frameBody c f))

/-! ### The address map (Table 13-6) -/

/-- What a frame brings: the data of its answer, the flag an accepted frame itself sets, and the state after the side
effects of its fetch (R403, R404). -/
abbrev Fetch := List Byte × Bool × State

inductive Region where
  | regs | ladle | outlet | telem | staging | journal
  deriving DecidableEq, Repr

/-- First byte and end of a region. -/
def Region.lo : Region → Nat
  | .regs => 0 | .ladle => 0x8000 | .outlet => 0x9000 | .telem => 0x10000 | .staging => 0x100000 | .journal => 0x200000
def Region.hi : Region → Nat
  | .regs => 0x8000 | .ladle => 0x9000 | .outlet => 0xA000 | .telem => 0x20000 | .staging => 0x180000 | .journal => 0x210000

def regionOf (a : Nat) : Option Region :=
  [Region.regs, .ladle, .outlet, .telem, .staging, .journal].find? fun r => decide (r.lo ≤ a) && decide (a < r.hi)

/-- One byte of the journal view (12 R387): a class without a record reads 0x00. -/
def Journal.viewByte (j : Journal) (o : Nat) : Byte :=
  match Sparse.get .blank (o / 64) j.view with
  | .ok r => r.bytes.getD (o % 64) 0
  | _ => 0

/-- One byte of a region that is read without a side effect. -/
def State.mapByte (s : State) (r : Region) (o : Nat) : Byte :=
  match r with
  | .regs => 0
  | .ladle => 0
  | .outlet => s.mgmt.lastTaken.getD o 0
  | .telem => telemByte s o
  | .staging => s.moulds.staging.get o
  | .journal => s.jrn.viewByte o

/-- Register words read upwards, each once (R408). -/
def State.readWords (s : State) (a : Nat) : Nat → List Byte × State
  | 0 => ([], s)
  | n + 1 =>
    let x := s.regRead .host a
    let y := x.2.readWords (a + 4) n
    (leBytes 4 x.1.toNat ++ y.1, y.2)

/-- The data of a READ, whether it sets RANGE_PREV, and the state after its side effects (R403, R407, R408). -/
def State.readMap (s : State) (a n : Nat) : Fetch :=
  match regionOf a with
  | none => (List.replicate n 0, true, s)
  | some r =>
    let m := Nat.min n (r.hi - a)
    if r = .regs then
      if a % 4 = 0 ∧ n % 4 = 0 then
        let x := s.readWords a (m / 4)
        (padTo n x.1, decide (m < n), x.2)
      else (List.replicate n 0, true, s)
    else (padTo n ((List.range m).map fun i => s.mapByte r (a - r.lo + i)), decide (m < n) || decide (r = .ladle), s)

/-- A WRITE range that can be written (R406, R408; 04 R118; 12 R387). -/
def State.writeOk (s : State) (a n : Nat) : Bool :=
  match regionOf a with
  | some .regs => decide (a + n ≤ 0x8000) && decide (a % 4 = 0) && decide (n % 4 = 0)
  | some .staging => decide (a + n ≤ 0x180000) && decide (s.locks.owner.get 0 = 2)
  | _ => false

/-! ### Flags (Tables 13-3, 13-4, 13-9, 13-10) -/

/-- What a frame sets: bit 0 RANGE, 1 ABORT, 2 BADALIVE, 3 BADCRC. -/
abbrev FrFlags := BitVec 4

def frFlag (range abort alive crc : Bool) : FrFlags :=
  putBit (putBit (putBit (putBit 0 0 range) 1 abort) 2 alive) 3 crc

/-- Flags, counters and events of a frame; a timeout raises FTO in place of ABORT (R419). -/
def State.frameFlags (s : State) (x : FrFlags) (timeout : Bool) : State :=
  let p := s.spr
  let up (k : Nat) (c : Byte) : Byte := if x.getLsbD k then sat8 c else c
  let t : State := { s with spr := { p with
    flg := p.flg ||| x, eRange := up 0 p.eRange, eAbort := up 1 p.eAbort, eAlive := up 2 p.eAlive, eCrc := up 3 p.eCrc } }
  (((t.raiseIf (x.getLsbD 3) 184).raiseIf (x.getLsbD 2) 185).raiseIf (x.getLsbD 1) (if timeout then 188 else 186)).raiseIf
    (x.getLsbD 0) 187

/-! ### Acceptance (R400, R405) -/

/-- The port answers: from boot step 7 on (20 Table 20-4), in no state without its domain. -/
def State.portUp (s : State) : Bool := s.powered .sprue

/-- A select fall aborts a LOOPBACK of the pads, and the frame proceeds (19 Table 19-4, LB-B of Sprue). -/
def State.selectFall (s : State) : State :=
  s.abortTest fun o => match o with | .loopback 0 1 _ _ _ _ => true | _ => false

/-- ALIVE is correct (R405). -/
def Sprue.aliveOk (p : Sprue) (c : Cmd) (a : Byte) : Bool :=
  (decide (c = .status) && decide (a = 0)) || (p.sync && decide (a ≠ 0) && decide (a = p.exp))

/-- SYNC and EXP after an accepted frame (R405). -/
def Sprue.advance (p : Sprue) (a : Byte) : Sprue :=
  if a = 0 then { p with sync := true, exp := 1 } else { p with exp := if p.exp = 255 then 1 else p.exp + 1 }

/-- The conditions of Table 13-3 that CMD, ADDR and LEN decide, but LEN itself. -/
def State.badHeader (s : State) (c : Cmd) (f : Frame) : Bool :=
  !c.addrOk f.addr.toNat || (decide (s.dev = .boot) && !decide (c = .status)) ||
    (decide (c = .write) && !s.writeOk f.addr.toNat f.len.toNat)

/-- The flags of the conditions of Table 13-3 that a whole frame meets, but LEN and its data. With a wrong CRC ALIVE is
not evaluated (R401). -/
def State.judge (s : State) (c : Cmd) (f : Frame) : FrFlags :=
  let crc := frameCrcOk c f
  frFlag (s.badHeader c f) false (crc && !s.spr.aliveOk c f.alive) (!crc)

/-- What the device drives: STATUS, ALIVE, data, and its CRC, inverted where the answer must fail (R401, R404). -/
def answerBytes (status alive : Byte) (data : List Byte) (good : Bool) : List Byte :=
  let b := [status, alive] ++ data
  let c := crc32c b
  b ++ leBytes 4 (if good then c else c ^^^ 0xFFFFFFFF).toNat

/-- The answer to a frame that meets the conditions `x` of Table 13-3: zeros under an inverted CRC, but for a STATUS of which
only ALIVE is wrong (R401, R404). -/
def State.badAnswer (s : State) (c : Cmd) (f : Frame) (x : FrFlags) : List Byte :=
  if c.answers then
    answerBytes s.statusByte f.alive (List.replicate (c.outLen f) 0)
      (decide (c = .status) && decide (x = frFlag false false true false))
  else []

/-- The port drives `l` in the mode `m`, for at most `n` cycles (R395). -/
def State.driveFor (m n : Nat) (l : List Byte) (s : State) : State :=
  { s with spr := { s.spr with out := l, outMode := m, outN := Nat.min n (l.length * (8 / (sprueLanes m).data)) } }

/-- The port's output of a whole frame, in the mode `m` the frame ran in. -/
def State.drive (s : State) (m : Nat) (l : List Byte) : State := s.driveFor m (8 * l.length) l

/-- A frame that is not accepted: flags only (R401). -/
def State.reject (s : State) (x : FrFlags) (out : List Byte) : State := (s.drive s.spr.mode out).frameFlags x false

/-- A frame cut short by the release, or by the timeout, after `n` cycles of its answer (R400, R414, Table 13-3). -/
def State.cutShort (s : State) (x : FrFlags) (out : List Byte) (n : Nat) (timeout : Bool) : State :=
  (s.driveFor s.spr.mode n out).frameFlags (x ||| frFlag false true false false) timeout

/-- Bits 7:4 cleared at the release of an accepted frame that returned a STATUS byte (R404); the silence timer restarts
(11 R360). -/
def State.acceptFrame (s : State) (c : Cmd) (a : Byte) : State :=
  let p := s.spr.advance a
  { s with
    spr := if c.answers then { p with flg := 0 } else p
    mgmt := { s.mgmt with silent := false } }

/-- A whole frame: refused by LEN with no output, or by Table 13-3; otherwise `fetch` reads at the header check and
`land` acts at the select release (R402, R403). -/
def State.frame (s : State) (c : Cmd) (f : Frame) (fetch : State → Fetch) (land : State → State) : State :=
  if !s.portUp then s
  else if !c.lenOk f.len.toNat then s.reject (frFlag true false false false) []
  else if !c.shaped f then s
  else
    let x := s.judge c f
    if x ≠ 0 then s.reject x (s.badAnswer c f x)
    else if c.answers && !f.ready then s.reject (frFlag false true false false) (s.badAnswer c f 0)
    else
      let r := fetch s
      ((land (r.2.2.acceptFrame c f.alive)).drive s.spr.mode
        (if c.answers then answerBytes s.statusByte f.alive r.1 true else [])).frameFlags (frFlag r.2.1 false false false) false

/-! ### WRITE (R402) -/

/-- The words of a WRITE, in ascending order. -/
def State.writeWords (s : State) (a : Nat) : List Byte → Nat → State
  | _, 0 => s
  | l, n + 1 => (s.regWrite .host a (BitVec.ofNat 32 (leAt l 0 4))).writeWords (a + 4) (l.drop 4) n

/-- A register of the range is ignored under 00 R11. -/
def State.writeDenied (s : State) (a n : Nat) : Bool :=
  (List.range n).any fun i => !s.mayWrite .host (a + 4 * i) && occupied (a + 4 * i)

/-- What a WRITE does at the release: register words, or the staging window. -/
def State.landWrite (s : State) (f : Frame) : State :=
  if f.addr.toNat < 0x8000 then s.writeWords f.addr.toNat f.data (f.len.toNat / 4)
  else s.stageWrite (f.addr.toNat - 0x100000) f.data

def State.writeFrame (s : State) (f : Frame) : State :=
  s.frame .write f
    (fun t => ([], decide (f.addr.toNat < 0x8000) && t.writeDenied f.addr.toNat (f.len.toNat / 4), t))
    fun t => t.landWrite f

/-! ### POST, TAKE (R409, R410) -/

/-- A packet enters the ladle, which holds 32 (11 R343). -/
def State.post (s : State) (l : List Byte) : State :=
  if 32 ≤ s.mgmt.ladle.length then s.raise 189
  else { s with mgmt := { s.mgmt with ladle := s.mgmt.ladle ++ [l] } }

def State.postFrame (s : State) (f : Frame) : State := s.frame .post f (fun t => ([], false, t)) fun t => t.post f.data

/-- The head of the outlet is the reply whose taking starts the deferred action (11 R364). -/
def Deferred.opcode : Deferred → Nat
  | .sprueReset => 0x0601
  | .deviceReset => 0x0602
  | .hibernate => 0x0603
  | .rmaEnter => 0x0804
  | .lcReset => 0x0802

def State.deferOf (s : State) (r : Reply) : Option Deferred :=
  match s.mgmt.defer with
  | some (a, seq) => if r.opc = a.opcode ∧ r.seq = seq ∧ r.status = stOK then some a else none
  | none => none

/-- The head reply leaves the outlet, becomes the last taken reply, and its action takes place. -/
def State.takeHead (s : State) (r : Reply) (rest : List Reply) : State :=
  let t : State := { s with mgmt := { s.mgmt with outlet := rest, lastTaken := r.bytes } }
  match s.deferOf r with
  | some a => t.perform a
  | none => t

/-- The answer of TAKE: the reply padded with 0x00, or its first bytes and RANGE_PREV where LEN is below its length. -/
def State.takeData (s : State) (n : Nat) : Fetch :=
  match s.mgmt.outlet with
  | [] => (List.replicate n 0, false, s)
  | r :: _ => (padTo n r.bytes, decide (n < r.bytes.length), s)

/-- The removal at the release, when LEN covers the reply. -/
def State.landTake (s : State) (n : Nat) : State :=
  match s.mgmt.outlet with
  | [] => s
  | r :: rest => if n < r.bytes.length then s else s.takeHead r rest

/-- What each answering command fetches at its header check (R403). -/
def State.fetch (s : State) (c : Cmd) (f : Frame) : Fetch :=
  match c with
  | .read => s.readMap f.addr.toNat f.len.toNat
  | .take => s.takeData f.len.toNat
  | .echo => (f.data, false, s)
  | _ => ([], false, s)

def State.takeFrame (s : State) (f : Frame) : State :=
  s.frame .take f (fun t => t.fetch .take f) fun t => t.landTake f.len.toNat

/-! ### READ, STATUS, ECHO -/

def State.readFrame (s : State) (f : Frame) : State := s.frame .read f (fun t => t.fetch .read f) id
def State.statusFrame (s : State) (f : Frame) : State := s.frame .status f (fun t => t.fetch .status f) id
def State.echoFrame (s : State) (f : Frame) : State := s.frame .echo f (fun t => t.fetch .echo f) id

/-- A frame of each command. -/
def State.ofCmd (s : State) : Cmd → Frame → State
  | .write, f => s.writeFrame f
  | .post, f => s.postFrame f
  | .read, f => s.readFrame f
  | .take, f => s.takeFrame f
  | .status, f => s.statusFrame f
  | .echo, f => s.echoFrame f

/-! ### Frames that do not end well -/

/-- How far the port has read a frame that does not reach its last bit: not to the end of LEN, past LEN, or to the end of the
host's CRC, with the cycles of the answer that followed. -/
inductive CutAt where
  | early | header
  | crc (n : Nat)
  deriving DecidableEq, Repr

/-- A frame that does not reach its last bit (R400, R401, R403, R414): it sets ABORT_PREV beside the flags of the conditions
that what was read decides; a frame with an unknown CMD has no last bit known to the port. A READ that passed its header
check has had its side effects, and the output stops at the release or the timeout (log entry 176). -/
def State.cutFrame (s : State) (cmd : Byte) (f : Frame) (k : CutAt) (timeout : Bool) : State :=
  if !s.portUp then s
  else
    match Cmd.ofCode cmd with
    | none =>
      if timeout then s.cutShort (frFlag true false false false) [] 0 true else s.reject (frFlag true false false false) []
    | some c =>
      let bad := frFlag (!c.lenOk f.len.toNat || s.badHeader c f) false false false
      match k with
      | .early => s.cutShort 0 [] 0 timeout
      | .header => s.cutShort bad [] 0 timeout
      | .crc n =>
        if !c.lenOk f.len.toNat then s.cutShort bad [] 0 timeout
        else
          let x := s.judge c f
          if x ≠ 0 || (c.answers && !f.ready) then s.cutShort x (s.badAnswer c f x) n timeout
          else
            let r := if c.answers then s.fetch c f else ([], false, s)
            r.2.2.cutShort (frFlag (decide (c = .read) && r.2.1) false false false)
              (if c.answers then answerBytes s.statusByte f.alive r.1 true else []) n timeout

/-! ### Lanes (R395, R396) -/

/-- SCK cycles of the dummy phase; 0 is taken as 1 (R399). -/
def Sprue.dummy (p : Sprue) : Nat := Nat.max 1 (fld p.cfg 12 8)

/-- Cycles of the answer on n lanes after the dummy phase: STATUS, ALIVE, data and CRC (R397). -/
def answerLen (n dataLen : Nat) : Nat := (6 + dataLen) * (8 / n)

/-- The cycles of a frame that the host drives (R395, R397). -/
def hostCycles (l : LaneCount) (cmd : Byte) (f : Frame) : List LaneCycle :=
  let b := frameBytes cmd f ++ leBytes 4 f.crc.toNat
  bytesCycles l.cmd (b.take 1) ++ bytesCycles l.addr ((b.drop 1).take 3) ++ bytesCycles l.data (b.drop 4)

/-- All levels a frame brings to the port: the host's cycles, and those of the answer it waits for. -/
def Sprue.levels (p : Sprue) (cmd : Byte) (f : Frame) : List Byte :=
  let l := sprueLanes f.mode.val
  let wait := match Cmd.ofCode cmd with
    | some c => if c.answers then p.dummy + answerLen l.data (c.outLen f) else 0
    | none => 0
  levelsAt 0 (hostCycles l cmd f ++ List.replicate wait ⟨0, 0⟩)

/-- What the port reads a frame as: a whole one, or one that ends early or has an unknown CMD. -/
inductive Seen where
  | whole (c : Cmd) (f : Frame)
  | cut (cmd : Byte) (f : Frame) (k : CutAt)
  deriving DecidableEq, Repr

/-- A frame of which the header alone was read. -/
def headOnly (mode : Fin 6) (ready : Bool) (a : List Byte) (alive : Byte) (len : Nat) : Frame :=
  { addr := a.getD 0 0 ++ a.getD 1 0 ++ a.getD 2 0, alive := alive, len := BitVec.ofNat 16 len, data := [], crc := 0
    ready := ready, mode := mode }

/-- The bytes that follow LEN, and whether the answer fits into the cycles left (R400). -/
def Sprue.seeRest (p : Sprue) (n : Nat) (c : Cmd) (h : Frame) (l : List Byte) : Seen :=
  let k := if c.sends then h.len.toNat else 0
  let cmd := BitVec.ofNat 8 c.code
  match readLanes n (k + 4) l with
  | none => .cut cmd h .header
  | some (b, rest) =>
    let f : Frame := { h with data := b.take k, crc := BitVec.ofNat 32 (leAt b k 4) }
    if c.answers && decide (rest.length < p.dummy + answerLen n (c.outLen f)) then
      .cut cmd f (.crc (rest.length - p.dummy))
    else .whole c f

/-- The frame the port reads from levels under the mode in force (R396). -/
def Sprue.see (p : Sprue) (mode : Fin 6) (ready : Bool) (l : List Byte) : Seen :=
  let n := sprueLanes p.mode
  match readLanes n.cmd 1 l with
  | none => .cut 0x60 (headOnly mode ready [] 0 0) .early
  | some (cb, l1) =>
    let cmd := cb.getD 0 0
    match readLanes n.addr 3 l1 with
    | none => .cut cmd (headOnly mode ready [] 0 0) .early
    | some (a, l2) =>
      match readLanes n.data 3 l2 with
      | none => .cut cmd (headOnly mode ready a 0 0) .early
      | some (x, l3) =>
        let h := headOnly mode ready a (x.getD 0 0) (leAt x 1 2)
        match Cmd.ofCode cmd with
        | none => .cut cmd h .header
        | some c => p.seeRest n.data c h l3

/-- The port takes a frame as it has read it. -/
def State.takeSeen (s : State) : Seen → State
  | .whole c g => s.ofCmd c g
  | .cut cmd g k => s.cutFrame cmd g k false

/-- The levels a frame brings within its first `cycles` cycles, read under the mode in force. -/
def State.readCycles (s : State) (cmd : Byte) (f : Frame) (cycles : Nat) : State :=
  s.takeSeen (s.spr.see f.mode f.ready ((s.spr.levels cmd f).take cycles))

/-- A frame as the host clocks it: in the mode in force, with the data its LEN announces, it is read as sent; else as the bytes
that its levels make (R396). -/
def State.clocked (s0 : State) (c : Cmd) (f : Frame) : State :=
  let s := s0.selectFall
  if f.mode.val = s.spr.mode ∧ c.shaped f = true then s.ofCmd c f
  else
    let l := s.spr.levels (BitVec.ofNat 8 c.code) f
    s.takeSeen (s.spr.see f.mode f.ready l)

def execWrite (f : Frame) (s : State) : Res := .next (s.clocked .write f)
def execPost (f : Frame) (s : State) : Res := .next (s.clocked .post f)
def execRead (f : Frame) (s : State) : Res := .next (s.clocked .read f)
def execTake (f : Frame) (s : State) : Res := .next (s.clocked .take f)
def execStatus (f : Frame) (s : State) : Res := .next (s.clocked .status f)
def execEcho (f : Frame) (s : State) : Res := .next (s.clocked .echo f)

/-- UNKNOWN_CMD_FRAME (R401): CMD not in Table 13-2, or LEN outside the range for it; clocked in another mode it is read as
other bytes. -/
def execUnknownCmdFrame (cmd : Byte) (f : Frame) (s0 : State) : Res :=
  let bad := match Cmd.ofCode cmd with | none => true | some c => !c.lenOk f.len.toNat
  let s := s0.selectFall
  if !s0.portUp || !bad then .next s0
  else if f.mode.val = s.spr.mode then .next (s.reject (frFlag true false false false) [])
  else .next (s.readCycles cmd f (s.spr.levels cmd f).length)

/-- FRAME_ABORT (R400): the select is released after `cycles` SCK cycles. -/
def execFrameAbort (cmd : Byte) (f : Frame) (cycles : Nat) (s : State) : Res :=
  .next (s.selectFall.readCycles cmd f cycles)

/-- A frame whose timer has run out is discarded, whatever of it the port has read. -/
def State.expire (s : State) : Seen → State
  | .whole c g => s.cutFrame (BitVec.ofNat 8 c.code) g (.crc (8 * (6 + g.len.toNat))) true
  | .cut cmd g k => s.cutFrame cmd g k true

/-- FRAME_TIMEOUT (R414): the row names no frame; what the port has read is free (log entry 166). -/
def execFrameTimeout (s : State) : Res :=
  let n := s.spr.lateN
  let t : State := ({ s with spr := { s.spr with lateN := n + 1 } } : State).selectFall
  .next (t.expire (t.spr.see 0 (Config.lateReady n) (Config.lateLevels n)))

/-- The lanes as the device drove its last answer: SIO1 in mode 0, the data lanes in every other mode (R395). -/
def Sprue.outCycles (p : Sprue) : List LaneCycle :=
  let c := (bytesCycles (sprueLanes p.outMode).data p.out).take p.outN
  if p.outMode = 0 then c.map fun x => { drv := x.drv.shiftLeft 1, val := x.val.shiftLeft 1 } else c

/-! ### IRQn (R417) -/

/-- What the device does with IRQn. -/
inductive IrqPin where
  | low | high | released
  deriving DecidableEq, Repr

/-- A condition that pulls IRQn low stands. -/
def State.irqActive (s : State) : Bool :=
  (s.spr.irq.getLsbD 0 && s.eventPending) || (s.spr.irq.getLsbD 1 && !s.mgmt.outlet.isEmpty)

/-- IRQn: of high impedance in reset and in hibernate (21 R554), inactive in BOOT, in HIBERNATE and while RESETn is low;
driven high when inactive, or released under ODEN. -/
def State.irqn (s : State) : IrqPin :=
  if !s.appOn || s.pwr.rstLow then .released
  else if !decide (s.dev = .boot) && s.irqActive then .low
  else if s.spr.irq.getLsbD 2 then .released else .high

/-- SPRUE_IDLE_RESET (R415): the frame engine holds nothing between whole frames, and all else is kept. -/
def execSprueIdleReset (s : State) : Res := .next s

end Sys2Proof.Machine
end

