-- ==== Sys2Proof/Machine/Monitor.lean ====
section
/-! DEFINITION. The monitor die (18): its checks, its latches and log, the quench lines, the Witness port; the value
crossings to it (16 R459), plausibility (10 R320, R321) and the debug port (19 R514). -/

namespace Sys2Proof.Machine

/-! ### Log, latches, quench -/

/-- An entry of MON's log and its copy in MGMT's fault log, whole (R503): code k of the log is 256 + k of the fault log. -/
def State.monLog (s : State) (code : Nat) : State :=
  let m := s.mon
  let e : MonLog :=
    { code := BitVec.ofNat 8 code, ticks := m.marks, heat := m.heat, ms := BitVec.ofNat 32 (m.gates * 128 / 125) }
  let l := m.log ++ [e]
  let t : State := { s with mon := { m with log := l.drop (l.length - 64), logN := m.logN + 1 } }
  (t.logEntry { code := 256 + code, heat := e.heat, mon := some e }).raiseMon 245

/-- Fault bit k of Table 18-1 latches (R497): quench, log entry and EV241, once. -/
def State.monLatchOnly (s : State) (k : Nat) : State :=
  if s.mon.fault.getLsbD k then s
  else
    let t : State := { s with mon := { s.mon with fault := s.mon.fault ||| bitB 10 k } }
    ((t.monLog k).raiseMon 241).settleAll

/-- The same, and SAFE with SAFECAUSE 1. -/
def State.monLatch (s : State) (k : Nat) : State :=
  if s.mon.fault.getLsbD k then s else (s.monLatchOnly k).enterSafe 1

/-- MON_BOOT_DONE (R491, R496): MON holds its copy of the life-cycle state; a ROM mismatch is fault 8. -/
def execMonBootDone (romOk : Bool) (s : State) : Res :=
  if s.mon.up || decide (s.dev = .off) || decide (s.dev = .hibernate) then .next s
  else if romOk then .next s.monBoot else .next (s.monBoot.monLatch 8)

/-- QUENCH_REQUEST (R498): the quench lines and QUENCHn follow CTL's request. -/
def execQuenchRequest (s : State) : Res :=
  if s.mon.up then .next ({ s with mon := { s.mon with reqQ := s.mon.req } } : State).settleAll else .next s

/-- EXTERNAL_QUENCH (R499): QUENCHn is low while MON itself does not drive it. -/
def execExternalQuench (s : State) : Res :=
  if s.mon.up && !s.mon.qext && !s.mon.qdrv then
    let t : State := { s with mon := { s.mon with qext := true } }
    .next (((t.monLog 16).raiseMon 244).enterSafe 2).settleAll
  else .next s

/-- EXTERNAL_QUENCH_END (R499): the lines are released; the device stays in SAFE. -/
def execExternalQuenchEnd (s : State) : Res :=
  if s.mon.qext then .next ({ s with mon := { s.mon with qext := false } } : State).settleAll else .next s

/-- MONLOST (R501): eight acknowledges are missing. -/
def execMonlost (s : State) : Res :=
  if 8 ≤ s.mon.ackMiss ∧ s.mgmt.monlost = false then
    let t : State := s.raise 247
    .next (axes.foldl State.axFault { t with mgmt := { t.mgmt with monlost := true } })
  else .next s

/-! ### Checks (Table 18-1) -/

/-- The signature, tick, plausibility and life-cycle checks run (R491; 20 R546). -/
def State.checking (s : State) : Bool :=
  s.mon.up && s.mon.checks && (decide (s.dev = .ready) || decide (s.dev = .run) || decide (s.dev = .safe))

/-- SIGNATURE_CHECK (R493): a pour cut short counts as a deviation. -/
def execSignatureCheck (s : State) : Res :=
  if s.checking && s.mon.sigNew then
    let m := s.mon
    if m.sigRx ≠ m.expRx ∨ s.pour.cut = true then
      let t := ({ s with mon := { m with
        sigNew := false, miss := sat32 m.miss, sigrun := Nat.min 2 (m.sigrun + 1) } } : State).raiseMon 240
      .next (if 2 ≤ t.mon.sigrun then t.monLatch 0 else t)
    else .next { s with mon := { m with sigNew := false, sigrun := 0 } }
  else .next s

/-- One deviation of the tick interval. -/
def State.tickDeviates (s : State) : State :=
  let t := ({ s with mon := { s.mon with tickrun := Nat.min 2 (s.mon.tickrun + 1) } } : State).raiseMon 243
  if 2 ≤ t.mon.tickrun then t.monLatch 1 else t

/-- An interval of `c` MON cycles of 62.5 ns lies outside ±5 % of TPER × 5 ns. -/
def tickOff (c tper : Nat) : Bool := decide (2 * tper < 20 * ((25 * c : Int) - (2 * tper : Int)).natAbs)

/-- TICK_MARKER (R491, R494): acknowledged; the first one after BOOT starts the checks, an interval with a sync
acquisition is not judged, and one that is judged good measures the ratio of the clocks (17 R475). -/
def execTickMarker (monCycles : Nat) (s : State) : Res :=
  if !s.mon.up then .next s
  else
    let m := s.mon
    let t : State := { s with mon := { m with
      marks := m.marks + 1, tmeas := BitVec.ofNat 16 monCycles, tper := m.tperNext, ackMiss := 0, acq := false, late := false } }
    if s.checking then
      if m.acq || m.late then .next t
      else if tickOff monCycles m.tper then .next t.tickDeviates
      else .next { t with mon := { t.mon with tickrun := 0, ratM := monCycles, ratS := m.tper } }
    else
      let on := decide (s.dev = .ready) || decide (s.dev = .run) || decide (s.dev = .safe)
      .next { t with mon := { t.mon with checks := m.checks || on, begun := m.begun || on } }

/-- TICK_MARKER_TIMEOUT (Table 18-1): no marker within 1.05 × TPER. The interval counts once: its late marker is not judged. -/
def execTickMarkerTimeout (s : State) : Res :=
  if s.checking && !s.mon.acq then .next ({ s with mon := { s.mon with late := true } } : State).tickDeviates else .next s

/-- SUPPLY_WINDOW_FAULT (Table 18-1, R495): rails VDD, VCORE, VGD, from the first tick marker on and through a reset (20
R546); VGD is judged in RUN only. -/
def execSupplyWindowFault (rail : Fin 3) (s : State) : Res :=
  if s.mon.up && s.mon.begun && (decide (rail ≠ 2) || decide (s.dev = .run)) then .next (s.monLatch (4 + rail.val))
  else .next s

/-- MON's copy against what CTL reports (R496): the debug port open in FIELD counts as well. -/
def Mon.lcDeviates (m : Mon) (l : Lc) : Bool :=
  match m.lc with
  | none => false
  | some x => decide (x ≠ l.st) || (decide (x = 2) && l.dbg)

/-- LC_REPORT (R496): once per heat. An invalid copy is read again after the first report (19 R513). -/
def execLcReport (s : State) : Res :=
  if s.checking then
    if s.mon.lcDeviates s.lc then
      let t : State := { s with mon := { s.mon with lcrun := s.mon.lcrun + 1 } }
      .next (if 2 ≤ t.mon.lcrun then t.monLatch 7 else t)
    else .next { s with mon := { s.mon with lcrun := 0, lc := if s.mon.lc.isNone then s.lc.mem else s.mon.lc } }
  else .next s

/-- The AIN11 code (full scale 1.5 V at 2^23) lies more than 7.5 mV from MON's own result, both in nV times 2^23 (10 R320). -/
def ain11Off (code : BitVec 24) (ratio : Int) (refNv : Nat) : Bool :=
  decide (7500000 * 2 ^ 23 < (code.toInt * 1500000000 - ratio * refNv).natAbs)

/-- AIN11_COMPARE (10 R320): MON's result of the interval of the last AIN11 entry, which waits when it was converted in
mode 0 with ADRT bit 6 at 1; eight disagreements in a row are fault 2. -/
def execAin11Compare (ratio : Int) (refNv : Nat) (s : State) : Res :=
  match s.conv.ain11 with
  | none => .next s
  | some code =>
    let t : State := { s with conv := { s.conv with ain11 := none } }
    if s.checking then
      if ain11Off code ratio refNv then
        let u := ({ t with mon := { t.mon with plain := Nat.min 8 (t.mon.plain + 1) } } : State).raiseMon 242
        .next (if 8 ≤ u.mon.plain then u.monLatch 2 else u)
      else .next { t with mon := { t.mon with plain := 0 } }
    else .next t

/-- The heat mean `sum / n` of VBUS (full scale 96 V at 2^23) lies more than 0.48 V from `mv`. -/
def vbusOff (sum : Int) (n : Nat) (mv : Int) : Bool :=
  decide (480 * n * 2 ^ 23 < (sum * 96000 - mv * n * 2 ^ 23).natAbs)

/-- VM0_COMPARE (10 R321): four heats in a row are fault 3. A heat with no valid period is not judged. -/
def execVm0Compare (monMv : Int) (s : State) : Res :=
  match s.mon.vbLast with
  | none => .next s
  | some (sum, n) =>
    let s : State := { s with mon := { s.mon with vbLast := none } }
    if s.checking then
      if vbusOff sum n monMv then
        let u := ({ s with mon := { s.mon with plvm := Nat.min 4 (s.mon.plvm + 1) } } : State).raiseMon 242
        .next (if 4 ≤ u.mon.plvm then u.monLatch 3 else u)
      else .next { s with mon := { s.mon with plvm := 0 } }
    else .next s

/-! ### Value crossings (16 R459, Table 16-2) -/

/-- VALUE_CROSSING_TRANSFER: the value held for CTL's device state, its heat counter, the signature with its expected value or the
VBUS mean of the last heat arrives at MON, the signature once it is readable at cy 64 (02 R78); a value written meanwhile goes
with the next transfer. With none under way nothing arrives. The SNS and AON values stand at their destination when they are written (log entry 32). -/
def execValueCrossingTransfer (which : Fin 6) (s : State) : Res :=
  let m := s.mon
  match which with
  | 0 => .next (match m.xDev.hold with
    | some v => { s with mon := { m with dev := v, xDev := m.xDev.next s.dev } }
    | none => s)
  | 1 => .next (match m.xHeat.hold with
    | some v => { s with mon := { m with heat := v, xHeat := m.xHeat.next s.tick.heat } }
    | none => s)
  | 2 => .next (match m.xSig.hold with
    | some v => { s.reachXp 64 with mon := { m with
        sigRx := v.1, expRx := v.2, sigNew := true, xSig := m.xSig.next (s.pour.psig, s.pour.psigxPrev) } }
    | none => s)
  | 3 => .next (match m.xVb.hold with
    | some v => { s with mon := { m with vbLast := v, xVb := m.xVb.next m.vbOut } }
    | none => s)
  | _ => .next s

/-! ### Witness port (R504, R505, Table 18-3) -/

/-- The request's CRC is that of CMD to the end of its payload (R504). -/
def witCrcOk (r : WitReq) : Bool := decide (r.crc = crc32c (r.cmd :: leBytes 2 r.payload.length ++ r.payload))

/-- A response. -/
def witBytes (cmd : Byte) (wst : Nat) (data : List Byte) : List Byte :=
  let b := [cmd, BitVec.ofNat 8 wst] ++ leBytes 2 data.length ++ data
  (0x5A : Byte) :: b ++ leBytes 4 (crc32c b).toNat

/-- A byte on WTX at 8N1: a start bit, the byte least significant bit first, a stop bit (R504). -/
def uartBits (b : Byte) : List Bool := false :: (List.range 8).map (fun k => b.getLsbD k) ++ [true]

/-- The levels of WTX, one a bit time of 1 µs, while the last response is sent (R504). -/
def Mon.wtx (m : Mon) : List Bool := m.wout.flatMap uartBits

/-- What MON drives on WTX: high from its boot on, and the bits of the last response while it is sent; none where the pull-up alone
holds it (21 Table 21-2). -/
def State.wtx (s : State) : Option (List Bool) := if s.mon.up && s.powered .mon then some s.mon.wtx else none

/-- A request is answered by its data, or by 3, bad parameter; a wrong CRC by 1. MON serves while it is powered; a request with
a byte that came during a response is discarded (R505). -/
def State.witness (s : State) (r : WitReq) (data : Option (List Byte)) : State :=
  if !s.mon.up || r.during then s
  else
    let out :=
      if !witCrcOk r then witBytes r.cmd 1 []
      else match data with
        | some d => witBytes r.cmd 0 d
        | none => witBytes r.cmd 3 []
    { s with mon := { s.mon with wout := out } }

/-- STATUS: 24 bytes. -/
def State.witStatus (s : State) : List Byte :=
  let m := s.mon
  leBytes 2 m.fault.toNat ++ leBytes 1 m.dev.code ++
    [match m.lc with | some x => BitVec.ofNat 8 x.toNat | none => Config.monNoLc] ++
    leBytes 4 m.miss.toNat ++ leBytes 2 m.tmeas.toNat ++ leBytes 8 m.heat.toNat ++
    leBytes 2 (s16 (m.ts.get 4).temp).toNat ++ leBytes 2 (s16 (m.ts.get 5).temp).toNat ++ [0, 0]

/-- One slot of the log ring: entry number e stands in slot e modulo 64; a slot not yet written reads 0. -/
def Mon.logSlot (m : Mon) (j : Nat) : List Byte :=
  let i := (j + 64 - (m.logN - m.log.length) % 64) % 64
  match m.log[i]? with
  | some e => [e.code, 0] ++ leBytes 2 e.ticks.toNat ++ leBytes 8 e.heat.toNat ++ leBytes 4 e.ms.toNat
  | none => List.replicate 16 0

/-- WITNESS_STATUS: no payload. -/
def execWitnessStatus (r : WitReq) (s : State) : Res :=
  if r.cmd = 1 then .next (s.witness r (if r.payload.isEmpty then some s.witStatus else none)) else .next s

/-- WITNESS_READ_B: records of copy B, exactly as stored (12 R386). -/
def execWitnessReadB (r : WitReq) (s : State) : Res :=
  let ix := leAt r.payload 0 2
  let n := leAt r.payload 2 1
  if r.cmd = 2 then
    .next (s.witness r (if r.payload.length = 4 ∧ ix ≤ 8191 ∧ 1 ≤ n ∧ n ≤ 16 then some (Journal.slots s.jrn.b ix n) else none))
  else .next s

/-- WITNESS_READ_LOG. -/
def execWitnessReadLog (r : WitReq) (s : State) : Res :=
  let st := leAt r.payload 0 1
  let n := leAt r.payload 1 1
  if r.cmd = 3 then
    .next (s.witness r (if r.payload.length = 2 ∧ st ≤ 63 ∧ 1 ≤ n ∧ n ≤ 16 then
      some ((List.range n).flatMap fun i => s.mon.logSlot ((st + i) % 64)) else none))
  else .next s

/-- WITNESS_UNKNOWN_CMD: WST 1 for a wrong CRC, 2 for a CMD not in Table 18-3. -/
def execWitnessUnknownCmd (r : WitReq) (s : State) : Res :=
  if s.mon.up && !r.during && (!witCrcOk r || !decide (r.cmd = 1 ∨ r.cmd = 2 ∨ r.cmd = 3)) then
    .next { s with mon := { s.mon with wout := witBytes r.cmd (if witCrcOk r then 2 else 1) [] } }
  else .next s

/-- WITNESS_GAP_TIMEOUT (R505): the request is discarded; no part of one is held between commands. -/
def execWitnessGapTimeout (s : State) : Res := .next s

/-! ### Debug port (19 R514) -/

/-- DEBUG_SESSION_ATTEMPT: ignored while the port is closed, with EV252. -/
def execDebugSessionAttempt (s : State) : Res := if s.lc.dbg then .next s else .next (s.raise 252)

end Sys2Proof.Machine
end

