-- ==== Sys2Proof/Machine/Thermal.lean ====
section
/-! DEFINITION. Temperatures (17): readings, broken sensors and their substitutes, thresholds, rates of rise, throttle
levels, and the shutdown of Table 17-4 on CTL and on MON. -/

namespace Sys2Proof.Machine

/-! ### Readings (R476) -/

/-- n / d, to the nearest integer, ties to even. -/
def roundEven (n d : Int) : Int :=
  let a := if d < 0 then -n else n
  let b := if d < 0 then -d else d
  let q := a / b
  let r := 2 * (a % b)
  if r < b then q else if b < r then q + 1 else if q % 2 = 0 then q else q + 1

/-- The reading of sensor k in steps of 0.01 °C, from a count of n / q over the gate of 204 800 SYS cycles. -/
def tempRatio (k n q : Nat) : Int :=
  let d := Config.n125 k - Config.n25 k
  roundEven (2500 * d * q + 10000 * ((n : Int) - Config.n25 k * q)) (d * q)

def tempOf (k n : Nat) : Int := tempRatio k n 1

/-- The reading of TS20 or TS21: MON counts over 16 384 of its own cycles and scales by the ratio it measured (R475). -/
def Mon.tempOwn (m : Mon) (k n : Nat) : Int := tempRatio k (n * 25 * m.ratM) (2 * m.ratS)

/-- The reading of sensor k on CTL. -/
def Mon.tempAt (m : Mon) (k n : Nat) : Int := if 20 ≤ k then m.tempOwn k n else tempOf k n

/-- Outside −60 °C to 200 °C (R476). -/
def implausible (t : Int) : Bool := decide (t < -6000) || decide (20000 < t)

/-! ### Broken sensors (R477, R478) -/

/-- Twice the median of up to three values. -/
def median2 (l : List Int) : Option Int :=
  match l with
  | [] => none
  | [a] => some (2 * a)
  | [a, b] => some (a + b)
  | a :: b :: c :: _ => some (2 * Max.max (Min.min a b) (Min.min (Max.max a b) c))

/-- A sensor after its reading, judged for plausibility. -/
def Sensor.read (x : Sensor) (t : Int) : Sensor := { x with raw := t, temp := t, subst := false, broken := x.broken || implausible t }

/-- A sensor judged against the unbroken ones among its neighbours. -/
def Sensor.judge (x : Sensor) (nb : List Sensor) : Sensor :=
  match median2 ((nb.filter fun y => !y.broken).map fun (y : Sensor) => y.raw) with
  | none => { x with devRun := 0 }
  | some m =>
    let run := if 3000 < (2 * x.raw - m).natAbs then x.devRun + 1 else 0
    { x with devRun := Nat.min 16 run, broken := x.broken || decide (16 ≤ run) }

/-- The hottest of a list. -/
def hottest (l : List Int) : Option Int :=
  l.foldl (fun r t => match r with | none => some t | some u => some (Max.max u t)) none

/-- A broken ordinary sensor shows its hottest unbroken neighbour (R478); without one it keeps its reading. -/
def Sensor.substitute (x : Sensor) (priv : Bool) (nb : List Sensor) : Sensor :=
  if x.broken && !priv then
    match hottest ((nb.filter fun y => !y.broken).map fun (y : Sensor) => y.raw) with
    | some t => { x with temp := t, subst := true }
    | none => x
  else x

/-- Neighbours of sensor k (R477). -/
def neighbours (k : Nat) : List Nat :=
  if k < 20 then (List.range 4).map (fun i => k - k % 4 + i) |>.filter fun j => decide (j ≠ k)
  else if k = 20 then [21] else [20]

/-- Table 17-1. -/
def isPrivileged (k : Nat) : Bool := decide (k = 3 ∨ k = 7 ∨ k = 11 ∨ k = 15 ∨ k = 20 ∨ k = 21)

/-- Every sensor after one gate. -/
def readAll (m : Mon) (v : Vector Sensor 22) (counts : List Nat) : Vector Sensor 22 :=
  let at1 (w : Vector Sensor 22) (ks : List Nat) : List Sensor := ks.map fun j => w.getD j {}
  let a : Vector Sensor 22 := Vector.ofFn fun k => (v.get k).read (m.tempAt k.val (counts.getD k.val 0))
  let b : Vector Sensor 22 := Vector.ofFn fun k => (a.get k).judge (at1 a (neighbours k.val))
  Vector.ofFn fun k => (b.get k).substitute (isPrivileged k.val) (at1 b (neighbours k.val))

/-! ### Classes (R480 to R484) -/

/-- Sensors of a class: DRV0 to DRV3, CTL, MON. -/
def classSensors (c : Nat) : List Nat := if c < 5 then [4 * c, 4 * c + 1, 4 * c + 2, 4 * c + 3] else [20, 21]

/-- Table 17-2: warn, and levels 1 to 4, entry and release; shutdown. -/
def warnAt (c : Nat) : Int × Int := if c < 4 then (14000, 13500) else if c = 4 then (11500, 11000) else (12500, 12000)
def levelAt (c : Nat) : List (Nat × Int × Int) :=
  if c < 4 then [(1, 15000, 14700), (2, 15400, 15100), (3, 15800, 15500), (4, 16200, 15900)]
  else if c = 4 then [(1, 12500, 12200), (2, 12900, 12600), (3, 13300, 13000), (4, 13700, 13400)]
  else []
def shutAt (c : Nat) : Int := if c < 4 then 16500 else if c = 4 then 14000 else 14500

/-- The temperature sensor k counts with in its class: a broken privileged one as one above shutdown (R478). -/
def Sensor.counted (x : Sensor) (k c : Nat) : Int :=
  if x.broken && isPrivileged k then Max.max x.temp (shutAt c + 1) else x.temp

/-- The governing temperature. -/
def governing (v : Vector Sensor 22) (c : Nat) : Int :=
  (hottest ((classSensors c).map fun k => (v.getD k {}).counted k c)).getD 0

/-- Entered at or above the entry value, left below the release value (R481). -/
def stands (was : Bool) (gov : Int) (th : Int × Int) : Bool := decide (th.1 ≤ gov) || (was && decide (th.2 ≤ gov))

/-- The highest level the class stands in. -/
def newLevel (c : Nat) (lvl : Nat) (gov : Int) : Nat :=
  (levelAt c).foldl (fun l x => if stands (decide (x.1 ≤ lvl)) gov x.2 then x.1 else l) 0

def sumL (l : List Int) : Int := l.foldl (fun a b => a + b) 0

/-- The difference of the sums behind rfast, in 0.01 °C over four readings; none before 68 readings (R482). -/
def fastDiff (h : List Int) : Option Int :=
  if 68 ≤ h.length then some (sumL (h.take 4) - sumL ((h.drop 64).take 4)) else none

/-- The same behind rslow, over 64 readings; none before 62 blocks. -/
def slowDiff (b : List Int) : Option Int := if 62 ≤ b.length then some (b.headD 0 - b.getD 61 0) else none

/-- A rate state: active, readings below half the limit in a row. `d` over `unit` is the rate, `lim` its limit. -/
def rateStep (active : Bool) (low : Nat) (d : Option Int) (scale lim : Int) : Bool × Nat :=
  match d with
  | none => (active, low)
  | some x =>
    let l := if 2 * x * scale < lim then low + 1 else 0
    if active then (if 64 ≤ l then (false, 0) else (true, l)) else (decide (lim < x * scale), 0)

/-- Limits RISEF and RISES; 0 is taken as 1 (Table 17-7). -/
def riseF (cfg : Word) : Int := (Nat.max 1 (fld cfg 7 0) : Nat)
def riseS (cfg : Word) : Int := (Nat.max 1 (fld cfg 15 8) : Nat)

/-- History with one more governing reading: a block closes with its 64th. -/
def ThClass.record (x : ThClass) (g : Int) : ThClass :=
  let y : ThClass := { x with gov := g, hist := (g :: x.hist).take 68 }
  if 63 ≤ x.blkN then { y with blocks := ((x.blkSum + g) :: x.blocks).take 62, blkSum := 0, blkN := 0 }
  else { y with blkSum := x.blkSum + g, blkN := x.blkN + 1 }

/-- A class after one gate. A rate of 1 °C/s is 26.2144 in the sums of rfast, one of 0.1 °C/s 2 558.52544 in those of
rslow (R482). -/
def ThClass.step (c : Nat) (cfg : Word) (g : Int) (x : ThClass) : ThClass :=
  let y := x.record g
  let f := rateStep y.rfast y.fastLow (fastDiff y.hist) 10000 (262144 * riseF cfg)
  let s := rateStep y.rslow y.slowLow (slowDiff y.blocks) 100000 (255852544 * riseS cfg)
  { y with
    warn := stands x.warn g (warnAt c), lvl := newLevel c x.lvl g
    rfast := f.1, fastLow := f.2, rslow := s.1, slowLow := s.2 }

/-! ### Shutdown (R487, Table 17-4) -/

/-- Packets whose commit will not complete: the entries reserved for their replies are free. -/
def Journal.unanswered (j : Journal) : Nat :=
  ((j.pend ++ j.com ++ j.held.map Prod.snd).filter fun p => p.reply.isSome).length

/-- An operation that would write NVM ends with THERMAL_BLOCK (log entry 33). -/
def State.stopNvm (s : State) : State :=
  match s.mgmt.bg with
  | some ⟨.storeConfig, o, q⟩ => s.bgEnd.pushReserved (refusal o q stThermalBlock 0 0xFFFF)
  | some ⟨.mouldStore _ dst _, o, q⟩ =>
    let t := s.bgEnd.lock0Release
    ({ t with moulds := { t.moulds with cust := t.moulds.cust.set (axOf dst) (none, false) } }).pushReserved
      (refusal o q stThermalBlock 0 0xFFFF)
  | some ⟨.lcAdvance, o, q⟩ => s.bgEnd.pushReserved (refusal o q stThermalBlock 0 0xFFFF)
  | some ⟨.lcSetKey _ _, o, q⟩ => s.bgEnd.pushReserved (refusal o q stThermalBlock 0 0xFFFF)
  | some ⟨.lcRmaEnter _ _ _, o, q⟩ => s.bgEnd.pushReserved (refusal o q stThermalBlock 0 0xFFFF)
  | _ => s

/-- A CLEAR_FAULT that waits for a tick boundary is answered now (log entry 33). -/
def State.stopClear (s : State) : State :=
  match s.mgmt.clr with
  | none => s
  | some (_, q, _) =>
    ({ s with mgmt := { s.mgmt with clr := none } }).pushReserved (refusal 0x0604 q stThermalBlock 0 0xFFFF)

/-- The journal engines finish the record in progress and start no other (12 R380). -/
def State.stopJournal (s : State) : State :=
  let j := s.jrn.cut true true
  { s with
    mgmt := { s.mgmt with reserved := s.mgmt.reserved - s.jrn.unanswered }
    jrn := { j with pend := [] } }

/-- Steps 2 to 5 of Table 17-4: gates off, THERMAL_LATCH, TSHUT; the tick and the NVM engines stop; the cause goes to the
log in SRAM. The running pour goes to its end: a standard mould's steps of it here, the bundles of a custom mould as they
issue. -/
def State.shutdown (s0 : State) : State :=
  match s0.dev with
  | .boot | .ready | .run | .safe =>
    let s := s0.stdFinish
    let a := ((s.cancelActivation.abortTest fun _ => true).stopNvm.stopClear).stopJournal
    let t : State := { a.setDev .thermalLatch with
      pwr := { a.pwr with therm := true }
      tick := { a.tick with on := false }
      pour := { a.pour with poured := false }
      mgmt := { a.mgmt with slog := a.mgmt.slog ++ [{ code := 234, heat := a.tick.heat }] }
      mon := { (a.setDev .thermalLatch).mon with req := true, reqQ := true } }
    (t.settleAll).raise 234
  | _ => s0

/-! ### What a gate changes on CTL -/

/-- Events of a sensor found broken (Table 17-8). -/
def State.brokenEvents (s : State) (old new : Vector Sensor 22) : State :=
  (List.finRange 22).foldl (fun t k =>
    if (new.get k).broken && !(old.get k).broken then
      t.raise (if k.val < 16 then axEv (axOf (k.val / 4)) 32 else 237)
    else t) s

/-- Events of a class: warn, RISE_FAST, RISE_SLOW. -/
def State.classEvents (s : State) (c : Fin 6) (o x : ThClass) : State :=
  let ev (j sys : Nat) : Nat := if c.val < 4 then axEv (axOf c.val) j else sys
  let t : State := if x.warn && !o.warn then { s with th := { s.th with flag := s.th.flag ||| bitB 6 c.val } } else s
  ((t.raiseIf (x.warn && !o.warn) (ev 28 232)).raiseIf (x.rfast && !o.rfast) (ev 30 235)).raiseIf
    (x.rslow && !o.rslow && !decide (c.val = 5)) (ev 31 236)

/-- Throttle levels of the axes (R485) and their events. -/
def State.throttle (s : State) (oldCtl : Nat) : State :=
  let ctl := (s.th.cls.get 4).level
  let lv (n : Fin 4) : Nat := Nat.max (s.th.cls.getD n.val {}).level ctl
  let t : State := { s with th := { s.th with lv := ⟨lv 0, lv 1, lv 2, lv 3⟩ } }
  (axes.foldl (fun u n => u.raiseIf (decide (s.th.lv.get n ≠ lv n)) (axEv n 29)) t).raiseIf (decide (oldCtl ≠ ctl)) 233

/-- On entry to RISE_FAST the axis, or every axis, stops (R483). -/
def State.riseStops (s : State) (old new : Vector ThClass 6) : State :=
  let entered (c : Nat) : Bool := (new.getD c {}).rfast && !(old.getD c {}).rfast
  axes.foldl (fun t n => if entered n.val || entered 4 || entered 5 then t.thermalStop n else t) s

/-- A shutdown condition as CTL sees it (R487). -/
def shutCond (v : Vector Sensor 22) (c : Vector ThClass 6) : Bool :=
  ((List.finRange 6).any fun k => decide (shutAt k.val ≤ (c.get k).gov)) ||
    ((List.finRange 22).any fun k => isPrivileged k.val && (v.get k).broken)

/-- TEMPERATURE_READING (R475 to R487): the counts of TS00 to TS21 at the end of one gate. -/
def execTemperatureReading (counts : List Nat) (s : State) : Res :=
  if s.appOn && decide (counts.length = 22) then
    let v := readAll s.mon s.th.sens counts
    let old := s.th.cls
    let c : Vector ThClass 6 := Vector.ofFn fun k => (old.get k).step k.val s.th.cfg (governing v k.val)
    let t := ({ s with th := { s.th with sens := v, cls := c } } : State).brokenEvents s.th.sens v
    let u := (List.finRange 6).foldl (fun w k => w.classEvents k (old.get k) (c.get k)) t
    let w := (u.throttle (old.get 4).level).riseStops old c
    .next (if shutCond v c then w.shutdown else w)
  else .next s

/-! ### MON (R479) -/

/-- MON's own neighbours: its two sensors; the privileged DRV sensors have none on MON (log entry 34). -/
def monNeighbours (k : Nat) : List Nat := if k = 4 then [5] else if k = 5 then [4] else []

/-- Sensor numbers of MON's six, and their class. -/
def monSensor (k : Nat) : Nat := if k < 4 then 4 * k + 3 else 16 + k
def monClass (k : Nat) : Nat := if k < 4 then k else 5

/-- Gates in a row without the privileged reading of each drive die. -/
def Mon.missing (m : Mon) (priv : List (Option Nat)) : Four Nat :=
  let f (n : Fin 4) : Nat := match priv.getD n.val none with | some _ => 0 | none => Nat.min 4 (m.missG.get n + 1)
  ⟨f 0, f 1, f 2, f 3⟩

/-- MON's sensors after a gate; a privileged DRV reading that is missing for the fourth gate is broken. -/
def Mon.readTs (m : Mon) (priv : List (Option Nat)) (own : List Nat) : Vector Sensor 6 :=
  let a : Vector Sensor 6 := Vector.ofFn fun k =>
    let x := m.ts.get k
    if 4 ≤ k.val then x.read (m.tempOwn (monSensor k.val) (own.getD (k.val - 4) 0))
    else match priv.getD k.val none with
      | some c => x.read (tempOf (monSensor k.val) c)
      | none => { x with broken := x.broken || decide (4 ≤ (m.missing priv).get (axOf k.val)) }
  Vector.ofFn fun k => (a.get k).judge ((monNeighbours k.val).map fun j => a.getD j {})

/-- A shutdown condition as MON sees it. -/
def monShut (v : Vector Sensor 6) : Bool :=
  (List.finRange 6).any fun k => (v.get k).broken || decide (shutAt (monClass k.val) ≤ (v.get k).temp)

/-- MON's part of one gate. -/
def Mon.gate (m : Mon) (priv : List (Option Nat)) (own : List Nat) : Mon :=
  { m with ts := m.readTs priv own, missG := m.missing priv, gates := m.gates + 1 }

/-- MON_TEMPERATURE_READING (R479, R487). A shutdown latches THERM and THERMAL_LATCH, once the checks of MON have begun (18
R491). -/
def execMonTemperatureReading (r : MonTemps) (s : State) : Res :=
  if s.mon.up && decide (r.priv.length = 4) && decide (r.own.length = 2) then
    let t : State := { s with mon := s.mon.gate r.priv r.own }
    .next (if t.mon.begun && monShut t.mon.ts then t.shutdown.monLatchOnly 9 else t)
  else .next s

/-! ### Throttling (R486) -/

/-- THROTTLE_PAUSE_END: P(L) of the level in force has passed since the end of the previous job. A higher level waits
again, from the same end. -/
def execThrottlePauseEnd (n : Fin 4) (s : State) : Res :=
  .next (s.updJax n fun j => { j with waited := Nat.max j.waited (s.th.lv.get n) })

end Sys2Proof.Machine
end

