-- ==== Sys2Proof/Machine/Dispatch.lean ====
section
/-! DEFINITION. One arm per command: a direct call of its meaning. -/

namespace Sys2Proof.Machine

/-- The effect of a command on everything but the queue. -/
def exec (i : Instr) (s : State) : Host.Outcome State Fault Refusal :=
  match i with
  | .tickBoundary => Sys2Proof.Machine.execTickBoundary s
  | .heatBoundary => Sys2Proof.Machine.execHeatBoundary s
  | .heatReservation => Sys2Proof.Machine.execHeatReservation s
  | .exchangeSwap => Sys2Proof.Machine.execExchangeSwap s
  | .publish => Sys2Proof.Machine.execPublish s
  | .boundaryPublish => Sys2Proof.Machine.execBoundaryPublish s
  | .heat0Read m => Sys2Proof.Machine.execHeat0Read m s
  | .bundleIssue => Sys2Proof.Machine.execBundleIssue s
  | .mul u g k a b sc rm => Sys2Proof.Machine.execMul u g k a b sc rm s
  | .mac u g k a b sc rm => Sys2Proof.Machine.execMac u g k a b sc rm s
  | .msu u g k a b sc rm => Sys2Proof.Machine.execMsu u g k a b sc rm s
  | .madv u g k a b c => Sys2Proof.Machine.execMadv u g k a b c s
  | .mulv u g d a b ss rm => Sys2Proof.Machine.execMulv u g d a b ss rm s
  | .mova u g d k rm f h => Sys2Proof.Machine.execMova u g d k rm f h s
  | .movac u g d k rm h l pd => Sys2Proof.Machine.execMovac u g d k rm h l pd s
  | .lda u g k a => Sys2Proof.Machine.execLda u g k a s
  | .clra u g k => Sys2Proof.Machine.execClra u g k s
  | .adda u g k j => Sys2Proof.Machine.execAdda u g k j s
  | .sincos g d a => Sys2Proof.Machine.execSincos g d a s
  | .atan2 g d a b => Sys2Proof.Machine.execAtan2 g d a b s
  | .sqrt g d a => Sys2Proof.Machine.execSqrt g d a s
  | .recip g d a => Sys2Proof.Machine.execRecip g d a s
  | .mag g d a b => Sys2Proof.Machine.execMag g d a b s
  | .add g d a b => Sys2Proof.Machine.execAdd g d a b s
  | .sub g d a b => Sys2Proof.Machine.execSub g d a b s
  | .addw g d a b => Sys2Proof.Machine.execAddw g d a b s
  | .subw g d a b => Sys2Proof.Machine.execSubw g d a b s
  | .neg g d a => Sys2Proof.Machine.execNeg g d a s
  | .abs g d a => Sys2Proof.Machine.execAbs g d a s
  | .min g d a b => Sys2Proof.Machine.execMin g d a b s
  | .max g d a b => Sys2Proof.Machine.execMax g d a b s
  | .clamp g d a l pd => Sys2Proof.Machine.execClamp g d a l pd s
  | .sel g d a b x_s => Sys2Proof.Machine.execSel g d a b x_s s
  | .mov g d a => Sys2Proof.Machine.execMov g d a s
  | .push g d a => Sys2Proof.Machine.execPush g d a s
  | .subh g d a b => Sys2Proof.Machine.execSubh g d a b s
  | .and g d a b => Sys2Proof.Machine.execAnd g d a b s
  | .or g d a b => Sys2Proof.Machine.execOr g d a b s
  | .xor g d a b => Sys2Proof.Machine.execXor g d a b s
  | .andn g d a b => Sys2Proof.Machine.execAndn g d a b s
  | .shl g d a sh => Sys2Proof.Machine.execShl g d a sh s
  | .shr g d a sh => Sys2Proof.Machine.execShr g d a sh s
  | .shll g d a sh => Sys2Proof.Machine.execShll g d a sh s
  | .shrl g d a sh => Sys2Proof.Machine.execShrl g d a sh s
  | .shrr g d a sh => Sys2Proof.Machine.execShrr g d a sh s
  | .ldi g d imm => Sys2Proof.Machine.execLdi g d imm s
  | .lui g d imm => Sys2Proof.Machine.execLui g d imm s
  | .cmplt g pd a b => Sys2Proof.Machine.execCmplt g pd a b s
  | .cmple g pd a b => Sys2Proof.Machine.execCmple g pd a b s
  | .cmpeq g pd a b => Sys2Proof.Machine.execCmpeq g pd a b s
  | .cmpne g pd a b => Sys2Proof.Machine.execCmpne g pd a b s
  | .cmpltu g pd a b => Sys2Proof.Machine.execCmpltu g pd a b s
  | .tstb g pd a bit => Sys2Proof.Machine.execTstb g pd a bit s
  | .pand g pd pa pb => Sys2Proof.Machine.execPand g pd pa pb s
  | .por g pd pa pb => Sys2Proof.Machine.execPor g pd pa pb s
  | .pxor g pd pa pb => Sys2Proof.Machine.execPxor g pd pa pb s
  | .ld g d addr => Sys2Proof.Machine.execLd g d addr s
  | .st g a addr => Sys2Proof.Machine.execSt g a addr s
  | .ldx g d xofs => Sys2Proof.Machine.execLdx g d xofs s
  | .stx g a xofs => Sys2Proof.Machine.execStx g a xofs s
  | .ldr g d x_i k => Sys2Proof.Machine.execLdr g d x_i k s
  | .str g a x_i k => Sys2Proof.Machine.execStr g a x_i k s
  | .strc g a x_i k q qi => Sys2Proof.Machine.execStrc g a x_i k q qi s
  | .tint g d x k rm => Sys2Proof.Machine.execTint g d x k rm s
  | .prd g d pa => Sys2Proof.Machine.execPrd g d pa s
  | .pwr g a pa => Sys2Proof.Machine.execPwr g a pa s
  | .pwri g imm pa => Sys2Proof.Machine.execPwri g imm pa s
  | .pourStatRead m => Sys2Proof.Machine.execPourStatRead m s
  | .registerWrite m addr val => Sys2Proof.Machine.execRegisterWrite m addr val s
  | .axisFaultApply n => Sys2Proof.Machine.execAxisFaultApply n s
  | .mouldBegin => Sys2Proof.Machine.execMouldBegin s
  | .mouldCheck => Sys2Proof.Machine.execMouldCheck s
  | .mouldCheckDone => Sys2Proof.Machine.execMouldCheckDone s
  | .mouldCommit => Sys2Proof.Machine.execMouldCommit s
  | .mouldCommitDone verified => Sys2Proof.Machine.execMouldCommitDone verified s
  | .mouldStore => Sys2Proof.Machine.execMouldStore s
  | .mouldStoreDone verified => Sys2Proof.Machine.execMouldStoreDone verified s
  | .mouldSelect => Sys2Proof.Machine.execMouldSelect s
  | .mouldSelectCopyDone => Sys2Proof.Machine.execMouldSelectCopyDone s
  | .liveLoadComplete => Sys2Proof.Machine.execLiveLoadComplete s
  | .getId => Sys2Proof.Machine.execGetId s
  | .getStatus => Sys2Proof.Machine.execGetStatus s
  | .getAxis => Sys2Proof.Machine.execGetAxis s
  | .getTelemetry => Sys2Proof.Machine.execGetTelemetry s
  | .getParam => Sys2Proof.Machine.execGetParam s
  | .journalQuery => Sys2Proof.Machine.execJournalQuery s
  | .journalRead => Sys2Proof.Machine.execJournalRead s
  | .lcState => Sys2Proof.Machine.execLcState s
  | .thermalStatus => Sys2Proof.Machine.execThermalStatus s
  | .setParam => Sys2Proof.Machine.execSetParam s
  | .storeConfig => Sys2Proof.Machine.execStoreConfig s
  | .storeConfigDone => Sys2Proof.Machine.execStoreConfigDone s
  | .moveTo => Sys2Proof.Machine.execMoveTo s
  | .moveVel => Sys2Proof.Machine.execMoveVel s
  | .hold => Sys2Proof.Machine.execHold s
  | .stop => Sys2Proof.Machine.execStop s
  | .release => Sys2Proof.Machine.execRelease s
  | .learnTravel => Sys2Proof.Machine.execLearnTravel s
  | .home => Sys2Proof.Machine.execHome s
  | .resume => Sys2Proof.Machine.execResume s
  | .cancel => Sys2Proof.Machine.execCancel s
  | .jobStart n => Sys2Proof.Machine.execJobStart n s
  | .immediateJobEffect n => Sys2Proof.Machine.execImmediateJobEffect n s
  | .journalTrim => Sys2Proof.Machine.execJournalTrim s
  | .resetFuncAxis => Sys2Proof.Machine.execResetFuncAxis s
  | .resetFuncLink => Sys2Proof.Machine.execResetFuncLink s
  | .resetFuncSns => Sys2Proof.Machine.execResetFuncSns s
  | .resetFuncSprue => Sys2Proof.Machine.execResetFuncSprue s
  | .resetFuncRunner => Sys2Proof.Machine.execResetFuncRunner s
  | .resetFuncMailbox => Sys2Proof.Machine.execResetFuncMailbox s
  | .resetFuncDone => Sys2Proof.Machine.execResetFuncDone s
  | .resetDevice => Sys2Proof.Machine.execResetDevice s
  | .hibernate => Sys2Proof.Machine.execHibernate s
  | .clearFault => Sys2Proof.Machine.execClearFault s
  | .loopbackSprue => Sys2Proof.Machine.execLoopbackSprue s
  | .loopbackRunner => Sys2Proof.Machine.execLoopbackRunner s
  | .loopbackPlind => Sys2Proof.Machine.execLoopbackPlind s
  | .loopbackGateDrive => Sys2Proof.Machine.execLoopbackGateDrive s
  | .loopbackPhaseSensing => Sys2Proof.Machine.execLoopbackPhaseSensing s
  | .loopbackConverter => Sys2Proof.Machine.execLoopbackConverter s
  | .loopbackFieldInputs => Sys2Proof.Machine.execLoopbackFieldInputs s
  | .loopbackDone errors first => Sys2Proof.Machine.execLoopbackDone errors first s
  | .selftest => Sys2Proof.Machine.execSelftest s
  | .selftestDone passed failed => Sys2Proof.Machine.execSelftestDone passed failed s
  | .lcAdvance => Sys2Proof.Machine.execLcAdvance s
  | .lcRmaChallenge => Sys2Proof.Machine.execLcRmaChallenge s
  | .lcRmaEnter => Sys2Proof.Machine.execLcRmaEnter s
  | .lcSetMouldKey => Sys2Proof.Machine.execLcSetMouldKey s
  | .nonceExpiry => Sys2Proof.Machine.execNonceExpiry s
  | .rmaWipeDone => Sys2Proof.Machine.execRmaWipeDone s
  | .hostSilence => Sys2Proof.Machine.execHostSilence s
  | .deferredActionTimeout => Sys2Proof.Machine.execDeferredActionTimeout s
  | .commit => Sys2Proof.Machine.execCommit s
  | .recordProgrammed okA okB => Sys2Proof.Machine.execRecordProgrammed okA okB s
  | .write f => Sys2Proof.Machine.execWrite f s
  | .post f => Sys2Proof.Machine.execPost f s
  | .read f => Sys2Proof.Machine.execRead f s
  | .take f => Sys2Proof.Machine.execTake f s
  | .status f => Sys2Proof.Machine.execStatus f s
  | .echo f => Sys2Proof.Machine.execEcho f s
  | .frameAbort cmd f cycles => Sys2Proof.Machine.execFrameAbort cmd f cycles s
  | .frameTimeout => Sys2Proof.Machine.execFrameTimeout s
  | .sprueIdleReset => Sys2Proof.Machine.execSprueIdleReset s
  | .runnerMouldStart x_i => Sys2Proof.Machine.execRunnerMouldStart x_i s
  | .runnerMgmtStart dev cmd addr isWrite tx rxlen => Sys2Proof.Machine.execRunnerMgmtStart dev cmd addr isWrite tx rxlen s
  | .runnerComplete levels => Sys2Proof.Machine.execRunnerComplete levels s
  | .lockRead m k => Sys2Proof.Machine.execLockRead m k s
  | .lockRelease m k val => Sys2Proof.Machine.execLockRelease m k val s
  | .mbDataWrite m ch x_i val => Sys2Proof.Machine.execMbDataWrite m ch x_i val s
  | .mbDoorbell m ch => Sys2Proof.Machine.execMbDoorbell m ch s
  | .mbAck m ch => Sys2Proof.Machine.execMbAck m ch s
  | .mbCancel m ch => Sys2Proof.Machine.execMbCancel m ch s
  | .mbTimeout ch sideB => Sys2Proof.Machine.execMbTimeout ch sideB s
  | .mblockWrite m val => Sys2Proof.Machine.execMblockWrite m val s
  | .qlockWrite m val => Sys2Proof.Machine.execQlockWrite m val s
  | .gpioPulseEnd k => Sys2Proof.Machine.execGpioPulseEnd k s
  | .eventCrossingDelivery k => Sys2Proof.Machine.execEventCrossingDelivery k s
  | .valueCrossingTransfer which => Sys2Proof.Machine.execValueCrossingTransfer which s
  | .drvEventWord n j => Sys2Proof.Machine.execDrvEventWord n j s
  | .tickFrame n good eye => Sys2Proof.Machine.execTickFrame n good eye s
  | .immediateMessage n good => Sys2Proof.Machine.execImmediateMessage n good s
  | .registerMessage n => Sys2Proof.Machine.execRegisterMessage n s
  | .registerAckTimeout n => Sys2Proof.Machine.execRegisterAckTimeout n s
  | .senseFrame n good eye => Sys2Proof.Machine.execSenseFrame n good eye s
  | .statusFrame n vcoreMv => Sys2Proof.Machine.execStatusFrame n vcoreMv s
  | .crystalLoss => Sys2Proof.Machine.execCrystalLoss s
  | .snsPllUnlock => Sys2Proof.Machine.execSnsPllUnlock s
  | .periodWrap n bits => Sys2Proof.Machine.execPeriodWrap n bits s
  | .compareMatch n ch => Sys2Proof.Machine.execCompareMatch n ch s
  | .deadTimeEnd n ph high => Sys2Proof.Machine.execDeadTimeEnd n ph high s
  | .handshakeRelease n ph high => Sys2Proof.Machine.execHandshakeRelease n ph high s
  | .handshakeTimeout n ph high => Sys2Proof.Machine.execHandshakeTimeout n ph high s
  | .hstoClear n mask => Sys2Proof.Machine.execHstoClear n mask s
  | .enSet n => Sys2Proof.Machine.execEnSet n s
  | .enClear n => Sys2Proof.Machine.execEnClear n s
  | .brakeBackupEngage n => Sys2Proof.Machine.execBrakeBackupEngage n s
  | .brakeBackupRelease n => Sys2Proof.Machine.execBrakeBackupRelease n s
  | .syncChainPulse n => Sys2Proof.Machine.execSyncChainPulse n s
  | .syncmiss n => Sys2Proof.Machine.execSyncmiss n s
  | .syncAcquire => Sys2Proof.Machine.execSyncAcquire s
  | .syncEdge dev => Sys2Proof.Machine.execSyncEdge dev s
  | .syncEdgeMissing => Sys2Proof.Machine.execSyncEdgeMissing s
  | .tripSourceChange n k active => Sys2Proof.Machine.execTripSourceChange n k active s
  | .tripAssert n k => Sys2Proof.Machine.execTripAssert n k s
  | .tripRelease n k => Sys2Proof.Machine.execTripRelease n k s
  | .tflagClear n mask => Sys2Proof.Machine.execTflagClear n mask s
  | .pwmStatRead m n => Sys2Proof.Machine.execPwmStatRead m n s
  | .vdsBlankingEnd n ph high => Sys2Proof.Machine.execVdsBlankingEnd n ph high s
  | .fpglowAssert n p => Sys2Proof.Machine.execFpglowAssert n p s
  | .fpglowRelease n p => Sys2Proof.Machine.execFpglowRelease n p s
  | .bstuvAssert n ph => Sys2Proof.Machine.execBstuvAssert n ph s
  | .refreshStart n ph => Sys2Proof.Machine.execRefreshStart n ph s
  | .refreshTimeEnd n ph => Sys2Proof.Machine.execRefreshTimeEnd n ph s
  | .vmLockoutEngage n => Sys2Proof.Machine.execVmLockoutEngage n s
  | .vmLockoutRelease n => Sys2Proof.Machine.execVmLockoutRelease n s
  | .modulatorLostClock n p => Sys2Proof.Machine.execModulatorLostClock n p s
  | .bitstreamStuck n c => Sys2Proof.Machine.execBitstreamStuck n c s
  | .sensMean0Read m n => Sys2Proof.Machine.execSensMean0Read m n s
  | .conversionComplete v => Sys2Proof.Machine.execConversionComplete v s
  | .injectedTrigger e => Sys2Proof.Machine.execInjectedTrigger e s
  | .refselWrite m val => Sys2Proof.Machine.execRefselWrite m val s
  | .refrdySet => Sys2Proof.Machine.execRefrdySet s
  | .referenceLoss => Sys2Proof.Machine.execReferenceLoss s
  | .adrvRead m => Sys2Proof.Machine.execAdrvRead m s
  | .ain11Compare ratio refNv => Sys2Proof.Machine.execAin11Compare ratio refNv s
  | .vm0Compare monMv => Sys2Proof.Machine.execVm0Compare monMv s
  | .fiFilterChange k samples => Sys2Proof.Machine.execFiFilterChange k samples s
  | .fiStuck k => Sys2Proof.Machine.execFiStuck k s
  | .fiChatterWindowEnd k samples => Sys2Proof.Machine.execFiChatterWindowEnd k samples s
  | .fiTestPulseStart => Sys2Proof.Machine.execFiTestPulseStart s
  | .fiTestPulseCheck levels => Sys2Proof.Machine.execFiTestPulseCheck levels s
  | .fiConfigWrite m stk k val => Sys2Proof.Machine.execFiConfigWrite m stk k val s
  | .fiStateRead m => Sys2Proof.Machine.execFiStateRead m s
  | .hallEdge n code t => Sys2Proof.Machine.execHallEdge n code t s
  | .hallRateDeferEnd n code => Sys2Proof.Machine.execHallRateDeferEnd n code s
  | .encoderEdge n a b => Sys2Proof.Machine.execEncoderEdge n a b s
  | .encoderZEdge n => Sys2Proof.Machine.execEncoderZEdge n s
  | .hallConfigWrite m n val => Sys2Proof.Machine.execHallConfigWrite m n val s
  | .temperatureReading counts => Sys2Proof.Machine.execTemperatureReading counts s
  | .monTemperatureReading r => Sys2Proof.Machine.execMonTemperatureReading r s
  | .throttlePauseEnd n => Sys2Proof.Machine.execThrottlePauseEnd n s
  | .thTemp0Read m => Sys2Proof.Machine.execThTemp0Read m s
  | .signatureCheck => Sys2Proof.Machine.execSignatureCheck s
  | .tickMarker monCycles => Sys2Proof.Machine.execTickMarker monCycles s
  | .tickMarkerTimeout => Sys2Proof.Machine.execTickMarkerTimeout s
  | .supplyWindowFault rail => Sys2Proof.Machine.execSupplyWindowFault rail s
  | .lcReport => Sys2Proof.Machine.execLcReport s
  | .quenchRequest => Sys2Proof.Machine.execQuenchRequest s
  | .externalQuench => Sys2Proof.Machine.execExternalQuench s
  | .externalQuenchEnd => Sys2Proof.Machine.execExternalQuenchEnd s
  | .monlost => Sys2Proof.Machine.execMonlost s
  | .witnessStatus r => Sys2Proof.Machine.execWitnessStatus r s
  | .witnessReadB r => Sys2Proof.Machine.execWitnessReadB r s
  | .witnessReadLog r => Sys2Proof.Machine.execWitnessReadLog r s
  | .witnessGapTimeout => Sys2Proof.Machine.execWitnessGapTimeout s
  | .monFaultRead m => Sys2Proof.Machine.execMonFaultRead m s
  | .trdataRead m => Sys2Proof.Machine.execTrdataRead m s
  | .debugSessionAttempt => Sys2Proof.Machine.execDebugSessionAttempt s
  | .porRelease => Sys2Proof.Machine.execPorRelease s
  | .vddFall memAbove140 => Sys2Proof.Machine.execVddFall memAbove140 s
  | .retentionExpiry => Sys2Proof.Machine.execRetentionExpiry s
  | .resetnAssert => Sys2Proof.Machine.execResetnAssert s
  | .resetnRelease => Sys2Proof.Machine.execResetnRelease s
  | .watchdogExpiry => Sys2Proof.Machine.execWatchdogExpiry s
  | .monBootDone romOk => Sys2Proof.Machine.execMonBootDone romOk s
  | .firmwareVerified imgA imgB => Sys2Proof.Machine.execFirmwareVerified imgA imgB s
  | .bootComplete => Sys2Proof.Machine.execBootComplete s
  | .wake srcs => Sys2Proof.Machine.execWake srcs s
  | .unlistedOpcode => Sys2Proof.Machine.execUnlistedOpcode s
  | .unknownCmdFrame cmd f => Sys2Proof.Machine.execUnknownCmdFrame cmd f s
  | .witnessUnknownCmd r => Sys2Proof.Machine.execWitnessUnknownCmd r s
  | .bstuvRelease n ph => Sys2Proof.Machine.execBstuvRelease n ph s
  | .v5CurrentLimit limited => Sys2Proof.Machine.execV5CurrentLimit limited s
  | .lcAdvanceDone => Sys2Proof.Machine.execLcAdvanceDone s
  | .lcSetMouldKeyDone => Sys2Proof.Machine.execLcSetMouldKeyDone s
  | .lcRmaEnterDone => Sys2Proof.Machine.execLcRmaEnterDone s

end Sys2Proof.Machine
end

