-- ==== Sys2Proof/WellFormed.lean ====
section
/-! DEFINITION. Commands as they can reach the device: slot operations that the mould check lets into CODE (03 R90, 02
R55, R63), word addresses of register writes (13 R408), frames that bring the data their LEN announces (13 R397), and
readings with one count per sensor (17 R476, R479). -/

namespace Sys2Proof

open Sys2Proof.Machine

/-- A result in V`d` and the `n` registers above it exists (03 R90). -/
def regsFit (d : BitVec 6) (n : Nat) : Bool := decide (d.toNat + n < 64)

/-- The command can occur. Descriptors are declared by the active mould, so no command is ill-formed for want of one. -/
def Instr.wf : Instr → Bool
  | .mul _ _ _ _ _ sc _ => decide (sc ≠ 3)
  | .mac _ _ _ _ _ sc _ => decide (sc ≠ 3)
  | .msu _ _ _ _ _ sc _ => decide (sc ≠ 3)
  | .mova _ _ d _ _ _ h => regsFit d (if h then 1 else 0)
  | .movac _ _ d _ _ h _ _ => regsFit d (if h then 1 else 0)
  | .sincos _ d _ => regsFit d 1
  | .push _ d _ => regsFit d 1
  | .subh _ d _ _ => regsFit d 2
  | .stx _ _ xofs => decide (2048 ≤ xofs.toNat)
  | .prd _ _ pa => portReadable pa.toNat
  | .pwr _ _ pa => portWritable pa.toNat
  | .pwri _ _ pa => portWritable pa.toNat
  | .registerWrite _ a _ => decide (a.toNat % 4 = 0) && decide (a.toNat < 0x8000)
  | .runnerMgmtStart dev _ _ w tx n => decide (dev ≠ 0) && decide (tx.length ≤ 8) && decide (n.toNat ≤ (if w then 0 else 32))
  | .write f => Cmd.shaped .write f
  | .post f => Cmd.shaped .post f
  | .read f => Cmd.shaped .read f
  | .take f => Cmd.shaped .take f
  | .status f => Cmd.shaped .status f
  | .echo f => Cmd.shaped .echo f
  | .unknownCmdFrame c f => match Cmd.ofCode c with | none => true | some k => !k.lenOk f.len.toNat
  | .periodWrap _ bits => decide (bits.length = 7)
  | .conversionComplete v => decide (0 < v.refNv)
  | .ain11Compare _ r => decide (0 < r)
  | .temperatureReading l => decide (l.length = 22)
  | .monTemperatureReading r => decide (r.priv.length = 4) && decide (r.own.length = 2)
  | .selftestDone p f => decide (p &&& f = 0)
  | .witnessStatus r => decide (r.cmd = 1)
  | .witnessReadB r => decide (r.cmd = 2)
  | .witnessReadLog r => decide (r.cmd = 3)
  | .wake srcs => decide (srcs ≠ 0)
  | _ => true

end Sys2Proof
end

