-- ==== Sys2Proof/Safety.lean ====
section
/-! DEFINITION. What the statements are said in: the parts of the state and what a command leaves unchanged, when MGMT
takes a packet, when a frame is accepted, and the invariants that every step keeps. -/

namespace Sys2Proof.Machine

/-! ### Frames -/

/-- The parts of the state, one per field of `State`. -/
inductive Part where
  | pending | dev | safecause | tick | exch | pour | moulds | mgmt | jrn | spr | run | evm | locks | mail | ax | std
  | conv | fi | hall | hallFlag | th | mon | lc | pwr | sync | latch | rdata
  deriving DecidableEq, Repr

/-- Two states agree in a part. -/
def Part.same : Part → State → State → Prop
  | .pending, s, t => s.pending = t.pending
  | .dev, s, t => s.dev = t.dev
  | .safecause, s, t => s.safecause = t.safecause
  | .tick, s, t => s.tick = t.tick
  | .exch, s, t => s.exch = t.exch
  | .pour, s, t => s.pour = t.pour
  | .moulds, s, t => s.moulds = t.moulds
  | .mgmt, s, t => s.mgmt = t.mgmt
  | .jrn, s, t => s.jrn = t.jrn
  | .spr, s, t => s.spr = t.spr
  | .run, s, t => s.run = t.run
  | .evm, s, t => s.evm = t.evm
  | .locks, s, t => s.locks = t.locks
  | .mail, s, t => s.mail = t.mail
  | .ax, s, t => s.ax = t.ax
  | .std, s, t => s.std = t.std
  | .conv, s, t => s.conv = t.conv
  | .fi, s, t => s.fi = t.fi
  | .hall, s, t => s.hall = t.hall
  | .hallFlag, s, t => s.hallFlag = t.hallFlag
  | .th, s, t => s.th = t.th
  | .mon, s, t => s.mon = t.mon
  | .lc, s, t => s.lc = t.lc
  | .pwr, s, t => s.pwr = t.pwr
  | .sync, s, t => s.sync = t.sync
  | .latch, s, t => s.latch = t.latch
  | .rdata, s, t => s.rdata = t.rdata

/-- Outside the parts listed nothing has changed. -/
def Frame (ps : List Part) (s t : State) : Prop := ∀ p : Part, p ∉ ps → p.same s t

/-- The parts that raising an event may change: the banks and MGMT's memory of EV203; with the event mapped to quench
also what the entry to SAFE changes (15 R450, 01 Table 1-6). -/
def raiseParts : List Part := [.evm, .mgmt, .dev, .safecause, .tick, .exch, .moulds, .ax, .mon]

/-- Event k is not mapped to quench, so raising it moves no state of the device. -/
def State.calm (s : State) (k : Nat) : Bool := !s.evm.qmap.getLsbD k

/-! ### Packets -/

/-- The state without the packet at the head of the ladle. -/
def State.headOff (s : State) : State := { s with mgmt := { s.mgmt with ladle := s.mgmt.ladle.tail } }

/-- MGMT can take packet p now (11 R343, R344): it is the head, MGMT runs, and an outlet entry is free. -/
def State.atHead (s : State) (p : List Byte) : Bool :=
  decide (s.mgmt.ladle.head? = some p) && s.mgmtUp && s.outletRoom

/-- It is taken, has this opcode, and passes the checks 1 to 6 of R342. -/
def State.takes (s : State) (opc : Nat) (p : List Byte) : Bool :=
  s.atHead p && decide (pOpc p = opc) && decide (s.headOff.precheck p = none)

/-- No background operation runs. -/
def State.bgFree (s : State) : Bool := s.mgmt.bg.isNone

/-! ### Frames of the Sprue port -/

/-- A frame that meets no condition of Table 13-3 and whose data is ready: it is accepted (13 R399 to R405). -/
def State.accepts (s : State) (c : Cmd) (f : Sys2Proof.Frame) : Bool :=
  s.portUp && c.lenOk f.len.toNat && c.shaped f && decide (s.judge c f = 0) && (f.ready || !c.answers)

/-! ### Slot operations -/

/-- The rows of 03 Tables 3-5 to 3-9. -/
def isSlotOp (i : Instr) : Bool := (opInfo i).isSome

/-- The unit whose slot carries the operation (03 R90). -/
def unitOf : Instr → Nat
  | .mul u .. | .mac u .. | .msu u .. | .madv u .. | .mulv u .. | .mova u .. | .movac u .. | .lda u .. | .clra u ..
  | .adda u .. => macUnit u
  | .sincos .. | .atan2 .. | .sqrt .. | .recip .. | .mag .. => 2
  | .ld .. | .st .. | .ldx .. | .stx .. | .ldr .. | .str .. | .strc .. | .tint .. => 4
  | .prd .. | .pwr .. | .pwri .. => 5
  | _ => 3

/-- The range descriptor an operation needs, and the shortest range it accepts (03 R90, R102). -/
def rangeNeed : Instr → Option (BitVec 4 × Nat)
  | .ldr _ _ _ k => some (k, 1)
  | .str _ _ _ k => some (k, 1)
  | .strc _ _ _ k _ _ => some (k, 1)
  | .tint _ _ _ k _ => some (k, 2)
  | _ => none

/-- The active mould declares the descriptor that the operation needs. -/
def State.declares (s : State) (i : Instr) : Bool :=
  match rangeNeed i with
  | none => true
  | some (k, n) => match s.rdesc k with | some r => decide (n ≤ r.len) | none => false

/-- The guard of a slot operation. -/
def guardOf (i : Instr) : Guard := match opInfo i with | some x => x.g | none => ⟨false, 0⟩

/-! ### Safe states and runs -/

/-- No phase of an axis has both commands past the handshake (08 R255). -/
def Axis.noShootThrough (a : Axis) : Prop := ∀ p : Phase, ¬((a.ph.get p).h.s4 = true ∧ (a.ph.get p).l.s4 = true)

/-- No phase of any axis has. -/
def State.noShootThrough (s : State) : Prop := ∀ n : Fin 4, (s.axis n).noShootThrough

/-- The invariant of the life cycle: the debug port is closed in FIELD (19 R514). -/
def State.lcSafe (s : State) : Prop := s.lc.st = 2 → s.lc.dbg = false

/-- Every byte buffer, the group latches, the reservation ring and both copies of the journal are in canonical form. -/
def State.memWf (s : State) : Bool :=
  s.pour.pdm.wf && s.pour.trace.wf && s.exch.buf0.inb.wf && s.exch.buf0.outb.wf && s.exch.buf1.inb.wf &&
    s.exch.buf1.outb.wf && s.exch.telem.wf && s.moulds.staging.wf && Sparse.wf 0 s.latch && Sparse.wf 0 s.tick.ring &&
    Sparse.wf Slot.blank s.jrn.a && Sparse.wf Slot.blank s.jrn.b

/-- A step that does not stop. -/
def SafeStep (s : State) : Prop := ∃ t, step s = .next t

end Sys2Proof.Machine
end

