-- ==== Sys2Proof/Laws/State.lean ====
section
/-! SUPPORT. What each update of the state leaves in every other field: one lemma per field per update, by `rfl`. -/

namespace Sys2Proof.Machine

/-! ### setAxis -/

@[simp] theorem State.setAxis_pending (s : State) (n : Fin 4) (a : Axis) : (s.setAxis n a).pending = s.pending := rfl
@[simp] theorem State.setAxis_dev (s : State) (n : Fin 4) (a : Axis) : (s.setAxis n a).dev = s.dev := rfl
@[simp] theorem State.setAxis_safecause (s : State) (n : Fin 4) (a : Axis) : (s.setAxis n a).safecause = s.safecause := rfl
@[simp] theorem State.setAxis_tick (s : State) (n : Fin 4) (a : Axis) : (s.setAxis n a).tick = s.tick := rfl
@[simp] theorem State.setAxis_exch (s : State) (n : Fin 4) (a : Axis) : (s.setAxis n a).exch = s.exch := rfl
@[simp] theorem State.setAxis_pour (s : State) (n : Fin 4) (a : Axis) : (s.setAxis n a).pour = s.pour := rfl
@[simp] theorem State.setAxis_moulds (s : State) (n : Fin 4) (a : Axis) : (s.setAxis n a).moulds = s.moulds := rfl
@[simp] theorem State.setAxis_mgmt (s : State) (n : Fin 4) (a : Axis) : (s.setAxis n a).mgmt = s.mgmt := rfl
@[simp] theorem State.setAxis_jrn (s : State) (n : Fin 4) (a : Axis) : (s.setAxis n a).jrn = s.jrn := rfl
@[simp] theorem State.setAxis_spr (s : State) (n : Fin 4) (a : Axis) : (s.setAxis n a).spr = s.spr := rfl
@[simp] theorem State.setAxis_run (s : State) (n : Fin 4) (a : Axis) : (s.setAxis n a).run = s.run := rfl
@[simp] theorem State.setAxis_evm (s : State) (n : Fin 4) (a : Axis) : (s.setAxis n a).evm = s.evm := rfl
@[simp] theorem State.setAxis_locks (s : State) (n : Fin 4) (a : Axis) : (s.setAxis n a).locks = s.locks := rfl
@[simp] theorem State.setAxis_mail (s : State) (n : Fin 4) (a : Axis) : (s.setAxis n a).mail = s.mail := rfl
@[simp] theorem State.setAxis_std (s : State) (n : Fin 4) (a : Axis) : (s.setAxis n a).std = s.std := rfl
@[simp] theorem State.setAxis_conv (s : State) (n : Fin 4) (a : Axis) : (s.setAxis n a).conv = s.conv := rfl
@[simp] theorem State.setAxis_fi (s : State) (n : Fin 4) (a : Axis) : (s.setAxis n a).fi = s.fi := rfl
@[simp] theorem State.setAxis_hall (s : State) (n : Fin 4) (a : Axis) : (s.setAxis n a).hall = s.hall := rfl
@[simp] theorem State.setAxis_hallFlag (s : State) (n : Fin 4) (a : Axis) : (s.setAxis n a).hallFlag = s.hallFlag := rfl
@[simp] theorem State.setAxis_th (s : State) (n : Fin 4) (a : Axis) : (s.setAxis n a).th = s.th := rfl
@[simp] theorem State.setAxis_mon (s : State) (n : Fin 4) (a : Axis) : (s.setAxis n a).mon = s.mon := rfl
@[simp] theorem State.setAxis_lc (s : State) (n : Fin 4) (a : Axis) : (s.setAxis n a).lc = s.lc := rfl
@[simp] theorem State.setAxis_pwr (s : State) (n : Fin 4) (a : Axis) : (s.setAxis n a).pwr = s.pwr := rfl
@[simp] theorem State.setAxis_sync (s : State) (n : Fin 4) (a : Axis) : (s.setAxis n a).sync = s.sync := rfl
@[simp] theorem State.setAxis_latch (s : State) (n : Fin 4) (a : Axis) : (s.setAxis n a).latch = s.latch := rfl
@[simp] theorem State.setAxis_rdata (s : State) (n : Fin 4) (a : Axis) : (s.setAxis n a).rdata = s.rdata := rfl

/-! ### updAxis -/

@[simp] theorem State.updAxis_pending (s : State) (n : Fin 4) (f : Axis → Axis) : (s.updAxis n f).pending = s.pending := rfl
@[simp] theorem State.updAxis_dev (s : State) (n : Fin 4) (f : Axis → Axis) : (s.updAxis n f).dev = s.dev := rfl
@[simp] theorem State.updAxis_safecause (s : State) (n : Fin 4) (f : Axis → Axis) : (s.updAxis n f).safecause = s.safecause := rfl
@[simp] theorem State.updAxis_tick (s : State) (n : Fin 4) (f : Axis → Axis) : (s.updAxis n f).tick = s.tick := rfl
@[simp] theorem State.updAxis_exch (s : State) (n : Fin 4) (f : Axis → Axis) : (s.updAxis n f).exch = s.exch := rfl
@[simp] theorem State.updAxis_pour (s : State) (n : Fin 4) (f : Axis → Axis) : (s.updAxis n f).pour = s.pour := rfl
@[simp] theorem State.updAxis_moulds (s : State) (n : Fin 4) (f : Axis → Axis) : (s.updAxis n f).moulds = s.moulds := rfl
@[simp] theorem State.updAxis_mgmt (s : State) (n : Fin 4) (f : Axis → Axis) : (s.updAxis n f).mgmt = s.mgmt := rfl
@[simp] theorem State.updAxis_jrn (s : State) (n : Fin 4) (f : Axis → Axis) : (s.updAxis n f).jrn = s.jrn := rfl
@[simp] theorem State.updAxis_spr (s : State) (n : Fin 4) (f : Axis → Axis) : (s.updAxis n f).spr = s.spr := rfl
@[simp] theorem State.updAxis_run (s : State) (n : Fin 4) (f : Axis → Axis) : (s.updAxis n f).run = s.run := rfl
@[simp] theorem State.updAxis_evm (s : State) (n : Fin 4) (f : Axis → Axis) : (s.updAxis n f).evm = s.evm := rfl
@[simp] theorem State.updAxis_locks (s : State) (n : Fin 4) (f : Axis → Axis) : (s.updAxis n f).locks = s.locks := rfl
@[simp] theorem State.updAxis_mail (s : State) (n : Fin 4) (f : Axis → Axis) : (s.updAxis n f).mail = s.mail := rfl
@[simp] theorem State.updAxis_std (s : State) (n : Fin 4) (f : Axis → Axis) : (s.updAxis n f).std = s.std := rfl
@[simp] theorem State.updAxis_conv (s : State) (n : Fin 4) (f : Axis → Axis) : (s.updAxis n f).conv = s.conv := rfl
@[simp] theorem State.updAxis_fi (s : State) (n : Fin 4) (f : Axis → Axis) : (s.updAxis n f).fi = s.fi := rfl
@[simp] theorem State.updAxis_hall (s : State) (n : Fin 4) (f : Axis → Axis) : (s.updAxis n f).hall = s.hall := rfl
@[simp] theorem State.updAxis_hallFlag (s : State) (n : Fin 4) (f : Axis → Axis) : (s.updAxis n f).hallFlag = s.hallFlag := rfl
@[simp] theorem State.updAxis_th (s : State) (n : Fin 4) (f : Axis → Axis) : (s.updAxis n f).th = s.th := rfl
@[simp] theorem State.updAxis_mon (s : State) (n : Fin 4) (f : Axis → Axis) : (s.updAxis n f).mon = s.mon := rfl
@[simp] theorem State.updAxis_lc (s : State) (n : Fin 4) (f : Axis → Axis) : (s.updAxis n f).lc = s.lc := rfl
@[simp] theorem State.updAxis_pwr (s : State) (n : Fin 4) (f : Axis → Axis) : (s.updAxis n f).pwr = s.pwr := rfl
@[simp] theorem State.updAxis_sync (s : State) (n : Fin 4) (f : Axis → Axis) : (s.updAxis n f).sync = s.sync := rfl
@[simp] theorem State.updAxis_latch (s : State) (n : Fin 4) (f : Axis → Axis) : (s.updAxis n f).latch = s.latch := rfl
@[simp] theorem State.updAxis_rdata (s : State) (n : Fin 4) (f : Axis → Axis) : (s.updAxis n f).rdata = s.rdata := rfl

/-! ### updDrv -/

@[simp] theorem State.updDrv_pending (s : State) (n : Fin 4) (f : Drv → Drv) : (s.updDrv n f).pending = s.pending := rfl
@[simp] theorem State.updDrv_dev (s : State) (n : Fin 4) (f : Drv → Drv) : (s.updDrv n f).dev = s.dev := rfl
@[simp] theorem State.updDrv_safecause (s : State) (n : Fin 4) (f : Drv → Drv) : (s.updDrv n f).safecause = s.safecause := rfl
@[simp] theorem State.updDrv_tick (s : State) (n : Fin 4) (f : Drv → Drv) : (s.updDrv n f).tick = s.tick := rfl
@[simp] theorem State.updDrv_exch (s : State) (n : Fin 4) (f : Drv → Drv) : (s.updDrv n f).exch = s.exch := rfl
@[simp] theorem State.updDrv_pour (s : State) (n : Fin 4) (f : Drv → Drv) : (s.updDrv n f).pour = s.pour := rfl
@[simp] theorem State.updDrv_moulds (s : State) (n : Fin 4) (f : Drv → Drv) : (s.updDrv n f).moulds = s.moulds := rfl
@[simp] theorem State.updDrv_mgmt (s : State) (n : Fin 4) (f : Drv → Drv) : (s.updDrv n f).mgmt = s.mgmt := rfl
@[simp] theorem State.updDrv_jrn (s : State) (n : Fin 4) (f : Drv → Drv) : (s.updDrv n f).jrn = s.jrn := rfl
@[simp] theorem State.updDrv_spr (s : State) (n : Fin 4) (f : Drv → Drv) : (s.updDrv n f).spr = s.spr := rfl
@[simp] theorem State.updDrv_run (s : State) (n : Fin 4) (f : Drv → Drv) : (s.updDrv n f).run = s.run := rfl
@[simp] theorem State.updDrv_evm (s : State) (n : Fin 4) (f : Drv → Drv) : (s.updDrv n f).evm = s.evm := rfl
@[simp] theorem State.updDrv_locks (s : State) (n : Fin 4) (f : Drv → Drv) : (s.updDrv n f).locks = s.locks := rfl
@[simp] theorem State.updDrv_mail (s : State) (n : Fin 4) (f : Drv → Drv) : (s.updDrv n f).mail = s.mail := rfl
@[simp] theorem State.updDrv_std (s : State) (n : Fin 4) (f : Drv → Drv) : (s.updDrv n f).std = s.std := rfl
@[simp] theorem State.updDrv_conv (s : State) (n : Fin 4) (f : Drv → Drv) : (s.updDrv n f).conv = s.conv := rfl
@[simp] theorem State.updDrv_fi (s : State) (n : Fin 4) (f : Drv → Drv) : (s.updDrv n f).fi = s.fi := rfl
@[simp] theorem State.updDrv_hall (s : State) (n : Fin 4) (f : Drv → Drv) : (s.updDrv n f).hall = s.hall := rfl
@[simp] theorem State.updDrv_hallFlag (s : State) (n : Fin 4) (f : Drv → Drv) : (s.updDrv n f).hallFlag = s.hallFlag := rfl
@[simp] theorem State.updDrv_th (s : State) (n : Fin 4) (f : Drv → Drv) : (s.updDrv n f).th = s.th := rfl
@[simp] theorem State.updDrv_mon (s : State) (n : Fin 4) (f : Drv → Drv) : (s.updDrv n f).mon = s.mon := rfl
@[simp] theorem State.updDrv_lc (s : State) (n : Fin 4) (f : Drv → Drv) : (s.updDrv n f).lc = s.lc := rfl
@[simp] theorem State.updDrv_pwr (s : State) (n : Fin 4) (f : Drv → Drv) : (s.updDrv n f).pwr = s.pwr := rfl
@[simp] theorem State.updDrv_sync (s : State) (n : Fin 4) (f : Drv → Drv) : (s.updDrv n f).sync = s.sync := rfl
@[simp] theorem State.updDrv_latch (s : State) (n : Fin 4) (f : Drv → Drv) : (s.updDrv n f).latch = s.latch := rfl
@[simp] theorem State.updDrv_rdata (s : State) (n : Fin 4) (f : Drv → Drv) : (s.updDrv n f).rdata = s.rdata := rfl

/-! ### updPort -/

@[simp] theorem State.updPort_pending (s : State) (n : Fin 4) (f : PortAx → PortAx) : (s.updPort n f).pending = s.pending := rfl
@[simp] theorem State.updPort_dev (s : State) (n : Fin 4) (f : PortAx → PortAx) : (s.updPort n f).dev = s.dev := rfl
@[simp] theorem State.updPort_safecause (s : State) (n : Fin 4) (f : PortAx → PortAx) : (s.updPort n f).safecause = s.safecause := rfl
@[simp] theorem State.updPort_tick (s : State) (n : Fin 4) (f : PortAx → PortAx) : (s.updPort n f).tick = s.tick := rfl
@[simp] theorem State.updPort_exch (s : State) (n : Fin 4) (f : PortAx → PortAx) : (s.updPort n f).exch = s.exch := rfl
@[simp] theorem State.updPort_moulds (s : State) (n : Fin 4) (f : PortAx → PortAx) : (s.updPort n f).moulds = s.moulds := rfl
@[simp] theorem State.updPort_mgmt (s : State) (n : Fin 4) (f : PortAx → PortAx) : (s.updPort n f).mgmt = s.mgmt := rfl
@[simp] theorem State.updPort_jrn (s : State) (n : Fin 4) (f : PortAx → PortAx) : (s.updPort n f).jrn = s.jrn := rfl
@[simp] theorem State.updPort_spr (s : State) (n : Fin 4) (f : PortAx → PortAx) : (s.updPort n f).spr = s.spr := rfl
@[simp] theorem State.updPort_run (s : State) (n : Fin 4) (f : PortAx → PortAx) : (s.updPort n f).run = s.run := rfl
@[simp] theorem State.updPort_evm (s : State) (n : Fin 4) (f : PortAx → PortAx) : (s.updPort n f).evm = s.evm := rfl
@[simp] theorem State.updPort_locks (s : State) (n : Fin 4) (f : PortAx → PortAx) : (s.updPort n f).locks = s.locks := rfl
@[simp] theorem State.updPort_mail (s : State) (n : Fin 4) (f : PortAx → PortAx) : (s.updPort n f).mail = s.mail := rfl
@[simp] theorem State.updPort_ax (s : State) (n : Fin 4) (f : PortAx → PortAx) : (s.updPort n f).ax = s.ax := rfl
@[simp] theorem State.updPort_std (s : State) (n : Fin 4) (f : PortAx → PortAx) : (s.updPort n f).std = s.std := rfl
@[simp] theorem State.updPort_conv (s : State) (n : Fin 4) (f : PortAx → PortAx) : (s.updPort n f).conv = s.conv := rfl
@[simp] theorem State.updPort_fi (s : State) (n : Fin 4) (f : PortAx → PortAx) : (s.updPort n f).fi = s.fi := rfl
@[simp] theorem State.updPort_hall (s : State) (n : Fin 4) (f : PortAx → PortAx) : (s.updPort n f).hall = s.hall := rfl
@[simp] theorem State.updPort_hallFlag (s : State) (n : Fin 4) (f : PortAx → PortAx) : (s.updPort n f).hallFlag = s.hallFlag := rfl
@[simp] theorem State.updPort_th (s : State) (n : Fin 4) (f : PortAx → PortAx) : (s.updPort n f).th = s.th := rfl
@[simp] theorem State.updPort_mon (s : State) (n : Fin 4) (f : PortAx → PortAx) : (s.updPort n f).mon = s.mon := rfl
@[simp] theorem State.updPort_lc (s : State) (n : Fin 4) (f : PortAx → PortAx) : (s.updPort n f).lc = s.lc := rfl
@[simp] theorem State.updPort_pwr (s : State) (n : Fin 4) (f : PortAx → PortAx) : (s.updPort n f).pwr = s.pwr := rfl
@[simp] theorem State.updPort_sync (s : State) (n : Fin 4) (f : PortAx → PortAx) : (s.updPort n f).sync = s.sync := rfl
@[simp] theorem State.updPort_latch (s : State) (n : Fin 4) (f : PortAx → PortAx) : (s.updPort n f).latch = s.latch := rfl
@[simp] theorem State.updPort_rdata (s : State) (n : Fin 4) (f : PortAx → PortAx) : (s.updPort n f).rdata = s.rdata := rfl

/-! ### axNext -/

@[simp] theorem State.axNext_pending (s : State) (n : Fin 4) (t : AxState) : (s.axNext n t).pending = s.pending := rfl
@[simp] theorem State.axNext_dev (s : State) (n : Fin 4) (t : AxState) : (s.axNext n t).dev = s.dev := rfl
@[simp] theorem State.axNext_safecause (s : State) (n : Fin 4) (t : AxState) : (s.axNext n t).safecause = s.safecause := rfl
@[simp] theorem State.axNext_tick (s : State) (n : Fin 4) (t : AxState) : (s.axNext n t).tick = s.tick := rfl
@[simp] theorem State.axNext_exch (s : State) (n : Fin 4) (t : AxState) : (s.axNext n t).exch = s.exch := rfl
@[simp] theorem State.axNext_pour (s : State) (n : Fin 4) (t : AxState) : (s.axNext n t).pour = s.pour := rfl
@[simp] theorem State.axNext_moulds (s : State) (n : Fin 4) (t : AxState) : (s.axNext n t).moulds = s.moulds := rfl
@[simp] theorem State.axNext_mgmt (s : State) (n : Fin 4) (t : AxState) : (s.axNext n t).mgmt = s.mgmt := rfl
@[simp] theorem State.axNext_jrn (s : State) (n : Fin 4) (t : AxState) : (s.axNext n t).jrn = s.jrn := rfl
@[simp] theorem State.axNext_spr (s : State) (n : Fin 4) (t : AxState) : (s.axNext n t).spr = s.spr := rfl
@[simp] theorem State.axNext_run (s : State) (n : Fin 4) (t : AxState) : (s.axNext n t).run = s.run := rfl
@[simp] theorem State.axNext_evm (s : State) (n : Fin 4) (t : AxState) : (s.axNext n t).evm = s.evm := rfl
@[simp] theorem State.axNext_locks (s : State) (n : Fin 4) (t : AxState) : (s.axNext n t).locks = s.locks := rfl
@[simp] theorem State.axNext_mail (s : State) (n : Fin 4) (t : AxState) : (s.axNext n t).mail = s.mail := rfl
@[simp] theorem State.axNext_std (s : State) (n : Fin 4) (t : AxState) : (s.axNext n t).std = s.std := rfl
@[simp] theorem State.axNext_conv (s : State) (n : Fin 4) (t : AxState) : (s.axNext n t).conv = s.conv := rfl
@[simp] theorem State.axNext_fi (s : State) (n : Fin 4) (t : AxState) : (s.axNext n t).fi = s.fi := rfl
@[simp] theorem State.axNext_hall (s : State) (n : Fin 4) (t : AxState) : (s.axNext n t).hall = s.hall := rfl
@[simp] theorem State.axNext_hallFlag (s : State) (n : Fin 4) (t : AxState) : (s.axNext n t).hallFlag = s.hallFlag := rfl
@[simp] theorem State.axNext_th (s : State) (n : Fin 4) (t : AxState) : (s.axNext n t).th = s.th := rfl
@[simp] theorem State.axNext_mon (s : State) (n : Fin 4) (t : AxState) : (s.axNext n t).mon = s.mon := rfl
@[simp] theorem State.axNext_lc (s : State) (n : Fin 4) (t : AxState) : (s.axNext n t).lc = s.lc := rfl
@[simp] theorem State.axNext_pwr (s : State) (n : Fin 4) (t : AxState) : (s.axNext n t).pwr = s.pwr := rfl
@[simp] theorem State.axNext_sync (s : State) (n : Fin 4) (t : AxState) : (s.axNext n t).sync = s.sync := rfl
@[simp] theorem State.axNext_latch (s : State) (n : Fin 4) (t : AxState) : (s.axNext n t).latch = s.latch := rfl
@[simp] theorem State.axNext_rdata (s : State) (n : Fin 4) (t : AxState) : (s.axNext n t).rdata = s.rdata := rfl

/-! ### pushReply -/

@[simp] theorem State.pushReply_pending (s : State) (r : Reply) : (s.pushReply r).pending = s.pending := rfl
@[simp] theorem State.pushReply_dev (s : State) (r : Reply) : (s.pushReply r).dev = s.dev := rfl
@[simp] theorem State.pushReply_safecause (s : State) (r : Reply) : (s.pushReply r).safecause = s.safecause := rfl
@[simp] theorem State.pushReply_tick (s : State) (r : Reply) : (s.pushReply r).tick = s.tick := rfl
@[simp] theorem State.pushReply_exch (s : State) (r : Reply) : (s.pushReply r).exch = s.exch := rfl
@[simp] theorem State.pushReply_pour (s : State) (r : Reply) : (s.pushReply r).pour = s.pour := rfl
@[simp] theorem State.pushReply_moulds (s : State) (r : Reply) : (s.pushReply r).moulds = s.moulds := rfl
@[simp] theorem State.pushReply_jrn (s : State) (r : Reply) : (s.pushReply r).jrn = s.jrn := rfl
@[simp] theorem State.pushReply_spr (s : State) (r : Reply) : (s.pushReply r).spr = s.spr := rfl
@[simp] theorem State.pushReply_run (s : State) (r : Reply) : (s.pushReply r).run = s.run := rfl
@[simp] theorem State.pushReply_evm (s : State) (r : Reply) : (s.pushReply r).evm = s.evm := rfl
@[simp] theorem State.pushReply_locks (s : State) (r : Reply) : (s.pushReply r).locks = s.locks := rfl
@[simp] theorem State.pushReply_mail (s : State) (r : Reply) : (s.pushReply r).mail = s.mail := rfl
@[simp] theorem State.pushReply_ax (s : State) (r : Reply) : (s.pushReply r).ax = s.ax := rfl
@[simp] theorem State.pushReply_std (s : State) (r : Reply) : (s.pushReply r).std = s.std := rfl
@[simp] theorem State.pushReply_conv (s : State) (r : Reply) : (s.pushReply r).conv = s.conv := rfl
@[simp] theorem State.pushReply_fi (s : State) (r : Reply) : (s.pushReply r).fi = s.fi := rfl
@[simp] theorem State.pushReply_hall (s : State) (r : Reply) : (s.pushReply r).hall = s.hall := rfl
@[simp] theorem State.pushReply_hallFlag (s : State) (r : Reply) : (s.pushReply r).hallFlag = s.hallFlag := rfl
@[simp] theorem State.pushReply_th (s : State) (r : Reply) : (s.pushReply r).th = s.th := rfl
@[simp] theorem State.pushReply_mon (s : State) (r : Reply) : (s.pushReply r).mon = s.mon := rfl
@[simp] theorem State.pushReply_lc (s : State) (r : Reply) : (s.pushReply r).lc = s.lc := rfl
@[simp] theorem State.pushReply_pwr (s : State) (r : Reply) : (s.pushReply r).pwr = s.pwr := rfl
@[simp] theorem State.pushReply_sync (s : State) (r : Reply) : (s.pushReply r).sync = s.sync := rfl
@[simp] theorem State.pushReply_latch (s : State) (r : Reply) : (s.pushReply r).latch = s.latch := rfl
@[simp] theorem State.pushReply_rdata (s : State) (r : Reply) : (s.pushReply r).rdata = s.rdata := rfl

/-! ### pushReserved -/

@[simp] theorem State.pushReserved_pending (s : State) (r : Reply) : (s.pushReserved r).pending = s.pending := rfl
@[simp] theorem State.pushReserved_dev (s : State) (r : Reply) : (s.pushReserved r).dev = s.dev := rfl
@[simp] theorem State.pushReserved_safecause (s : State) (r : Reply) : (s.pushReserved r).safecause = s.safecause := rfl
@[simp] theorem State.pushReserved_tick (s : State) (r : Reply) : (s.pushReserved r).tick = s.tick := rfl
@[simp] theorem State.pushReserved_exch (s : State) (r : Reply) : (s.pushReserved r).exch = s.exch := rfl
@[simp] theorem State.pushReserved_pour (s : State) (r : Reply) : (s.pushReserved r).pour = s.pour := rfl
@[simp] theorem State.pushReserved_moulds (s : State) (r : Reply) : (s.pushReserved r).moulds = s.moulds := rfl
@[simp] theorem State.pushReserved_jrn (s : State) (r : Reply) : (s.pushReserved r).jrn = s.jrn := rfl
@[simp] theorem State.pushReserved_spr (s : State) (r : Reply) : (s.pushReserved r).spr = s.spr := rfl
@[simp] theorem State.pushReserved_run (s : State) (r : Reply) : (s.pushReserved r).run = s.run := rfl
@[simp] theorem State.pushReserved_evm (s : State) (r : Reply) : (s.pushReserved r).evm = s.evm := rfl
@[simp] theorem State.pushReserved_locks (s : State) (r : Reply) : (s.pushReserved r).locks = s.locks := rfl
@[simp] theorem State.pushReserved_mail (s : State) (r : Reply) : (s.pushReserved r).mail = s.mail := rfl
@[simp] theorem State.pushReserved_ax (s : State) (r : Reply) : (s.pushReserved r).ax = s.ax := rfl
@[simp] theorem State.pushReserved_std (s : State) (r : Reply) : (s.pushReserved r).std = s.std := rfl
@[simp] theorem State.pushReserved_conv (s : State) (r : Reply) : (s.pushReserved r).conv = s.conv := rfl
@[simp] theorem State.pushReserved_fi (s : State) (r : Reply) : (s.pushReserved r).fi = s.fi := rfl
@[simp] theorem State.pushReserved_hall (s : State) (r : Reply) : (s.pushReserved r).hall = s.hall := rfl
@[simp] theorem State.pushReserved_hallFlag (s : State) (r : Reply) : (s.pushReserved r).hallFlag = s.hallFlag := rfl
@[simp] theorem State.pushReserved_th (s : State) (r : Reply) : (s.pushReserved r).th = s.th := rfl
@[simp] theorem State.pushReserved_mon (s : State) (r : Reply) : (s.pushReserved r).mon = s.mon := rfl
@[simp] theorem State.pushReserved_lc (s : State) (r : Reply) : (s.pushReserved r).lc = s.lc := rfl
@[simp] theorem State.pushReserved_pwr (s : State) (r : Reply) : (s.pushReserved r).pwr = s.pwr := rfl
@[simp] theorem State.pushReserved_sync (s : State) (r : Reply) : (s.pushReserved r).sync = s.sync := rfl
@[simp] theorem State.pushReserved_latch (s : State) (r : Reply) : (s.pushReserved r).latch = s.latch := rfl
@[simp] theorem State.pushReserved_rdata (s : State) (r : Reply) : (s.pushReserved r).rdata = s.rdata := rfl

/-! ### logFault -/

@[simp] theorem State.logFault_pending (s : State) (c : Nat) : (s.logFault c).pending = s.pending := rfl
@[simp] theorem State.logFault_dev (s : State) (c : Nat) : (s.logFault c).dev = s.dev := rfl
@[simp] theorem State.logFault_safecause (s : State) (c : Nat) : (s.logFault c).safecause = s.safecause := rfl
@[simp] theorem State.logFault_tick (s : State) (c : Nat) : (s.logFault c).tick = s.tick := rfl
@[simp] theorem State.logFault_exch (s : State) (c : Nat) : (s.logFault c).exch = s.exch := rfl
@[simp] theorem State.logFault_pour (s : State) (c : Nat) : (s.logFault c).pour = s.pour := rfl
@[simp] theorem State.logFault_moulds (s : State) (c : Nat) : (s.logFault c).moulds = s.moulds := rfl
@[simp] theorem State.logFault_jrn (s : State) (c : Nat) : (s.logFault c).jrn = s.jrn := rfl
@[simp] theorem State.logFault_spr (s : State) (c : Nat) : (s.logFault c).spr = s.spr := rfl
@[simp] theorem State.logFault_run (s : State) (c : Nat) : (s.logFault c).run = s.run := rfl
@[simp] theorem State.logFault_evm (s : State) (c : Nat) : (s.logFault c).evm = s.evm := rfl
@[simp] theorem State.logFault_locks (s : State) (c : Nat) : (s.logFault c).locks = s.locks := rfl
@[simp] theorem State.logFault_mail (s : State) (c : Nat) : (s.logFault c).mail = s.mail := rfl
@[simp] theorem State.logFault_ax (s : State) (c : Nat) : (s.logFault c).ax = s.ax := rfl
@[simp] theorem State.logFault_std (s : State) (c : Nat) : (s.logFault c).std = s.std := rfl
@[simp] theorem State.logFault_conv (s : State) (c : Nat) : (s.logFault c).conv = s.conv := rfl
@[simp] theorem State.logFault_fi (s : State) (c : Nat) : (s.logFault c).fi = s.fi := rfl
@[simp] theorem State.logFault_hall (s : State) (c : Nat) : (s.logFault c).hall = s.hall := rfl
@[simp] theorem State.logFault_hallFlag (s : State) (c : Nat) : (s.logFault c).hallFlag = s.hallFlag := rfl
@[simp] theorem State.logFault_th (s : State) (c : Nat) : (s.logFault c).th = s.th := rfl
@[simp] theorem State.logFault_mon (s : State) (c : Nat) : (s.logFault c).mon = s.mon := rfl
@[simp] theorem State.logFault_lc (s : State) (c : Nat) : (s.logFault c).lc = s.lc := rfl
@[simp] theorem State.logFault_pwr (s : State) (c : Nat) : (s.logFault c).pwr = s.pwr := rfl
@[simp] theorem State.logFault_sync (s : State) (c : Nat) : (s.logFault c).sync = s.sync := rfl
@[simp] theorem State.logFault_latch (s : State) (c : Nat) : (s.logFault c).latch = s.latch := rfl
@[simp] theorem State.logFault_rdata (s : State) (c : Nat) : (s.logFault c).rdata = s.rdata := rfl

/-! ### setDev -/

@[simp] theorem State.setDev_pending (s : State) (d : DevState) : (s.setDev d).pending = s.pending := rfl
@[simp] theorem State.setDev_dev (s : State) (d : DevState) : (s.setDev d).dev = d := rfl
@[simp] theorem State.setDev_mgmt (s : State) (d : DevState) : (s.setDev d).mgmt = s.mgmt := rfl
@[simp] theorem State.setDev_safecause (s : State) (d : DevState) : (s.setDev d).safecause = s.safecause := rfl
@[simp] theorem State.setDev_tick (s : State) (d : DevState) : (s.setDev d).tick = s.tick := rfl
@[simp] theorem State.setDev_exch (s : State) (d : DevState) : (s.setDev d).exch = s.exch := rfl
@[simp] theorem State.setDev_pour (s : State) (d : DevState) : (s.setDev d).pour = s.pour := rfl
@[simp] theorem State.setDev_moulds (s : State) (d : DevState) : (s.setDev d).moulds = s.moulds := rfl
@[simp] theorem State.setDev_jrn (s : State) (d : DevState) : (s.setDev d).jrn = s.jrn := rfl
@[simp] theorem State.setDev_spr (s : State) (d : DevState) : (s.setDev d).spr = s.spr := rfl
@[simp] theorem State.setDev_run (s : State) (d : DevState) : (s.setDev d).run = s.run := rfl
@[simp] theorem State.setDev_evm (s : State) (d : DevState) : (s.setDev d).evm = s.evm := rfl
@[simp] theorem State.setDev_locks (s : State) (d : DevState) : (s.setDev d).locks = s.locks := rfl
@[simp] theorem State.setDev_mail (s : State) (d : DevState) : (s.setDev d).mail = s.mail := rfl
@[simp] theorem State.setDev_ax (s : State) (d : DevState) : (s.setDev d).ax = s.ax := rfl
@[simp] theorem State.setDev_std (s : State) (d : DevState) : (s.setDev d).std = s.std := rfl
@[simp] theorem State.setDev_conv (s : State) (d : DevState) : (s.setDev d).conv = s.conv := rfl
@[simp] theorem State.setDev_fi (s : State) (d : DevState) : (s.setDev d).fi = s.fi := rfl
@[simp] theorem State.setDev_hall (s : State) (d : DevState) : (s.setDev d).hall = s.hall := rfl
@[simp] theorem State.setDev_hallFlag (s : State) (d : DevState) : (s.setDev d).hallFlag = s.hallFlag := rfl
@[simp] theorem State.setDev_th (s : State) (d : DevState) : (s.setDev d).th = s.th := rfl
@[simp] theorem State.setDev_lc (s : State) (d : DevState) : (s.setDev d).lc = s.lc := rfl
@[simp] theorem State.setDev_pwr (s : State) (d : DevState) : (s.setDev d).pwr = s.pwr := rfl
@[simp] theorem State.setDev_sync (s : State) (d : DevState) : (s.setDev d).sync = s.sync := rfl
@[simp] theorem State.setDev_latch (s : State) (d : DevState) : (s.setDev d).latch = s.latch := rfl
@[simp] theorem State.setDev_rdata (s : State) (d : DevState) : (s.setDev d).rdata = s.rdata := rfl

/-! ### later -/

@[simp] theorem State.later_pending (s : State) (l u : Nat) (a : WbAct) : (s.later l u a).pending = s.pending := rfl
@[simp] theorem State.later_dev (s : State) (l u : Nat) (a : WbAct) : (s.later l u a).dev = s.dev := rfl
@[simp] theorem State.later_safecause (s : State) (l u : Nat) (a : WbAct) : (s.later l u a).safecause = s.safecause := rfl
@[simp] theorem State.later_tick (s : State) (l u : Nat) (a : WbAct) : (s.later l u a).tick = s.tick := rfl
@[simp] theorem State.later_exch (s : State) (l u : Nat) (a : WbAct) : (s.later l u a).exch = s.exch := rfl
@[simp] theorem State.later_moulds (s : State) (l u : Nat) (a : WbAct) : (s.later l u a).moulds = s.moulds := rfl
@[simp] theorem State.later_mgmt (s : State) (l u : Nat) (a : WbAct) : (s.later l u a).mgmt = s.mgmt := rfl
@[simp] theorem State.later_jrn (s : State) (l u : Nat) (a : WbAct) : (s.later l u a).jrn = s.jrn := rfl
@[simp] theorem State.later_spr (s : State) (l u : Nat) (a : WbAct) : (s.later l u a).spr = s.spr := rfl
@[simp] theorem State.later_run (s : State) (l u : Nat) (a : WbAct) : (s.later l u a).run = s.run := rfl
@[simp] theorem State.later_evm (s : State) (l u : Nat) (a : WbAct) : (s.later l u a).evm = s.evm := rfl
@[simp] theorem State.later_locks (s : State) (l u : Nat) (a : WbAct) : (s.later l u a).locks = s.locks := rfl
@[simp] theorem State.later_mail (s : State) (l u : Nat) (a : WbAct) : (s.later l u a).mail = s.mail := rfl
@[simp] theorem State.later_ax (s : State) (l u : Nat) (a : WbAct) : (s.later l u a).ax = s.ax := rfl
@[simp] theorem State.later_std (s : State) (l u : Nat) (a : WbAct) : (s.later l u a).std = s.std := rfl
@[simp] theorem State.later_conv (s : State) (l u : Nat) (a : WbAct) : (s.later l u a).conv = s.conv := rfl
@[simp] theorem State.later_fi (s : State) (l u : Nat) (a : WbAct) : (s.later l u a).fi = s.fi := rfl
@[simp] theorem State.later_hall (s : State) (l u : Nat) (a : WbAct) : (s.later l u a).hall = s.hall := rfl
@[simp] theorem State.later_hallFlag (s : State) (l u : Nat) (a : WbAct) : (s.later l u a).hallFlag = s.hallFlag := rfl
@[simp] theorem State.later_th (s : State) (l u : Nat) (a : WbAct) : (s.later l u a).th = s.th := rfl
@[simp] theorem State.later_mon (s : State) (l u : Nat) (a : WbAct) : (s.later l u a).mon = s.mon := rfl
@[simp] theorem State.later_lc (s : State) (l u : Nat) (a : WbAct) : (s.later l u a).lc = s.lc := rfl
@[simp] theorem State.later_pwr (s : State) (l u : Nat) (a : WbAct) : (s.later l u a).pwr = s.pwr := rfl
@[simp] theorem State.later_sync (s : State) (l u : Nat) (a : WbAct) : (s.later l u a).sync = s.sync := rfl
@[simp] theorem State.later_latch (s : State) (l u : Nat) (a : WbAct) : (s.later l u a).latch = s.latch := rfl
@[simp] theorem State.later_rdata (s : State) (l u : Nat) (a : WbAct) : (s.later l u a).rdata = s.rdata := rfl

/-! ### setAcc -/

@[simp] theorem State.setAcc_pending (s : State) (u : Bool) (k : BitVec 2) (x : BitVec 64) : (s.setAcc u k x).pending = s.pending := rfl
@[simp] theorem State.setAcc_dev (s : State) (u : Bool) (k : BitVec 2) (x : BitVec 64) : (s.setAcc u k x).dev = s.dev := rfl
@[simp] theorem State.setAcc_safecause (s : State) (u : Bool) (k : BitVec 2) (x : BitVec 64) : (s.setAcc u k x).safecause = s.safecause := rfl
@[simp] theorem State.setAcc_tick (s : State) (u : Bool) (k : BitVec 2) (x : BitVec 64) : (s.setAcc u k x).tick = s.tick := rfl
@[simp] theorem State.setAcc_exch (s : State) (u : Bool) (k : BitVec 2) (x : BitVec 64) : (s.setAcc u k x).exch = s.exch := rfl
@[simp] theorem State.setAcc_moulds (s : State) (u : Bool) (k : BitVec 2) (x : BitVec 64) : (s.setAcc u k x).moulds = s.moulds := rfl
@[simp] theorem State.setAcc_mgmt (s : State) (u : Bool) (k : BitVec 2) (x : BitVec 64) : (s.setAcc u k x).mgmt = s.mgmt := rfl
@[simp] theorem State.setAcc_jrn (s : State) (u : Bool) (k : BitVec 2) (x : BitVec 64) : (s.setAcc u k x).jrn = s.jrn := rfl
@[simp] theorem State.setAcc_spr (s : State) (u : Bool) (k : BitVec 2) (x : BitVec 64) : (s.setAcc u k x).spr = s.spr := rfl
@[simp] theorem State.setAcc_run (s : State) (u : Bool) (k : BitVec 2) (x : BitVec 64) : (s.setAcc u k x).run = s.run := rfl
@[simp] theorem State.setAcc_evm (s : State) (u : Bool) (k : BitVec 2) (x : BitVec 64) : (s.setAcc u k x).evm = s.evm := rfl
@[simp] theorem State.setAcc_locks (s : State) (u : Bool) (k : BitVec 2) (x : BitVec 64) : (s.setAcc u k x).locks = s.locks := rfl
@[simp] theorem State.setAcc_mail (s : State) (u : Bool) (k : BitVec 2) (x : BitVec 64) : (s.setAcc u k x).mail = s.mail := rfl
@[simp] theorem State.setAcc_ax (s : State) (u : Bool) (k : BitVec 2) (x : BitVec 64) : (s.setAcc u k x).ax = s.ax := rfl
@[simp] theorem State.setAcc_std (s : State) (u : Bool) (k : BitVec 2) (x : BitVec 64) : (s.setAcc u k x).std = s.std := rfl
@[simp] theorem State.setAcc_conv (s : State) (u : Bool) (k : BitVec 2) (x : BitVec 64) : (s.setAcc u k x).conv = s.conv := rfl
@[simp] theorem State.setAcc_fi (s : State) (u : Bool) (k : BitVec 2) (x : BitVec 64) : (s.setAcc u k x).fi = s.fi := rfl
@[simp] theorem State.setAcc_hall (s : State) (u : Bool) (k : BitVec 2) (x : BitVec 64) : (s.setAcc u k x).hall = s.hall := rfl
@[simp] theorem State.setAcc_hallFlag (s : State) (u : Bool) (k : BitVec 2) (x : BitVec 64) : (s.setAcc u k x).hallFlag = s.hallFlag := rfl
@[simp] theorem State.setAcc_th (s : State) (u : Bool) (k : BitVec 2) (x : BitVec 64) : (s.setAcc u k x).th = s.th := rfl
@[simp] theorem State.setAcc_mon (s : State) (u : Bool) (k : BitVec 2) (x : BitVec 64) : (s.setAcc u k x).mon = s.mon := rfl
@[simp] theorem State.setAcc_lc (s : State) (u : Bool) (k : BitVec 2) (x : BitVec 64) : (s.setAcc u k x).lc = s.lc := rfl
@[simp] theorem State.setAcc_pwr (s : State) (u : Bool) (k : BitVec 2) (x : BitVec 64) : (s.setAcc u k x).pwr = s.pwr := rfl
@[simp] theorem State.setAcc_sync (s : State) (u : Bool) (k : BitVec 2) (x : BitVec 64) : (s.setAcc u k x).sync = s.sync := rfl
@[simp] theorem State.setAcc_latch (s : State) (u : Bool) (k : BitVec 2) (x : BitVec 64) : (s.setAcc u k x).latch = s.latch := rfl
@[simp] theorem State.setAcc_rdata (s : State) (u : Bool) (k : BitVec 2) (x : BitVec 64) : (s.setAcc u k x).rdata = s.rdata := rfl

/-! ### endCycle -/

@[simp] theorem State.endCycle_pending (s : State) : (s.endCycle).pending = s.pending := rfl
@[simp] theorem State.endCycle_dev (s : State) : (s.endCycle).dev = s.dev := rfl
@[simp] theorem State.endCycle_safecause (s : State) : (s.endCycle).safecause = s.safecause := rfl
@[simp] theorem State.endCycle_exch (s : State) : (s.endCycle).exch = s.exch := rfl
@[simp] theorem State.endCycle_moulds (s : State) : (s.endCycle).moulds = s.moulds := rfl
@[simp] theorem State.endCycle_mgmt (s : State) : (s.endCycle).mgmt = s.mgmt := rfl
@[simp] theorem State.endCycle_jrn (s : State) : (s.endCycle).jrn = s.jrn := rfl
@[simp] theorem State.endCycle_spr (s : State) : (s.endCycle).spr = s.spr := rfl
@[simp] theorem State.endCycle_run (s : State) : (s.endCycle).run = s.run := rfl
@[simp] theorem State.endCycle_evm (s : State) : (s.endCycle).evm = s.evm := rfl
@[simp] theorem State.endCycle_locks (s : State) : (s.endCycle).locks = s.locks := rfl
@[simp] theorem State.endCycle_mail (s : State) : (s.endCycle).mail = s.mail := rfl
@[simp] theorem State.endCycle_ax (s : State) : (s.endCycle).ax = s.ax := rfl
@[simp] theorem State.endCycle_std (s : State) : (s.endCycle).std = s.std := rfl
@[simp] theorem State.endCycle_conv (s : State) : (s.endCycle).conv = s.conv := rfl
@[simp] theorem State.endCycle_fi (s : State) : (s.endCycle).fi = s.fi := rfl
@[simp] theorem State.endCycle_hall (s : State) : (s.endCycle).hall = s.hall := rfl
@[simp] theorem State.endCycle_hallFlag (s : State) : (s.endCycle).hallFlag = s.hallFlag := rfl
@[simp] theorem State.endCycle_th (s : State) : (s.endCycle).th = s.th := rfl
@[simp] theorem State.endCycle_mon (s : State) : (s.endCycle).mon = s.mon := rfl
@[simp] theorem State.endCycle_lc (s : State) : (s.endCycle).lc = s.lc := rfl
@[simp] theorem State.endCycle_pwr (s : State) : (s.endCycle).pwr = s.pwr := rfl
@[simp] theorem State.endCycle_sync (s : State) : (s.endCycle).sync = s.sync := rfl
@[simp] theorem State.endCycle_latch (s : State) : (s.endCycle).latch = s.latch := rfl
@[simp] theorem State.endCycle_rdata (s : State) : (s.endCycle).rdata = s.rdata := rfl

/-! ### reserve -/

@[simp] theorem State.reserve_pending (s : State) : (s.reserve).pending = s.pending := rfl
@[simp] theorem State.reserve_dev (s : State) : (s.reserve).dev = s.dev := rfl
@[simp] theorem State.reserve_safecause (s : State) : (s.reserve).safecause = s.safecause := rfl
@[simp] theorem State.reserve_tick (s : State) : (s.reserve).tick = s.tick := rfl
@[simp] theorem State.reserve_exch (s : State) : (s.reserve).exch = s.exch := rfl
@[simp] theorem State.reserve_pour (s : State) : (s.reserve).pour = s.pour := rfl
@[simp] theorem State.reserve_moulds (s : State) : (s.reserve).moulds = s.moulds := rfl
@[simp] theorem State.reserve_jrn (s : State) : (s.reserve).jrn = s.jrn := rfl
@[simp] theorem State.reserve_spr (s : State) : (s.reserve).spr = s.spr := rfl
@[simp] theorem State.reserve_run (s : State) : (s.reserve).run = s.run := rfl
@[simp] theorem State.reserve_evm (s : State) : (s.reserve).evm = s.evm := rfl
@[simp] theorem State.reserve_locks (s : State) : (s.reserve).locks = s.locks := rfl
@[simp] theorem State.reserve_mail (s : State) : (s.reserve).mail = s.mail := rfl
@[simp] theorem State.reserve_ax (s : State) : (s.reserve).ax = s.ax := rfl
@[simp] theorem State.reserve_std (s : State) : (s.reserve).std = s.std := rfl
@[simp] theorem State.reserve_conv (s : State) : (s.reserve).conv = s.conv := rfl
@[simp] theorem State.reserve_fi (s : State) : (s.reserve).fi = s.fi := rfl
@[simp] theorem State.reserve_hall (s : State) : (s.reserve).hall = s.hall := rfl
@[simp] theorem State.reserve_hallFlag (s : State) : (s.reserve).hallFlag = s.hallFlag := rfl
@[simp] theorem State.reserve_th (s : State) : (s.reserve).th = s.th := rfl
@[simp] theorem State.reserve_mon (s : State) : (s.reserve).mon = s.mon := rfl
@[simp] theorem State.reserve_lc (s : State) : (s.reserve).lc = s.lc := rfl
@[simp] theorem State.reserve_pwr (s : State) : (s.reserve).pwr = s.pwr := rfl
@[simp] theorem State.reserve_sync (s : State) : (s.reserve).sync = s.sync := rfl
@[simp] theorem State.reserve_latch (s : State) : (s.reserve).latch = s.latch := rfl
@[simp] theorem State.reserve_rdata (s : State) : (s.reserve).rdata = s.rdata := rfl

/-! ### startBg -/

@[simp] theorem State.startBg_pending (s : State) (p : List Byte) (o : BgOp) : (s.startBg p o).pending = s.pending := rfl
@[simp] theorem State.startBg_dev (s : State) (p : List Byte) (o : BgOp) : (s.startBg p o).dev = s.dev := rfl
@[simp] theorem State.startBg_safecause (s : State) (p : List Byte) (o : BgOp) : (s.startBg p o).safecause = s.safecause := rfl
@[simp] theorem State.startBg_tick (s : State) (p : List Byte) (o : BgOp) : (s.startBg p o).tick = s.tick := rfl
@[simp] theorem State.startBg_exch (s : State) (p : List Byte) (o : BgOp) : (s.startBg p o).exch = s.exch := rfl
@[simp] theorem State.startBg_pour (s : State) (p : List Byte) (o : BgOp) : (s.startBg p o).pour = s.pour := rfl
@[simp] theorem State.startBg_moulds (s : State) (p : List Byte) (o : BgOp) : (s.startBg p o).moulds = s.moulds := rfl
@[simp] theorem State.startBg_jrn (s : State) (p : List Byte) (o : BgOp) : (s.startBg p o).jrn = s.jrn := rfl
@[simp] theorem State.startBg_spr (s : State) (p : List Byte) (o : BgOp) : (s.startBg p o).spr = s.spr := rfl
@[simp] theorem State.startBg_run (s : State) (p : List Byte) (o : BgOp) : (s.startBg p o).run = s.run := rfl
@[simp] theorem State.startBg_evm (s : State) (p : List Byte) (o : BgOp) : (s.startBg p o).evm = s.evm := rfl
@[simp] theorem State.startBg_locks (s : State) (p : List Byte) (o : BgOp) : (s.startBg p o).locks = s.locks := rfl
@[simp] theorem State.startBg_mail (s : State) (p : List Byte) (o : BgOp) : (s.startBg p o).mail = s.mail := rfl
@[simp] theorem State.startBg_ax (s : State) (p : List Byte) (o : BgOp) : (s.startBg p o).ax = s.ax := rfl
@[simp] theorem State.startBg_std (s : State) (p : List Byte) (o : BgOp) : (s.startBg p o).std = s.std := rfl
@[simp] theorem State.startBg_conv (s : State) (p : List Byte) (o : BgOp) : (s.startBg p o).conv = s.conv := rfl
@[simp] theorem State.startBg_fi (s : State) (p : List Byte) (o : BgOp) : (s.startBg p o).fi = s.fi := rfl
@[simp] theorem State.startBg_hall (s : State) (p : List Byte) (o : BgOp) : (s.startBg p o).hall = s.hall := rfl
@[simp] theorem State.startBg_hallFlag (s : State) (p : List Byte) (o : BgOp) : (s.startBg p o).hallFlag = s.hallFlag := rfl
@[simp] theorem State.startBg_th (s : State) (p : List Byte) (o : BgOp) : (s.startBg p o).th = s.th := rfl
@[simp] theorem State.startBg_mon (s : State) (p : List Byte) (o : BgOp) : (s.startBg p o).mon = s.mon := rfl
@[simp] theorem State.startBg_lc (s : State) (p : List Byte) (o : BgOp) : (s.startBg p o).lc = s.lc := rfl
@[simp] theorem State.startBg_pwr (s : State) (p : List Byte) (o : BgOp) : (s.startBg p o).pwr = s.pwr := rfl
@[simp] theorem State.startBg_sync (s : State) (p : List Byte) (o : BgOp) : (s.startBg p o).sync = s.sync := rfl
@[simp] theorem State.startBg_latch (s : State) (p : List Byte) (o : BgOp) : (s.startBg p o).latch = s.latch := rfl
@[simp] theorem State.startBg_rdata (s : State) (p : List Byte) (o : BgOp) : (s.startBg p o).rdata = s.rdata := rfl

/-! ### updJax -/

@[simp] theorem State.updJax_pending (s : State) (n : Fin 4) (f : JobAx → JobAx) : (s.updJax n f).pending = s.pending := rfl
@[simp] theorem State.updJax_dev (s : State) (n : Fin 4) (f : JobAx → JobAx) : (s.updJax n f).dev = s.dev := rfl
@[simp] theorem State.updJax_safecause (s : State) (n : Fin 4) (f : JobAx → JobAx) : (s.updJax n f).safecause = s.safecause := rfl
@[simp] theorem State.updJax_tick (s : State) (n : Fin 4) (f : JobAx → JobAx) : (s.updJax n f).tick = s.tick := rfl
@[simp] theorem State.updJax_exch (s : State) (n : Fin 4) (f : JobAx → JobAx) : (s.updJax n f).exch = s.exch := rfl
@[simp] theorem State.updJax_pour (s : State) (n : Fin 4) (f : JobAx → JobAx) : (s.updJax n f).pour = s.pour := rfl
@[simp] theorem State.updJax_moulds (s : State) (n : Fin 4) (f : JobAx → JobAx) : (s.updJax n f).moulds = s.moulds := rfl
@[simp] theorem State.updJax_jrn (s : State) (n : Fin 4) (f : JobAx → JobAx) : (s.updJax n f).jrn = s.jrn := rfl
@[simp] theorem State.updJax_spr (s : State) (n : Fin 4) (f : JobAx → JobAx) : (s.updJax n f).spr = s.spr := rfl
@[simp] theorem State.updJax_run (s : State) (n : Fin 4) (f : JobAx → JobAx) : (s.updJax n f).run = s.run := rfl
@[simp] theorem State.updJax_evm (s : State) (n : Fin 4) (f : JobAx → JobAx) : (s.updJax n f).evm = s.evm := rfl
@[simp] theorem State.updJax_locks (s : State) (n : Fin 4) (f : JobAx → JobAx) : (s.updJax n f).locks = s.locks := rfl
@[simp] theorem State.updJax_mail (s : State) (n : Fin 4) (f : JobAx → JobAx) : (s.updJax n f).mail = s.mail := rfl
@[simp] theorem State.updJax_ax (s : State) (n : Fin 4) (f : JobAx → JobAx) : (s.updJax n f).ax = s.ax := rfl
@[simp] theorem State.updJax_std (s : State) (n : Fin 4) (f : JobAx → JobAx) : (s.updJax n f).std = s.std := rfl
@[simp] theorem State.updJax_conv (s : State) (n : Fin 4) (f : JobAx → JobAx) : (s.updJax n f).conv = s.conv := rfl
@[simp] theorem State.updJax_fi (s : State) (n : Fin 4) (f : JobAx → JobAx) : (s.updJax n f).fi = s.fi := rfl
@[simp] theorem State.updJax_hall (s : State) (n : Fin 4) (f : JobAx → JobAx) : (s.updJax n f).hall = s.hall := rfl
@[simp] theorem State.updJax_hallFlag (s : State) (n : Fin 4) (f : JobAx → JobAx) : (s.updJax n f).hallFlag = s.hallFlag := rfl
@[simp] theorem State.updJax_th (s : State) (n : Fin 4) (f : JobAx → JobAx) : (s.updJax n f).th = s.th := rfl
@[simp] theorem State.updJax_mon (s : State) (n : Fin 4) (f : JobAx → JobAx) : (s.updJax n f).mon = s.mon := rfl
@[simp] theorem State.updJax_lc (s : State) (n : Fin 4) (f : JobAx → JobAx) : (s.updJax n f).lc = s.lc := rfl
@[simp] theorem State.updJax_pwr (s : State) (n : Fin 4) (f : JobAx → JobAx) : (s.updJax n f).pwr = s.pwr := rfl
@[simp] theorem State.updJax_sync (s : State) (n : Fin 4) (f : JobAx → JobAx) : (s.updJax n f).sync = s.sync := rfl
@[simp] theorem State.updJax_latch (s : State) (n : Fin 4) (f : JobAx → JobAx) : (s.updJax n f).latch = s.latch := rfl
@[simp] theorem State.updJax_rdata (s : State) (n : Fin 4) (f : JobAx → JobAx) : (s.updJax n f).rdata = s.rdata := rfl

/-! ### bgEnd -/

@[simp] theorem State.bgEnd_pending (s : State) : (s.bgEnd).pending = s.pending := rfl
@[simp] theorem State.bgEnd_dev (s : State) : (s.bgEnd).dev = s.dev := rfl
@[simp] theorem State.bgEnd_safecause (s : State) : (s.bgEnd).safecause = s.safecause := rfl
@[simp] theorem State.bgEnd_tick (s : State) : (s.bgEnd).tick = s.tick := rfl
@[simp] theorem State.bgEnd_exch (s : State) : (s.bgEnd).exch = s.exch := rfl
@[simp] theorem State.bgEnd_pour (s : State) : (s.bgEnd).pour = s.pour := rfl
@[simp] theorem State.bgEnd_moulds (s : State) : (s.bgEnd).moulds = s.moulds := rfl
@[simp] theorem State.bgEnd_jrn (s : State) : (s.bgEnd).jrn = s.jrn := rfl
@[simp] theorem State.bgEnd_spr (s : State) : (s.bgEnd).spr = s.spr := rfl
@[simp] theorem State.bgEnd_run (s : State) : (s.bgEnd).run = s.run := rfl
@[simp] theorem State.bgEnd_evm (s : State) : (s.bgEnd).evm = s.evm := rfl
@[simp] theorem State.bgEnd_locks (s : State) : (s.bgEnd).locks = s.locks := rfl
@[simp] theorem State.bgEnd_mail (s : State) : (s.bgEnd).mail = s.mail := rfl
@[simp] theorem State.bgEnd_ax (s : State) : (s.bgEnd).ax = s.ax := rfl
@[simp] theorem State.bgEnd_std (s : State) : (s.bgEnd).std = s.std := rfl
@[simp] theorem State.bgEnd_conv (s : State) : (s.bgEnd).conv = s.conv := rfl
@[simp] theorem State.bgEnd_fi (s : State) : (s.bgEnd).fi = s.fi := rfl
@[simp] theorem State.bgEnd_hall (s : State) : (s.bgEnd).hall = s.hall := rfl
@[simp] theorem State.bgEnd_hallFlag (s : State) : (s.bgEnd).hallFlag = s.hallFlag := rfl
@[simp] theorem State.bgEnd_th (s : State) : (s.bgEnd).th = s.th := rfl
@[simp] theorem State.bgEnd_mon (s : State) : (s.bgEnd).mon = s.mon := rfl
@[simp] theorem State.bgEnd_lc (s : State) : (s.bgEnd).lc = s.lc := rfl
@[simp] theorem State.bgEnd_pwr (s : State) : (s.bgEnd).pwr = s.pwr := rfl
@[simp] theorem State.bgEnd_sync (s : State) : (s.bgEnd).sync = s.sync := rfl
@[simp] theorem State.bgEnd_latch (s : State) : (s.bgEnd).latch = s.latch := rfl
@[simp] theorem State.bgEnd_rdata (s : State) : (s.bgEnd).rdata = s.rdata := rfl

/-! ### beginFunc -/

@[simp] theorem State.beginFunc_pending (s : State) (p : List Byte) (k n : Nat) : (s.beginFunc p k n).pending = s.pending := rfl
@[simp] theorem State.beginFunc_dev (s : State) (p : List Byte) (k n : Nat) : (s.beginFunc p k n).dev = s.dev := rfl
@[simp] theorem State.beginFunc_safecause (s : State) (p : List Byte) (k n : Nat) : (s.beginFunc p k n).safecause = s.safecause := rfl
@[simp] theorem State.beginFunc_tick (s : State) (p : List Byte) (k n : Nat) : (s.beginFunc p k n).tick = s.tick := rfl
@[simp] theorem State.beginFunc_exch (s : State) (p : List Byte) (k n : Nat) : (s.beginFunc p k n).exch = s.exch := rfl
@[simp] theorem State.beginFunc_pour (s : State) (p : List Byte) (k n : Nat) : (s.beginFunc p k n).pour = s.pour := rfl
@[simp] theorem State.beginFunc_moulds (s : State) (p : List Byte) (k n : Nat) : (s.beginFunc p k n).moulds = s.moulds := rfl
@[simp] theorem State.beginFunc_jrn (s : State) (p : List Byte) (k n : Nat) : (s.beginFunc p k n).jrn = s.jrn := rfl
@[simp] theorem State.beginFunc_spr (s : State) (p : List Byte) (k n : Nat) : (s.beginFunc p k n).spr = s.spr := rfl
@[simp] theorem State.beginFunc_run (s : State) (p : List Byte) (k n : Nat) : (s.beginFunc p k n).run = s.run := rfl
@[simp] theorem State.beginFunc_evm (s : State) (p : List Byte) (k n : Nat) : (s.beginFunc p k n).evm = s.evm := rfl
@[simp] theorem State.beginFunc_locks (s : State) (p : List Byte) (k n : Nat) : (s.beginFunc p k n).locks = s.locks := rfl
@[simp] theorem State.beginFunc_mail (s : State) (p : List Byte) (k n : Nat) : (s.beginFunc p k n).mail = s.mail := rfl
@[simp] theorem State.beginFunc_ax (s : State) (p : List Byte) (k n : Nat) : (s.beginFunc p k n).ax = s.ax := rfl
@[simp] theorem State.beginFunc_std (s : State) (p : List Byte) (k n : Nat) : (s.beginFunc p k n).std = s.std := rfl
@[simp] theorem State.beginFunc_conv (s : State) (p : List Byte) (k n : Nat) : (s.beginFunc p k n).conv = s.conv := rfl
@[simp] theorem State.beginFunc_fi (s : State) (p : List Byte) (k n : Nat) : (s.beginFunc p k n).fi = s.fi := rfl
@[simp] theorem State.beginFunc_hall (s : State) (p : List Byte) (k n : Nat) : (s.beginFunc p k n).hall = s.hall := rfl
@[simp] theorem State.beginFunc_hallFlag (s : State) (p : List Byte) (k n : Nat) : (s.beginFunc p k n).hallFlag = s.hallFlag := rfl
@[simp] theorem State.beginFunc_th (s : State) (p : List Byte) (k n : Nat) : (s.beginFunc p k n).th = s.th := rfl
@[simp] theorem State.beginFunc_mon (s : State) (p : List Byte) (k n : Nat) : (s.beginFunc p k n).mon = s.mon := rfl
@[simp] theorem State.beginFunc_lc (s : State) (p : List Byte) (k n : Nat) : (s.beginFunc p k n).lc = s.lc := rfl
@[simp] theorem State.beginFunc_pwr (s : State) (p : List Byte) (k n : Nat) : (s.beginFunc p k n).pwr = s.pwr := rfl
@[simp] theorem State.beginFunc_sync (s : State) (p : List Byte) (k n : Nat) : (s.beginFunc p k n).sync = s.sync := rfl
@[simp] theorem State.beginFunc_latch (s : State) (p : List Byte) (k n : Nat) : (s.beginFunc p k n).latch = s.latch := rfl
@[simp] theorem State.beginFunc_rdata (s : State) (p : List Byte) (k n : Nat) : (s.beginFunc p k n).rdata = s.rdata := rfl

/-! ### funcEnd -/

@[simp] theorem State.funcEnd_pending (s : State) (q : Word) : (s.funcEnd q).pending = s.pending := rfl
@[simp] theorem State.funcEnd_dev (s : State) (q : Word) : (s.funcEnd q).dev = s.dev := rfl
@[simp] theorem State.funcEnd_safecause (s : State) (q : Word) : (s.funcEnd q).safecause = s.safecause := rfl
@[simp] theorem State.funcEnd_tick (s : State) (q : Word) : (s.funcEnd q).tick = s.tick := rfl
@[simp] theorem State.funcEnd_exch (s : State) (q : Word) : (s.funcEnd q).exch = s.exch := rfl
@[simp] theorem State.funcEnd_pour (s : State) (q : Word) : (s.funcEnd q).pour = s.pour := rfl
@[simp] theorem State.funcEnd_moulds (s : State) (q : Word) : (s.funcEnd q).moulds = s.moulds := rfl
@[simp] theorem State.funcEnd_jrn (s : State) (q : Word) : (s.funcEnd q).jrn = s.jrn := rfl
@[simp] theorem State.funcEnd_spr (s : State) (q : Word) : (s.funcEnd q).spr = s.spr := rfl
@[simp] theorem State.funcEnd_run (s : State) (q : Word) : (s.funcEnd q).run = s.run := rfl
@[simp] theorem State.funcEnd_evm (s : State) (q : Word) : (s.funcEnd q).evm = s.evm := rfl
@[simp] theorem State.funcEnd_locks (s : State) (q : Word) : (s.funcEnd q).locks = s.locks := rfl
@[simp] theorem State.funcEnd_mail (s : State) (q : Word) : (s.funcEnd q).mail = s.mail := rfl
@[simp] theorem State.funcEnd_ax (s : State) (q : Word) : (s.funcEnd q).ax = s.ax := rfl
@[simp] theorem State.funcEnd_std (s : State) (q : Word) : (s.funcEnd q).std = s.std := rfl
@[simp] theorem State.funcEnd_conv (s : State) (q : Word) : (s.funcEnd q).conv = s.conv := rfl
@[simp] theorem State.funcEnd_fi (s : State) (q : Word) : (s.funcEnd q).fi = s.fi := rfl
@[simp] theorem State.funcEnd_hall (s : State) (q : Word) : (s.funcEnd q).hall = s.hall := rfl
@[simp] theorem State.funcEnd_hallFlag (s : State) (q : Word) : (s.funcEnd q).hallFlag = s.hallFlag := rfl
@[simp] theorem State.funcEnd_th (s : State) (q : Word) : (s.funcEnd q).th = s.th := rfl
@[simp] theorem State.funcEnd_mon (s : State) (q : Word) : (s.funcEnd q).mon = s.mon := rfl
@[simp] theorem State.funcEnd_lc (s : State) (q : Word) : (s.funcEnd q).lc = s.lc := rfl
@[simp] theorem State.funcEnd_pwr (s : State) (q : Word) : (s.funcEnd q).pwr = s.pwr := rfl
@[simp] theorem State.funcEnd_sync (s : State) (q : Word) : (s.funcEnd q).sync = s.sync := rfl
@[simp] theorem State.funcEnd_latch (s : State) (q : Word) : (s.funcEnd q).latch = s.latch := rfl
@[simp] theorem State.funcEnd_rdata (s : State) (q : Word) : (s.funcEnd q).rdata = s.rdata := rfl

/-! ### deferAction -/

@[simp] theorem State.deferAction_pending (s : State) (p : List Byte) (a : Deferred) : (s.deferAction p a).pending = s.pending := rfl
@[simp] theorem State.deferAction_dev (s : State) (p : List Byte) (a : Deferred) : (s.deferAction p a).dev = s.dev := rfl
@[simp] theorem State.deferAction_safecause (s : State) (p : List Byte) (a : Deferred) : (s.deferAction p a).safecause = s.safecause := rfl
@[simp] theorem State.deferAction_tick (s : State) (p : List Byte) (a : Deferred) : (s.deferAction p a).tick = s.tick := rfl
@[simp] theorem State.deferAction_exch (s : State) (p : List Byte) (a : Deferred) : (s.deferAction p a).exch = s.exch := rfl
@[simp] theorem State.deferAction_pour (s : State) (p : List Byte) (a : Deferred) : (s.deferAction p a).pour = s.pour := rfl
@[simp] theorem State.deferAction_moulds (s : State) (p : List Byte) (a : Deferred) : (s.deferAction p a).moulds = s.moulds := rfl
@[simp] theorem State.deferAction_jrn (s : State) (p : List Byte) (a : Deferred) : (s.deferAction p a).jrn = s.jrn := rfl
@[simp] theorem State.deferAction_spr (s : State) (p : List Byte) (a : Deferred) : (s.deferAction p a).spr = s.spr := rfl
@[simp] theorem State.deferAction_run (s : State) (p : List Byte) (a : Deferred) : (s.deferAction p a).run = s.run := rfl
@[simp] theorem State.deferAction_evm (s : State) (p : List Byte) (a : Deferred) : (s.deferAction p a).evm = s.evm := rfl
@[simp] theorem State.deferAction_locks (s : State) (p : List Byte) (a : Deferred) : (s.deferAction p a).locks = s.locks := rfl
@[simp] theorem State.deferAction_mail (s : State) (p : List Byte) (a : Deferred) : (s.deferAction p a).mail = s.mail := rfl
@[simp] theorem State.deferAction_ax (s : State) (p : List Byte) (a : Deferred) : (s.deferAction p a).ax = s.ax := rfl
@[simp] theorem State.deferAction_std (s : State) (p : List Byte) (a : Deferred) : (s.deferAction p a).std = s.std := rfl
@[simp] theorem State.deferAction_conv (s : State) (p : List Byte) (a : Deferred) : (s.deferAction p a).conv = s.conv := rfl
@[simp] theorem State.deferAction_fi (s : State) (p : List Byte) (a : Deferred) : (s.deferAction p a).fi = s.fi := rfl
@[simp] theorem State.deferAction_hall (s : State) (p : List Byte) (a : Deferred) : (s.deferAction p a).hall = s.hall := rfl
@[simp] theorem State.deferAction_hallFlag (s : State) (p : List Byte) (a : Deferred) : (s.deferAction p a).hallFlag = s.hallFlag := rfl
@[simp] theorem State.deferAction_th (s : State) (p : List Byte) (a : Deferred) : (s.deferAction p a).th = s.th := rfl
@[simp] theorem State.deferAction_mon (s : State) (p : List Byte) (a : Deferred) : (s.deferAction p a).mon = s.mon := rfl
@[simp] theorem State.deferAction_lc (s : State) (p : List Byte) (a : Deferred) : (s.deferAction p a).lc = s.lc := rfl
@[simp] theorem State.deferAction_pwr (s : State) (p : List Byte) (a : Deferred) : (s.deferAction p a).pwr = s.pwr := rfl
@[simp] theorem State.deferAction_sync (s : State) (p : List Byte) (a : Deferred) : (s.deferAction p a).sync = s.sync := rfl
@[simp] theorem State.deferAction_latch (s : State) (p : List Byte) (a : Deferred) : (s.deferAction p a).latch = s.latch := rfl
@[simp] theorem State.deferAction_rdata (s : State) (p : List Byte) (a : Deferred) : (s.deferAction p a).rdata = s.rdata := rfl

/-! ### testBegin -/

@[simp] theorem State.testBegin_pending (s : State) : (s.testBegin).pending = s.pending := rfl
@[simp] theorem State.testBegin_dev (s : State) : (s.testBegin).dev = s.dev := rfl
@[simp] theorem State.testBegin_safecause (s : State) : (s.testBegin).safecause = s.safecause := rfl
@[simp] theorem State.testBegin_tick (s : State) : (s.testBegin).tick = s.tick := rfl
@[simp] theorem State.testBegin_exch (s : State) : (s.testBegin).exch = s.exch := rfl
@[simp] theorem State.testBegin_pour (s : State) : (s.testBegin).pour = s.pour := rfl
@[simp] theorem State.testBegin_moulds (s : State) : (s.testBegin).moulds = s.moulds := rfl
@[simp] theorem State.testBegin_mgmt (s : State) : (s.testBegin).mgmt = s.mgmt := rfl
@[simp] theorem State.testBegin_jrn (s : State) : (s.testBegin).jrn = s.jrn := rfl
@[simp] theorem State.testBegin_spr (s : State) : (s.testBegin).spr = s.spr := rfl
@[simp] theorem State.testBegin_run (s : State) : (s.testBegin).run = s.run := rfl
@[simp] theorem State.testBegin_evm (s : State) : (s.testBegin).evm = s.evm := rfl
@[simp] theorem State.testBegin_locks (s : State) : (s.testBegin).locks = s.locks := rfl
@[simp] theorem State.testBegin_mail (s : State) : (s.testBegin).mail = s.mail := rfl
@[simp] theorem State.testBegin_ax (s : State) : (s.testBegin).ax = s.ax := rfl
@[simp] theorem State.testBegin_std (s : State) : (s.testBegin).std = s.std := rfl
@[simp] theorem State.testBegin_conv (s : State) : (s.testBegin).conv = s.conv := rfl
@[simp] theorem State.testBegin_fi (s : State) : (s.testBegin).fi = s.fi := rfl
@[simp] theorem State.testBegin_hall (s : State) : (s.testBegin).hall = s.hall := rfl
@[simp] theorem State.testBegin_hallFlag (s : State) : (s.testBegin).hallFlag = s.hallFlag := rfl
@[simp] theorem State.testBegin_th (s : State) : (s.testBegin).th = s.th := rfl
@[simp] theorem State.testBegin_mon (s : State) : (s.testBegin).mon = s.mon := rfl
@[simp] theorem State.testBegin_pwr (s : State) : (s.testBegin).pwr = s.pwr := rfl
@[simp] theorem State.testBegin_sync (s : State) : (s.testBegin).sync = s.sync := rfl
@[simp] theorem State.testBegin_latch (s : State) : (s.testBegin).latch = s.latch := rfl
@[simp] theorem State.testBegin_rdata (s : State) : (s.testBegin).rdata = s.rdata := rfl

/-! ### drive -/

@[simp] theorem State.drive_pending (s : State) (m : Nat) (l : List Byte) : (s.drive m l).pending = s.pending := rfl
@[simp] theorem State.drive_dev (s : State) (m : Nat) (l : List Byte) : (s.drive m l).dev = s.dev := rfl
@[simp] theorem State.drive_safecause (s : State) (m : Nat) (l : List Byte) : (s.drive m l).safecause = s.safecause := rfl
@[simp] theorem State.drive_tick (s : State) (m : Nat) (l : List Byte) : (s.drive m l).tick = s.tick := rfl
@[simp] theorem State.drive_exch (s : State) (m : Nat) (l : List Byte) : (s.drive m l).exch = s.exch := rfl
@[simp] theorem State.drive_pour (s : State) (m : Nat) (l : List Byte) : (s.drive m l).pour = s.pour := rfl
@[simp] theorem State.drive_moulds (s : State) (m : Nat) (l : List Byte) : (s.drive m l).moulds = s.moulds := rfl
@[simp] theorem State.drive_mgmt (s : State) (m : Nat) (l : List Byte) : (s.drive m l).mgmt = s.mgmt := rfl
@[simp] theorem State.drive_jrn (s : State) (m : Nat) (l : List Byte) : (s.drive m l).jrn = s.jrn := rfl
@[simp] theorem State.drive_run (s : State) (m : Nat) (l : List Byte) : (s.drive m l).run = s.run := rfl
@[simp] theorem State.drive_evm (s : State) (m : Nat) (l : List Byte) : (s.drive m l).evm = s.evm := rfl
@[simp] theorem State.drive_locks (s : State) (m : Nat) (l : List Byte) : (s.drive m l).locks = s.locks := rfl
@[simp] theorem State.drive_mail (s : State) (m : Nat) (l : List Byte) : (s.drive m l).mail = s.mail := rfl
@[simp] theorem State.drive_ax (s : State) (m : Nat) (l : List Byte) : (s.drive m l).ax = s.ax := rfl
@[simp] theorem State.drive_std (s : State) (m : Nat) (l : List Byte) : (s.drive m l).std = s.std := rfl
@[simp] theorem State.drive_conv (s : State) (m : Nat) (l : List Byte) : (s.drive m l).conv = s.conv := rfl
@[simp] theorem State.drive_fi (s : State) (m : Nat) (l : List Byte) : (s.drive m l).fi = s.fi := rfl
@[simp] theorem State.drive_hall (s : State) (m : Nat) (l : List Byte) : (s.drive m l).hall = s.hall := rfl
@[simp] theorem State.drive_hallFlag (s : State) (m : Nat) (l : List Byte) : (s.drive m l).hallFlag = s.hallFlag := rfl
@[simp] theorem State.drive_th (s : State) (m : Nat) (l : List Byte) : (s.drive m l).th = s.th := rfl
@[simp] theorem State.drive_mon (s : State) (m : Nat) (l : List Byte) : (s.drive m l).mon = s.mon := rfl
@[simp] theorem State.drive_lc (s : State) (m : Nat) (l : List Byte) : (s.drive m l).lc = s.lc := rfl
@[simp] theorem State.drive_pwr (s : State) (m : Nat) (l : List Byte) : (s.drive m l).pwr = s.pwr := rfl
@[simp] theorem State.drive_sync (s : State) (m : Nat) (l : List Byte) : (s.drive m l).sync = s.sync := rfl
@[simp] theorem State.drive_latch (s : State) (m : Nat) (l : List Byte) : (s.drive m l).latch = s.latch := rfl
@[simp] theorem State.drive_rdata (s : State) (m : Nat) (l : List Byte) : (s.drive m l).rdata = s.rdata := rfl

/-! ### acceptFrame -/

@[simp] theorem State.acceptFrame_pending (s : State) (c : Cmd) (a : Byte) : (s.acceptFrame c a).pending = s.pending := rfl
@[simp] theorem State.acceptFrame_dev (s : State) (c : Cmd) (a : Byte) : (s.acceptFrame c a).dev = s.dev := rfl
@[simp] theorem State.acceptFrame_safecause (s : State) (c : Cmd) (a : Byte) : (s.acceptFrame c a).safecause = s.safecause := rfl
@[simp] theorem State.acceptFrame_tick (s : State) (c : Cmd) (a : Byte) : (s.acceptFrame c a).tick = s.tick := rfl
@[simp] theorem State.acceptFrame_exch (s : State) (c : Cmd) (a : Byte) : (s.acceptFrame c a).exch = s.exch := rfl
@[simp] theorem State.acceptFrame_pour (s : State) (c : Cmd) (a : Byte) : (s.acceptFrame c a).pour = s.pour := rfl
@[simp] theorem State.acceptFrame_moulds (s : State) (c : Cmd) (a : Byte) : (s.acceptFrame c a).moulds = s.moulds := rfl
@[simp] theorem State.acceptFrame_jrn (s : State) (c : Cmd) (a : Byte) : (s.acceptFrame c a).jrn = s.jrn := rfl
@[simp] theorem State.acceptFrame_run (s : State) (c : Cmd) (a : Byte) : (s.acceptFrame c a).run = s.run := rfl
@[simp] theorem State.acceptFrame_evm (s : State) (c : Cmd) (a : Byte) : (s.acceptFrame c a).evm = s.evm := rfl
@[simp] theorem State.acceptFrame_locks (s : State) (c : Cmd) (a : Byte) : (s.acceptFrame c a).locks = s.locks := rfl
@[simp] theorem State.acceptFrame_mail (s : State) (c : Cmd) (a : Byte) : (s.acceptFrame c a).mail = s.mail := rfl
@[simp] theorem State.acceptFrame_ax (s : State) (c : Cmd) (a : Byte) : (s.acceptFrame c a).ax = s.ax := rfl
@[simp] theorem State.acceptFrame_std (s : State) (c : Cmd) (a : Byte) : (s.acceptFrame c a).std = s.std := rfl
@[simp] theorem State.acceptFrame_conv (s : State) (c : Cmd) (a : Byte) : (s.acceptFrame c a).conv = s.conv := rfl
@[simp] theorem State.acceptFrame_fi (s : State) (c : Cmd) (a : Byte) : (s.acceptFrame c a).fi = s.fi := rfl
@[simp] theorem State.acceptFrame_hall (s : State) (c : Cmd) (a : Byte) : (s.acceptFrame c a).hall = s.hall := rfl
@[simp] theorem State.acceptFrame_hallFlag (s : State) (c : Cmd) (a : Byte) : (s.acceptFrame c a).hallFlag = s.hallFlag := rfl
@[simp] theorem State.acceptFrame_th (s : State) (c : Cmd) (a : Byte) : (s.acceptFrame c a).th = s.th := rfl
@[simp] theorem State.acceptFrame_mon (s : State) (c : Cmd) (a : Byte) : (s.acceptFrame c a).mon = s.mon := rfl
@[simp] theorem State.acceptFrame_lc (s : State) (c : Cmd) (a : Byte) : (s.acceptFrame c a).lc = s.lc := rfl
@[simp] theorem State.acceptFrame_pwr (s : State) (c : Cmd) (a : Byte) : (s.acceptFrame c a).pwr = s.pwr := rfl
@[simp] theorem State.acceptFrame_sync (s : State) (c : Cmd) (a : Byte) : (s.acceptFrame c a).sync = s.sync := rfl
@[simp] theorem State.acceptFrame_latch (s : State) (c : Cmd) (a : Byte) : (s.acceptFrame c a).latch = s.latch := rfl
@[simp] theorem State.acceptFrame_rdata (s : State) (c : Cmd) (a : Byte) : (s.acceptFrame c a).rdata = s.rdata := rfl

/-! ### headOff -/

@[simp] theorem State.headOff_pending (s : State) : (s.headOff).pending = s.pending := rfl
@[simp] theorem State.headOff_dev (s : State) : (s.headOff).dev = s.dev := rfl
@[simp] theorem State.headOff_safecause (s : State) : (s.headOff).safecause = s.safecause := rfl
@[simp] theorem State.headOff_tick (s : State) : (s.headOff).tick = s.tick := rfl
@[simp] theorem State.headOff_exch (s : State) : (s.headOff).exch = s.exch := rfl
@[simp] theorem State.headOff_pour (s : State) : (s.headOff).pour = s.pour := rfl
@[simp] theorem State.headOff_moulds (s : State) : (s.headOff).moulds = s.moulds := rfl
@[simp] theorem State.headOff_jrn (s : State) : (s.headOff).jrn = s.jrn := rfl
@[simp] theorem State.headOff_spr (s : State) : (s.headOff).spr = s.spr := rfl
@[simp] theorem State.headOff_run (s : State) : (s.headOff).run = s.run := rfl
@[simp] theorem State.headOff_evm (s : State) : (s.headOff).evm = s.evm := rfl
@[simp] theorem State.headOff_locks (s : State) : (s.headOff).locks = s.locks := rfl
@[simp] theorem State.headOff_mail (s : State) : (s.headOff).mail = s.mail := rfl
@[simp] theorem State.headOff_ax (s : State) : (s.headOff).ax = s.ax := rfl
@[simp] theorem State.headOff_std (s : State) : (s.headOff).std = s.std := rfl
@[simp] theorem State.headOff_conv (s : State) : (s.headOff).conv = s.conv := rfl
@[simp] theorem State.headOff_fi (s : State) : (s.headOff).fi = s.fi := rfl
@[simp] theorem State.headOff_hall (s : State) : (s.headOff).hall = s.hall := rfl
@[simp] theorem State.headOff_hallFlag (s : State) : (s.headOff).hallFlag = s.hallFlag := rfl
@[simp] theorem State.headOff_th (s : State) : (s.headOff).th = s.th := rfl
@[simp] theorem State.headOff_mon (s : State) : (s.headOff).mon = s.mon := rfl
@[simp] theorem State.headOff_lc (s : State) : (s.headOff).lc = s.lc := rfl
@[simp] theorem State.headOff_pwr (s : State) : (s.headOff).pwr = s.pwr := rfl
@[simp] theorem State.headOff_sync (s : State) : (s.headOff).sync = s.sync := rfl
@[simp] theorem State.headOff_latch (s : State) : (s.headOff).latch = s.latch := rfl
@[simp] theorem State.headOff_rdata (s : State) : (s.headOff).rdata = s.rdata := rfl

/-! ### lock0Set -/

@[simp] theorem State.lock0Set_pending (s : State) (o : BitVec 4) : (s.lock0Set o).pending = s.pending := rfl
@[simp] theorem State.lock0Set_dev (s : State) (o : BitVec 4) : (s.lock0Set o).dev = s.dev := rfl
@[simp] theorem State.lock0Set_safecause (s : State) (o : BitVec 4) : (s.lock0Set o).safecause = s.safecause := rfl
@[simp] theorem State.lock0Set_tick (s : State) (o : BitVec 4) : (s.lock0Set o).tick = s.tick := rfl
@[simp] theorem State.lock0Set_exch (s : State) (o : BitVec 4) : (s.lock0Set o).exch = s.exch := rfl
@[simp] theorem State.lock0Set_pour (s : State) (o : BitVec 4) : (s.lock0Set o).pour = s.pour := rfl
@[simp] theorem State.lock0Set_moulds (s : State) (o : BitVec 4) : (s.lock0Set o).moulds = s.moulds := rfl
@[simp] theorem State.lock0Set_mgmt (s : State) (o : BitVec 4) : (s.lock0Set o).mgmt = s.mgmt := rfl
@[simp] theorem State.lock0Set_jrn (s : State) (o : BitVec 4) : (s.lock0Set o).jrn = s.jrn := rfl
@[simp] theorem State.lock0Set_spr (s : State) (o : BitVec 4) : (s.lock0Set o).spr = s.spr := rfl
@[simp] theorem State.lock0Set_run (s : State) (o : BitVec 4) : (s.lock0Set o).run = s.run := rfl
@[simp] theorem State.lock0Set_evm (s : State) (o : BitVec 4) : (s.lock0Set o).evm = s.evm := rfl
@[simp] theorem State.lock0Set_mail (s : State) (o : BitVec 4) : (s.lock0Set o).mail = s.mail := rfl
@[simp] theorem State.lock0Set_ax (s : State) (o : BitVec 4) : (s.lock0Set o).ax = s.ax := rfl
@[simp] theorem State.lock0Set_std (s : State) (o : BitVec 4) : (s.lock0Set o).std = s.std := rfl
@[simp] theorem State.lock0Set_conv (s : State) (o : BitVec 4) : (s.lock0Set o).conv = s.conv := rfl
@[simp] theorem State.lock0Set_fi (s : State) (o : BitVec 4) : (s.lock0Set o).fi = s.fi := rfl
@[simp] theorem State.lock0Set_hall (s : State) (o : BitVec 4) : (s.lock0Set o).hall = s.hall := rfl
@[simp] theorem State.lock0Set_hallFlag (s : State) (o : BitVec 4) : (s.lock0Set o).hallFlag = s.hallFlag := rfl
@[simp] theorem State.lock0Set_th (s : State) (o : BitVec 4) : (s.lock0Set o).th = s.th := rfl
@[simp] theorem State.lock0Set_mon (s : State) (o : BitVec 4) : (s.lock0Set o).mon = s.mon := rfl
@[simp] theorem State.lock0Set_lc (s : State) (o : BitVec 4) : (s.lock0Set o).lc = s.lc := rfl
@[simp] theorem State.lock0Set_pwr (s : State) (o : BitVec 4) : (s.lock0Set o).pwr = s.pwr := rfl
@[simp] theorem State.lock0Set_sync (s : State) (o : BitVec 4) : (s.lock0Set o).sync = s.sync := rfl
@[simp] theorem State.lock0Set_latch (s : State) (o : BitVec 4) : (s.lock0Set o).latch = s.latch := rfl
@[simp] theorem State.lock0Set_rdata (s : State) (o : BitVec 4) : (s.lock0Set o).rdata = s.rdata := rfl

/-! ### abortTest -/

@[simp] theorem State.abortTest_pending (s : State) (sel : BgOp → Bool) : (s.abortTest sel).pending = s.pending := rfl
@[simp] theorem State.abortTest_dev (s : State) (sel : BgOp → Bool) : (s.abortTest sel).dev = s.dev := rfl
@[simp] theorem State.abortTest_safecause (s : State) (sel : BgOp → Bool) : (s.abortTest sel).safecause = s.safecause := rfl
@[simp] theorem State.abortTest_tick (s : State) (sel : BgOp → Bool) : (s.abortTest sel).tick = s.tick := rfl
@[simp] theorem State.abortTest_exch (s : State) (sel : BgOp → Bool) : (s.abortTest sel).exch = s.exch := rfl
@[simp] theorem State.abortTest_pour (s : State) (sel : BgOp → Bool) : (s.abortTest sel).pour = s.pour := rfl
@[simp] theorem State.abortTest_moulds (s : State) (sel : BgOp → Bool) : (s.abortTest sel).moulds = s.moulds := rfl
@[simp] theorem State.abortTest_jrn (s : State) (sel : BgOp → Bool) : (s.abortTest sel).jrn = s.jrn := rfl
@[simp] theorem State.abortTest_spr (s : State) (sel : BgOp → Bool) : (s.abortTest sel).spr = s.spr := rfl
@[simp] theorem State.abortTest_run (s : State) (sel : BgOp → Bool) : (s.abortTest sel).run = s.run := rfl
@[simp] theorem State.abortTest_evm (s : State) (sel : BgOp → Bool) : (s.abortTest sel).evm = s.evm := rfl
@[simp] theorem State.abortTest_locks (s : State) (sel : BgOp → Bool) : (s.abortTest sel).locks = s.locks := rfl
@[simp] theorem State.abortTest_mail (s : State) (sel : BgOp → Bool) : (s.abortTest sel).mail = s.mail := rfl
@[simp] theorem State.abortTest_ax (s : State) (sel : BgOp → Bool) : (s.abortTest sel).ax =
    (match s.freedAxis sel with
      | some n => s.ax.set n (s.axis n).lockBack
      | none => s.ax) := rfl
@[simp] theorem State.abortTest_std (s : State) (sel : BgOp → Bool) : (s.abortTest sel).std = s.std := rfl
@[simp] theorem State.abortTest_conv (s : State) (sel : BgOp → Bool) : (s.abortTest sel).conv = s.conv := rfl
@[simp] theorem State.abortTest_fi (s : State) (sel : BgOp → Bool) : (s.abortTest sel).fi = s.fi := rfl
@[simp] theorem State.abortTest_hall (s : State) (sel : BgOp → Bool) : (s.abortTest sel).hall = s.hall := rfl
@[simp] theorem State.abortTest_hallFlag (s : State) (sel : BgOp → Bool) : (s.abortTest sel).hallFlag = s.hallFlag := rfl
@[simp] theorem State.abortTest_th (s : State) (sel : BgOp → Bool) : (s.abortTest sel).th = s.th := rfl
@[simp] theorem State.abortTest_mon (s : State) (sel : BgOp → Bool) : (s.abortTest sel).mon = s.mon := rfl
@[simp] theorem State.abortTest_lc (s : State) (sel : BgOp → Bool) : (s.abortTest sel).lc = s.lc := rfl
@[simp] theorem State.abortTest_pwr (s : State) (sel : BgOp → Bool) : (s.abortTest sel).pwr = s.pwr := rfl
@[simp] theorem State.abortTest_sync (s : State) (sel : BgOp → Bool) : (s.abortTest sel).sync = s.sync := rfl
@[simp] theorem State.abortTest_latch (s : State) (sel : BgOp → Bool) : (s.abortTest sel).latch = s.latch := rfl
@[simp] theorem State.abortTest_rdata (s : State) (sel : BgOp → Bool) : (s.abortTest sel).rdata = s.rdata := rfl

/-! ### raiseSns, raiseMon -/

@[simp] theorem State.raiseSns_pending (s : State) (k : Nat) : (s.raiseSns k).pending = s.pending := rfl
@[simp] theorem State.raiseSns_dev (s : State) (k : Nat) : (s.raiseSns k).dev = s.dev := rfl
@[simp] theorem State.raiseSns_safecause (s : State) (k : Nat) : (s.raiseSns k).safecause = s.safecause := rfl
@[simp] theorem State.raiseSns_tick (s : State) (k : Nat) : (s.raiseSns k).tick = s.tick := rfl
@[simp] theorem State.raiseSns_exch (s : State) (k : Nat) : (s.raiseSns k).exch = s.exch := rfl
@[simp] theorem State.raiseSns_pour (s : State) (k : Nat) : (s.raiseSns k).pour = s.pour := rfl
@[simp] theorem State.raiseSns_moulds (s : State) (k : Nat) : (s.raiseSns k).moulds = s.moulds := rfl
@[simp] theorem State.raiseSns_mgmt (s : State) (k : Nat) : (s.raiseSns k).mgmt = s.mgmt := rfl
@[simp] theorem State.raiseSns_jrn (s : State) (k : Nat) : (s.raiseSns k).jrn = s.jrn := rfl
@[simp] theorem State.raiseSns_spr (s : State) (k : Nat) : (s.raiseSns k).spr = s.spr := rfl
@[simp] theorem State.raiseSns_run (s : State) (k : Nat) : (s.raiseSns k).run = s.run := rfl
@[simp] theorem State.raiseSns_locks (s : State) (k : Nat) : (s.raiseSns k).locks = s.locks := rfl
@[simp] theorem State.raiseSns_mail (s : State) (k : Nat) : (s.raiseSns k).mail = s.mail := rfl
@[simp] theorem State.raiseSns_ax (s : State) (k : Nat) : (s.raiseSns k).ax = s.ax := rfl
@[simp] theorem State.raiseSns_std (s : State) (k : Nat) : (s.raiseSns k).std = s.std := rfl
@[simp] theorem State.raiseSns_conv (s : State) (k : Nat) : (s.raiseSns k).conv = s.conv := rfl
@[simp] theorem State.raiseSns_fi (s : State) (k : Nat) : (s.raiseSns k).fi = s.fi := rfl
@[simp] theorem State.raiseSns_hall (s : State) (k : Nat) : (s.raiseSns k).hall = s.hall := rfl
@[simp] theorem State.raiseSns_hallFlag (s : State) (k : Nat) : (s.raiseSns k).hallFlag = s.hallFlag := rfl
@[simp] theorem State.raiseSns_th (s : State) (k : Nat) : (s.raiseSns k).th = s.th := rfl
@[simp] theorem State.raiseSns_mon (s : State) (k : Nat) : (s.raiseSns k).mon = s.mon := rfl
@[simp] theorem State.raiseSns_lc (s : State) (k : Nat) : (s.raiseSns k).lc = s.lc := rfl
@[simp] theorem State.raiseSns_pwr (s : State) (k : Nat) : (s.raiseSns k).pwr = s.pwr := rfl
@[simp] theorem State.raiseSns_sync (s : State) (k : Nat) : (s.raiseSns k).sync = s.sync := rfl
@[simp] theorem State.raiseSns_latch (s : State) (k : Nat) : (s.raiseSns k).latch = s.latch := rfl
@[simp] theorem State.raiseSns_rdata (s : State) (k : Nat) : (s.raiseSns k).rdata = s.rdata := rfl
@[simp] theorem State.raiseMon_pending (s : State) (k : Nat) : (s.raiseMon k).pending = s.pending := rfl
@[simp] theorem State.raiseMon_dev (s : State) (k : Nat) : (s.raiseMon k).dev = s.dev := rfl
@[simp] theorem State.raiseMon_safecause (s : State) (k : Nat) : (s.raiseMon k).safecause = s.safecause := rfl
@[simp] theorem State.raiseMon_tick (s : State) (k : Nat) : (s.raiseMon k).tick = s.tick := rfl
@[simp] theorem State.raiseMon_exch (s : State) (k : Nat) : (s.raiseMon k).exch = s.exch := rfl
@[simp] theorem State.raiseMon_pour (s : State) (k : Nat) : (s.raiseMon k).pour = s.pour := rfl
@[simp] theorem State.raiseMon_moulds (s : State) (k : Nat) : (s.raiseMon k).moulds = s.moulds := rfl
@[simp] theorem State.raiseMon_mgmt (s : State) (k : Nat) : (s.raiseMon k).mgmt = s.mgmt := rfl
@[simp] theorem State.raiseMon_jrn (s : State) (k : Nat) : (s.raiseMon k).jrn = s.jrn := rfl
@[simp] theorem State.raiseMon_spr (s : State) (k : Nat) : (s.raiseMon k).spr = s.spr := rfl
@[simp] theorem State.raiseMon_run (s : State) (k : Nat) : (s.raiseMon k).run = s.run := rfl
@[simp] theorem State.raiseMon_locks (s : State) (k : Nat) : (s.raiseMon k).locks = s.locks := rfl
@[simp] theorem State.raiseMon_mail (s : State) (k : Nat) : (s.raiseMon k).mail = s.mail := rfl
@[simp] theorem State.raiseMon_ax (s : State) (k : Nat) : (s.raiseMon k).ax = s.ax := rfl
@[simp] theorem State.raiseMon_std (s : State) (k : Nat) : (s.raiseMon k).std = s.std := rfl
@[simp] theorem State.raiseMon_conv (s : State) (k : Nat) : (s.raiseMon k).conv = s.conv := rfl
@[simp] theorem State.raiseMon_fi (s : State) (k : Nat) : (s.raiseMon k).fi = s.fi := rfl
@[simp] theorem State.raiseMon_hall (s : State) (k : Nat) : (s.raiseMon k).hall = s.hall := rfl
@[simp] theorem State.raiseMon_hallFlag (s : State) (k : Nat) : (s.raiseMon k).hallFlag = s.hallFlag := rfl
@[simp] theorem State.raiseMon_th (s : State) (k : Nat) : (s.raiseMon k).th = s.th := rfl
@[simp] theorem State.raiseMon_mon (s : State) (k : Nat) : (s.raiseMon k).mon = s.mon := rfl
@[simp] theorem State.raiseMon_lc (s : State) (k : Nat) : (s.raiseMon k).lc = s.lc := rfl
@[simp] theorem State.raiseMon_pwr (s : State) (k : Nat) : (s.raiseMon k).pwr = s.pwr := rfl
@[simp] theorem State.raiseMon_sync (s : State) (k : Nat) : (s.raiseMon k).sync = s.sync := rfl
@[simp] theorem State.raiseMon_latch (s : State) (k : Nat) : (s.raiseMon k).latch = s.latch := rfl
@[simp] theorem State.raiseMon_rdata (s : State) (k : Nat) : (s.raiseMon k).rdata = s.rdata := rfl

end Sys2Proof.Machine
end

