-- ==== Sys2Proof/Laws/Mem.lean ====
section
/-! SUPPORT. Sparse tables and byte buffers: a read after a write, and every operation keeps the canonical form. -/

namespace Sys2Proof.Machine

variable {α : Type} [DecidableEq α]

theorem Sparse.wfFrom_mono {d : α} {m : Sparse α} {lo lo' : Nat} (hl : lo' ≤ lo) (h : Sparse.wfFrom d lo m = true) :
    Sparse.wfFrom d lo' m = true := by
  cases m with
  | nil => rfl
  | cons x t =>
    simp only [Sparse.wfFrom, Bool.and_eq_true, decide_eq_true_eq] at *
    exact ⟨⟨by omega, h.1.2⟩, h.2⟩

theorem Sparse.wfFrom_put {d : α} {k : Nat} {x : α} (m : Sparse α) : ∀ lo : Nat, lo ≤ k → Sparse.wfFrom d lo m = true →
    Sparse.wfFrom d lo (Sparse.put d k x m) = true := by
  induction m with
  | nil =>
    intro lo hk _
    by_cases hx : x = d <;> simp [Sparse.put, Sparse.wfFrom, hx, hk]
  | cons e t ih =>
    obtain ⟨j, v⟩ := e
    intro lo hk h
    simp only [Sparse.wfFrom, Bool.and_eq_true, decide_eq_true_eq] at h
    obtain ⟨⟨h1, h2⟩, h3⟩ := h
    simp only [Sparse.put]
    split
    · split
      · simp [Sparse.wfFrom, h1, h2, h3]
      · rename_i hj hx
        simp only [Sparse.wfFrom, Bool.and_eq_true, decide_eq_true_eq]
        exact ⟨⟨hk, hx⟩, ⟨by omega, h2⟩, h3⟩
    · split
      · split
        · exact Sparse.wfFrom_mono (by omega) h3
        · rename_i hx
          simp only [Sparse.wfFrom, Bool.and_eq_true, decide_eq_true_eq]
          subst_vars
          exact ⟨⟨h1, hx⟩, h3⟩
      · simp only [Sparse.wfFrom, Bool.and_eq_true, decide_eq_true_eq]
        exact ⟨⟨h1, h2⟩, ih _ (by omega) h3⟩

/-- Writing keeps the canonical form. -/
theorem Sparse.wf_put {d : α} {k : Nat} {x : α} {m : Sparse α} (h : Sparse.wf d m = true) :
    Sparse.wf d (Sparse.put d k x m) = true := Sparse.wfFrom_put m 0 (Nat.zero_le k) h

theorem Sparse.get_of_wfFrom {d : α} {k : Nat} (m : Sparse α) : ∀ lo : Nat, k < lo → Sparse.wfFrom d lo m = true →
    Sparse.get d k m = d := by
  cases m with
  | nil => intros; rfl
  | cons e t =>
    obtain ⟨j, v⟩ := e
    intro lo hk h
    simp only [Sparse.wfFrom, Bool.and_eq_true, decide_eq_true_eq] at h
    simp only [Sparse.get]
    rw [if_neg (by omega), if_pos (by omega)]

/-- A read of the key written gives the value. -/
theorem Sparse.get_put_same {d : α} {k : Nat} {x : α} (m : Sparse α) : ∀ lo : Nat, Sparse.wfFrom d lo m = true →
    Sparse.get d k (Sparse.put d k x m) = x := by
  induction m with
  | nil =>
    intro lo _
    by_cases hx : x = d <;> simp [Sparse.put, Sparse.get, hx]
  | cons e t ih =>
    obtain ⟨j, v⟩ := e
    intro lo h
    simp only [Sparse.wfFrom, Bool.and_eq_true, decide_eq_true_eq] at h
    simp only [Sparse.put]
    split
    · rename_i hj
      split
      · rename_i hx
        simp only [Sparse.get]
        rw [if_neg (by omega), if_pos hj, hx]
      · simp [Sparse.get]
    · split
      · rename_i hj hk
        split
        · rename_i hx
          subst hk
          rw [Sparse.get_of_wfFrom t (k + 1) (by omega) h.2, hx]
        · simp [Sparse.get]
      · rename_i hj hk
        simp only [Sparse.get]
        rw [if_neg (fun c => hk c.symm), if_neg hj]
        exact ih (j + 1) h.2

/-- A read of another key is as before. -/
theorem Sparse.get_put_ne {d : α} {k i : Nat} {x : α} (hi : i ≠ k) (m : Sparse α) : ∀ lo : Nat,
    Sparse.wfFrom d lo m = true → Sparse.get d i (Sparse.put d k x m) = Sparse.get d i m := by
  induction m with
  | nil =>
    intro lo _
    by_cases hx : x = d
    · simp [Sparse.put, hx]
    · have : ¬ k = i := fun c => hi c.symm
      simp [Sparse.put, Sparse.get, hx, this]
  | cons e t ih =>
    obtain ⟨j, v⟩ := e
    intro lo h
    simp only [Sparse.wfFrom, Bool.and_eq_true, decide_eq_true_eq] at h
    have hki : ¬ k = i := fun c => hi c.symm
    simp only [Sparse.put]
    split
    · split
      · rfl
      · rename_i hj hx
        by_cases hlt : i < k
        · simp only [Sparse.get]
          rw [if_neg hki, if_pos hlt, if_neg (by omega), if_pos (by omega)]
        · simp only [Sparse.get]
          rw [if_neg hki, if_neg hlt]
    · split
      · rename_i hj hk
        split
        · subst hk
          simp only [Sparse.get]
          rw [if_neg hki]
          split
          · exact Sparse.get_of_wfFrom t (k + 1) (by omega) h.2
          · rfl
        · subst hk
          simp [Sparse.get, hki]
      · simp only [Sparse.get]
        split
        · rfl
        · split
          · rfl
          · exact ih (j + 1) h.2

theorem Sparse.get_put {d : α} {k i : Nat} {x : α} {m : Sparse α} (h : Sparse.wf d m = true) :
    Sparse.get d i (Sparse.put d k x m) = if i = k then x else Sparse.get d i m := by
  split
  · subst_vars; exact Sparse.get_put_same m 0 h
  · exact Sparse.get_put_ne ‹_› m 0 h

/-! ### Byte buffers -/

theorem Mem.wf_put {m : Mem} (a : Nat) (b : Byte) (h : m.wf = true) : (m.put a b).wf = true := Sparse.wf_put h

theorem Mem.get_put {m : Mem} (a i : Nat) (b : Byte) (h : m.wf = true) : (m.put a b).get i = if i = a then b else m.get i :=
  Sparse.get_put h

theorem Mem.wf_putBytes (l : List Byte) : ∀ (m : Mem) (a : Nat), m.wf = true → (m.putBytes a l).wf = true := by
  induction l with
  | nil => intro m a h; exact h
  | cons b t ih => intro m a h; exact ih _ _ (Mem.wf_put a b h)

theorem Mem.get_putBytes_out (l : List Byte) : ∀ (m : Mem) (a i : Nat), m.wf = true → i < a ∨ a + l.length ≤ i →
    (m.putBytes a l).get i = m.get i := by
  induction l with
  | nil => intro m a i _ _; rfl
  | cons b t ih =>
    intro m a i h hi
    simp only [List.length_cons] at hi
    rw [Mem.putBytes, ih _ _ _ (Mem.wf_put a b h) (by omega), Mem.get_put _ _ _ h, if_neg (by omega)]

theorem Mem.wf_putWord {m : Mem} (a : Nat) (w : Word) (h : m.wf = true) : (m.putWord a w).wf = true :=
  Mem.wf_put _ _ (Mem.wf_put _ _ (Mem.wf_put _ _ (Mem.wf_put _ _ h)))

theorem Mem.get_putWord {m : Mem} (a i : Nat) (w : Word) (h : m.wf = true) :
    (m.putWord a w).get i = if i = a + 3 then w.extractLsb' 24 8 else if i = a + 2 then w.extractLsb' 16 8
      else if i = a + 1 then w.extractLsb' 8 8 else if i = a then w.extractLsb' 0 8 else m.get i := by
  have h1 := Mem.wf_put a (w.extractLsb' 0 8) h
  have h2 := Mem.wf_put (a + 1) (w.extractLsb' 8 8) h1
  have h3 := Mem.wf_put (a + 2) (w.extractLsb' 16 8) h2
  rw [Mem.putWord, Mem.get_put _ _ _ h3, Mem.get_put _ _ _ h2, Mem.get_put _ _ _ h1, Mem.get_put _ _ _ h]

/-- A word written reads back. -/
theorem Mem.word_putWord {m : Mem} (a : Nat) (w : Word) (h : m.wf = true) : (m.putWord a w).word a = w := by
  simp only [Mem.word, Mem.get_putWord _ _ _ h, Nat.add_right_cancel_iff, if_true]
  simp only [show ¬ a = a + 3 by omega, show ¬ a = a + 2 by omega, show ¬ a = a + 1 by omega, if_false]
  ext i hi
  simp only [BitVec.getElem_append, BitVec.getElem_extractLsb']
  repeat' split
  all_goals (simp only [← BitVec.getLsbD_eq_getElem]; congr 1; omega)

/-- Every buffer of the reset state is in canonical form. -/
theorem State.reset_buffers : State.reset.pour.pdm.wf = true ∧ State.reset.moulds.staging.wf = true := ⟨rfl, rfl⟩

end Sys2Proof.Machine
end

