-- ==== Sys2Proof/Laws/Ops.lean ====
section
/-! SUPPORT. The shared operations: reads of what was set, and everything that a raised event, an entry to SAFE, a
cancelled activation and an axis fault leave alone. -/

namespace Sys2Proof.Machine

/-! ### Four axes, three phases -/

@[simp] theorem Four.get_set_same {α : Type} (f : Four α) (n : Fin 4) (x : α) : (f.set n x).get n = x := by
  obtain ⟨n, h⟩ := n
  match n, h with
  | 0, _ => rfl
  | 1, _ => rfl
  | 2, _ => rfl
  | 3, _ => rfl

theorem Four.get_set_ne {α : Type} (f : Four α) {n k : Fin 4} (x : α) (h : k ≠ n) : (f.set n x).get k = f.get k := by
  revert h
  obtain ⟨n, hn⟩ := n
  obtain ⟨k, hk⟩ := k
  match n, hn, k, hk with
  | 0, _, 0, _ => exact fun c => absurd rfl c
  | 0, _, 1, _ => exact fun _ => rfl
  | 0, _, 2, _ => exact fun _ => rfl
  | 0, _, 3, _ => exact fun _ => rfl
  | 1, _, 0, _ => exact fun _ => rfl
  | 1, _, 1, _ => exact fun c => absurd rfl c
  | 1, _, 2, _ => exact fun _ => rfl
  | 1, _, 3, _ => exact fun _ => rfl
  | 2, _, 0, _ => exact fun _ => rfl
  | 2, _, 1, _ => exact fun _ => rfl
  | 2, _, 2, _ => exact fun c => absurd rfl c
  | 2, _, 3, _ => exact fun _ => rfl
  | 3, _, 0, _ => exact fun _ => rfl
  | 3, _, 1, _ => exact fun _ => rfl
  | 3, _, 2, _ => exact fun _ => rfl
  | 3, _, 3, _ => exact fun c => absurd rfl c

@[simp] theorem Three.get_set_same {α : Type} (f : Three α) (p : Phase) (x : α) : (f.set p x).get p = x := by
  cases p <;> rfl

theorem Three.get_set_ne {α : Type} (f : Three α) {p q : Phase} (x : α) (h : q ≠ p) : (f.set p x).get q = f.get q := by
  cases p <;> cases q <;> first | rfl | exact absurd rfl h

@[simp] theorem State.axis_setAxis_same (s : State) (n : Fin 4) (a : Axis) : (s.setAxis n a).axis n = a :=
  Four.get_set_same _ _ _
theorem State.axis_setAxis_ne (s : State) {n k : Fin 4} (a : Axis) (h : k ≠ n) : (s.setAxis n a).axis k = s.axis k :=
  Four.get_set_ne _ _ h
@[simp] theorem State.axis_updAxis_same (s : State) (n : Fin 4) (f : Axis → Axis) : (s.updAxis n f).axis n = f (s.axis n) :=
  Four.get_set_same _ _ _
theorem State.axis_updAxis_ne (s : State) {n k : Fin 4} (f : Axis → Axis) (h : k ≠ n) : (s.updAxis n f).axis k = s.axis k :=
  Four.get_set_ne _ _ h
@[simp] theorem State.port_updPort_same (s : State) (n : Fin 4) (f : PortAx → PortAx) :
    (s.updPort n f).pour.ax.get n = f (s.pour.ax.get n) := Four.get_set_same _ _ _
theorem State.port_updPort_ne (s : State) {n k : Fin 4} (f : PortAx → PortAx) (h : k ≠ n) :
    (s.updPort n f).pour.ax.get k = s.pour.ax.get k := Four.get_set_ne _ _ h

/-! ### Frames -/

theorem Part.same_refl (p : Part) (s : State) : p.same s s := by cases p <;> rfl

theorem Part.same_trans {p : Part} {s t u : State} (h : p.same s t) (k : p.same t u) : p.same s u := by
  cases p <;> exact Eq.trans h k

theorem Frame.refl (ps : List Part) (s : State) : Frame ps s s := fun p _ => p.same_refl s

theorem Frame.trans {ps : List Part} {s t u : State} (h : Frame ps s t) (k : Frame ps t u) : Frame ps s u :=
  fun p hp => Part.same_trans (h p hp) (k p hp)

theorem Frame.mono {ps qs : List Part} {s t : State} (h : Frame ps s t) (hs : ∀ p ∈ ps, p ∈ qs) : Frame qs s t :=
  fun p hp => h p fun c => hp (hs p c)

/-! ### Axis state changes -/

theorem State.axNext_axis_ne (s : State) {n k : Fin 4} (t : AxState) (h : k ≠ n) : (s.axNext n t).axis k = s.axis k :=
  s.axis_updAxis_ne _ h

theorem State.axNext_st (s : State) (n k : Fin 4) (t : AxState) : ((s.axNext n t).axis k).st = (s.axis k).st := by
  by_cases h : k = n
  · subst h
    simp only [State.axNext, State.axis_updAxis_same]
    split
    · rfl
    · split <;> rfl
  · rw [s.axNext_axis_ne t h]

theorem State.axNext_nxt (s : State) (n : Fin 4) (t : AxState) (h : (s.axis n).nxt = none) :
    ((s.axNext n t).axis n).nxt = some t := by
  simp [State.axNext, h]

theorem State.axNext_recovery (s : State) (n : Fin 4) : ((s.axNext n .recovery).axis n).nxt = some .recovery := by
  simp only [State.axNext, State.axis_updAxis_same]
  split
  · rfl
  · rename_i u _
    have : u.rank ≤ AxState.recovery.rank := by cases u <;> decide
    rw [if_pos this]


/-! ### The uplink: upNext, raiseDrv -/

@[simp] theorem State.upNext_pending (s : State) (n : Fin 4) : (s.upNext n).pending = s.pending := by
  unfold State.upNext; split <;> simp
@[simp] theorem State.upNext_dev (s : State) (n : Fin 4) : (s.upNext n).dev = s.dev := by
  unfold State.upNext; split <;> simp
@[simp] theorem State.upNext_safecause (s : State) (n : Fin 4) : (s.upNext n).safecause = s.safecause := by
  unfold State.upNext; split <;> simp
@[simp] theorem State.upNext_tick (s : State) (n : Fin 4) : (s.upNext n).tick = s.tick := by
  unfold State.upNext; split <;> simp
@[simp] theorem State.upNext_exch (s : State) (n : Fin 4) : (s.upNext n).exch = s.exch := by
  unfold State.upNext; split <;> simp
@[simp] theorem State.upNext_pour (s : State) (n : Fin 4) : (s.upNext n).pour = s.pour := by
  unfold State.upNext; split <;> simp
@[simp] theorem State.upNext_moulds (s : State) (n : Fin 4) : (s.upNext n).moulds = s.moulds := by
  unfold State.upNext; split <;> simp
@[simp] theorem State.upNext_mgmt (s : State) (n : Fin 4) : (s.upNext n).mgmt = s.mgmt := by
  unfold State.upNext; split <;> simp
@[simp] theorem State.upNext_jrn (s : State) (n : Fin 4) : (s.upNext n).jrn = s.jrn := by
  unfold State.upNext; split <;> simp
@[simp] theorem State.upNext_spr (s : State) (n : Fin 4) : (s.upNext n).spr = s.spr := by
  unfold State.upNext; split <;> simp
@[simp] theorem State.upNext_run (s : State) (n : Fin 4) : (s.upNext n).run = s.run := by
  unfold State.upNext; split <;> simp
@[simp] theorem State.upNext_evm (s : State) (n : Fin 4) : (s.upNext n).evm = s.evm := by
  unfold State.upNext; split <;> simp
@[simp] theorem State.upNext_locks (s : State) (n : Fin 4) : (s.upNext n).locks = s.locks := by
  unfold State.upNext; split <;> simp
@[simp] theorem State.upNext_mail (s : State) (n : Fin 4) : (s.upNext n).mail = s.mail := by
  unfold State.upNext; split <;> simp
@[simp] theorem State.upNext_std (s : State) (n : Fin 4) : (s.upNext n).std = s.std := by
  unfold State.upNext; split <;> simp
@[simp] theorem State.upNext_conv (s : State) (n : Fin 4) : (s.upNext n).conv = s.conv := by
  unfold State.upNext; split <;> simp
@[simp] theorem State.upNext_fi (s : State) (n : Fin 4) : (s.upNext n).fi = s.fi := by
  unfold State.upNext; split <;> simp
@[simp] theorem State.upNext_hall (s : State) (n : Fin 4) : (s.upNext n).hall = s.hall := by
  unfold State.upNext; split <;> simp
@[simp] theorem State.upNext_hallFlag (s : State) (n : Fin 4) : (s.upNext n).hallFlag = s.hallFlag := by
  unfold State.upNext; split <;> simp
@[simp] theorem State.upNext_th (s : State) (n : Fin 4) : (s.upNext n).th = s.th := by
  unfold State.upNext; split <;> simp
@[simp] theorem State.upNext_mon (s : State) (n : Fin 4) : (s.upNext n).mon = s.mon := by
  unfold State.upNext; split <;> simp
@[simp] theorem State.upNext_lc (s : State) (n : Fin 4) : (s.upNext n).lc = s.lc := by
  unfold State.upNext; split <;> simp
@[simp] theorem State.upNext_pwr (s : State) (n : Fin 4) : (s.upNext n).pwr = s.pwr := by
  unfold State.upNext; split <;> simp
@[simp] theorem State.upNext_sync (s : State) (n : Fin 4) : (s.upNext n).sync = s.sync := by
  unfold State.upNext; split <;> simp
@[simp] theorem State.upNext_latch (s : State) (n : Fin 4) : (s.upNext n).latch = s.latch := by
  unfold State.upNext; split <;> simp
@[simp] theorem State.upNext_rdata (s : State) (n : Fin 4) : (s.upNext n).rdata = s.rdata := by
  unfold State.upNext; split <;> simp
@[simp] theorem State.raiseDrv_pending (s : State) (n : Fin 4) (j : Nat) : (s.raiseDrv n j).pending = s.pending := by
  unfold State.raiseDrv; dsimp only; split <;> simp
@[simp] theorem State.raiseDrv_dev (s : State) (n : Fin 4) (j : Nat) : (s.raiseDrv n j).dev = s.dev := by
  unfold State.raiseDrv; dsimp only; split <;> simp
@[simp] theorem State.raiseDrv_safecause (s : State) (n : Fin 4) (j : Nat) : (s.raiseDrv n j).safecause = s.safecause := by
  unfold State.raiseDrv; dsimp only; split <;> simp
@[simp] theorem State.raiseDrv_tick (s : State) (n : Fin 4) (j : Nat) : (s.raiseDrv n j).tick = s.tick := by
  unfold State.raiseDrv; dsimp only; split <;> simp
@[simp] theorem State.raiseDrv_exch (s : State) (n : Fin 4) (j : Nat) : (s.raiseDrv n j).exch = s.exch := by
  unfold State.raiseDrv; dsimp only; split <;> simp
@[simp] theorem State.raiseDrv_pour (s : State) (n : Fin 4) (j : Nat) : (s.raiseDrv n j).pour = s.pour := by
  unfold State.raiseDrv; dsimp only; split <;> simp
@[simp] theorem State.raiseDrv_moulds (s : State) (n : Fin 4) (j : Nat) : (s.raiseDrv n j).moulds = s.moulds := by
  unfold State.raiseDrv; dsimp only; split <;> simp
@[simp] theorem State.raiseDrv_mgmt (s : State) (n : Fin 4) (j : Nat) : (s.raiseDrv n j).mgmt = s.mgmt := by
  unfold State.raiseDrv; dsimp only; split <;> simp
@[simp] theorem State.raiseDrv_jrn (s : State) (n : Fin 4) (j : Nat) : (s.raiseDrv n j).jrn = s.jrn := by
  unfold State.raiseDrv; dsimp only; split <;> simp
@[simp] theorem State.raiseDrv_spr (s : State) (n : Fin 4) (j : Nat) : (s.raiseDrv n j).spr = s.spr := by
  unfold State.raiseDrv; dsimp only; split <;> simp
@[simp] theorem State.raiseDrv_run (s : State) (n : Fin 4) (j : Nat) : (s.raiseDrv n j).run = s.run := by
  unfold State.raiseDrv; dsimp only; split <;> simp
@[simp] theorem State.raiseDrv_locks (s : State) (n : Fin 4) (j : Nat) : (s.raiseDrv n j).locks = s.locks := by
  unfold State.raiseDrv; dsimp only; split <;> simp
@[simp] theorem State.raiseDrv_mail (s : State) (n : Fin 4) (j : Nat) : (s.raiseDrv n j).mail = s.mail := by
  unfold State.raiseDrv; dsimp only; split <;> simp
@[simp] theorem State.raiseDrv_std (s : State) (n : Fin 4) (j : Nat) : (s.raiseDrv n j).std = s.std := by
  unfold State.raiseDrv; dsimp only; split <;> simp
@[simp] theorem State.raiseDrv_conv (s : State) (n : Fin 4) (j : Nat) : (s.raiseDrv n j).conv = s.conv := by
  unfold State.raiseDrv; dsimp only; split <;> simp
@[simp] theorem State.raiseDrv_fi (s : State) (n : Fin 4) (j : Nat) : (s.raiseDrv n j).fi = s.fi := by
  unfold State.raiseDrv; dsimp only; split <;> simp
@[simp] theorem State.raiseDrv_hall (s : State) (n : Fin 4) (j : Nat) : (s.raiseDrv n j).hall = s.hall := by
  unfold State.raiseDrv; dsimp only; split <;> simp
@[simp] theorem State.raiseDrv_hallFlag (s : State) (n : Fin 4) (j : Nat) : (s.raiseDrv n j).hallFlag = s.hallFlag := by
  unfold State.raiseDrv; dsimp only; split <;> simp
@[simp] theorem State.raiseDrv_th (s : State) (n : Fin 4) (j : Nat) : (s.raiseDrv n j).th = s.th := by
  unfold State.raiseDrv; dsimp only; split <;> simp
@[simp] theorem State.raiseDrv_mon (s : State) (n : Fin 4) (j : Nat) : (s.raiseDrv n j).mon = s.mon := by
  unfold State.raiseDrv; dsimp only; split <;> simp
@[simp] theorem State.raiseDrv_lc (s : State) (n : Fin 4) (j : Nat) : (s.raiseDrv n j).lc = s.lc := by
  unfold State.raiseDrv; dsimp only; split <;> simp
@[simp] theorem State.raiseDrv_pwr (s : State) (n : Fin 4) (j : Nat) : (s.raiseDrv n j).pwr = s.pwr := by
  unfold State.raiseDrv; dsimp only; split <;> simp
@[simp] theorem State.raiseDrv_sync (s : State) (n : Fin 4) (j : Nat) : (s.raiseDrv n j).sync = s.sync := by
  unfold State.raiseDrv; dsimp only; split <;> simp
@[simp] theorem State.raiseDrv_latch (s : State) (n : Fin 4) (j : Nat) : (s.raiseDrv n j).latch = s.latch := by
  unfold State.raiseDrv; dsimp only; split <;> simp
@[simp] theorem State.raiseDrv_rdata (s : State) (n : Fin 4) (j : Nat) : (s.raiseDrv n j).rdata = s.rdata := by
  unfold State.raiseDrv; dsimp only; split <;> simp

/-- What has entered the lanes has come off the queue, in order (16 R588). -/
theorem Axis.upSend_evWords (l : List UpWord) (a : Axis) (h : a.upOn = none) :
    (Axis.upSend l a).evWords = ({ a with evq := l } : Axis).evWords := by
  induction l generalizing a with
  | nil => simp [Axis.upSend, Axis.evWords]
  | cons w t ih =>
    cases w with
    | ack => simpa [Axis.upSend, Axis.evWords, h] using ih { a with regq := a.regq.drop 1 } h
    | event j => simp [Axis.upSend, Axis.evWords, h]

@[simp] theorem State.upNext_evWords (s : State) (n : Fin 4) : ((s.upNext n).axis n).evWords = (s.axis n).evWords := by
  unfold State.upNext
  split
  · rfl
  · rename_i h
    simp only [Bool.or_eq_true, not_or] at h
    have h2 : (s.axis n).upOn = none := by simpa using h.2
    simp [Axis.upSend_evWords _ _ h2]
theorem State.upNext_axis_ne (s : State) {n k : Fin 4} (h : k ≠ n) : (s.upNext n).axis k = s.axis k := by
  unfold State.upNext; split
  · rfl
  · exact State.axis_updAxis_ne _ _ h

/-- An occurrence that is not dropped is the last word of its die (16 R588). -/
theorem State.raiseDrv_evWords (s : State) (n : Fin 4) (j : Nat) (h : (s.axis n).evPend j < 255) :
    ((s.raiseDrv n j).axis n).evWords = (s.axis n).evWords ++ [j] := by
  simp only [State.raiseDrv, h, if_true, State.upNext_evWords, State.axis_updAxis_same]
  simp [Axis.evWords]
theorem State.raiseDrv_axis_ne (s : State) {n k : Fin 4} (j : Nat) (h : k ≠ n) : (s.raiseDrv n j).axis k = s.axis k := by
  unfold State.raiseDrv; dsimp only; split
  · rw [State.upNext_axis_ne _ h]; exact State.axis_updAxis_ne _ _ h
  · rfl

/-! ### axFault -/

@[simp] theorem State.axFault_pending (s : State) (n : Fin 4) : (s.axFault n).pending = s.pending := by
  unfold State.axFault; split <;> simp
@[simp] theorem State.axFault_dev (s : State) (n : Fin 4) : (s.axFault n).dev = s.dev := by
  unfold State.axFault; split <;> simp
@[simp] theorem State.axFault_safecause (s : State) (n : Fin 4) : (s.axFault n).safecause = s.safecause := by
  unfold State.axFault; split <;> simp
@[simp] theorem State.axFault_tick (s : State) (n : Fin 4) : (s.axFault n).tick = s.tick := by
  unfold State.axFault; split <;> simp
@[simp] theorem State.axFault_exch (s : State) (n : Fin 4) : (s.axFault n).exch = s.exch := by
  unfold State.axFault; split <;> simp
@[simp] theorem State.axFault_pour (s : State) (n : Fin 4) : (s.axFault n).pour = s.pour := by
  unfold State.axFault; split <;> simp
@[simp] theorem State.axFault_moulds (s : State) (n : Fin 4) : (s.axFault n).moulds = s.moulds := by
  unfold State.axFault; split <;> simp
@[simp] theorem State.axFault_jrn (s : State) (n : Fin 4) : (s.axFault n).jrn = s.jrn := by
  unfold State.axFault; split <;> simp
@[simp] theorem State.axFault_spr (s : State) (n : Fin 4) : (s.axFault n).spr = s.spr := by
  unfold State.axFault; split <;> simp
@[simp] theorem State.axFault_run (s : State) (n : Fin 4) : (s.axFault n).run = s.run := by
  unfold State.axFault; split <;> simp
@[simp] theorem State.axFault_evm (s : State) (n : Fin 4) : (s.axFault n).evm = s.evm := by
  unfold State.axFault; split <;> simp
@[simp] theorem State.axFault_locks (s : State) (n : Fin 4) : (s.axFault n).locks = s.locks := by
  unfold State.axFault; split <;> simp
@[simp] theorem State.axFault_mail (s : State) (n : Fin 4) : (s.axFault n).mail = s.mail := by
  unfold State.axFault; split <;> simp
@[simp] theorem State.axFault_std (s : State) (n : Fin 4) : (s.axFault n).std = s.std := by
  unfold State.axFault; split <;> simp
@[simp] theorem State.axFault_conv (s : State) (n : Fin 4) : (s.axFault n).conv = s.conv := by
  unfold State.axFault; split <;> simp
@[simp] theorem State.axFault_fi (s : State) (n : Fin 4) : (s.axFault n).fi = s.fi := by
  unfold State.axFault; split <;> simp
@[simp] theorem State.axFault_hall (s : State) (n : Fin 4) : (s.axFault n).hall = s.hall := by
  unfold State.axFault; split <;> simp
@[simp] theorem State.axFault_hallFlag (s : State) (n : Fin 4) : (s.axFault n).hallFlag = s.hallFlag := by
  unfold State.axFault; split <;> simp
@[simp] theorem State.axFault_th (s : State) (n : Fin 4) : (s.axFault n).th = s.th := by
  unfold State.axFault; split <;> simp
@[simp] theorem State.axFault_mon (s : State) (n : Fin 4) : (s.axFault n).mon = s.mon := by
  unfold State.axFault; split <;> simp
@[simp] theorem State.axFault_lc (s : State) (n : Fin 4) : (s.axFault n).lc = s.lc := by
  unfold State.axFault; split <;> simp
@[simp] theorem State.axFault_pwr (s : State) (n : Fin 4) : (s.axFault n).pwr = s.pwr := by
  unfold State.axFault; split <;> simp
@[simp] theorem State.axFault_sync (s : State) (n : Fin 4) : (s.axFault n).sync = s.sync := by
  unfold State.axFault; split <;> simp
@[simp] theorem State.axFault_latch (s : State) (n : Fin 4) : (s.axFault n).latch = s.latch := by
  unfold State.axFault; split <;> simp
@[simp] theorem State.axFault_rdata (s : State) (n : Fin 4) : (s.axFault n).rdata = s.rdata := by
  unfold State.axFault; split <;> simp

/-- The axes' faults at an entry to SAFE. -/
theorem State.faults_same (s : State) {p : Part} (h : p ∉ [Part.ax, Part.mgmt]) :
    p.same s (axes.foldl State.axFault s) := by
  have one : ∀ (t : State) (n : Fin 4), p.same t (t.axFault n) := by
    intro t n
    cases p <;> first | exact absurd (by decide) h | simp [Part.same]
  have all : ∀ (l : List (Fin 4)) (t : State), p.same t (l.foldl State.axFault t) := by
    intro l
    induction l with
    | nil => intro t; exact p.same_refl t
    | cons n l ih => intro t; exact Part.same_trans (one t n) (ih _)
  exact all _ s

/-! ### faults -/

@[simp] theorem State.faults_pending (s : State) : (axes.foldl State.axFault s).pending = s.pending :=
  ((s.faults_same (p := .pending) (by decide)) : _ = _).symm
@[simp] theorem State.faults_dev (s : State) : (axes.foldl State.axFault s).dev = s.dev :=
  ((s.faults_same (p := .dev) (by decide)) : _ = _).symm
@[simp] theorem State.faults_safecause (s : State) : (axes.foldl State.axFault s).safecause = s.safecause :=
  ((s.faults_same (p := .safecause) (by decide)) : _ = _).symm
@[simp] theorem State.faults_tick (s : State) : (axes.foldl State.axFault s).tick = s.tick :=
  ((s.faults_same (p := .tick) (by decide)) : _ = _).symm
@[simp] theorem State.faults_exch (s : State) : (axes.foldl State.axFault s).exch = s.exch :=
  ((s.faults_same (p := .exch) (by decide)) : _ = _).symm
@[simp] theorem State.faults_pour (s : State) : (axes.foldl State.axFault s).pour = s.pour :=
  ((s.faults_same (p := .pour) (by decide)) : _ = _).symm
@[simp] theorem State.faults_moulds (s : State) : (axes.foldl State.axFault s).moulds = s.moulds :=
  ((s.faults_same (p := .moulds) (by decide)) : _ = _).symm
@[simp] theorem State.faults_jrn (s : State) : (axes.foldl State.axFault s).jrn = s.jrn :=
  ((s.faults_same (p := .jrn) (by decide)) : _ = _).symm
@[simp] theorem State.faults_spr (s : State) : (axes.foldl State.axFault s).spr = s.spr :=
  ((s.faults_same (p := .spr) (by decide)) : _ = _).symm
@[simp] theorem State.faults_run (s : State) : (axes.foldl State.axFault s).run = s.run :=
  ((s.faults_same (p := .run) (by decide)) : _ = _).symm
@[simp] theorem State.faults_evm (s : State) : (axes.foldl State.axFault s).evm = s.evm :=
  ((s.faults_same (p := .evm) (by decide)) : _ = _).symm
@[simp] theorem State.faults_locks (s : State) : (axes.foldl State.axFault s).locks = s.locks :=
  ((s.faults_same (p := .locks) (by decide)) : _ = _).symm
@[simp] theorem State.faults_mail (s : State) : (axes.foldl State.axFault s).mail = s.mail :=
  ((s.faults_same (p := .mail) (by decide)) : _ = _).symm
@[simp] theorem State.faults_std (s : State) : (axes.foldl State.axFault s).std = s.std :=
  ((s.faults_same (p := .std) (by decide)) : _ = _).symm
@[simp] theorem State.faults_conv (s : State) : (axes.foldl State.axFault s).conv = s.conv :=
  ((s.faults_same (p := .conv) (by decide)) : _ = _).symm
@[simp] theorem State.faults_fi (s : State) : (axes.foldl State.axFault s).fi = s.fi :=
  ((s.faults_same (p := .fi) (by decide)) : _ = _).symm
@[simp] theorem State.faults_hall (s : State) : (axes.foldl State.axFault s).hall = s.hall :=
  ((s.faults_same (p := .hall) (by decide)) : _ = _).symm
@[simp] theorem State.faults_hallFlag (s : State) : (axes.foldl State.axFault s).hallFlag = s.hallFlag :=
  ((s.faults_same (p := .hallFlag) (by decide)) : _ = _).symm
@[simp] theorem State.faults_th (s : State) : (axes.foldl State.axFault s).th = s.th :=
  ((s.faults_same (p := .th) (by decide)) : _ = _).symm
@[simp] theorem State.faults_mon (s : State) : (axes.foldl State.axFault s).mon = s.mon :=
  ((s.faults_same (p := .mon) (by decide)) : _ = _).symm
@[simp] theorem State.faults_lc (s : State) : (axes.foldl State.axFault s).lc = s.lc :=
  ((s.faults_same (p := .lc) (by decide)) : _ = _).symm
@[simp] theorem State.faults_pwr (s : State) : (axes.foldl State.axFault s).pwr = s.pwr :=
  ((s.faults_same (p := .pwr) (by decide)) : _ = _).symm
@[simp] theorem State.faults_sync (s : State) : (axes.foldl State.axFault s).sync = s.sync :=
  ((s.faults_same (p := .sync) (by decide)) : _ = _).symm
@[simp] theorem State.faults_latch (s : State) : (axes.foldl State.axFault s).latch = s.latch :=
  ((s.faults_same (p := .latch) (by decide)) : _ = _).symm
@[simp] theorem State.faults_rdata (s : State) : (axes.foldl State.axFault s).rdata = s.rdata :=
  ((s.faults_same (p := .rdata) (by decide)) : _ = _).symm

/-! ### cancelCopy -/

@[simp] theorem State.cancelCopy_pending (s : State) : (s.cancelCopy).pending = s.pending := by
  unfold State.cancelCopy; split
  · split <;> simp
  · rfl
@[simp] theorem State.cancelCopy_dev (s : State) : (s.cancelCopy).dev = s.dev := by
  unfold State.cancelCopy; split
  · split <;> simp
  · rfl
@[simp] theorem State.cancelCopy_safecause (s : State) : (s.cancelCopy).safecause = s.safecause := by
  unfold State.cancelCopy; split
  · split <;> simp
  · rfl
@[simp] theorem State.cancelCopy_tick (s : State) : (s.cancelCopy).tick = s.tick := by
  unfold State.cancelCopy; split
  · split <;> simp
  · rfl
@[simp] theorem State.cancelCopy_exch (s : State) : (s.cancelCopy).exch = s.exch := by
  unfold State.cancelCopy; split
  · split <;> simp
  · rfl
@[simp] theorem State.cancelCopy_pour (s : State) : (s.cancelCopy).pour = s.pour := by
  unfold State.cancelCopy; split
  · split <;> simp
  · rfl
@[simp] theorem State.cancelCopy_jrn (s : State) : (s.cancelCopy).jrn = s.jrn := by
  unfold State.cancelCopy; split
  · split <;> simp
  · rfl
@[simp] theorem State.cancelCopy_spr (s : State) : (s.cancelCopy).spr = s.spr := by
  unfold State.cancelCopy; split
  · split <;> simp
  · rfl
@[simp] theorem State.cancelCopy_run (s : State) : (s.cancelCopy).run = s.run := by
  unfold State.cancelCopy; split
  · split <;> simp
  · rfl
@[simp] theorem State.cancelCopy_evm (s : State) : (s.cancelCopy).evm = s.evm := by
  unfold State.cancelCopy; split
  · split <;> simp
  · rfl
@[simp] theorem State.cancelCopy_locks (s : State) : (s.cancelCopy).locks = s.locks := by
  unfold State.cancelCopy; split
  · split <;> simp
  · rfl
@[simp] theorem State.cancelCopy_mail (s : State) : (s.cancelCopy).mail = s.mail := by
  unfold State.cancelCopy; split
  · split <;> simp
  · rfl
@[simp] theorem State.cancelCopy_ax (s : State) : (s.cancelCopy).ax = s.ax := by
  unfold State.cancelCopy; split
  · split <;> simp
  · rfl
@[simp] theorem State.cancelCopy_std (s : State) : (s.cancelCopy).std = s.std := by
  unfold State.cancelCopy; split
  · split <;> simp
  · rfl
@[simp] theorem State.cancelCopy_conv (s : State) : (s.cancelCopy).conv = s.conv := by
  unfold State.cancelCopy; split
  · split <;> simp
  · rfl
@[simp] theorem State.cancelCopy_fi (s : State) : (s.cancelCopy).fi = s.fi := by
  unfold State.cancelCopy; split
  · split <;> simp
  · rfl
@[simp] theorem State.cancelCopy_hall (s : State) : (s.cancelCopy).hall = s.hall := by
  unfold State.cancelCopy; split
  · split <;> simp
  · rfl
@[simp] theorem State.cancelCopy_hallFlag (s : State) : (s.cancelCopy).hallFlag = s.hallFlag := by
  unfold State.cancelCopy; split
  · split <;> simp
  · rfl
@[simp] theorem State.cancelCopy_th (s : State) : (s.cancelCopy).th = s.th := by
  unfold State.cancelCopy; split
  · split <;> simp
  · rfl
@[simp] theorem State.cancelCopy_mon (s : State) : (s.cancelCopy).mon = s.mon := by
  unfold State.cancelCopy; split
  · split <;> simp
  · rfl
@[simp] theorem State.cancelCopy_lc (s : State) : (s.cancelCopy).lc = s.lc := by
  unfold State.cancelCopy; split
  · split <;> simp
  · rfl
@[simp] theorem State.cancelCopy_pwr (s : State) : (s.cancelCopy).pwr = s.pwr := by
  unfold State.cancelCopy; split
  · split <;> simp
  · rfl
@[simp] theorem State.cancelCopy_sync (s : State) : (s.cancelCopy).sync = s.sync := by
  unfold State.cancelCopy; split
  · split <;> simp
  · rfl
@[simp] theorem State.cancelCopy_latch (s : State) : (s.cancelCopy).latch = s.latch := by
  unfold State.cancelCopy; split
  · split <;> simp
  · rfl
@[simp] theorem State.cancelCopy_rdata (s : State) : (s.cancelCopy).rdata = s.rdata := by
  unfold State.cancelCopy; split
  · split <;> simp
  · rfl

/-! ### cancelPend -/

@[simp] theorem State.cancelPend_pending (s : State) : (s.cancelPend).pending = s.pending := by
  unfold State.cancelPend; split
  · rfl
  · split
    · rfl
    · simp only []; split <;> simp
@[simp] theorem State.cancelPend_dev (s : State) : (s.cancelPend).dev = s.dev := by
  unfold State.cancelPend; split
  · rfl
  · split
    · rfl
    · simp only []; split <;> simp
@[simp] theorem State.cancelPend_safecause (s : State) : (s.cancelPend).safecause = s.safecause := by
  unfold State.cancelPend; split
  · rfl
  · split
    · rfl
    · simp only []; split <;> simp
@[simp] theorem State.cancelPend_pour (s : State) : (s.cancelPend).pour = s.pour := by
  unfold State.cancelPend; split
  · rfl
  · split
    · rfl
    · simp only []; split <;> simp
@[simp] theorem State.cancelPend_jrn (s : State) : (s.cancelPend).jrn = s.jrn := by
  unfold State.cancelPend; split
  · rfl
  · split
    · rfl
    · simp only []; split <;> simp
@[simp] theorem State.cancelPend_spr (s : State) : (s.cancelPend).spr = s.spr := by
  unfold State.cancelPend; split
  · rfl
  · split
    · rfl
    · simp only []; split <;> simp
@[simp] theorem State.cancelPend_run (s : State) : (s.cancelPend).run = s.run := by
  unfold State.cancelPend; split
  · rfl
  · split
    · rfl
    · simp only []; split <;> simp
@[simp] theorem State.cancelPend_evm (s : State) : (s.cancelPend).evm = s.evm := by
  unfold State.cancelPend; split
  · rfl
  · split
    · rfl
    · simp only []; split <;> simp
@[simp] theorem State.cancelPend_locks (s : State) : (s.cancelPend).locks = s.locks := by
  unfold State.cancelPend; split
  · rfl
  · split
    · rfl
    · simp only []; split <;> simp
@[simp] theorem State.cancelPend_mail (s : State) : (s.cancelPend).mail = s.mail := by
  unfold State.cancelPend; split
  · rfl
  · split
    · rfl
    · simp only []; split <;> simp
@[simp] theorem State.cancelPend_ax (s : State) : (s.cancelPend).ax = s.ax := by
  unfold State.cancelPend; split
  · rfl
  · split
    · rfl
    · simp only []; split <;> simp
@[simp] theorem State.cancelPend_std (s : State) : (s.cancelPend).std = s.std := by
  unfold State.cancelPend; split
  · rfl
  · split
    · rfl
    · simp only []; split <;> simp
@[simp] theorem State.cancelPend_conv (s : State) : (s.cancelPend).conv = s.conv := by
  unfold State.cancelPend; split
  · rfl
  · split
    · rfl
    · simp only []; split <;> simp
@[simp] theorem State.cancelPend_fi (s : State) : (s.cancelPend).fi = s.fi := by
  unfold State.cancelPend; split
  · rfl
  · split
    · rfl
    · simp only []; split <;> simp
@[simp] theorem State.cancelPend_hall (s : State) : (s.cancelPend).hall = s.hall := by
  unfold State.cancelPend; split
  · rfl
  · split
    · rfl
    · simp only []; split <;> simp
@[simp] theorem State.cancelPend_hallFlag (s : State) : (s.cancelPend).hallFlag = s.hallFlag := by
  unfold State.cancelPend; split
  · rfl
  · split
    · rfl
    · simp only []; split <;> simp
@[simp] theorem State.cancelPend_th (s : State) : (s.cancelPend).th = s.th := by
  unfold State.cancelPend; split
  · rfl
  · split
    · rfl
    · simp only []; split <;> simp
@[simp] theorem State.cancelPend_mon (s : State) : (s.cancelPend).mon = s.mon := by
  unfold State.cancelPend; split
  · rfl
  · split
    · rfl
    · simp only []; split <;> simp
@[simp] theorem State.cancelPend_lc (s : State) : (s.cancelPend).lc = s.lc := by
  unfold State.cancelPend; split
  · rfl
  · split
    · rfl
    · simp only []; split <;> simp
@[simp] theorem State.cancelPend_pwr (s : State) : (s.cancelPend).pwr = s.pwr := by
  unfold State.cancelPend; split
  · rfl
  · split
    · rfl
    · simp only []; split <;> simp
@[simp] theorem State.cancelPend_sync (s : State) : (s.cancelPend).sync = s.sync := by
  unfold State.cancelPend; split
  · rfl
  · split
    · rfl
    · simp only []; split <;> simp
@[simp] theorem State.cancelPend_latch (s : State) : (s.cancelPend).latch = s.latch := by
  unfold State.cancelPend; split
  · rfl
  · split
    · rfl
    · simp only []; split <;> simp
@[simp] theorem State.cancelPend_rdata (s : State) : (s.cancelPend).rdata = s.rdata := by
  unfold State.cancelPend; split
  · rfl
  · split
    · rfl
    · simp only []; split <;> simp

/-! ### cancelActivation -/

@[simp] theorem State.cancelActivation_pending (s : State) : (s.cancelActivation).pending = s.pending := by
  simp [State.cancelActivation]
@[simp] theorem State.cancelActivation_dev (s : State) : (s.cancelActivation).dev = s.dev := by
  simp [State.cancelActivation]
@[simp] theorem State.cancelActivation_safecause (s : State) : (s.cancelActivation).safecause = s.safecause := by
  simp [State.cancelActivation]
@[simp] theorem State.cancelActivation_pour (s : State) : (s.cancelActivation).pour = s.pour := by
  simp [State.cancelActivation]
@[simp] theorem State.cancelActivation_jrn (s : State) : (s.cancelActivation).jrn = s.jrn := by
  simp [State.cancelActivation]
@[simp] theorem State.cancelActivation_spr (s : State) : (s.cancelActivation).spr = s.spr := by
  simp [State.cancelActivation]
@[simp] theorem State.cancelActivation_run (s : State) : (s.cancelActivation).run = s.run := by
  simp [State.cancelActivation]
@[simp] theorem State.cancelActivation_evm (s : State) : (s.cancelActivation).evm = s.evm := by
  simp [State.cancelActivation]
@[simp] theorem State.cancelActivation_locks (s : State) : (s.cancelActivation).locks = s.locks := by
  simp [State.cancelActivation]
@[simp] theorem State.cancelActivation_mail (s : State) : (s.cancelActivation).mail = s.mail := by
  simp [State.cancelActivation]
@[simp] theorem State.cancelActivation_ax (s : State) : (s.cancelActivation).ax = s.ax := by
  simp [State.cancelActivation]
@[simp] theorem State.cancelActivation_std (s : State) : (s.cancelActivation).std = s.std := by
  simp [State.cancelActivation]
@[simp] theorem State.cancelActivation_conv (s : State) : (s.cancelActivation).conv = s.conv := by
  simp [State.cancelActivation]
@[simp] theorem State.cancelActivation_fi (s : State) : (s.cancelActivation).fi = s.fi := by
  simp [State.cancelActivation]
@[simp] theorem State.cancelActivation_hall (s : State) : (s.cancelActivation).hall = s.hall := by
  simp [State.cancelActivation]
@[simp] theorem State.cancelActivation_hallFlag (s : State) : (s.cancelActivation).hallFlag = s.hallFlag := by
  simp [State.cancelActivation]
@[simp] theorem State.cancelActivation_th (s : State) : (s.cancelActivation).th = s.th := by
  simp [State.cancelActivation]
@[simp] theorem State.cancelActivation_mon (s : State) : (s.cancelActivation).mon = s.mon := by
  simp [State.cancelActivation]
@[simp] theorem State.cancelActivation_lc (s : State) : (s.cancelActivation).lc = s.lc := by
  simp [State.cancelActivation]
@[simp] theorem State.cancelActivation_pwr (s : State) : (s.cancelActivation).pwr = s.pwr := by
  simp [State.cancelActivation]
@[simp] theorem State.cancelActivation_sync (s : State) : (s.cancelActivation).sync = s.sync := by
  simp [State.cancelActivation]
@[simp] theorem State.cancelActivation_latch (s : State) : (s.cancelActivation).latch = s.latch := by
  simp [State.cancelActivation]
@[simp] theorem State.cancelActivation_rdata (s : State) : (s.cancelActivation).rdata = s.rdata := by
  simp [State.cancelActivation]

/-! ### enterSafe -/

@[simp] theorem State.enterSafe_pending (s : State) (c : BitVec 4) : (s.enterSafe c).pending = s.pending := by
  unfold State.enterSafe; split <;> simp [State.clrCause]
@[simp] theorem State.enterSafe_pour (s : State) (c : BitVec 4) : (s.enterSafe c).pour = s.pour := by
  unfold State.enterSafe; split <;> simp [State.clrCause]
@[simp] theorem State.enterSafe_jrn (s : State) (c : BitVec 4) : (s.enterSafe c).jrn = s.jrn := by
  unfold State.enterSafe; split <;> simp [State.clrCause]
@[simp] theorem State.enterSafe_spr (s : State) (c : BitVec 4) : (s.enterSafe c).spr = s.spr := by
  unfold State.enterSafe; split <;> simp [State.clrCause]
@[simp] theorem State.enterSafe_run (s : State) (c : BitVec 4) : (s.enterSafe c).run = s.run := by
  unfold State.enterSafe; split <;> simp [State.clrCause]
@[simp] theorem State.enterSafe_evm (s : State) (c : BitVec 4) : (s.enterSafe c).evm = s.evm := by
  unfold State.enterSafe; split <;> simp [State.clrCause]
@[simp] theorem State.enterSafe_locks (s : State) (c : BitVec 4) : (s.enterSafe c).locks = s.locks := by
  unfold State.enterSafe; split <;> simp [State.clrCause]
@[simp] theorem State.enterSafe_mail (s : State) (c : BitVec 4) : (s.enterSafe c).mail = s.mail := by
  unfold State.enterSafe; split <;> simp [State.clrCause]
@[simp] theorem State.enterSafe_std (s : State) (c : BitVec 4) : (s.enterSafe c).std = s.std := by
  unfold State.enterSafe; split <;> simp [State.clrCause]
@[simp] theorem State.enterSafe_conv (s : State) (c : BitVec 4) : (s.enterSafe c).conv = s.conv := by
  unfold State.enterSafe; split <;> simp [State.clrCause]
@[simp] theorem State.enterSafe_fi (s : State) (c : BitVec 4) : (s.enterSafe c).fi = s.fi := by
  unfold State.enterSafe; split <;> simp [State.clrCause]
@[simp] theorem State.enterSafe_hall (s : State) (c : BitVec 4) : (s.enterSafe c).hall = s.hall := by
  unfold State.enterSafe; split <;> simp [State.clrCause]
@[simp] theorem State.enterSafe_hallFlag (s : State) (c : BitVec 4) : (s.enterSafe c).hallFlag = s.hallFlag := by
  unfold State.enterSafe; split <;> simp [State.clrCause]
@[simp] theorem State.enterSafe_th (s : State) (c : BitVec 4) : (s.enterSafe c).th = s.th := by
  unfold State.enterSafe; split <;> simp [State.clrCause]
/-- Of MON's inputs the entry to SAFE moves the crossing of the device state alone. -/
theorem State.enterSafe_mon (s : State) (c : BitVec 4) :
    (s.enterSafe c).mon = { s.mon with xDev := (s.enterSafe c).mon.xDev } := by
  unfold State.enterSafe; split <;> simp [State.clrCause, State.setDev]
@[simp] theorem State.enterSafe_lc (s : State) (c : BitVec 4) : (s.enterSafe c).lc = s.lc := by
  unfold State.enterSafe; split <;> simp [State.clrCause]
@[simp] theorem State.enterSafe_pwr (s : State) (c : BitVec 4) : (s.enterSafe c).pwr = s.pwr := by
  unfold State.enterSafe; split <;> simp [State.clrCause]
@[simp] theorem State.enterSafe_sync (s : State) (c : BitVec 4) : (s.enterSafe c).sync = s.sync := by
  unfold State.enterSafe; split <;> simp [State.clrCause]
@[simp] theorem State.enterSafe_latch (s : State) (c : BitVec 4) : (s.enterSafe c).latch = s.latch := by
  unfold State.enterSafe; split <;> simp [State.clrCause]
@[simp] theorem State.enterSafe_rdata (s : State) (c : BitVec 4) : (s.enterSafe c).rdata = s.rdata := by
  unfold State.enterSafe; split <;> simp [State.clrCause]

/-! ### quenchFor -/

@[simp] theorem State.quenchFor_pending (s : State) (k : Nat) : (s.quenchFor k).pending = s.pending := by
  unfold State.quenchFor; split <;> simp
@[simp] theorem State.quenchFor_pour (s : State) (k : Nat) : (s.quenchFor k).pour = s.pour := by
  unfold State.quenchFor; split <;> simp
@[simp] theorem State.quenchFor_jrn (s : State) (k : Nat) : (s.quenchFor k).jrn = s.jrn := by
  unfold State.quenchFor; split <;> simp
@[simp] theorem State.quenchFor_spr (s : State) (k : Nat) : (s.quenchFor k).spr = s.spr := by
  unfold State.quenchFor; split <;> simp
@[simp] theorem State.quenchFor_run (s : State) (k : Nat) : (s.quenchFor k).run = s.run := by
  unfold State.quenchFor; split <;> simp
@[simp] theorem State.quenchFor_evm (s : State) (k : Nat) : (s.quenchFor k).evm = s.evm := by
  unfold State.quenchFor; split <;> simp
@[simp] theorem State.quenchFor_locks (s : State) (k : Nat) : (s.quenchFor k).locks = s.locks := by
  unfold State.quenchFor; split <;> simp
@[simp] theorem State.quenchFor_mail (s : State) (k : Nat) : (s.quenchFor k).mail = s.mail := by
  unfold State.quenchFor; split <;> simp
@[simp] theorem State.quenchFor_std (s : State) (k : Nat) : (s.quenchFor k).std = s.std := by
  unfold State.quenchFor; split <;> simp
@[simp] theorem State.quenchFor_conv (s : State) (k : Nat) : (s.quenchFor k).conv = s.conv := by
  unfold State.quenchFor; split <;> simp
@[simp] theorem State.quenchFor_fi (s : State) (k : Nat) : (s.quenchFor k).fi = s.fi := by
  unfold State.quenchFor; split <;> simp
@[simp] theorem State.quenchFor_hall (s : State) (k : Nat) : (s.quenchFor k).hall = s.hall := by
  unfold State.quenchFor; split <;> simp
@[simp] theorem State.quenchFor_hallFlag (s : State) (k : Nat) : (s.quenchFor k).hallFlag = s.hallFlag := by
  unfold State.quenchFor; split <;> simp
@[simp] theorem State.quenchFor_th (s : State) (k : Nat) : (s.quenchFor k).th = s.th := by
  unfold State.quenchFor; split <;> simp
@[simp] theorem State.quenchFor_lc (s : State) (k : Nat) : (s.quenchFor k).lc = s.lc := by
  unfold State.quenchFor; split <;> simp
@[simp] theorem State.quenchFor_pwr (s : State) (k : Nat) : (s.quenchFor k).pwr = s.pwr := by
  unfold State.quenchFor; split <;> simp
@[simp] theorem State.quenchFor_sync (s : State) (k : Nat) : (s.quenchFor k).sync = s.sync := by
  unfold State.quenchFor; split <;> simp
@[simp] theorem State.quenchFor_latch (s : State) (k : Nat) : (s.quenchFor k).latch = s.latch := by
  unfold State.quenchFor; split <;> simp
@[simp] theorem State.quenchFor_rdata (s : State) (k : Nat) : (s.quenchFor k).rdata = s.rdata := by
  unfold State.quenchFor; split <;> simp

/-! ### raise -/

@[simp] theorem State.raise_pending (s : State) (k : Nat) : (s.raise k).pending = s.pending := by
  simp [State.raise]
@[simp] theorem State.raise_pour (s : State) (k : Nat) : (s.raise k).pour = s.pour := by
  simp [State.raise]
@[simp] theorem State.raise_jrn (s : State) (k : Nat) : (s.raise k).jrn = s.jrn := by
  simp [State.raise]
@[simp] theorem State.raise_spr (s : State) (k : Nat) : (s.raise k).spr = s.spr := by
  simp [State.raise]
@[simp] theorem State.raise_run (s : State) (k : Nat) : (s.raise k).run = s.run := by
  simp [State.raise]
@[simp] theorem State.raise_locks (s : State) (k : Nat) : (s.raise k).locks = s.locks := by
  simp [State.raise]
@[simp] theorem State.raise_mail (s : State) (k : Nat) : (s.raise k).mail = s.mail := by
  simp [State.raise]
@[simp] theorem State.raise_std (s : State) (k : Nat) : (s.raise k).std = s.std := by
  simp [State.raise]
@[simp] theorem State.raise_conv (s : State) (k : Nat) : (s.raise k).conv = s.conv := by
  simp [State.raise]
@[simp] theorem State.raise_fi (s : State) (k : Nat) : (s.raise k).fi = s.fi := by
  simp [State.raise]
@[simp] theorem State.raise_hall (s : State) (k : Nat) : (s.raise k).hall = s.hall := by
  simp [State.raise]
@[simp] theorem State.raise_hallFlag (s : State) (k : Nat) : (s.raise k).hallFlag = s.hallFlag := by
  simp [State.raise]
@[simp] theorem State.raise_th (s : State) (k : Nat) : (s.raise k).th = s.th := by
  simp [State.raise]
@[simp] theorem State.raise_lc (s : State) (k : Nat) : (s.raise k).lc = s.lc := by
  simp [State.raise]
@[simp] theorem State.raise_pwr (s : State) (k : Nat) : (s.raise k).pwr = s.pwr := by
  simp [State.raise]
@[simp] theorem State.raise_sync (s : State) (k : Nat) : (s.raise k).sync = s.sync := by
  simp [State.raise]
@[simp] theorem State.raise_latch (s : State) (k : Nat) : (s.raise k).latch = s.latch := by
  simp [State.raise]
@[simp] theorem State.raise_rdata (s : State) (k : Nat) : (s.raise k).rdata = s.rdata := by
  simp [State.raise]

/-! ### raiseIf -/

@[simp] theorem State.raiseIf_pending (s : State) (b : Bool) (k : Nat) : (s.raiseIf b k).pending = s.pending := by
  unfold State.raiseIf; split <;> simp
@[simp] theorem State.raiseIf_pour (s : State) (b : Bool) (k : Nat) : (s.raiseIf b k).pour = s.pour := by
  unfold State.raiseIf; split <;> simp
@[simp] theorem State.raiseIf_jrn (s : State) (b : Bool) (k : Nat) : (s.raiseIf b k).jrn = s.jrn := by
  unfold State.raiseIf; split <;> simp
@[simp] theorem State.raiseIf_spr (s : State) (b : Bool) (k : Nat) : (s.raiseIf b k).spr = s.spr := by
  unfold State.raiseIf; split <;> simp
@[simp] theorem State.raiseIf_run (s : State) (b : Bool) (k : Nat) : (s.raiseIf b k).run = s.run := by
  unfold State.raiseIf; split <;> simp
@[simp] theorem State.raiseIf_locks (s : State) (b : Bool) (k : Nat) : (s.raiseIf b k).locks = s.locks := by
  unfold State.raiseIf; split <;> simp
@[simp] theorem State.raiseIf_mail (s : State) (b : Bool) (k : Nat) : (s.raiseIf b k).mail = s.mail := by
  unfold State.raiseIf; split <;> simp
@[simp] theorem State.raiseIf_std (s : State) (b : Bool) (k : Nat) : (s.raiseIf b k).std = s.std := by
  unfold State.raiseIf; split <;> simp
@[simp] theorem State.raiseIf_conv (s : State) (b : Bool) (k : Nat) : (s.raiseIf b k).conv = s.conv := by
  unfold State.raiseIf; split <;> simp
@[simp] theorem State.raiseIf_fi (s : State) (b : Bool) (k : Nat) : (s.raiseIf b k).fi = s.fi := by
  unfold State.raiseIf; split <;> simp
@[simp] theorem State.raiseIf_hall (s : State) (b : Bool) (k : Nat) : (s.raiseIf b k).hall = s.hall := by
  unfold State.raiseIf; split <;> simp
@[simp] theorem State.raiseIf_hallFlag (s : State) (b : Bool) (k : Nat) : (s.raiseIf b k).hallFlag = s.hallFlag := by
  unfold State.raiseIf; split <;> simp
@[simp] theorem State.raiseIf_th (s : State) (b : Bool) (k : Nat) : (s.raiseIf b k).th = s.th := by
  unfold State.raiseIf; split <;> simp
@[simp] theorem State.raiseIf_lc (s : State) (b : Bool) (k : Nat) : (s.raiseIf b k).lc = s.lc := by
  unfold State.raiseIf; split <;> simp
@[simp] theorem State.raiseIf_pwr (s : State) (b : Bool) (k : Nat) : (s.raiseIf b k).pwr = s.pwr := by
  unfold State.raiseIf; split <;> simp
@[simp] theorem State.raiseIf_sync (s : State) (b : Bool) (k : Nat) : (s.raiseIf b k).sync = s.sync := by
  unfold State.raiseIf; split <;> simp
@[simp] theorem State.raiseIf_latch (s : State) (b : Bool) (k : Nat) : (s.raiseIf b k).latch = s.latch := by
  unfold State.raiseIf; split <;> simp
@[simp] theorem State.raiseIf_rdata (s : State) (b : Bool) (k : Nat) : (s.raiseIf b k).rdata = s.rdata := by
  unfold State.raiseIf; split <;> simp

/-! ### raiseDrvIf -/

@[simp] theorem State.raiseDrvIf_pending (s : State) (b : Bool) (n : Fin 4) (j : Nat) : (s.raiseDrvIf b n j).pending = s.pending := by
  unfold State.raiseDrvIf; split <;> simp
@[simp] theorem State.raiseDrvIf_dev (s : State) (b : Bool) (n : Fin 4) (j : Nat) : (s.raiseDrvIf b n j).dev = s.dev := by
  unfold State.raiseDrvIf; split <;> simp
@[simp] theorem State.raiseDrvIf_safecause (s : State) (b : Bool) (n : Fin 4) (j : Nat) : (s.raiseDrvIf b n j).safecause = s.safecause := by
  unfold State.raiseDrvIf; split <;> simp
@[simp] theorem State.raiseDrvIf_tick (s : State) (b : Bool) (n : Fin 4) (j : Nat) : (s.raiseDrvIf b n j).tick = s.tick := by
  unfold State.raiseDrvIf; split <;> simp
@[simp] theorem State.raiseDrvIf_exch (s : State) (b : Bool) (n : Fin 4) (j : Nat) : (s.raiseDrvIf b n j).exch = s.exch := by
  unfold State.raiseDrvIf; split <;> simp
@[simp] theorem State.raiseDrvIf_pour (s : State) (b : Bool) (n : Fin 4) (j : Nat) : (s.raiseDrvIf b n j).pour = s.pour := by
  unfold State.raiseDrvIf; split <;> simp
@[simp] theorem State.raiseDrvIf_moulds (s : State) (b : Bool) (n : Fin 4) (j : Nat) : (s.raiseDrvIf b n j).moulds = s.moulds := by
  unfold State.raiseDrvIf; split <;> simp
@[simp] theorem State.raiseDrvIf_mgmt (s : State) (b : Bool) (n : Fin 4) (j : Nat) : (s.raiseDrvIf b n j).mgmt = s.mgmt := by
  unfold State.raiseDrvIf; split <;> simp
@[simp] theorem State.raiseDrvIf_jrn (s : State) (b : Bool) (n : Fin 4) (j : Nat) : (s.raiseDrvIf b n j).jrn = s.jrn := by
  unfold State.raiseDrvIf; split <;> simp
@[simp] theorem State.raiseDrvIf_spr (s : State) (b : Bool) (n : Fin 4) (j : Nat) : (s.raiseDrvIf b n j).spr = s.spr := by
  unfold State.raiseDrvIf; split <;> simp
@[simp] theorem State.raiseDrvIf_run (s : State) (b : Bool) (n : Fin 4) (j : Nat) : (s.raiseDrvIf b n j).run = s.run := by
  unfold State.raiseDrvIf; split <;> simp
@[simp] theorem State.raiseDrvIf_locks (s : State) (b : Bool) (n : Fin 4) (j : Nat) : (s.raiseDrvIf b n j).locks = s.locks := by
  unfold State.raiseDrvIf; split <;> simp
@[simp] theorem State.raiseDrvIf_mail (s : State) (b : Bool) (n : Fin 4) (j : Nat) : (s.raiseDrvIf b n j).mail = s.mail := by
  unfold State.raiseDrvIf; split <;> simp
@[simp] theorem State.raiseDrvIf_std (s : State) (b : Bool) (n : Fin 4) (j : Nat) : (s.raiseDrvIf b n j).std = s.std := by
  unfold State.raiseDrvIf; split <;> simp
@[simp] theorem State.raiseDrvIf_conv (s : State) (b : Bool) (n : Fin 4) (j : Nat) : (s.raiseDrvIf b n j).conv = s.conv := by
  unfold State.raiseDrvIf; split <;> simp
@[simp] theorem State.raiseDrvIf_fi (s : State) (b : Bool) (n : Fin 4) (j : Nat) : (s.raiseDrvIf b n j).fi = s.fi := by
  unfold State.raiseDrvIf; split <;> simp
@[simp] theorem State.raiseDrvIf_hall (s : State) (b : Bool) (n : Fin 4) (j : Nat) : (s.raiseDrvIf b n j).hall = s.hall := by
  unfold State.raiseDrvIf; split <;> simp
@[simp] theorem State.raiseDrvIf_hallFlag (s : State) (b : Bool) (n : Fin 4) (j : Nat) : (s.raiseDrvIf b n j).hallFlag = s.hallFlag := by
  unfold State.raiseDrvIf; split <;> simp
@[simp] theorem State.raiseDrvIf_th (s : State) (b : Bool) (n : Fin 4) (j : Nat) : (s.raiseDrvIf b n j).th = s.th := by
  unfold State.raiseDrvIf; split <;> simp
@[simp] theorem State.raiseDrvIf_mon (s : State) (b : Bool) (n : Fin 4) (j : Nat) : (s.raiseDrvIf b n j).mon = s.mon := by
  unfold State.raiseDrvIf; split <;> simp
@[simp] theorem State.raiseDrvIf_lc (s : State) (b : Bool) (n : Fin 4) (j : Nat) : (s.raiseDrvIf b n j).lc = s.lc := by
  unfold State.raiseDrvIf; split <;> simp
@[simp] theorem State.raiseDrvIf_pwr (s : State) (b : Bool) (n : Fin 4) (j : Nat) : (s.raiseDrvIf b n j).pwr = s.pwr := by
  unfold State.raiseDrvIf; split <;> simp
@[simp] theorem State.raiseDrvIf_sync (s : State) (b : Bool) (n : Fin 4) (j : Nat) : (s.raiseDrvIf b n j).sync = s.sync := by
  unfold State.raiseDrvIf; split <;> simp
@[simp] theorem State.raiseDrvIf_latch (s : State) (b : Bool) (n : Fin 4) (j : Nat) : (s.raiseDrvIf b n j).latch = s.latch := by
  unfold State.raiseDrvIf; split <;> simp
@[simp] theorem State.raiseDrvIf_rdata (s : State) (b : Bool) (n : Fin 4) (j : Nat) : (s.raiseDrvIf b n j).rdata = s.rdata := by
  unfold State.raiseDrvIf; split <;> simp

/-! ### What the signature of an operation hides -/

theorem State.enterSafe_boot (s : State) (c : BitVec 4) (h : s.dev = .boot) : s.enterSafe c = s := by
  simp [State.enterSafe, h]

/-- R450: an event not mapped to quench changes the banks and MGMT's memory of EV203 only. -/
theorem State.raise_calm (s : State) (k : Nat) (h : s.evm.qmap.getLsbD k = false) : s.raise k =
    { s with evm := s.evm.route k, mgmt := { s.mgmt with ev203 := s.mgmt.ev203 || decide (k = 203) } } := by
  have : (s.evm.route k).qmap = s.evm.qmap := by
    simp only [Evm.route, Evm.gpioAll, List.foldl]
    have g : ∀ (e : Evm) (i : Nat), (Evm.gpio1 k e i).qmap = e.qmap := by
      intro e i
      simp only [Evm.gpio1]
      split
      · split
        · rfl
        · split <;> rfl
      · rfl
    simp only [g]
    split
    · simp only [Evm.queue]; split <;> rfl
    · rfl
  simp [State.raise, State.quenchFor, this, h]

end Sys2Proof.Machine
end

