-- ==== Sys2Proof/Laws/Packets.lean ====
section
/-! SUPPORT. What taking a packet, a background operation's end and a frame can do. -/

namespace Sys2Proof.Machine

theorem State.atHead_ladle {s : State} {p : List Byte} (h : s.atHead p = true) :
    ∃ rest, s.mgmt.ladle = p :: rest ∧ s.mgmtUp = true ∧ s.outletRoom = true := by
  simp only [State.atHead, Bool.and_eq_true, decide_eq_true_eq] at h
  obtain ⟨⟨h1, h2⟩, h3⟩ := h
  cases hl : s.mgmt.ladle with
  | nil => simp [hl] at h1
  | cons q t => simp only [hl, List.head?_cons, Option.some.injEq] at h1; exact ⟨t, by rw [h1], h2, h3⟩

/-- A packet at the head that passes the checks 1 to 6 and is meant for the row acts. -/
theorem State.onPacket_acts {s : State} {p : List Byte} {sel : List Byte → Bool} {f : List Byte → State → State}
    (h : s.atHead p = true) (hs : sel p = true) (hc : s.headOff.precheck p = none) : s.onPacket sel f = f p s.headOff := by
  obtain ⟨rest, hl, h1, h2⟩ := State.atHead_ladle h
  have e : ({ s with mgmt := { s.mgmt with ladle := rest } } : State) = s.headOff := by simp [State.headOff, hl]
  simp only [State.onPacket, hl, h1, h2, hs, Bool.and_self, if_true, e, hc]

/-- One that fails a check is answered. -/
theorem State.onPacket_refuses {s : State} {p : List Byte} {sel : List Byte → Bool} {f : List Byte → State → State}
    {r : Reply} (h : s.atHead p = true) (hs : sel p = true) (hc : s.headOff.precheck p = some r) :
    s.onPacket sel f = s.headOff.pushReply r := by
  obtain ⟨rest, hl, h1, h2⟩ := State.atHead_ladle h
  have e : ({ s with mgmt := { s.mgmt with ladle := rest } } : State) = s.headOff := by simp [State.headOff, hl]
  simp only [State.onPacket, hl, h1, h2, hs, Bool.and_self, if_true, e, hc]

/-- The checks 1 to 6 do not look at the ladle. -/
theorem State.headOff_precheck (s : State) (p : List Byte) : s.headOff.precheck p = s.precheck p := rfl

/-- Taking a packet leaves the state, answers it, or runs the row's action on it. -/
theorem State.onPacket_cases (s : State) (sel : List Byte → Bool) (f : List Byte → State → State) :
    s.onPacket sel f = s ∨ (∃ r, s.onPacket sel f = s.headOff.pushReply r) ∨ ∃ p, s.onPacket sel f = f p s.headOff := by
  unfold State.onPacket
  split
  · exact .inl rfl
  · rename_i p rest hl
    have e : ({ s with mgmt := { s.mgmt with ladle := rest } } : State) = s.headOff := by simp [State.headOff, hl]
    simp only [e]
    split
    · split
      · exact .inr (.inl ⟨_, rfl⟩)
      · exact .inr (.inr ⟨_, rfl⟩)
    · exact .inl rfl

theorem State.takes_iff {s : State} {o : Nat} {p : List Byte} :
    s.takes o p = true ↔ s.atHead p = true ∧ pOpc p = o ∧ s.headOff.precheck p = none := by
  simp [State.takes, and_assoc]

/-- The rows that take one opcode. -/
theorem State.onPacket_takes {s : State} {o : Nat} {p : List Byte} {f : List Byte → State → State}
    (h : s.takes o p = true) : s.onPacket (isOpc o) f = f p s.headOff := by
  obtain ⟨h1, h2, h3⟩ := State.takes_iff.1 h
  exact State.onPacket_acts h1 (by simp [isOpc, h2]) h3

theorem State.unless_none {s : State} {c : List (Option Reply)} {f : State → State} (h : firstRefusal c = none) :
    s.unless c f = f s := by simp [State.unless, h]

theorem State.unless_some {s : State} {c : List (Option Reply)} {f : State → State} {r : Reply}
    (h : firstRefusal c = some r) : s.unless c f = s.pushReply r := by simp [State.unless, h]

@[simp] theorem firstRefusal_nil : firstRefusal [] = none := rfl
@[simp] theorem firstRefusal_none (l : List (Option Reply)) : firstRefusal (none :: l) = firstRefusal l := rfl
@[simp] theorem firstRefusal_some (r : Reply) (l : List (Option Reply)) : firstRefusal (some r :: l) = some r := rfl
@[simp] theorem refuseIf_false (r : Reply) : refuseIf false r = none := rfl
@[simp] theorem refuseIf_true (r : Reply) : refuseIf true r = some r := rfl

@[simp] theorem State.headOff_bgBusy {s : State} (p : List Byte) (h : s.bgFree = true) : s.headOff.bgBusy p = none := by
  simp only [State.bgFree, Option.isNone_iff_eq_none] at h
  simp [State.bgBusy, State.headOff, h, refuseIf]

/-- A background operation of the kind a row ends. -/
theorem State.onBg_some {s : State} {sel : BgOp → Bool} {f : Bg → State → State} {b : Bg} (h : s.mgmt.bg = some b)
    (hs : sel b.op = true) : s.onBg sel f = f b s.bgEnd := by simp [State.onBg, h, hs]

/-- A background row's end leaves the state or runs the row's action. -/
theorem State.onBg_cases (s : State) (sel : BgOp → Bool) (f : Bg → State → State) :
    s.onBg sel f = s ∨ ∃ b, s.mgmt.bg = some b ∧ s.onBg sel f = f b s.bgEnd := by
  unfold State.onBg
  split
  · rename_i b hb
    split
    · exact .inr ⟨b, hb, rfl⟩
    · exact .inl rfl
  · exact .inl rfl

/-! ### Frames -/

/-- No flag: no event and no count. -/
@[simp] theorem State.frameFlags_zero (s : State) : s.frameFlags 0#4 false = s := by
  simp [State.frameFlags, State.raiseIf]

@[simp] theorem frFlag_false : frFlag false false false false = 0#4 := by decide

/-- An accepted frame fetches, lands, and answers. -/
theorem State.frame_accepts {s : State} {c : Cmd} {f : Sys2Proof.Frame} (h : s.accepts c f = true) (fetch : State → Fetch)
    (land : State → State) : s.frame c f fetch land =
      ((land ((fetch s).2.2.acceptFrame c f.alive)).drive s.spr.mode
        (if c.answers then answerBytes s.statusByte f.alive (fetch s).1 true else [])).frameFlags
        (frFlag (fetch s).2.1 false false false) false := by
  simp only [State.accepts, Bool.and_eq_true, decide_eq_true_eq] at h
  obtain ⟨⟨⟨⟨h1, h2⟩, h3⟩, h4⟩, h5⟩ := h
  have h6 : (c.answers && !f.ready) = false := by
    cases hc : c.answers <;> cases hr : f.ready <;> simp_all
  simp [State.frame, h1, h2, h3, h4, h6]

/-- A frame that meets a condition of Table 13-3 sets flags. -/
theorem State.frame_rejects {s : State} {c : Cmd} {f : Sys2Proof.Frame} (h1 : s.portUp = true)
    (h2 : c.lenOk f.len.toNat = true) (h3 : c.shaped f = true) (h4 : s.judge c f ≠ 0) (fetch : State → Fetch)
    (land : State → State) : s.frame c f fetch land = s.reject (s.judge c f) (s.badAnswer c f (s.judge c f)) := by
  simp only [State.frame, h1, h2, h3, Bool.not_true, Bool.false_eq_true, if_false, if_pos h4]

end Sys2Proof.Machine
end

