-- ==== Sys2Proof/Laws/Pour.lean ====
section
/-! SUPPORT. The Pour engine's shared operations: the guard, results in flight, SAT, and the end of a cycle. -/

namespace Sys2Proof.Machine

theorem guarded_true {g : Guard} {f : State → State} {s : State} (h : s.guardOk g = true) : guarded g f s = .next (f s) := by
  simp [guarded, h]

theorem guarded_false {g : Guard} {f : State → State} {s : State} (h : s.guardOk g = false) : guarded g f s = .next s := by
  simp [guarded, h]

@[simp] theorem Res.endCycle_next (s : State) : Res.endCycle (.next s) = .next s.endCycle := rfl
@[simp] theorem Res.endCycle_fault (f : Fault) : Res.endCycle (.fault f) = .fault f := rfl
@[simp] theorem Res.endCycle_refused (r : Refusal) : Res.endCycle (.refused r) = .refused r := rfl

/-- An operation issued alone, with the engine powered and without (20 R538). -/
theorem State.pourRow_on {s : State} (r : Res) (h : s.pourOff = false) : s.pourRow r = r.endCycle := by
  simp [State.pourRow, h]
theorem State.pourRow_off {s : State} (r : Res) (h : s.pourOff = true) : s.pourRow r = .next s := by
  simp [State.pourRow, h]

@[simp] theorem State.setSat_false (s : State) : s.setSat false = s := rfl
@[simp] theorem State.setClamped_false (s : State) : s.setClamped false = s := rfl
@[simp] theorem State.eccRead_zero (w : Word) (s : State) : s.eccRead 0 w = (w, s) := rfl

/-- P0 stays 1 through a predicate write (02 R50). -/
theorem setPred_zero (p : BitVec 8) (k : BitVec 3) (b : Bool) (h : p.getLsbD 0 = true) :
    (setPred p k b).getLsbD 0 = true := by
  unfold setPred
  split
  · exact h
  · rename_i hk
    have e : k = 1 ∨ k = 2 ∨ k = 3 ∨ k = 4 ∨ k = 5 ∨ k = 6 ∨ k = 7 := by
      revert hk; revert k; decide
    have g : p[0] = true := by simpa using h
    rcases e with rfl | rfl | rfl | rfl | rfl | rfl | rfl <;> cases b <;> simp [putBit, bitB, g]

/-- Every result keeps P0. -/
theorem applyWB_p0 (p : Pour) (a : WbAct) (h : p.p.getLsbD 0 = true) : (applyWB p a).p.getLsbD 0 = true := by
  cases a with
  | v d n x => exact h
  | pair d x y => exact h
  | p k b => exact setPred_zero _ _ _ h

theorem retire_p0 (c : Nat) (p : Pour) (h : p.p.getLsbD 0 = true) : (retire c p).p.getLsbD 0 = true := by
  have all : ∀ (l : List WB) (q : Pour), q.p.getLsbD 0 = true →
      (l.foldl (fun q w => applyWB q w.act) q).p.getLsbD 0 = true := by
    intro l
    induction l with
    | nil => intro q h; exact h
    | cons w l ih => intro q h; exact ih _ (applyWB_p0 q w.act h)
  exact all _ p h

/-- What a result leaves alone. -/
theorem applyWB_other (p : Pour) (a : WbAct) : (applyWB p a).acc = p.acc ∧ (applyWB p a).pdm = p.pdm ∧
    (applyWB p a).inflight = p.inflight := by cases a <;> exact ⟨rfl, rfl, rfl⟩

theorem retire_other (c : Nat) (p : Pour) : (retire c p).acc = p.acc ∧ (retire c p).pdm = p.pdm := by
  have all : ∀ (l : List WB) (q : Pour), (l.foldl (fun q w => applyWB q w.act) q).acc = q.acc ∧
      (l.foldl (fun q w => applyWB q w.act) q).pdm = q.pdm := by
    intro l
    induction l with
    | nil => intro q; exact ⟨rfl, rfl⟩
    | cons w l ih =>
      intro q
      have h := applyWB_other q w.act
      have k := ih (applyWB q w.act)
      exact ⟨k.1.trans h.1, k.2.trans h.2.1⟩
  exact all _ p

/-- With nothing in flight, retiring changes nothing. -/
theorem retire_none (c : Nat) (p : Pour) (h : p.inflight = []) : retire c p = p := by
  simp [retire, h]
  cases p
  simp_all

end Sys2Proof.Machine
end

