-- ==== Sys2Proof/Certificates/Slice0/Obligations.lean ====
section
/-! DEFINITION. The statements for the provers. Each says what commands do, from the numbered rules of the spec; a
completion statement's conclusion is the next state. -/

open Sys2Proof Sys2Proof.Machine

/-! ### The queue and reset -/

/-- Each step takes the command at the front and runs it with the queue's rest; with nothing waiting the device idles
(the model's choice, log entry 1). -/
def Obligations.StepRunsFrontCommand : Prop :=
  (∀ (c : Instr) (rest : List Instr) (s : State), s.pending = c :: rest → step s = exec c { s with pending := rest }) ∧
  (∀ s : State, s.pending = [] → step s = .next s)

/-- What the spec gives as values at reset: BOOT with the tick stopped (01 Table 1-6, R16), some registers of Tables 7-3
to 7-9, 8-6, 8-7, 9-5, 10-7, 10-10, 13-8, 14-5, 15-4 to 15-8 and 17-7 (the bindings of MB0 to MB2 with the first named as
IDA: log entry 42), and every axis in DISABLED. The state after reset meets the invariants: the debug port is closed in
FIELD (19 R514), every table is in canonical form (the model's own), and no phase has both commands past the handshake
(08 R255). -/
def Obligations.ResetHasTheSpecsValues : Prop :=
  (let r := State.reset
   r.dev = .boot ∧ r.tick.on = false ∧ r.pending = [] ∧
   (∀ n : Fin 4, (r.axis n).st = .disabled ∧ (r.axis n).drv.ctrl = 0 ∧ (r.axis n).drv.dt = 100 ∧
     (r.axis n).drv.brkhw = 0x8000EBE1 ∧ (r.axis n).drv.gdrv = 0x44404440 ∧ (r.axis n).drv.gbst = 0x1434 ∧
     (r.axis n).drv.ghs = 1 ∧ (r.axis n).drv.gvds = 0x000A0909 ∧ (r.axis n).drv.gocf = 0x16 ∧
     (r.axis n).drv.gvm = 0xF213 ∧ (r.axis n).drv.sctrl = 0x70 ∧ (r.axis n).drv.tcfg.get 0 = 0x1000047F ∧
     (r.hall.get n).cfg = 0x03E81900) ∧
   (∀ k : Fin 16, (r.fi.inp.get k).cfg = 0x0914001E ∧ r.locks.owner.get k = 0) ∧
   r.spr.cfg = 0x000A0800 ∧ r.spr.irq = 3 ∧ r.evm.qmap = bitB 256 203 ∧ r.evm.enMgmt = BitVec.allOnes 256 ∧
   r.evm.enIrq = 0 ∧ r.th.cfg = 0x141E ∧ r.sync.cfg = 0x400 ∧ r.mon.fault = 0 ∧
   (r.mail.ch.get 0).bind = 0x0A12 ∧ (r.mail.ch.get 1).bind = 0x0A32 ∧ (r.mail.ch.get 2).bind = 0x0A31 ∧
   (∀ k : Fin 8, 1 ≤ k.val → r.run.deva.get k = 0x08000000 ∧ r.run.devb.get k = 0x140A0A01)) ∧
  (State.reset.lcSafe ∧ State.reset.memWf = true ∧ State.reset.noShootThrough)

/-! ### The Pour engine (02, 03) -/

/-- Every slot word the spec's tables define reads back as the operation it was written for, at every operand
(03 Tables 3-2 to 3-9). -/
def Obligations.SlotWordReadsBack : Prop :=
  ∀ i : Instr, isSlotOp i = true → decodeSlot (unitOf i) (encodeSlot i) = some i

/-- 02 R51: an operation whose guard evaluates false has no effect; it still takes its cycle. 20 R538: with the engine off
none has one. R50: whatever operation runs, P0 still reads 1; and the frame of the slot operations: besides registers, flags, memory,
ports and trace of the Pour engine, the outbound half of the active exchange buffer, the cycle count and ADRT (R66), an
operation changes only what raising an event changes. A command that is one slot operation issues alone and ends its cycle
(the model's choices, log entries 6 and 199). -/
def Obligations.SlotOperationFrame : Prop :=
  (∀ (i : Instr) (s : State), isSlotOp i = true → i.wf = true → s.declares i = true → s.guardOk (guardOf i) = false →
    s.pourOff = false → exec i s = .next s.endCycle) ∧
  (∀ (i : Instr) (s : State), isSlotOp i = true → s.pourOff = true → exec i s = .next s) ∧
  (∀ (i : Instr) (s t : State), isSlotOp i = true → exec i s = .next t →
    (s.pour.p.getLsbD 0 = true → t.pour.p.getLsbD 0 = true) ∧
    t.conv = { s.conv with adrt := t.conv.adrt } ∧
    t.pour = { s.pour with
      v := t.pour.v, acc := t.pour.acc, p := t.pour.p, inflight := t.pour.inflight, pdm := t.pour.pdm
      pdmUpset := t.pour.pdmUpset, flags := t.pour.flags, eccc := t.pour.eccc, ax := t.pour.ax, trace := t.pour.trace
      trwp := t.pour.trwp } ∧
    t.exch.act = s.exch.act ∧ t.xInact = s.xInact ∧ t.xAct = { s.xAct with outb := t.xAct.outb } ∧
    t.exch.telem = s.exch.telem ∧ t.exch.swapped = s.exch.swapped ∧ t.exch.xpPast = s.exch.xpPast ∧
    t.exch.pub = s.exch.pub ∧ Frame ([.pour, .exch, .conv] ++ raiseParts) s t)

/-- R45, R46: a result with latency L, issued with nothing in flight, stands in no register before the end of cycle
cy + L - 1 and in its own from then on; every other register keeps its value.
R49: of two results for one register in one cycle, that of the higher-numbered unit stands. -/
def Obligations.ResultsAppearInOrder : Prop :=
  (∀ (s : State) (lat unit : Nat) (d r : BitVec 6) (x : Word), 1 ≤ lat → s.pour.inflight = [] →
     let u := s.later lat unit (.v d 0 x)
     (∀ c, c < s.tick.cy + lat - 1 → (retire c u.pour).v = s.pour.v) ∧
     (retire (s.tick.cy + lat - 1) u.pour).v.get r.toFin = (if r = d then x else s.vreg r) ∧
     (retire (s.tick.cy + lat - 1) u.pour).inflight = [] ∧
     (retire (s.tick.cy + lat - 1) u.pour).p = s.pour.p ∧ (retire (s.tick.cy + lat - 1) u.pour).acc = s.pour.acc) ∧
  (∀ (s : State) (l1 l2 u1 u2 : Nat) (d : BitVec 6) (x y : Word), s.pour.inflight = [] → u1 < u2 → l1 = l2 → 1 ≤ l1 →
     (retire (s.tick.cy + l1 - 1) ((s.later l1 u1 (.v d 0 x)).later l2 u2 (.v d 0 y)).pour).v.get d.toFin = y ∧
     (retire (s.tick.cy + l1 - 1) ((s.later l2 u2 (.v d 0 y)).later l1 u1 (.v d 0 x)).pour).v.get d.toFin = y)

/-- The accumulator operations of 03 Table 3-5 complete with a true guard: the new accumulator is the exact value
saturated to Q8.56, SAT tells of a saturation (02 R73), nothing else changes but the cycle.
MULV, MOVA and MOVAC complete (03 Table 3-5; 02 R75): the result is due three cycles on, with H the old VD moves up,
and MOVAC's predicate tells of either change. SAT and its event come at issue (the model's choice, log entry 130).
A command that is one slot operation issues alone and ends its cycle, with the engine powered (20 R538; the model's choices,
log entries 6 and 199). -/
def Obligations.AccumulatorAndMoveOperationsComplete : Prop :=
  (∀ (s : State) (u : Bool) (g : Guard) (k j : BitVec 2) (a b c : BitVec 6) (sc : BitVec 2) (rm : Bool),
     s.guardOk g = true → s.pourOff = false →
     let put (x : Int) (sat : Bool) : Res := .next (((s.setAcc u k (satA x).1).setSat ((satA x).2 || sat)).endCycle)
     let p := product (s.vreg a) (s.vreg b) sc rm
     let old := (s.acc u k).toInt
     (sc ≠ 3 → exec (.mul u g k a b sc rm) s = put p.1 p.2) ∧
     (sc ≠ 3 → exec (.mac u g k a b sc rm) s = put (old + p.1) p.2) ∧
     (sc ≠ 3 → exec (.msu u g k a b sc rm) s = put (old - p.1) p.2) ∧
     exec (.madv u g k a b c) s = put ((s.vreg c).toInt * 2 ^ 27 + (s.vreg a).toInt * (s.vreg b).toInt) false ∧
     exec (.lda u g k a) s = put ((s.vreg a).toInt * 2 ^ 27) false ∧
     exec (.clra u g k) s = put 0 false ∧
     exec (.adda u g k j) s = put (old + (s.acc u j).toInt) false) ∧
  (∀ (s : State) (u : Bool) (g : Guard) (d a b : BitVec 6) (k : BitVec 2) (ss rm f h : Bool) (l : BitVec 5) (pd : BitVec 3),
     s.guardOk g = true → s.pourOff = false →
     (let p := product (s.vreg a) (s.vreg b) (if ss then 1 else 0) rm
      let r := satW (roundShift p.1 27 rm)
      exec (.mulv u g d a b ss rm) s = .next (((s.later 3 (macUnit u) (.v d 0 r.1)).setSat r.2).endCycle)) ∧
     (Instr.wf (.mova u g d k rm f h) = true →
       let r := satW (roundShift (s.acc u k).toInt (if f then 29 else 27) rm)
       exec (.mova u g d k rm f h) s =
         .next (((s.later 3 (macUnit u) (.v d (if h then 1 else 0) r.1)).setSat r.2).endCycle)) ∧
     (Instr.wf (.movac u g d k rm h l pd) = true →
       let r := satW (roundShift (s.acc u k).toInt 27 rm)
       let c := clampPair (s.limLo l) (s.limHi l) r.1
       exec (.movac u g d k rm h l pd) s =
         .next ((((s.later 3 (macUnit u) (.v d (if h then 1 else 0) c.1)).later 3 (macUnit u) (.p pd (r.2 || c.2))).setSat
           r.2).endCycle)))

/-- The operations of XU2 complete (03 R95): the result is due twelve cycles on; a saturation sets SAT, at issue (the
model's choice, log entry 130).
03 Table 3-6: whatever the open error is (log entry 9), SQRT stays within one step of the root, RECIP within one of the
quotient and MAG within two of the root of the sum of squares where they do not saturate; SINCOS stays within 4 steps and
ATAN2 within 256 of the values the model computes (log entry 9). The operands with a stated result give it exactly: SQRT of a
negative number, RECIP of 0 and of a magnitude whose reciprocal exceeds the format, MAG above it, ATAN2 of (0, 0).
A command that is one slot operation issues alone and ends its cycle, with the engine powered (20 R538; the model's choices,
log entries 6 and 199). -/
def Obligations.TrigOperationsComplete : Prop :=
  (∀ (s : State) (g : Guard) (d a b : BitVec 6), s.guardOk g = true → s.pourOff = false →
     let put (r : Word × Bool) : Res := .next (((s.later 12 2 (.v d 0 r.1)).setSat r.2).endCycle)
     (d ≠ 63 → exec (.sincos g d a) s =
       .next ((s.later 12 2 (.pair d (xuSin (s.vreg a)) (xuCos (s.vreg a)))).endCycle)) ∧
     exec (.atan2 g d a b) s = put (xuAtan2 (s.vreg a) (s.vreg b)) ∧
     exec (.sqrt g d a) s = put (xuSqrt (s.vreg a)) ∧
     exec (.recip g d a) s = put (xuRecip (s.vreg a)) ∧
     exec (.mag g d a b) s = put (xuMag (s.vreg a) (s.vreg b))) ∧
  ((∀ a : Word, ((xuSin a).toInt - (satTo (-(2 ^ 31)) (2 ^ 31 - 1) (sinBase a)).1).natAbs ≤ 4 ∧
     ((xuCos a).toInt - (satTo (-(2 ^ 31)) (2 ^ 31 - 1) (cosBase a)).1).natAbs ≤ 4) ∧
   (∀ a : Word, a.toInt < 0 → xuSqrt a = (0, true)) ∧ xuRecip 0 = (0x7FFFFFFF, true) ∧ xuAtan2 0 0 = (0, true) ∧
   (∀ a : Word, 0 ≤ a.toInt →
      let k := (xuSqrt a).1.toInt
      let x := a.toInt * 2 ^ 29
      (xuSqrt a).2 = false ∧ (k ≤ 1 ∨ (k - 1) ^ 2 ≤ x) ∧ -1 ≤ k ∧ x ≤ (k + 1) ^ 2) ∧
   (∀ a : Word, a ≠ 0 →
      (0 < a.toInt → (2 ^ 31 - 1) * a.toInt < 2 ^ 58 → xuRecip a = (0x7FFFFFFF, true)) ∧
      (a.toInt < 0 → 2 ^ 31 * -a.toInt < 2 ^ 58 → xuRecip a = (0x80000000, true)) ∧
      ((xuRecip a).2 = false → ((xuRecip a).1.toInt * a.toInt - 2 ^ 58).natAbs ≤ a.toInt.natAbs)) ∧
   (∀ a b : Word,
      let k := (xuMag a b).1.toInt
      let q := a.toInt ^ 2 + b.toInt ^ 2
      ((2 ^ 31 - 1) ^ 2 < q → xuMag a b = (0x7FFFFFFF, true)) ∧
      (q ≤ (2 ^ 31 - 1) ^ 2 → (xuMag a b).2 = false ∧ (k ≤ 2 ∨ (k - 2) ^ 2 ≤ q) ∧ -2 ≤ k ∧ q ≤ (k + 2) ^ 2)) ∧
   (∀ y x : Word, ¬(y = 0 ∧ x = 0) → (xuAtan2 y x).2 = false ∧ ∃ k : Int, (xuAtan2 y x).1 = BitVec.ofInt 32 k ∧
      ((k * twoPi60 - atan2Num y.toInt x.toInt).natAbs : Int) ≤ 256 * twoPi60))

/-- The arithmetic and selection rows of 03 Table 3-7 complete: each result is due at the end of its own cycle (R96).
Logic, shifts and immediates of 03 Table 3-7 complete; SHL saturates, SHR keeps the sign, SHRR rounds half to even,
LDI extends the sign, LUI fills the upper fourteen bits; a saturation sets SAT (02 R73). CLAMP, the compares and the
predicate logic complete; a result for P0 is dropped at its write-back (02 R50).
A command that is one slot operation issues alone and ends its cycle, with the engine powered (20 R538; the model's choices,
log entries 6 and 199). -/
def Obligations.LimitAndLogicOperationsComplete : Prop :=
  (∀ (s : State) (g : Guard) (d a b : BitVec 6) (n : BitVec 2), s.guardOk g = true → s.pourOff = false →
     let x := (s.vreg a).toInt
     let y := (s.vreg b).toInt
     let put (sh : Nat) (r : Word × Bool) : Res := .next (((s.later 1 3 (.v d sh r.1)).setSat r.2).endCycle)
     exec (.add g d a b) s = put 0 (satW (x + y)) ∧
     exec (.sub g d a b) s = put 0 (satW (x - y)) ∧
     exec (.addw g d a b) s = put 0 (s.vreg a + s.vreg b, false) ∧
     exec (.subw g d a b) s = put 0 (s.vreg a - s.vreg b, false) ∧
     exec (.neg g d a) s = put 0 (satW (-x)) ∧
     exec (.abs g d a) s = put 0 (satW (if x < 0 then -x else x)) ∧
     exec (.min g d a b) s = put 0 (if y < x then s.vreg b else s.vreg a, false) ∧
     exec (.max g d a b) s = put 0 (if x < y then s.vreg b else s.vreg a, false) ∧
     exec (.sel g d a b n) s = put 0 (if s.pred (4 + n.toNat) then s.vreg a else s.vreg b, false) ∧
     exec (.mov g d a) s = put 0 (s.vreg a, false) ∧
     (Instr.wf (.push g d a) = true → exec (.push g d a) s = put 1 (s.vreg a, false)) ∧
     (Instr.wf (.subh g d a b) = true → exec (.subh g d a b) s = put 2 (satW (x - y)))) ∧
  (∀ (s : State) (g : Guard) (d a b : BitVec 6) (sh : BitVec 5) (imm : BitVec 14), s.guardOk g = true → s.pourOff = false →
     let x := s.vreg a
     let y := s.vreg b
     let put (r : Word × Bool) : Res := .next (((s.later 1 3 (.v d 0 r.1)).setSat r.2).endCycle)
     exec (.and g d a b) s = put (x &&& y, false) ∧
     exec (.or g d a b) s = put (x ||| y, false) ∧
     exec (.xor g d a b) s = put (x ^^^ y, false) ∧
     exec (.andn g d a b) s = put (x &&& ~~~y, false) ∧
     exec (.shl g d a sh) s = put (satW (x.toInt * 2 ^ sh.toNat)) ∧
     exec (.shr g d a sh) s = put (BitVec.ofInt 32 (x.toInt / 2 ^ sh.toNat), false) ∧
     exec (.shll g d a sh) s = put (x <<< sh.toNat, false) ∧
     exec (.shrl g d a sh) s = put (x >>> sh.toNat, false) ∧
     exec (.shrr g d a sh) s = put (BitVec.ofInt 32 (roundShift x.toInt sh.toNat false), false) ∧
     exec (.ldi g d imm) s = put (BitVec.ofInt 32 imm.toInt, false) ∧
     exec (.lui g d imm) s = put (BitVec.ofNat 32 (imm.toNat * 2 ^ 18), false)) ∧
  (∀ (s : State) (g : Guard) (d a b : BitVec 6) (l bit : BitVec 5) (pd pa pb : BitVec 3), s.guardOk g = true → s.pourOff = false →
     let x := s.vreg a
     let y := s.vreg b
     let put (r : Bool) : Res := .next ((s.later 1 3 (.p pd r)).endCycle)
     (let c := clampPair (s.limLo l) (s.limHi l) x
      exec (.clamp g d a l pd) s = .next (((s.later 1 3 (.v d 0 c.1)).later 1 3 (.p pd c.2)).endCycle)) ∧
     exec (.cmplt g pd a b) s = put (decide (x.toInt < y.toInt)) ∧
     exec (.cmple g pd a b) s = put (decide (x.toInt ≤ y.toInt)) ∧
     exec (.cmpeq g pd a b) s = put (decide (x = y)) ∧
     exec (.cmpne g pd a b) s = put (decide (x ≠ y)) ∧
     exec (.cmpltu g pd a b) s = put (decide (x.toNat < y.toNat)) ∧
     exec (.tstb g pd a bit) s = put (x.getLsbD bit.toNat) ∧
     exec (.pand g pd pa pb) s = put (s.pred pa.toNat && s.pred pb.toNat) ∧
     exec (.por g pd pa pb) s = put (s.pred pa.toNat || s.pred pb.toNat) ∧
     exec (.pxor g pd pa pb) s = put (s.pred pa.toNat != s.pred pb.toNat))

/-- LD, LDX, LDR and TINT complete, whatever word they read: a load is due four cycles on, TINT six (03 R99 to R103); an
index outside its range is clamped and sets IDXCLAMP with EV200 (02 R58, R59), at issue (the model's choice, log entry 130).
R60, R61: a Pour data word with one flipped bit reads right, is counted in ECCC and raises EV202, and stays flipped (the
model's choice, log entry 129); with more it reads 0, sets ECCU and raises EV203, and a TINT that meets it gives 0. An exchange
word has no flipped bits (the model's choice, log entry 83).
A command that is one slot operation issues alone and ends its cycle, with the engine powered (20 R538; the model's choices,
log entries 6 and 199). -/
def Obligations.LoadsAndUpsetWordsComplete : Prop :=
  ∀ (s : State) (g : Guard) (d i : BitVec 6) (addr : BitVec 14) (xofs : BitVec 12) (k : BitVec 4) (r : Rng) (rm : Bool),
    s.guardOk g = true → s.pourOff = false →
    let word (a : Nat) : Word := s.pour.pdm.word (4 * a)
    let flips (a : Nat) : Nat := Sparse.get 0 a s.pour.pdmUpset
    let met (a : Nat) (u : State) : State :=
      if flips a = 0 then u
      else if flips a = 1 then
        ({ u with pour := { u.pour with eccc := if u.pour.eccc = 255 then 255 else u.pour.eccc + 1 } } : State).raise 202
      else ({ u with pour := { u.pour with flags := u.pour.flags ||| 4 } } : State).raise 203
    let got (a : Nat) : Word := if flips a ≤ 1 then word a else 0
    exec (.ld g d addr) s = .next (((met addr.toNat s).later 4 4 (.v d 0 (got addr.toNat))).endCycle) ∧
    exec (.ldx g d xofs) s = .next ((s.later 4 4 (.v d 0 (s.xAct.word xofs.toNat))).endCycle) ∧
    (s.rdesc k = some r →
      let c := clampIdx r (s.vreg i).toInt
      exec (.ldr g d i k) s = .next (((met c.1 (s.setClamped c.2)).later 4 4 (.v d 0 (got c.1))).endCycle)) ∧
    (s.rdesc k = some r → 2 ≤ r.len → 0 ≤ (s.vreg i).toInt → (s.vreg i).toInt < ((r.len : Int) - 1) * 65536 →
      let j := r.base + ((s.vreg i).toInt / 65536).toNat
      let m0 := (word j).toInt
      let m1 := (word (j + 1)).toInt
      exec (.tint g d i k rm) s = .next (((met (j + 1) (met j s)).later 6 4 (.v d 0
        (if flips j ≤ 1 ∧ flips (j + 1) ≤ 1 then
           BitVec.ofInt 32 (m0 + roundShift ((m1 - m0) * ((s.vreg i).toInt % 65536)) 16 rm) else 0))).endCycle)) ∧
    (s.rdesc k = some r → 2 ≤ r.len → (s.vreg i).toInt < 0 →
      exec (.tint g d i k rm) s =
        .next (((met r.base (s.setClamped true)).later 6 4 (.v d 0 (got r.base))).endCycle)) ∧
    (s.rdesc k = some r → 2 ≤ r.len → ((r.len : Int) - 1) * 65536 ≤ (s.vreg i).toInt →
      let past := decide (((r.len : Int) - 1) * 65536 < (s.vreg i).toInt)
      let j := r.base + (r.len - 1)
      exec (.tint g d i k rm) s = .next (((met j (s.setClamped past)).later 6 4 (.v d 0 (got j))).endCycle))

/-- ST, STR, STRC and STX complete: the word stored to is VA, and every byte outside its four reads as before, in the
Pour data memory and in both halves of both exchange buffers; no register changes (02 R46, R54, R58; 03 R99 to R101).
A command that is one slot operation issues alone and ends its cycle, with the engine powered (20 R538; the model's choices,
log entries 6 and 199). -/
def Obligations.StoresWriteOneWord : Prop :=
  ∀ (s : State) (g : Guard) (a i q6 : BitVec 6) (addr : BitVec 14) (xofs : BitVec 12) (k : BitVec 4) (r : Rng)
    (q : BitVec 3) (qi : Bool), s.guardOk g = true → s.pourOff = false → s.memWf = true → s.pour.inflight = [] →
    let stored (e : Nat) (t : State) : Prop :=
      t.pour.pdm.word (4 * e) = s.vreg a ∧ (∀ b, b < 4 * e ∨ 4 * e + 4 ≤ b → t.pour.pdm.get b = s.pour.pdm.get b) ∧
        t.exch.buf0 = s.exch.buf0 ∧ t.exch.buf1 = s.exch.buf1 ∧ t.vreg q6 = s.vreg q6 ∧ t.pour.acc = s.pour.acc ∧
        t.pour.p = s.pour.p ∧ t.memWf = true
    (∃ t, exec (.st g a addr) s = .next t ∧ stored addr.toNat t) ∧
    (s.rdesc k = some r → ∃ t, exec (.str g a i k) s = .next t ∧ stored (clampIdx r (s.vreg i).toInt).1 t) ∧
    (s.rdesc k = some r → (s.pred q.toNat != qi) = true →
      ∃ t, exec (.strc g a i k q qi) s = .next t ∧ stored (clampIdx r (s.vreg i).toInt).1 t) ∧
    (s.rdesc k = some r → (s.pred q.toNat != qi) = false → exec (.strc g a i k q qi) s = .next s.endCycle) ∧
    (2048 ≤ xofs.toNat → ∃ t, exec (.stx g a xofs) s = .next t ∧ t.xAct.word xofs.toNat = s.vreg a ∧
      (∀ b, b < 4 * (xofs.toNat - 2048) ∨ 4 * (xofs.toNat - 2048) + 4 ≤ b → t.xAct.outb.get b = s.xAct.outb.get b) ∧
      t.xAct.inb = s.xAct.inb ∧ t.xInact = s.xInact ∧ t.pour.pdm = s.pour.pdm ∧ t.vreg q6 = s.vreg q6 ∧
      t.pour.acc = s.pour.acc ∧ t.pour.p = s.pour.p ∧ t.memWf = true)

/-- PRD, PWR and PWRI complete on a listed port (02 R63 to R69): a read is due two cycles on, a read of ADRV marks the
result read (10 R313). What the write of each port does (02 Table 2-4): a compare written by its deadline waits for the axis's
next tick frame and one written later for the frame after it (07 R217); with PCTLn.IMM set it is sent at once in the states that
honour an immediate load and is a shadow write with IMMIGN in the others (07 R221, R223); PCTLn holds IMM (07 R220), LINKCTLn is
taken until the deadline (R68), EVSET raises the mould events of its bits (R83), TRACE enters the ring but in FIELD (R69).
A command that is one slot operation issues alone and ends its cycle, with the engine powered (20 R538; the model's choices,
log entries 6 and 199). -/
def Obligations.PortOperationsComplete : Prop :=
  (∀ (s : State) (g : Guard) (d a : BitVec 6) (imm : BitVec 8) (pa : BitVec 12), s.guardOk g = true → s.pourOff = false →
     (portReadable pa.toNat = true →
       exec (.prd g d pa) s = .next (((s.later 2 5 (.v d 0 (s.portWord pa.toNat))).markRead pa.toNat).endCycle)) ∧
     (portWritable pa.toNat = true → exec (.pwr g a pa) s = .next ((s.portWrite pa.toNat (s.vreg a)).endCycle)) ∧
     (portWritable pa.toNat = true →
       exec (.pwri g imm pa) s = .next ((s.portWrite pa.toNat (imm.setWidth 32)).endCycle))) ∧
  (∀ (s : State) (n ch : Fin 4) (w : Word),
     let p := s.pour.ax.get n
     let x : BitVec 20 := w.setWidth 20
     let inTime := p.sent = true ∨ s.tick.cy ≤ s.deadline n
     let cmp := s.portWrite (0x300 + 0x20 * n.val + ch.val) w
     let ports (t : State) (q : PortAx) : Prop := t.pour.ax.get n = q ∧
       (∀ k : Fin 4, k ≠ n → t.pour.ax.get k = s.pour.ax.get k) ∧ t.pour.pdm = s.pour.pdm
     let shadow : PortAx := { p with
       cur := if inTime then p.cur.set ch.val x else p.cur, nxt := if inTime then p.nxt else p.nxt.set ch.val x }
     (p.imm = false → ports cmp shadow ∧ Frame [.pour] s cmp) ∧
     (p.imm = true → (s.axis n).st = .start ∨ (s.axis n).st = .test ∨ (s.axis n).st = .recovery →
       (cmp.pour.ax.get n).immq = p.immq ++ [(ch, x, s.tick.cy)] ∧ (cmp.pour.ax.get n).cur = p.cur ∧
         (cmp.pour.ax.get n).nxt = p.nxt ∧ Frame [.pour] s cmp) ∧
     (p.imm = true → ¬((s.axis n).st = .start ∨ (s.axis n).st = .test ∨ (s.axis n).st = .recovery) →
       ports cmp shadow ∧ (∃ u, cmp = u.raiseDrv n 0 ∧ Frame [.pour] s u) ∧ Frame [.pour, .ax, .evm] s cmp) ∧
     (let t := s.portWrite (0x304 + 0x20 * n.val) w
      ports t { p with imm := w.getLsbD 0 } ∧ Frame [.pour] s t) ∧
     (let t := s.portWrite (0x380 + n.val) w
      ports t { p with linkctl := if p.sent = false ∧ s.tick.cy ≤ s.deadline n then w.setWidth 2 else p.linkctl } ∧
        Frame [.pour] s t)) ∧
  (∀ (s : State) (w : Word),
     (let t := s.portWrite 0x3C0 w
      (∀ j : Nat, j < 256 →
        let hit := decide (208 ≤ j) && decide (j < 216) && w.getLsbD (j - 208)
        t.evm.pendHost.getLsbD j = (s.evm.pendHost.getLsbD j || (hit && s.evm.enIrq.getLsbD j)) ∧
        t.evm.pendMgmt.getLsbD j = (s.evm.pendMgmt.getLsbD j || (hit && s.evm.enMgmt.getLsbD j)) ∧
        t.evm.pour.getLsbD j = (s.evm.pour.getLsbD j || (hit && s.evm.enPour.getLsbD j))) ∧
      Frame raiseParts s t) ∧
     (let t := s.portWrite 0x3D0 w
      let a := 4 * s.pour.trwp.toNat
      (s.lc.st = 2 → t = s) ∧
      (s.lc.st ≠ 2 → t.pour.trwp = s.pour.trwp + 1 ∧ Frame [.pour] s t ∧ t.pour.trrp = s.pour.trrp ∧
        (s.memWf = true → t.pour.trace.word a = w ∧
          (∀ b, b < a ∨ a + 4 ≤ b → t.pour.trace.get b = s.pour.trace.get b)))))

/-- BUNDLE_ISSUE completes (03 R87; 02 R77): with a custom mould in mid-pour and words with at most one flipped bit, each
corrected and counted (02 R60), the slot operations of the bundle at the cursor act in one cycle, its header and opcode bytes
enter the signature, the cursor moves past it, and the next bundle is due after its idle cycles. A word with more flipped bits
ends the pour (02 R62). At XP and after it the bundle finds an ordinary publication swapped in (02 R57); whatever the guards
of its operations are, all its opcode bytes enter the signature (02 R78). A word that belongs to no operation of its unit, which no mould that passed its check holds (03 R90),
stops the model. With no mould, a standard one, or at the end of the pour nothing issues; where no whole bundle is left the
pour ends. The other encodings the mould check rejects stop the model under a name of their own: SC 3 (03 R92), a result past
V63 (R90), a store into the inbound half (R100), a port that is not listed or goes the other way (02 R63), and a descriptor
that is not declared (R90). -/
def Obligations.BundlesIssueAndRejectedEncodingsStop : Prop :=
  (∀ (s : State) (m : MouldInfo) (b : Bundle), s.moulds.active = some m → m.std = none → s.pour.ended = false →
     takeBundle (m.code.drop s.pour.boff) = some b →
     let flips := (List.range (1 + b.slots.length)).map fun j => Sparse.get 0 (s.pour.boff / 4 + j) s.pour.upsets
     let s0 := if m.xp ≤ s.pour.nextCy then s.passXp else s
     let s1 := if s.pour.nextCy = 0 then s0 else s0.advanceTo s.pour.nextCy
     let s2 := s1.fetchCorrect (flips.filter fun k => decide (k = 1)).length
     let sound (l : List (Nat × Word)) : Prop :=
       ∀ x ∈ l, ∃ i, decodeSlot x.1 x.2 = some i ∧ i.wf = true ∧ s.declares i = true
     ((∀ k ∈ flips, k ≤ 1) →
       (∀ t, issueSlots b.slots s2 = .next t →
         exec .bundleIssue s = .next ({ t with pour := { t.pour with
           sig := crcRun t.pour.sig b.stream, boff := t.pour.boff + b.size, nextCy := s.pour.nextCy + 1 + hdrIdle b.hdr
           ended := decide (m.code.length ≤ t.pour.boff + b.size) } }).endCycle) ∧
       (sound b.slots →
         ∃ t, exec .bundleIssue s = .next t ∧ t.pour.boff = s.pour.boff + b.size ∧
           t.pour.nextCy = s.pour.nextCy + 1 + hdrIdle b.hdr ∧ t.pour.sig = crcRun s.pour.sig b.stream ∧
           t.exch.xpPast = (s.exch.xpPast || decide (m.xp ≤ s.pour.nextCy)) ∧
           t.exch.act = (s.exch.act != (decide (m.xp ≤ s.pour.nextCy) && !s.exch.xpPast &&
             decide (s.exch.pub = .ordinary) && !s.exch.swapped))) ∧
       (∀ t, exec .bundleIssue s = .next t → t.pour.sig = crcRun s.pour.sig b.stream) ∧
       (∀ (pre post : List (Nat × Word)) (u : Nat) (w : Word), b.slots = pre ++ (u, w) :: post → sound pre →
         decodeSlot u w = none → exec .bundleIssue s = .fault .undecodableBundle)) ∧
     ((∃ k ∈ flips, 2 ≤ k) → exec .bundleIssue s = .next (({ s1 with pour := { s1.pour with
       ended := true, cutNow := true, flags := s1.pour.flags ||| 4 } } : State).raise 203))) ∧
  (∀ (s : State) (m : MouldInfo),
     (s.moulds.active = none ∨ s.pour.ended = true → exec .bundleIssue s = .next s) ∧
     (s.moulds.active = some m → m.std.isSome = true → exec .bundleIssue s = .next s) ∧
     (s.moulds.active = some m → m.std = none → s.pour.ended = false → takeBundle (m.code.drop s.pour.boff) = none →
       exec .bundleIssue s = .next { s with pour := { s.pour with ended := true } })) ∧
  (∀ (s : State) (u : Bool) (g : Guard) (k : BitVec 2) (d a b : BitVec 6) (rm f : Bool) (xofs pa : BitVec 12) (rd : BitVec 4)
     (imm : BitVec 8) (l : BitVec 5) (pd q : BitVec 3) (qi : Bool) (r : Rng), s.pourOff = false →
     (∀ c ∈ [Instr.mul u g k a b 3 rm, .mac u g k a b 3 rm, .msu u g k a b 3 rm], exec c s = .fault .reservedProductMode) ∧
     (∀ c ∈ [Instr.sincos g 63 a, .push g 63 a, .mova u g 63 k rm f true, .movac u g 63 k rm true l pd, .subh g 62 a b,
       .subh g 63 a b], exec c s = .fault .registerBeyondV63) ∧
     (xofs.toNat < 2048 → exec (.stx g a xofs) s = .fault .inboundStore) ∧
     (portWritable pa.toNat = true → exec (.prd g d pa) s = .fault .portWrongDirection) ∧
     (portReadable pa.toNat = true → ∀ c ∈ [Instr.pwr g a pa, .pwri g imm pa], exec c s = .fault .portWrongDirection) ∧
     (portReadable pa.toNat = false → portWritable pa.toNat = false →
       ∀ c ∈ [Instr.prd g d pa, .pwr g a pa, .pwri g imm pa], exec c s = .fault .portNotListed) ∧
     (s.rdesc rd = none → ∀ c ∈ [Instr.ldr g d a rd, .str g a b rd, .strc g a b rd q qi, .tint g d a rd rm],
       exec c s = .fault .undeclaredDescriptor) ∧
     (s.rdesc rd = some r → r.len < 2 → exec (.tint g d a rd rm) s = .fault .undeclaredDescriptor))

/-! ### The tick, the heat and the exchange buffers (01) -/

/-- R18, R20, 02 R77 to R80: at a tick boundary the last pour closes with its signature in PSIG, and the pair for
MON enters its crossing (log entry 111), the heat index advances (tick 0 of a heat begins at index 0), the position is 0, or the count of a tick
just acquired, and the next pour begins: with no mould no bundle issues (02 R79), with a custom mould bundle 0 issues, a
standard mould reads the safety edge (06 R199) and loads its words (05 R146). POUR.PCNT counts the pour here (the model's
choice, log entry 131). In the modes master and slave GPIO1 begins its pulse (07 R234), whose length the model holds (log entry
81). Stated for axes with nothing to do at the boundary; for their changes see the next statement. -/
def Obligations.TickBoundaryBeginsPour : Prop :=
  ∀ s : State, s.tick.on = true → (s.tick.hidx ≠ 15 ∨ s.tick.atZero = true) → s.tick.acqBase = none → s.mgmt.jobs = [] →
    s.mgmt.clr = none → s.moulds.pend = none → s.std.todo = 0 → (∀ n : Fin 4, (s.axis n).nxt = none ∧ (s.mgmt.jax.get n).req = 0) →
    let c0 := if s.tick.atZero then s.tick.start else 0
    let began (t : State) : Prop :=
      t.tick.hidx = (if s.tick.atZero then s.tick.hidx else s.tick.hidx + 1) ∧ t.tick.atZero = false ∧
        t.tick.start = (if s.tick.atZero then 0 else s.tick.start) ∧ t.tick.heat = s.tick.heat ∧
        t.tick.base = (if s.tick.atZero then s.tick.base else s.tick.base + s.tick.tper) ∧
        t.pour.poured = true ∧
        t.sync = { s.sync with pulse := if s.sync.mode = 0 then 0 else if s.tick.atZero then 48 else 16 }
    let fresh (t : State) : Prop :=
      ∀ n : Fin 4, (t.pour.ax.get n).linkctl = 0 ∧ (t.pour.ax.get n).imm = false ∧ (t.pour.ax.get n).sent = false
    let closed (m : MouldInfo) (sig : Word) (t : State) : Prop :=
      s.pour.poured = true → t.pour.psig = sig ∧ t.pour.psok = decide (sig = m.psigx) ∧ t.pour.psigOld = s.pour.psig ∧
        t.mon.xSig = s.mon.xSig.write (sig, m.psigx)
    (s.moulds.active = none → ∃ t, exec .tickBoundary s = .next t ∧ began t ∧ fresh t ∧ t.tick.cy = c0 ∧
      t.pour.ended = true ∧ t.pour.pcnt = s.pour.pcnt ∧ (s.pour.poured = true → t.pour.psig = 0) ∧
      t.mgmt = { s.mgmt with tickCause := 0 } ∧
      Frame [.fi, .run, .dev, .tick, .pour, .exch, .mgmt, .mon, .evm, .sync] s t) ∧
    (∀ (m : MouldInfo) (b : Bundle), s.moulds.active = some m → m.std = none → 0 < m.xp → takeBundle m.code = some b →
      (∀ n : Fin 4, (s.axis n).st = .disabled) →
      (∀ j, j ≤ b.slots.length → Sparse.get 0 j s.pour.upsets ≤ 1) →
      (∀ x ∈ b.slots, ∃ i, decodeSlot x.1 x.2 = some i ∧ i.wf = true ∧ s.declares i = true) →
      ∃ t, exec .tickBoundary s = .next t ∧ began t ∧ t.tick.cy = c0 + 1 ∧ t.pour.pcnt = s.pour.pcnt + 1 ∧
        t.pour.boff = b.size ∧ t.pour.nextCy = 1 + hdrIdle b.hdr ∧ t.pour.sig = crcRun 0xFFFFFFFF b.stream ∧
        closed m (s.pour.sig ^^^ 0xFFFFFFFF) t ∧ (b.slots = [] → fresh t) ∧
        Frame ([.fi, .run, .pour, .conv, .sync] ++ raiseParts) s t) ∧
    (∀ (m : MouldInfo) (k : Nat), s.moulds.active = some m → m.std = some k → s.pour.upsets = [] →
      (∀ n : Fin 4, (s.axis n).st = .disabled ∧ (s.report n).reacts ≤ (s.mgmt.jax.get n).seen) →
      ∃ t, exec .tickBoundary s = .next t ∧ began t ∧ fresh t ∧ t.tick.cy = c0 ∧ t.pour.ended = true ∧
        t.pour.pcnt = s.pour.pcnt + 1 ∧ closed m m.psigx t ∧ t.std.todo = 0xF ∧ t.std.lat = s.xAct.inId ∧
        t.std.latStep = s.xAct.step ∧ t.conv = { s.conv with adrt := s.conv.adrt &&& 0x7F } ∧
        (s.conv.adrt.getLsbD 7 = true → s.conv.adrt.getLsbD 6 = true → t.std.edge = some s.conv.adrv.toInt) ∧
        (s.conv.adrt.getLsbD 7 = false → t.std.edgeAge = s.std.edgeAge + 1))

/-- R36, R39, R40, Tables 1-6 and 1-8: what a tick boundary does to an axis. A state asked for is taken, and FAULT, RECOVERY and
DISABLED clear EN; leaving FAULT or RECOVERY holds the axis (11 R359). With none asked for, the mould's report decides: a FAULT
cause takes the axis to FAULT, a stop reaction to STOPPING, the end of START to RUN, the end of the motion to HOLD, or to
DISABLED where a RELEASE stops it; and a job chosen for the boundary starts: from DISABLED through START, from HOLD in RUN;
RELEASE takes START and RUN to STOPPING, and ends at once in DISABLED and from HOLD, which it takes to DISABLED; HOLD ends at once
in HOLD. Else the state stays. READY and RUN follow the axes. The words in which a custom mould reports are
not given (log entry 140). Stated where the other axes have no job. -/
def Obligations.AxisStatesChangeAtTheBoundary : Prop :=
  ∀ (s : State) (n : Fin 4), s.tick.on = true → (s.tick.hidx ≠ 15 ∨ s.tick.atZero = true) → s.tick.acqBase = none →
    s.mgmt.clr = none → s.moulds.pend = none → s.std.todo = 0 →
    (s.moulds.active = none ∨
      (∃ m, s.moulds.active = some m ∧ m.std.isSome = true ∧ (s.std.ax.get n).faultT < 2 ∧ s.pour.upsets = []) ∨
      (∃ m b, s.moulds.active = some m ∧ m.std = none ∧ takeBundle m.code = some b ∧ b.slots = [] ∧
        Sparse.get 0 0 s.pour.upsets = 0)) →
    (∀ y ∈ s.mgmt.jobs, y.ax = n) →
    let a := s.axis n
    let r := s.report n
    let new := decide ((s.mgmt.jax.get n).seen < r.reacts)
    let reads := s.moulds.active.isSome && decide (r.no = (s.mgmt.jax.get n).step.no)
    let ends := reads && r.still && decide (r.st = a.st.code) && !new
    let goes (x : AxState) : Prop := ∃ t, exec .tickBoundary s = .next t ∧ (t.axis n).st = x ∧ (t.axis n).nxt = none ∧
      (x ≠ a.st → x = .fault ∨ x = .recovery ∨ x = .disabled →
        (t.axis n).drv.ena = false ∧ (t.axis n).drv.ctrl.getLsbD 0 = false) ∧
      (x ≠ a.st → a.st = .fault ∨ a.st = .recovery → (t.mgmt.jax.get n).held = true)
    let chosen (q : Job) : Prop := (s.jobsOf n).find? (fun y => decide (y.st = .starting)) = some q ∧ s.jobsBarred n = false ∧
      (q.preempts = true ∨ (s.mgmt.jax.get n).held = false) ∧ s.unthrottled n q = true ∧ s.axisDeclared n = true
    let started (q : Job) (x : AxState) : Prop := ∃ t, exec .tickBoundary s = .next t ∧ (t.axis n).st = x ∧
      (∀ y ∈ t.mgmt.jobs, y.seq = q.seq → y.st = .started) ∧
      (t.mgmt.jax.get n).step.no = (s.mgmt.jax.get n).step.no + 1 ∧ (t.mgmt.jax.get n).step.opc = q.opc
    let ended (q : Job) (x : AxState) : Prop := ∃ t, exec .tickBoundary s = .next t ∧ (t.axis n).st = x ∧
      (∀ y ∈ t.mgmt.jobs, y.seq ≠ q.seq) ∧ (t.mgmt.jax.get n).lastSeq = q.seq ∧ (t.mgmt.jax.get n).lastOut = 4
    (∀ x, a.nxt = some x → (reads && (r.fault || new)) = false → ends = false → (a.st = .start → r.startDone = false) → goes x) ∧
    (a.nxt = none →
      (reads && r.fault = true → a.st ≠ .disabled → goes .fault) ∧
      ((reads && r.fault) = false → (s.mgmt.jax.get n).req = 0 → (∀ y ∈ s.jobsOf n, y.st ≠ .starting) →
        (reads && new && r.repStop = true → a.st = .start ∨ a.st = .run → goes .stopping) ∧
        (reads && new = false →
          (reads && r.startDone = true → a.st = .start → goes .run) ∧
          (ends = true → a.st = .run → goes .hold) ∧
          (ends = true → a.st = .stopping → (s.mgmt.jax.get n).step.stop ≠ 10 →
            goes (match s.running n with
              | some q => if q.opc = 0x0305 then .disabled else .hold
              | none => .hold)) ∧
          (ends = false → (reads && r.startDone && decide (a.st = .start)) = false → goes a.st))) ∧
      (reads && (r.fault || new) = false → ends = false → (reads && r.startDone && decide (a.st = .start)) = false →
        ∀ q : Job, chosen q →
          (a.st = .disabled → q.opc ≠ 0x0305 → started q .start) ∧
          (a.st = .hold → q.opc ≠ 0x0305 → q.opc ≠ 0x0303 → started q .run) ∧
          (a.st = .start ∨ a.st = .run → q.opc = 0x0305 → started q .stopping) ∧
          (a.st = .disabled ∨ a.st = .hold → q.opc = 0x0305 → ended q .disabled) ∧
          (a.st = .hold → q.opc = 0x0303 → ended q .hold))) ∧
    (∃ t, exec .tickBoundary s = .next t ∧
      (s.dev = .ready ∨ s.dev = .run → (∀ k, k < 256 → s.evm.qmap.getLsbD k = true → k = 203) →
        t.dev = if t.allDisabled then .ready else .run))

/-- R18, R19: the boundary between tick 15 of a heat and tick 0 of the next puts the heat index to 0 and advances the heat
counter by one, whatever mould runs or is to become active.
R27, 04 R125 to R131, 01 R590: what it does to a pending activation. A stopped one first takes the old mould off, with shadow and
active compares 0, and after the heat with no mould makes its own active, its slot and its memory loaded and both exchange buffers
filled in its layout. A live swap that is armed with its boundary publication swaps slot, buffers and mould, and keeps compares
and memory; without them it waits. A deactivation leaves no mould and is answered. A new mould's registers are 0 but for its
matched entries (02 R52), its sequences and offsets take effect and its pours are counted anew. Stated for a pour that is over.
R19: once the counter has come within 2^23 of the reservation in force, the next ring entry takes the counter plus
2^24; the reservation in force is then at least that. -/
def Obligations.HeatAdvancesActivatesAndIsReserved : Prop :=
  (∀ s : State, s.tick.on = true → s.tick.hidx = 15 → s.tick.atZero = false → s.tick.acqBase = none →
     ∃ t, exec .heatBoundary s = .next t ∧ t.tick.heat = s.tick.heat + 1 ∧ t.tick.hidx = 0 ∧ t.tick.cy = 0 ∧
       t.tick.atZero = true ∧ t.tick.base = s.tick.base + s.tick.tper) ∧
  (∀ s : State, s.tick.on = true → s.tick.hidx = 15 → s.tick.atZero = false → s.tick.acqBase = none → s.std.todo = 0 →
     s.pour.inflight = [] → (∀ k, k < 256 → s.evm.qmap.getLsbD k = true → k = 203) →
     ∀ (m : MouldInfo) (q : Word) (u k : Nat) (h : BitVec 64) (b : Bool),
       let old := s.moulds.active
       let taken (o : Option MouldInfo) (t : State) : Prop :=
         t.moulds.active = some m ∧ t.moulds.pend.map (fun a => (a.phase, a.unmatched, a.heat, a.seq)) =
             some (3, m.unmatched o, s.tick.heat + 1, q) ∧
           t.pour.slot = (!s.pour.slot) ∧ t.pour.pcnt = 0 ∧ t.tick.ofs = m.ofs ∧ t.conv.seqr = m.seqreg ∧
           t.conv.seqi = m.seqinj ∧ t.pour.v = (s.pour.carryRegs m o).v ∧ t.pour.acc = (s.pour.carryRegs m o).acc ∧
           t.pour.p = (s.pour.carryRegs m o).p
       let off (t : State) : Prop := t.moulds.active = none ∧ t.pour.ended = true ∧ t.exch.pub = .none ∧
         t.pour.pdm = s.pour.pdm ∧ (∀ n : Fin 4, (t.axis n).drv.scmp = ⟨0, 0, 0, 0⟩ ∧ (t.axis n).drv.acmp = ⟨0, 0, 0, 0⟩)
       (s.moulds.pend = some ⟨.stopped, some m, 0, q, u, h, k, b⟩ → ∃ t, exec .heatBoundary s = .next t ∧ off t ∧
         t.tick.nextRate = some m.rate ∧ t.moulds.pend = some ⟨.stopped, some m, 2, q, u, h, 0, b⟩) ∧
       (s.moulds.pend = some ⟨.stopped, some m, 2, q, u, h, k, b⟩ → ∃ t, exec .heatBoundary s = .next t ∧
         taken s.moulds.outgoing t ∧ t.pour.pdm = (s.pour.load m s.moulds.outgoing true).pdm ∧
         (m.std = none → (m.par.any fun e => isEvpour e.id) = false →
           t.xAct.inb = fillCustom s m ∧ t.xInact.inb = fillCustom s m)) ∧
       (s.moulds.pend = some ⟨.live, some m, 1, q, u, h, k, b⟩ → s.exch.pub = .boundary → ∃ t, exec .heatBoundary s = .next t ∧
         taken old t ∧ t.exch.act = (!s.exch.act) ∧ t.xAct.inb = s.xInact.inb ∧ t.xAct.inId = s.xInact.inId ∧
         t.pour.pdm = s.pour.pdm ∧ (∀ n : Fin 4, (t.axis n).drv.scmp = (s.axis n).drv.scmp ∧
           (t.axis n).drv.acmp = (s.axis n).drv.acmp)) ∧
       (∀ ph : Nat, s.moulds.pend = some ⟨.live, some m, ph, q, u, h, k, b⟩ → ph ≠ 1 ∨ s.exch.pub ≠ .boundary →
         ∃ t, exec .heatBoundary s = .next t ∧ t.moulds.active = old ∧ t.moulds.pend = s.moulds.pend ∧
           t.exch.act = s.exch.act) ∧
       (∀ o : Option MouldInfo, s.moulds.pend = some ⟨.deact, o, 0, q, u, h, k, false⟩ →
         ∃ t, exec .heatBoundary s = .next t ∧ off t ∧ t.moulds.pend = none ∧ t.tick.nextRate = some s.mgmt.bootRate ∧
           t.mgmt.outlet = s.mgmt.outlet ++ [okReply 0x0405 q (leBytes 8 (s.tick.heat + 1).toNat ++ [0, 0, 0, 0])])) ∧
  (∀ s : State, s.tick.on = true → s.tick.reserved ≤ s.tick.heat.toNat + 2 ^ 23 → s.tick.heat.toNat + 2 ^ 24 < 2 ^ 64 →
     Sparse.wf 0 s.tick.ring = true →
     ∃ t, exec .heatReservation s = .next t ∧ Sparse.get 0 s.tick.ringNext t.tick.ring = s.tick.heat + 0x1000000 ∧
       s.tick.heat.toNat + 2 ^ 24 ≤ t.tick.reserved ∧ t.tick.ringNext = (s.tick.ringNext + 1) % 64 ∧
       t.tick.heat = s.tick.heat ∧ Frame [.tick] s t)

/-- R25 to R28, R590: an ordinary publication swaps the buffers at XP of a tick, once in it (02 R57), and is then cleared; with
none nothing swaps, and neither buffer's contents change at a swap. The command waits for the bundles before XP and does nothing
once XP has passed; where no bundle counts the cycles, XP is then reached (the model's choice, log entry 6). At XP of tick 15 the snapshot of the heat is taken (13 R412). PUBLISH writes the inactive buffer of the
active mould and makes the publication stand; BOUNDARY_PUBLISH makes the boundary publication of an armed live swap, which
replaces an ordinary one still pending, the lock of that one ending with it (the model's choice, log entry 133). With no mould
to publish for they change nothing. -/
def Obligations.ExchangeBuffersSwap : Prop :=
  (∀ (s : State) (m : MouldInfo), s.moulds.active = some m → s.tick.on = true → s.tick.hidx ≠ 15 →
    (s.exch.xpPast = false → s.bundlesCount = false ∨ m.xp ≤ s.pour.nextCy →
      (s.exch.pub = .ordinary → s.exch.swapped = false →
        ∃ t, exec .exchangeSwap s = .next t ∧
          t.exch = { s.exch with act := !s.exch.act, pub := .none, swapped := true, xpPast := true } ∧
          t.tick = (s.reach m.xp).tick ∧ t.pour = (s.reach m.xp).pour ∧
          t.mgmt.outlet = s.mgmt.outlet ∧ t.mgmt.jobs = s.mgmt.jobs ∧ Frame [.exch, .tick, .mgmt, .pour] s t) ∧
      (s.exch.pub ≠ .ordinary ∨ s.exch.swapped = true →
        exec .exchangeSwap s = .next (({ s with exch := { s.exch with xpPast := true } } : State).reach m.xp))) ∧
    (s.exch.xpPast = true ∨ (s.bundlesCount = true ∧ s.pour.nextCy < m.xp) → exec .exchangeSwap s = .next s)) ∧
  (∀ (s : State) (m : MouldInfo), s.moulds.active = some m → s.tick.on = true → s.tick.hidx = 15 →
    s.exch.xpPast = false → s.bundlesCount = false ∨ m.xp ≤ s.pour.nextCy → ∃ t, exec .exchangeSwap s = .next t ∧ t.exch.telem = t.xInact.outb ∧ t.exch.telemHeat = s.tick.heat ∧
      t.exch.act = (s.exch.act != (decide (s.exch.pub = .ordinary) && !s.exch.swapped)) ∧
      t.exch.buf0 = s.exch.buf0 ∧ t.exch.buf1 = s.exch.buf1 ∧ Frame [.exch, .tick, .mgmt, .pour] s t) ∧
  (∀ s : State, (s.moulds.active = none → exec .exchangeSwap s = .next s ∧ exec .publish s = .next s) ∧
    (s.exch.pub ≠ .none → exec .publish s = .next s) ∧ (s.moulds.pend = none → exec .boundaryPublish s = .next s)) ∧
  (∀ (s : State) (m : MouldInfo), s.moulds.active = some m → s.exch.pub = .none →
    ∃ t, exec .publish s = .next t ∧ t.exch.pub = .ordinary ∧ t.exch.act = s.exch.act ∧ t.xAct = s.xAct ∧
      t.xInact = s.filled m s.xInact ∧ t.xInact.outb = s.xInact.outb ∧ t.mgmt.pubWanted = false ∧
      Frame [.exch, .mgmt, .evm] s t) ∧
  (∀ (s : State) (m : MouldInfo) (q : Word) (u k : Nat) (h : BitVec 64) (b : Bool),
    s.moulds.pend = some ⟨.live, some m, 1, q, u, h, k, b⟩ →
    ((s.exch.pub = .boundary ∨ (s.tick.hidx = 15 ∧ 0 < s.tick.cy)) → exec .boundaryPublish s = .next s) ∧
    ((s.tick.hidx ≠ 15 ∨ s.tick.cy = 0) → s.exch.pub ≠ .boundary →
      ∃ t, exec .boundaryPublish s = .next t ∧ t.exch.pub = .boundary ∧ t.exch.act = s.exch.act ∧
        t.xAct = s.xAct ∧ t.xInact = s.filled m s.xInact ∧ t.xInact.outb = s.xInact.outb ∧ Frame [.exch, .mgmt, .evm] s t))

/-! ### Registers, groups, locks and mailboxes (15) -/

/-- R436, R437: a read of the first word of a status group returns it and latches the group's later words for this master,
so that they read back together whatever happens meanwhile; nothing else changes. The trace read returns the word at TRRP
and advances it, but not in FIELD (19 R525). -/
def Obligations.GroupReadsLatch : Prop :=
  ∀ (s : State) (m : Master) (n : Fin 4), s.canAccess m = true → Sparse.wf 0 s.latch = true →
    let first (c : Instr) (a : Nat) : Prop :=
      ∃ t, exec c s = .next t ∧ t.rdata = s.regWord m a ∧
        (∀ b ∈ groupOf a, Sparse.get 0 (latchKey m b) t.latch = s.regWord m b ∧ (t.regRead m b).1 = s.regWord m b) ∧
        Frame [.rdata, .latch] s t
    first (.heat0Read m) 0x108 ∧ first (.pourStatRead m) 0x6000 ∧ first (.pwmStatRead m n) (0x1008 + 0x400 * n.val) ∧
    first (.sensMean0Read m n) (0x1210 + 0x400 * n.val) ∧ first (.adrvRead m) 0x3010 ∧ first (.fiStateRead m) 0x3480 ∧
    first (.thTemp0Read m) 0x4000 ∧ first (.monFaultRead m) 0x4400 ∧
    (∃ t, exec (.trdataRead m) s = .next t ∧ t.rdata = s.regWord m 0x500C ∧
      t.pour.trrp = (if s.lc.st = 2 then s.pour.trrp else s.pour.trrp + 1) ∧ Frame [.rdata, .pour] s t)

/-- 00 R8, R11; 13 R396; 17 Tables 17-6, 17-7; 02 R85; 15 R450, R454: a register write reaches its register with its
reserved bits discarded, a write of 1 clears a flag, the quench map keeps EV203 and its lock, and a write of the host
outside the permitted set of FIELD changes nothing but the next STATUS byte, and of a word that no register occupies nothing
at all (13 R408; its precedence is the model's choice, log entry 132).
R442, R454, R453: a write of 1 to MBLOCK.LOCK or to the quench map's lock sets it, and once set it stays; a GPIO pulse
ends with its pin low, and the microsecond in which an occurrence still merges then ends (log entry 68). -/
def Obligations.RegisterWritesLand : Prop :=
  (∀ (s : State) (m : Master) (val : Word), s.canAccess m = true →
     (s.mayWrite m 0x4068 = true →
       exec (.registerWrite m 0x4068 val) s = .next { s with th := { s.th with cfg := val &&& 0xFFFF } }) ∧
     (s.mayWrite m 0x6010 = true → exec (.registerWrite m 0x6010 val) s =
       .next { s with pour := { s.pour with flags := s.pour.flags &&& ~~~(val.setWidth 3) } }) ∧
     (s.mayWrite m 0x3800 = true → exec (.registerWrite m 0x3800 val) s =
       .next { s with spr := { s.spr with cfg := val &&& 0x00FF1F07 } }) ∧
     (s.mayWrite m 0x2A0 = true → s.evm.qlock = true → exec (.registerWrite m 0x2A0 val) s = .next s) ∧
     (s.mayWrite m 0x2B8 = true → s.evm.qlock = false → exec (.registerWrite m 0x2B8 val) s =
       .next { s with evm := { s.evm with qmap := setEvWord s.evm.qmap 6 val ||| bitB 256 203 } }) ∧
     (∀ a : BitVec 16, a.toNat % 4 = 0 → a.toNat < 0x8000 → s.mayWrite m a.toNat = false →
       exec (.registerWrite m a val) s =
         .next (if occupied a.toNat then { s with spr := { s.spr with flg := s.spr.flg ||| 1 } } else s))) ∧
  (∀ (s : State) (m : Master) (val : Word) (k : Fin 8), s.canAccess m = true →
     (s.mayWrite m 0x4C0 = true → val.getLsbD 0 = true →
       exec (.mblockWrite m val) s = .next { s with mail := { s.mail with lock := true } }) ∧
     (s.mayWrite m 0x340 = true → val.getLsbD 0 = true →
       exec (.qlockWrite m val) s = .next { s with evm := { s.evm with qlock := true } }) ∧
     (∀ (c : Instr) (t : State), c = .mblockWrite m val ∨ c = .qlockWrite m val → exec c s = .next t →
       (s.mail.lock = true → t.mail.lock = true) ∧ (s.evm.qlock = true → t.evm.qlock = true)) ∧
     (s.evm.pulse.getLsbD k.val = true →
       ∃ t, exec (.gpioPulseEnd k) s = .next t ∧ t.evm.pulse.getLsbD k.val = false ∧ t.evm.pin.getLsbD k.val = false ∧
         t.evm.after.getLsbD k.val = true ∧
         (∀ j : Fin 8, j ≠ k → t.evm.pin.getLsbD j.val = s.evm.pin.getLsbD j.val) ∧ Frame [.evm] s t) ∧
     (s.evm.pulse.getLsbD k.val = false →
       ∃ t, exec (.gpioPulseEnd k) s = .next t ∧ t.evm.after.getLsbD k.val = false ∧ t.evm.pin = s.evm.pin ∧
         t.evm.pulse = s.evm.pulse ∧ Frame [.evm] s t))

/-- R437: reading a free lock makes the reader its owner and returns 0; a read of an owned one returns its owner's ID, which
is the reader's own where it owns the lock, and changes nothing. POUR accesses no lock: no slot operation changes one. -/
def Obligations.LockReadsAcquire : Prop :=
  (∀ (s : State) (m : Master) (k : Fin 16), s.canAccess m = true →
    (s.locks.owner.get k = 0 → exec (.lockRead m k) s =
      .next { s with
        rdata := 0
        locks := { s.locks with owner := s.locks.owner.set k.val (BitVec.ofNat 4 (Master.id m)) k.isLt } }) ∧
    (s.locks.owner.get k ≠ 0 →
      exec (.lockRead m k) s = .next { s with rdata := (s.locks.owner.get k).setWidth 32 }) ∧
    (s.locks.owner.get k = BitVec.ofNat 4 (Master.id m) →
      exec (.lockRead m k) s = .next { s with rdata := BitVec.ofNat 32 (Master.id m) })) ∧
  (∀ (i : Instr) (s t : State), isSlotOp i = true → exec i s = .next t → t.locks = s.locks)

/-- R438: the owner's write of 0 frees a lock; any other write is ignored and sets BADREL.
R443 to R446: an endpoint's DATA write enters its send slot while TXFULL is 0; the doorbell makes the message stand and
raises the channel's event; ACK by the peer consumes it, and its time-out goes with it (the model's choice, log entry 14); a
time-out marks it; CANCEL after the time-out takes it back and tells the peer. A master that is not bound to the channel changes
only the denial flag. -/
def Obligations.LocksReleaseAndMailboxesPass : Prop :=
  (∀ (s : State) (m : Master) (k : Fin 16) (val : Word), s.canAccess m = true → s.mayWrite m (lockAddr k) = true →
    (s.locks.owner.get k = BitVec.ofNat 4 (Master.id m) → fld val 3 0 = 0 →
      exec (.lockRelease m k val) s =
        .next { s with locks := { s.locks with owner := s.locks.owner.set k.val 0 k.isLt } }) ∧
    (¬(s.locks.owner.get k = BitVec.ofNat 4 (Master.id m) ∧ fld val 3 0 = 0) →
      exec (.lockRelease m k val) s = .next { s with locks := { s.locks with err := s.locks.err ||| bitB 32 k.val } })) ∧
  (∀ (s : State) (m : Master) (ch i : Fin 16) (val : Word) (b : Bool), s.canAccess m = true →
    s.mayWrite m (mbAddr ch 0) = true → s.mayWrite m (mbAddr ch 0x40) = true →
    let c := s.mail.ch.get ch
    let put (x : MbCh) : State := { s with mail := { s.mail with ch := s.mail.ch.set ch.val x ch.isLt } }
    let denied : State := { s with locks := { s.locks with err := s.locks.err ||| bitB 32 (16 + ch.val) } }
    (s.mbEnd m ch = some b →
      ((c.side b).txfull = false →
        exec (.mbDataWrite m ch i val) s =
          .next (put (c.setSide b { c.side b with slot := (c.side b).slot.set i.val val i.isLt })) ∧
        exec (.mbDoorbell m ch) s =
          .next ((put (c.setSide b { c.side b with txfull := true, timer := true })).raise (216 + ch.val))) ∧
      ((c.side b).txfull = true →
        exec (.mbDataWrite m ch i val) s = .next (put (c.setSide b { c.side b with flag := (c.side b).flag ||| 4 })) ∧
        exec (.mbDoorbell m ch) s = .next (put (c.setSide b { c.side b with flag := (c.side b).flag ||| 4 }))) ∧
      ((c.side !b).txfull = true → exec (.mbAck m ch) s =
        .next ((put (c.setSide (!b) { c.side (!b) with
          txfull := false, txto := false, timer := false, flag := (c.side (!b)).flag ||| 1 })).raise (216 + ch.val))) ∧
      ((c.side !b).txfull = false → exec (.mbAck m ch) s = .next s) ∧
      ((c.side b).txto = true → exec (.mbCancel m ch) s =
        .next ((put ((c.setSide b { c.side b with txfull := false, txto := false, timer := false }).setSide (!b)
          { c.side (!b) with flag := (c.side (!b)).flag ||| 2 })).raise (216 + ch.val))) ∧
      ((c.side b).txto = false → exec (.mbCancel m ch) s = .next s)) ∧
    (s.mbEnd m ch = none → exec (.mbDataWrite m ch i val) s = .next denied ∧ exec (.mbDoorbell m ch) s = .next denied ∧
      exec (.mbAck m ch) s = .next denied ∧ exec (.mbCancel m ch) s = .next denied) ∧
    ((c.side b).timer = true → (c.side b).txfull = true → fld c.bind 15 8 ≠ 0 → exec (.mbTimeout ch b) s =
      .next ((put (c.setSide b { c.side b with txto := true, timer := false })).raise (216 + ch.val))) ∧
    (fld c.bind 15 8 = 0 → exec (.mbTimeout ch b) s = .next s))

/-! ### Events and crossings (15 R449 to R453, 16 R459, R460) -/

/-- R449, R450: an event raised in SYS enters each bank whose enable bit is 1, and no other event's bit changes; one
mapped to quench also takes the device from READY or RUN to SAFE with cause 3 and requests the quench.
16 R460: a crossing delivers one queued occurrence and counts it off: an event of SNS or of MON is raised in SYS, an event for
MON enters its bank; the counters stand under the keys of log entry 67. R588: the drive die counts each occurrence behind those
that came before; with its counter at 255 it is dropped and its overflow bit is set; a word enters the free lanes in order of
arrival, behind a sense or a status frame (log entry 181), and its occurrence is delivered when it arrives.
R459: a value crossing brings the value held for it, and holds the next where one was written meanwhile; which values cross so
is the model's choice (log entry 32), and the signature comes when it is readable at cy 64 (log entry 111). -/
def Obligations.EventsReachTheirBanks : Prop :=
  (∀ (s : State) (k : Nat), k < 256 →
     let t := s.raise k
     (∀ j : Nat, j < 256 →
       t.evm.pendHost.getLsbD j = (s.evm.pendHost.getLsbD j || (decide (j = k) && s.evm.enIrq.getLsbD k)) ∧
       t.evm.pendMgmt.getLsbD j = (s.evm.pendMgmt.getLsbD j || (decide (j = k) && s.evm.enMgmt.getLsbD k)) ∧
       t.evm.pour.getLsbD j = (s.evm.pour.getLsbD j || (decide (j = k) && s.evm.enPour.getLsbD k))) ∧
     (s.evm.qmap.getLsbD k = false → Frame [.evm, .mgmt] s t) ∧
     (s.evm.qmap.getLsbD k = true → t.mon.req = true ∧
       (s.dev = .ready ∨ s.dev = .run → t.dev = .safe ∧ t.safecause = 3)) ∧
     Frame raiseParts s t) ∧
  ((∀ (s : State) (k : BitVec 8),
     let e := k.toNat
     let off (key : Nat) : State :=
       { s with evm := { s.evm with cnt := Sparse.put 0 key (Sparse.get 0 key s.evm.cnt - 1) s.evm.cnt } }
     (0 < Sparse.get 0 (256 + e) s.evm.cnt → exec (.eventCrossingDelivery k) s = .next ((off (256 + e)).raise e)) ∧
     (Sparse.get 0 (256 + e) s.evm.cnt = 0 → 0 < Sparse.get 0 (512 + e) s.evm.cnt →
       exec (.eventCrossingDelivery k) s = .next ((off (512 + e)).raise e)) ∧
     (Sparse.get 0 (256 + e) s.evm.cnt = 0 → Sparse.get 0 (512 + e) s.evm.cnt = 0 → 0 < Sparse.get 0 e s.evm.cnt →
       exec (.eventCrossingDelivery k) s =
         .next { off e with evm := { (off e).evm with pendMon := s.evm.pendMon ||| bitB 256 e } })) ∧
   (∀ (s : State) (n : Fin 4) (j : Fin 40),
     let a := s.axis n
     let u := s.upNext n
     ((u.axis n).evWords = a.evWords ∧ Frame [.ax] s u ∧ (∀ k : Fin 4, k ≠ n → u.axis k = s.axis k) ∧
       (s.upBusy n = true ∨ a.upOn ≠ none → u = s) ∧
       (s.upBusy n = false → a.upOn = none → (u.axis n).upOn = a.evWords.head?)) ∧
     (s.linkDown n = false → (u.axis n).upOn = some j.val → exec (.drvEventWord n j) s =
       .next (((u.setAxis n { u.axis n with upOn := none }).raise (40 * n.val + j.val)).upNext n)) ∧
     (s.linkDown n = true ∨ (u.axis n).upOn ≠ some j.val → exec (.drvEventWord n j) s = .next u) ∧
     (a.evPend j.val < 255 → ((s.raiseDrv n j.val).axis n).evWords = a.evWords ++ [j.val] ∧
       (∀ k : Fin 4, k ≠ n → (s.raiseDrv n j.val).axis k = s.axis k) ∧ Frame [.ax] s (s.raiseDrv n j.val)) ∧
     (255 ≤ a.evPend j.val → s.raiseDrv n j.val =
       { s with evm := { s.evm with ovf := s.evm.ovf ||| bitB 256 (axEv n j.val) } })) ∧
   (∀ s : State,
     let m := s.mon
     (∀ v, m.xDev.hold = some v → exec (.valueCrossingTransfer 0) s = .next { s with mon := { m with
       dev := v, xDev := if m.xDev.again then { hold := some s.dev } else {} } }) ∧
     (∀ v, m.xHeat.hold = some v → exec (.valueCrossingTransfer 1) s = .next { s with mon := { m with
       heat := v, xHeat := if m.xHeat.again then { hold := some s.tick.heat } else {} } }) ∧
     (∀ v, m.xSig.hold = some v → exec (.valueCrossingTransfer 2) s = .next { s.reachXp 64 with mon := { m with
       sigRx := v.1, expRx := v.2, sigNew := true
       xSig := if m.xSig.again then { hold := some (s.pour.psig, s.pour.psigxPrev) } else {} } }) ∧
     (∀ v, m.xVb.hold = some v → exec (.valueCrossingTransfer 3) s = .next { s with mon := { m with
       vbLast := v, xVb := if m.xVb.again then { hold := some m.vbOut } else {} } }) ∧
     (m.xDev.hold = none → exec (.valueCrossingTransfer 0) s = .next s) ∧
     (m.xHeat.hold = none → exec (.valueCrossingTransfer 1) s = .next s) ∧
     (m.xSig.hold = none → exec (.valueCrossingTransfer 2) s = .next s) ∧
     (m.xVb.hold = none → exec (.valueCrossingTransfer 3) s = .next s) ∧
     exec (.valueCrossingTransfer 4) s = .next s ∧ exec (.valueCrossingTransfer 5) s = .next s))

/-! ### The standard moulds (05, 06) -/

/-- R158, R204, R205; 05 Table 5-3: under a standard mould the tick frame of an axis finds the axis's step of this pour done, once
in the pour. The step loads the job step of the pour, reports in the outbound half and counts the pours since a FAULT cause; with
such a cause all four compares of the frame are 0. In DISABLED, FAULT, TEST and RECOVERY it clears every compensator and leaves
the trajectory at rest on the measured position. The other axes keep their state. A bad frame keeps the shadows (16 R467).
R181: a trajectory step keeps the speed within its limit and the change of acceleration within JMAX, and ends the motion at rest
on the target once it is within a unit of it at a speed of JMAX or less. That the step has run by then is the model's reading
(log entry 201). -/
def Obligations.StandardMouldStepsItsAxis : Prop :=
  (∀ (s : State) (m : MouldInfo) (k : Nat) (n : Fin 4) (eye : Int), s.moulds.active = some m → m.std = some k →
     s.linkDown n = false → (s.pour.ax.get n).sent = false → (s.pour.ax.get n).linkctl.getLsbD 0 = false →
     let o := s.std.ax.get n
     let st := (s.axis n).st
     (s.std.todo.getLsbD n.val = false → ∃ t, exec (.tickFrame n true eye) s = .next t ∧ t.std = s.std) ∧
     (s.std.todo.getLsbD n.val = true → ∃ t, exec (.tickFrame n true eye) s = .next t ∧
       (let u := t.std.ax.get n
        t.std.todo = s.std.todo &&& ~~~(bitB 4 n.val) ∧ (∀ j : Fin 4, j ≠ n → t.std.ax.get j = s.std.ax.get j) ∧
        t.std.lat = s.std.lat ∧ t.std.latStep = s.std.latStep ∧ (t.pour.ax.get n).sent = true ∧
        (u.faulting = true → (t.axis n).drv.scmp = ⟨0, 0, 0, 0⟩) ∧
        u.faultT = (if u.faulting then o.faultT + 1 else 0) ∧ u.stLast = st.code ∧ t.xAct.rep.get n = u.report st ∧
        (st = .disabled ∨ st = .fault ∨ st = .test ∨ st = .recovery →
          u.stepNo = (s.std.latStep.get n).no ∧ u.v = 0 ∧ u.a = 0 ∧ u.p = u.pos * 2 ^ 32 ∧ u.target = u.pos ∧
          u.moving = false ∧ u.cPos = {} ∧ u.cSpd = {} ∧ u.cD = {} ∧ u.cQ = {} ∧ u.cBus = {} ∧ u.iqRef = 0 ∧
          (st ≠ .test → u.faulting = false))) ∧
       Frame ([.std, .pour] ++ raiseParts) s t ∧
       ∃ b, exec (.tickFrame n false eye) s = .next b ∧ b.std = t.std ∧ (b.axis n).drv.scmp = (s.axis n).drv.scmp)) ∧
  (∀ (dl jmax vmax amax : Int) (m : Mot), 0 ≤ jmax → 0 ≤ vmax →
     let u := m.trajStep dl jmax vmax amax
     let there := u.p = m.target * 2 ^ 32 ∧ u.v = 0 ∧ u.a = 0 ∧ u.moving = false ∧ u.done = true
     (u.v.natAbs : Int) ≤ vmax ∧ (((u.a - m.a).natAbs : Int) ≤ jmax ∨ there) ∧ (m.vcmd ≠ none → u.moving = m.moving) ∧
     (m.vcmd = none → (m.target * 2 ^ 32 - u.p).natAbs ≤ 2 ^ 32 → (u.v.natAbs : Int) ≤ jmax → there))

/-! ### The Plind links (16) and the sync chain (07) -/

/-- 07 R217, 16 R464, R467: under a custom mould or none, a good tick frame enters the compares that waited for it into the
shadows (HOLDPREV keeps them), brings the heat word and clears the count of bad frames; a bad one keeps the shadows, counts, and
raises DNBAD, and the second in a row LINKFLT; either way writes that came after the deadline go into the next frame. MGMT sees
the count in the next status frame. R466: at the header the die's receiver moves its sample point by one step toward the centre of
the eye; beyond 32 steps it slips by a cycle, which is counted and raised, and re-centres (its place is an operand, log entry
167). A test may ask for its injection by the frame as well (log entry 182). -/
def Obligations.TickFramesLoadShadows : Prop :=
  ∀ (s : State) (n : Fin 4) (good : Bool) (eye : Int), (∀ m, s.moulds.active = some m → m.std = none) → s.linkDown n = false →
    (s.pour.ax.get n).sent = false →
    let p := s.pour.ax.get n
    let a := s.axis n
    let q := a.link.phd.toInt + (if a.link.phd.toInt < eye then 1 else if eye < a.link.phd.toInt then -1 else 0)
    ∃ t, exec (.tickFrame n good eye) s = .next t ∧
      (t.axis n).drv = { a.drv with
        scmp := if good && !p.linkctl.getLsbD 0 then p.cur.load a.drv.scmp else a.drv.scmp } ∧
      (t.axis n).dnRun = (if good then 0 else a.dnRun + 1) ∧
      (t.axis n).sense.tinjNext = (good && (p.linkctl.getLsbD 1 || s.testInjects n)) ∧ (t.axis n).dieBadL = !good ∧
      (t.axis n).dieBad = (if good then a.dieBad else a.dieBad + 1) ∧
      (t.axis n).link = { a.link with
        phd := if 32 < q.natAbs then 0 else BitVec.ofInt 8 q
        slips := if 32 < q.natAbs then sat8 a.link.slips else a.link.slips
        heatRx := if good then s.heatWord else a.link.heatRx } ∧
      (a.evPend 23 < 255 → a.evPend 20 < 255 → a.evPend 22 < 255 → (t.axis n).evWords = a.evWords ++
        (if 32 < q.natAbs then [23] else []) ++ (if good then [] else [20]) ++
        (if !good && decide (1 ≤ a.dnRun) then [22] else [])) ∧
      (t.pour.ax.get n).cur = p.nxt ∧ (t.pour.ax.get n).nxt = {} ∧ (t.pour.ax.get n).sent = true ∧
      (∀ k : Fin 4, k ≠ n → t.axis k = s.axis k) ∧ Frame [.pour, .ax, .evm] s t

/-- 07 R221, 16 R467: the oldest immediate message changes the active compare of its channel at its stamped count and no
shadow; a bad one is discarded and counted; one waits while the tick frame that was due before it has not left (R464).
16 R464, R467, R468; 07 R245: the oldest register message is applied once, behind the immediate messages and a tick frame that was
due, and its acknowledge goes up behind the event words that came before (R588), which takes it off CTL's list. A configuration
write in DISABLED or TEST waits for the wrap; in any other state it is refused with CFGREJ. A message whose acknowledge is missing
is sent again three times; then it is dropped and REGFAIL is raised; an acknowledge under way then is dropped too (the model's
choice, log entry 197). -/
def Obligations.LinkMessagesApply : Prop :=
  (∀ (s : State) (n ch : Fin 4) (x : BitVec 20) (cy : Nat) (rest : List (Fin 4 × BitVec 20 × Nat)),
     (s.pour.ax.get n).immq = (ch, x, cy) :: rest →
     (s.behindFrame n cy = true → exec (.immediateMessage n true) s = .next s ∧ exec (.immediateMessage n false) s = .next s) ∧
     (s.behindFrame n cy = decide (s.tick.on = true ∧ (s.pour.ax.get n).sent = false ∧ s.deadline n < s.tick.cy ∧
       s.deadline n < cy)) ∧
     (s.behindFrame n cy = false → s.linkDown n = false →
     (∃ t, exec (.immediateMessage n true) s = .next t ∧ (t.axis n).drv.acmp = (s.axis n).drv.acmp.set ch x ∧
       (t.axis n).drv.scmp = (s.axis n).drv.scmp ∧ (t.pour.ax.get n).immq = rest ∧ Frame [.pour, .ax] s t) ∧
     (∃ t, exec (.immediateMessage n false) s = .next t ∧ (t.axis n).drv.acmp = (s.axis n).drv.acmp ∧
       (t.axis n).link.immlost = sat8 (s.axis n).link.immlost ∧ (t.pour.ax.get n).immq = rest ∧
       Frame [.pour, .ax, .evm] s t))) ∧
  (∀ (s : State) (n : Fin 4) (m : RegMsg) (rest : List RegMsg),
     let u := s.upNext n
     let a := u.axis n
     a.regq = m :: rest →
     let waits := s.linkDown n || (s.pour.ax.get n).immFirst || m.arr || s.behindFrame n m.since
     let off : State := { u with pour := { u.pour with ax := u.pour.ax.set n { u.pour.ax.get n with regOn := false } } }
     let here := off.setAxis n { a with regq := { m with arr := true } :: rest }
     let acked (t : State) : State := (t.setAxis n { t.axis n with evq := (t.axis n).evq ++ [.ack] }).upNext n
     (waits = false →
       (isAxisConfig m.addr = true → a.st = .disabled ∨ a.st = .test → exec (.registerMessage n) s =
         .next (acked (here.setAxis n { here.axis n with cfgq := a.cfgq ++ [(m.addr, m.val)] }))) ∧
       (isAxisConfig m.addr = true → ¬(a.st = .disabled ∨ a.st = .test) → exec (.registerMessage n) s =
         .next (acked (here.raiseDrv n 6))) ∧
       (m.addr = 0x040 → exec (.registerMessage n) s = .next (acked (here.tflagWrite n (m.val.setWidth 13))))) ∧
     (waits = true → exec (.registerMessage n) s = .next u) ∧
     (s.linkDown n = false → m.tries < 3 → exec (.registerAckTimeout n) s = .next (u.setAxis n { a with
       regq := { m with tries := m.tries + 1, since := s.tick.cy, arr := false } :: rest
       evq := a.evq.filter (· ≠ .ack) })) ∧
     (s.linkDown n = false → 3 ≤ m.tries → exec (.registerAckTimeout n) s =
       .next ((u.setAxis n { a with regq := rest, evq := a.evq.filter (· ≠ .ack) }).raise (40 * n.val + 25))) ∧
     (s.linkDown n = true → exec (.registerAckTimeout n) s = .next s)) ∧
  (∀ (s : State) (n : Fin 4), (s.axis n).upOn = none → s.upBusy n = false → (s.axis n).evq = [.ack] →
     s.upNext n = s.setAxis n { s.axis n with evq := [], regq := (s.axis n).regq.drop 1 })

/-- 09 R288, 16 R467, R468: all words of a good sense frame reach the ports, SENSn and SSTAT together; a bad one leaves
them and counts, and the second in a row raises LINKFLT; a status frame brings every mirrored word but those of SENSn, and a bad
one brings nothing but counts in the row too (the model's choice, log entry 180). A frame that CTL receives steps its sample point as R466 says.
09 R283 to R285, R291 to R294: with WLEN 0 the window is the whole period, else it starts at WSTART and is cut at the end
of the period; the mean is the sum over the window rounded to the nearest; a lost modulator clock or a stuck bitstream sets its
flag, and the event is raised when the flag was 0; a channel whose loss of clock or stuck stream fell in the window repeats its
last results. -/
def Obligations.SenseDataArrives : Prop :=
  (∀ (s : State) (n : Fin 4) (w : SenseWords) (mv eye : Int), s.linkDown n = false →
     let a := s.axis n
     let r := s.slipUp n eye
     ((r.axis n).link.phu, (r.axis n).link.slips) =
       (if (track a.link.phu eye).2 then (0, sat8 a.link.slips) else ((track a.link.phu eye).1, a.link.slips)) ∧
     (a.sense.frame = some w →
       ∃ t, exec (.senseFrame n true eye) s = .next t ∧ (t.pour.ax.get n).sens = w.sens ∧
         (t.pour.ax.get n).sstat = w.sstat ∧ (t.pour.ax.get n).gstat = w.gstat ∧ (t.axis n).sense.mean = w.mean ∧
         (t.axis n).sense.sstat = w.sstat ∧ (t.axis n).upRun = 0 ∧ (t.axis n).drv = a.drv ∧
         Frame (.pour :: raiseParts) s t) ∧
     (∃ t, exec (.senseFrame n false eye) s = .next t ∧ t.pour = s.pour ∧ (t.axis n).upRun = a.upRun + 1 ∧
       (t.axis n).link.upbadl = true ∧ (t.axis n).link.upbad = sat8 a.link.upbad ∧
       (t.axis n).sense.mean = a.sense.mean ∧ Frame raiseParts s t) ∧
     (∃ t, exec (.statusFrame n (some mv)) s = .next t ∧ (t.axis n).mir = a.drv.withSens a.mir ∧
       (t.axis n).statIn = true ∧ (t.axis n).link.vcore = mv ∧ (t.axis n).link.dnbadl = a.dieBadL ∧ (t.axis n).upRun = 0 ∧
       (t.axis n).link.dnbad.toNat = Nat.min 255 (a.link.dnbad.toNat + a.dieBad) ∧
       (t.axis n).drv = a.drv ∧ Frame [.ax] s t) ∧
     (exec (.statusFrame n none) s = .next (({ s with ax := s.ax.set n { a with
       upRun := a.upRun + 1, statIn := true } } : State).raiseIf
       (decide (1 ≤ a.upRun)) (40 * n.val + 22)))) ∧
  (∀ (s : State) (n : Fin 4) (ph : Phase) (c : Fin 7) (time : Nat) (bits : List ChanBits), s.appOn = true →
     let a := s.axis n
     (∃ t, exec (.modulatorLostClock n ⟨ph, time⟩) s = .next t ∧ (t.axis n).drv.slost = a.drv.slost ||| bitB 3 (phIx ph) ∧
       (t.axis n).sense.lossAt = a.sense.lossAt ++ [(phIx ph, time)] ∧
       (a.evPend 16 < 255 → (t.axis n).evWords = a.evWords ++ (if a.drv.slost.getLsbD (phIx ph) then [] else [16])) ∧ Frame [.ax, .evm] s t) ∧
     (∃ t, exec (.bitstreamStuck n ⟨c, time⟩) s = .next t ∧ (t.axis n).drv.sstuck = a.drv.sstuck ||| bitB 7 c.val ∧
       (t.axis n).sense.stuckAt = a.sense.stuckAt ++ [(c.val, time)] ∧
       (a.evPend 17 < 255 → (t.axis n).evWords = a.evWords ++ (if a.drv.sstuck.getLsbD c.val then [] else [17])) ∧ Frame [.ax, .evm] s t) ∧
     ((∃ x ∈ a.losses bits c.val ++ a.sticks bits c.val, a.inWindow x.1 (x.2.getD a.per) = true) → ∀ j : Fin 4,
       (a.reduce n bits).sens[4 * c.val + j.val]! = a.sense.lastV[4 * c.val + j.val]! ∧
       (a.reduce n bits).mean[c.val]! = a.sense.lastMean[c.val]! ∧ (a.reduce n bits).sstat.getLsbD (6 + c.val) = true) ∧
     (fld a.drv.swin 15 8 = 0 → a.window = (0, a.per / 10)) ∧
     (fld a.drv.swin 15 8 ≠ 0 → a.window =
       (8 * fld a.drv.swin 7 0, Nat.min (8 * fld a.drv.swin 7 0 + 8 * fld a.drv.swin 15 8) (a.per / 10))) ∧
     (∀ (sum : Int) (len : Nat), 0 < len → -(2 ^ 17) * len ≤ sum → sum < 2 ^ 17 * len →
       (2 * (meanOf sum len * len - sum * 64)).natAbs ≤ len ∨ meanOf sum len = 2 ^ 23 - 1))

/-- 07 R233 to R236, 18 R494: a chain pulse ends a run of misses, a miss counts and raises SYNCMISS; an armed slave with no
mould acquires sync at heat index 0, cy 0 falling 10 + SDLY after the edge, with the heat counter kept (log entry 17): where that
lies before the acquisition the tick begins with it, at its count, else with the next boundary; an edge outside its window, or
missing, is a deviation. -/
def Obligations.SyncFollowsItsEdges : Prop :=
  ∀ (s : State) (n : Fin 4) (dev : Int),
    exec (.syncChainPulse n) s = .next (s.setAxis n { s.axis n with missRun := 0 }) ∧
    (n ≠ 0 → s.appOn = true → exec (.syncmiss n) s = .next ((s.setAxis n { s.axis n with
      missRun := (s.axis n).missRun + 1
      missTwo := (s.axis n).missTwo || decide (1 ≤ (s.axis n).missRun)
      drv := { (s.axis n).drv with miss := sat8 (s.axis n).drv.miss } }).raiseDrv n 5)) ∧
    (s.sync.armed = true → s.sync.mode = 2 → s.moulds.active = none → s.tick.on = true →
      let off := 10 + fld s.sync.cfg 30 16
      let base := s.tick.base + s.tick.cy + off - 32
      let acq : State := { s with
        tick := { s.tick with acqBase := some base, start := 32 - off }
        sync := { s.sync with armed := false, lock := true, miss := 0 }
        mon := { s.mon with acq := true } }
      (32 ≤ off → exec .syncAcquire s = .next acq) ∧
      (off < 32 → exec .syncAcquire s = exec .tickBoundary acq ∧
        ∃ t, exec .syncAcquire s = .next t ∧ t.tick.hidx = 0 ∧ t.tick.cy = 32 - off ∧ t.tick.base = base ∧
          t.tick.heat = s.tick.heat ∧ t.tick.atZero = false ∧ t.sync.lock = true ∧ t.sync.armed = false)) ∧
    (s.sync.mode = 2 → s.sync.armed = false →
      let bad : State := ({ s with sync := { s.sync with
        miss := sat8 s.sync.miss, lost := s.sync.lost || s.sync.lock, lock := false } } : State).raise 254
      ((fld s.sync.cfg 15 8 : Int) < dev.natAbs → exec (.syncEdge dev) s = .next bad) ∧
      ((dev.natAbs : Int) ≤ fld s.sync.cfg 15 8 → exec (.syncEdge dev) s = .next s) ∧
      exec .syncEdgeMissing s = .next bad)

/-! ### The PWM generator and the gates (07, 08) -/

/-- 07 R208, R210, R214, R217, R219, R225, R243: at the wrap the shadows become active, the dither index is the heat index,
each raw command starts on where its compare of this period is above 0, waiting configuration takes effect in its order with its
reserved bits discarded, EN takes effect, and a cycle-by-cycle trip whose source has gone lets its outputs go. While a
gate-drive test drives the axis, its compares are the shadows that load (19 Table 19-4, log entry 182). -/
def Obligations.PeriodWrapLoadsShadows : Prop :=
  ∀ (s : State) (n : Fin 4) (bits : List ChanBits), s.appOn = true →
    let a := (s.testPeriod n).axis n
    let d := a.cfgq.foldl (fun d x => d.config x.1 x.2) a.drv
    ((∀ x, s.mgmt.bg = some x → x.op.compares n s.tick.tper (s.axis n).testI = none ∧
      x.op.density n (s.axis n).testI = none) → a = s.axis n) ∧
    ∃ t, exec (.periodWrap n bits) s = .next t ∧
      (let b := t.axis n
       b.drv.acmp = a.drv.scmp ∧ b.drv.scmp = a.drv.scmp ∧ b.k = s.tick.hidx ∧ b.per = s.tick.tper ∧
       (∀ ch : Fin 4, b.eff.get ch = minPulse s.tick.tper (fld d.ctrl 15 8) (cmpEff (a.drv.scmp.get ch) s.tick.hidx)) ∧
       b.ph.u.raw = decide (0 < b.eff.a0) ∧ b.ph.v.raw = decide (0 < b.eff.a1) ∧ b.ph.w.raw = decide (0 < b.eff.a2) ∧
       b.brk = decide (0 < b.eff.a3) ∧ b.cbcHold = (a.cbcHold &&& a.filt) ∧ b.cfgq = [] ∧ b.drv.ctrl = d.ctrl ∧
       b.drv.dt = d.dt ∧ b.drv.brkhw = d.brkhw ∧ b.drv.tcfg = d.tcfg ∧ b.drv.gdrv = d.gdrv ∧ b.drv.gbst = d.gbst ∧
       b.drv.ghs = d.ghs ∧ b.drv.gvds = d.gvds ∧ b.drv.gocf = d.gocf ∧ b.drv.gvm = d.gvm ∧ b.drv.swin = d.swin ∧
       b.drv.sctrl = d.sctrl ∧
       (∀ w : Word, (a.cfgq = [(0x000, w)] → b.drv.ctrl = (a.drv.ctrl &&& ~~~0xFF00) ||| (w &&& 0xFF00)) ∧
         (a.cfgq = [(0x004, w)] → b.drv.dt = w &&& 0x7FF) ∧ (a.cfgq = [(0x034, w)] → b.drv.brkhw = w &&& 0x8000FFFF) ∧
         (∀ k : Fin 12, a.cfgq = [(0x080 + 4 * k.val, w)] → b.drv.tcfg[k.val]! = w &&& 0xF000FF7F) ∧
         (a.cfgq = [(0x0B0, w)] → b.drv.tcfg[12]! = (w &&& 0xF000FF7F) ||| 0x80000000) ∧
         (a.cfgq = [(0x100, w)] → b.drv.gdrv = w) ∧ (a.cfgq = [(0x104, w)] → b.drv.gbst = w &&& 0x1FF7) ∧
         (a.cfgq = [(0x108, w)] → b.drv.ghs = w &&& 7) ∧ (a.cfgq = [(0x10C, w)] → b.drv.gvds = w &&& 0x1F1F1F) ∧
         (a.cfgq = [(0x110, w)] → b.drv.gocf = w &&& 0x1F) ∧ (a.cfgq = [(0x114, w)] → b.drv.gvm = w &&& 0xFFFF) ∧
         (a.cfgq = [(0x200, w)] → b.drv.swin = w &&& 0xFFFFFF) ∧ (a.cfgq = [(0x204, w)] → b.drv.sctrl = w &&& 0x171)) ∧
       b.enWait = false ∧ (a.enWait = true → b.drv.ena = true) ∧ (a.enWait = false → b.drv.ena = a.drv.ena) ∧ b.wrapOff = 0 ∧ b.wrapPh = 0 ∧
       b.sense.frame = some (a.reduce n (s.measured n bits)) ∧ b.st = a.st) ∧
      (∀ k : Fin 4, k ≠ n → t.axis k = s.axis k) ∧ Frame [.ax, .hall, .hallFlag, .evm] s t

/-- 07 R210, R215, R216, R225 to R227: a compare match below the period ends the raw command of its channel, U, V, W or the
brake's, and of no other; at the period or above there is no match; a delayed edge leaves the dead time, and passes at once where
the partner has been reported off for 20 ns (08 R253); the dead time of an edge that was cancelled ends without one; EN is set in the
states that keep it and waits for the wrap, but not while a function reset of the axis or its link holds it at 0 (16 R472);
cleared, it takes every output off at once. -/
def Obligations.PwmEdgesAndEnable : Prop :=
  ∀ (s : State) (n : Fin 4) (ph : Phase) (high : Bool),
    (∀ c : Fin 4, s.appOn = true →
      ((s.axis n).eff.get c < s.tick.tper → ∃ t, exec (.compareMatch n c) s = .next t ∧
        (∀ p, ((t.axis n).ph.get p).raw = (((s.axis n).ph.get p).raw && !decide (phIx p = c.val))) ∧
        (t.axis n).brk = ((s.axis n).brk && !decide (c.val = 3)) ∧ (∀ k : Fin 4, k ≠ n → t.axis k = s.axis k) ∧
        Frame [.ax] s t) ∧
      (s.tick.tper ≤ (s.axis n).eff.get c → exec (.compareMatch n c) s = .next s)) ∧
    ((((s.axis n).ph.get ph).side high).w3 = false → ∃ t, exec (.deadTimeEnd n ph high) s = .next t ∧
      ((t.axis n).ph.get ph).side high = { ((s.axis n).ph.get ph).side high with dt := false } ∧
      ((t.axis n).ph.get ph).side (!high) = ((s.axis n).ph.get ph).side (!high) ∧ (t.axis n).drv = (s.axis n).drv ∧
      Frame [.ax] s t) ∧
    ((((s.axis n).ph.get ph).side high).w3 = true → ∃ t, exec (.deadTimeEnd n ph high) s = .next t ∧
      (((t.axis n).ph.get ph).side high).w3 = false ∧ (((t.axis n).ph.get ph).side high).dt = false ∧
      ((((s.axis n).ph.get ph).side (!high)).off = false → (((t.axis n).ph.get ph).side high).w4 = true) ∧
      ((((s.axis n).ph.get ph).side (!high)).off = true → (((s.axis n).ph.get ph).side (!high)).s4 = false →
        (((t.axis n).ph.get ph).side high).s4 = true) ∧ Frame [.ax, .evm] s t) ∧
    (s.linkDown n = true → exec (.enSet n) s = .next s) ∧
    (s.linkDown n = false → (s.axis n).st.mayEnable = true → (s.axis n).drv.ctrl.getLsbD 0 = false →
      exec (.enSet n) s = .next (s.setAxis n { s.axis n with
        enWait := true, drv := { (s.axis n).drv with ctrl := (s.axis n).drv.ctrl ||| 1 } })) ∧
    (∃ t, exec (.enClear n) s = .next t ∧ (t.axis n).drv.ena = false ∧ (t.axis n).drv.ctrl.getLsbD 0 = false ∧
      (t.axis n).enWait = false ∧ (∀ q p h, (t.axis n).gateOn q p h = false) ∧ (∀ q, (t.axis n).brakeOn q = false) ∧
      (t.axis n).st = (s.axis n).st ∧ (∀ k : Fin 4, k ≠ n → t.axis k = s.axis k) ∧ Frame [.ax] s t)

/-- 08 R252 to R256: an edge that waits in stage 4 passes when the partner has been reported off, through the interlock, and
no phase then has both commands past it; with no edge waiting the report alone is kept; after the time-out both gates of the
phase are off and HSTO is set. HSTO clears only while the comparator that timed out does not report its gate on. What the
comparators show between reports is the model's choice (log entry 15). -/
def Obligations.HandshakeGuardsThePhase : Prop :=
  ∀ (s : State) (n : Fin 4) (ph : Phase) (high : Bool) (mask : BitVec 3),
    ((((s.axis n).ph.get ph).side high).w4 = true → (s.axis n).gateOn (s.gateHold n) ph (!high) = false →
      ∃ t, exec (.handshakeRelease n ph high) s = .next t ∧ (((t.axis n).ph.get ph).side high).w4 = false ∧
        ¬(((t.axis n).ph.get ph).h.s4 = true ∧ ((t.axis n).ph.get ph).l.s4 = true) ∧
        ((((s.axis n).ph.get ph).side (!high)).s4 = false → (((t.axis n).ph.get ph).side high).s4 = true) ∧
        ((((s.axis n).ph.get ph).side (!high)).s4 = true → (t.axis n).drv.shoot.getLsbD (phIx ph) = true) ∧
        Frame [.ax, .evm] s t) ∧
    ((((s.axis n).ph.get ph).side high).w4 = false → (s.axis n).gateOn (s.gateHold n) ph (!high) = false →
      ∃ t, exec (.handshakeRelease n ph high) s = .next t ∧ (((t.axis n).ph.get ph).side (!high)).off = true ∧
        (if high then (t.axis n).drv.lon else (t.axis n).drv.hon).getLsbD (phIx ph) = false ∧
        ((t.axis n).ph.get ph).h.s4 = ((s.axis n).ph.get ph).h.s4 ∧ ((t.axis n).ph.get ph).l.s4 = ((s.axis n).ph.get ph).l.s4 ∧
        Frame [.ax] s t) ∧
    ((s.axis n).gateOn (s.gateHold n) ph (!high) = true → exec (.handshakeRelease n ph high) s = .next s) ∧
    ((((s.axis n).ph.get ph).side high).w4 = true →
      ∃ t, exec (.handshakeTimeout n ph high) s = .next t ∧ (t.axis n).drv.hsto.getLsbD (phIx ph) = true ∧
        ((t.axis n).ph.get ph).lateHigh = (!high) ∧ (t.axis n).lateOn.getLsbD (phIx ph) = true ∧
        (∀ q h, (t.axis n).gateOn q ph h = false) ∧ (t.axis n).drv.tflag = (s.axis n).drv.tflag ∧ Frame [.ax, .evm] s t) ∧
    (∃ t, exec (.hstoClear n mask) s = .next t ∧
      (t.axis n).drv.hsto = (s.axis n).drv.hsto &&&
        ~~~(mask &&& ~~~(s.axis n).lateOn) ∧ Frame [.ax, .evm] s t)

/-- 07 R229, R230: the brake backup engages once while enabled with thresholds that do not leave it inactive, and is
released at its lower threshold. 08 R260 to R266: FPGLOW holds its high side off and its OCF source inactive; BSTUV follows
its comparator; a refresh starts on a phase that needs one and whose low side is not commanded on behind stage 5, counts, and ends
at the next wrap after its time. 08 R274: the VM lockout takes every output off and lets them go at a wrap; 19 R523: where a test
suspends it, it only shows. -/
def Obligations.GateDriveProtections : Prop :=
  ∀ (s : State) (n : Fin 4) (ph : Phase) (high : Bool) (time : Nat),
    s.appOn = true →
    let a := s.axis n
    (a.drv.brkhw.getLsbD 31 = true → fld a.drv.brkhw 7 0 < fld a.drv.brkhw 15 8 → a.drv.bhact = false →
      exec (.brakeBackupEngage n) s = .next ((s.setAxis n { a with drv := { a.drv with bhact := true } }).raiseDrv n 4)) ∧
    exec (.brakeBackupRelease n) s = .next (s.setAxis n { a with drv := { a.drv with bhact := false } }) ∧
    (a.cmd7 (s.gateHold n) ph high = true → ∃ t, exec (.vdsBlankingEnd n ph high) s = .next t ∧
      (((t.axis n).ph.get ph).side high).vds = true ∧ (t.axis n).drv = a.drv ∧ Frame [.ax] s t) ∧
    (a.drv.fpglow.getLsbD (phIx ph) = false → ∃ t, exec (.fpglowAssert n ⟨ph, time⟩) s = .next t ∧
      (t.axis n).drv.fpglow = a.drv.fpglow ||| bitB 3 (phIx ph) ∧ (∀ q, (t.axis n).gateOn q ph true = false) ∧
      (t.axis n).drv.tsrc.getLsbD (1 + phIx ph) = false ∧ Frame [.ax, .evm] s t) ∧
    (∃ t, exec (.fpglowRelease n ⟨ph, time⟩) s = .next t ∧ (t.axis n).drv.fpglow.getLsbD (phIx ph) = false ∧
      (t.axis n).drv.tflag = a.drv.tflag ∧ Frame [.ax] s t) ∧
    exec (.bstuvAssert n ph) s = .next (s.setAxis n { a with drv := { a.drv with bstuv := putBit a.drv.bstuv (phIx ph) true } }) ∧
    exec (.bstuvRelease n ph) s =
      .next (s.setAxis n { a with drv := { a.drv with bstuv := putBit a.drv.bstuv (phIx ph) false } }) ∧
    (a.drv.bstuv.getLsbD (phIx ph) = true → a.drv.ena = true → a.low5 ph = false → (a.ph.get ph).refr = 0 →
      ∃ t, exec (.refreshStart n ph) s = .next t ∧ ((t.axis n).ph.get ph).refr = 1 ∧
        (t.axis n).drv.refact.getLsbD (phIx ph) = true ∧ (t.axis n).drv.reftot = sat16 a.drv.reftot ∧
        (t.axis n).drv.refcnt = (if a.drv.refcnt = 31 then 31 else a.drv.refcnt + 1) ∧
        (t.axis n).gateOn (t.gateHold n) ph true = false ∧ Frame [.ax, .evm] s t) ∧
    (a.low5 ph = true → exec (.refreshStart n ph) s = .next s) ∧
    (a.low5 ph = ((a.ph.get ph).l.s4 && !a.drv.hsto.getLsbD (phIx ph) && !a.drv.shoot.getLsbD (phIx ph) &&
      !a.wrapPh.getLsbD (phIx ph))) ∧
    ((a.ph.get ph).refr = 1 → exec (.refreshTimeEnd n ph) s =
      .next (s.setAxis n { a with ph := a.ph.set ph { a.ph.get ph with refr := 2 } })) ∧
    (a.noLock = false → a.drv.vmlo = false → ∃ t, exec (.vmLockoutEngage n) s = .next t ∧
      (t.axis n).drv.vmlo = true ∧ (∀ q p h, (t.axis n).gateOn q p h = false) ∧ (∀ q, (t.axis n).brakeOn q = false) ∧
      Frame [.ax, .evm] s t) ∧
    (a.drv.vmlo = true → ∃ t, exec (.vmLockoutRelease n) s = .next t ∧ (t.axis n).drv.vmlo = false ∧
      (t.axis n).vmloWait = true ∧ (a.noLock = false → ∀ q p h, (t.axis n).gateOn q p h = false) ∧ Frame [.ax] s t) ∧
    (a.noLock = true → a.drv.vmlo = false → ∃ t, exec (.vmLockoutEngage n) s = .next t ∧ (t.axis n).drv.vmlo = true ∧
      (∀ q p h, (t.axis n).gateOn q p h = a.gateOn q p h) ∧ (t.axis n).vmloPer = a.vmloPer ∧ Frame [.ax] s t) ∧
    (∀ bits : List ChanBits, ∃ t, exec (.periodWrap n bits) s = .next t ∧
      (∀ p : Phase, (t.axis n).drv.refact.getLsbD (phIx p) = decide (((t.axis n).ph.get p).refr ≠ 0) ∧
        ((t.axis n).ph.get p).refr = (if (a.ph.get p).refr = 2 then 0 else (a.ph.get p).refr)) ∧
      (t.axis n).vmloWait = false ∧ (a.drv.vmlo = false → (t.axis n).lockedOut = false))

/-- 07 R237 to R242: an active raw source starts the count of an enabled filter; at its end a latching trip sets its flag and
a cycle-by-cycle trip holds its mask for the period, both with their outputs off; a flag clears only when its raw source is
inactive, and refused bits keep their flags, with CLRREF once for the write (the model's choice, log entry 16). A source that is
not live keeps its value. DRV0's VGD comparator also tells the V5 regulator that VGD stands (20 R531).
18 R497, 20 R539; 07 R238: while MON asserts the quench lines, or the gate drivers of the axis are unpowered, no gate and
no brake output of it is on; and an output masked by a latched trip is off. -/
def Obligations.TripsLatchAndHoldGates : Prop :=
  (∀ (s : State) (n : Fin 4) (k : Fin 13) (mask : BitVec 13),
     let a := s.axis n
     (s.appOn = true →
       let pwr (up : Bool) : Power := if n = 0 ∧ k = 12 then { s.pwr with vgd := up, v5oc := s.pwr.v5oc && up } else s.pwr
       (∃ t, exec (.tripSourceChange n k true) s = .next t ∧
         (t.axis n).drv = (if a.sourceLive k.val then { a.drv with tsrc := putBit a.drv.tsrc k.val true } else a.drv) ∧
         (t.axis n).counting =
           (if a.sourceLive k.val then putBit a.counting k.val (tcEn (a.drv.tcfg.get k)) else a.counting) ∧
         t.pwr = pwr false ∧ Frame [.ax, .pwr] s t) ∧
       (∃ t, exec (.tripSourceChange n k false) s = .next t ∧
         (t.axis n).drv = { a.drv with tsrc := putBit a.drv.tsrc k.val false } ∧
         (t.axis n).counting = putBit a.counting k.val false ∧ t.pwr = pwr true ∧ Frame [.ax, .pwr] s t)) ∧
     (a.counting.getLsbD k.val = true → a.drv.tsrc.getLsbD k.val = true →
       ∃ t, exec (.tripAssert n k) s = .next t ∧ (t.axis n).filt = putBit a.filt k.val true ∧
         (tcCbc (a.drv.tcfg.get k) = false → (t.axis n).drv.tflag = putBit a.drv.tflag k.val true) ∧
         (tcCbc (a.drv.tcfg.get k) = true → (t.axis n).drv.tflag = a.drv.tflag ∧
           (t.axis n).cbcHold = putBit a.cbcHold k.val true ∧ (t.axis n).cbcPer = putBit a.cbcPer k.val true) ∧
         (∀ q p h, (a.tripMask k.val).getLsbD (outBit p h) = true → (t.axis n).gateOn q p h = false) ∧
         Frame [.ax, .evm] s t) ∧
     (a.drv.tsrc.getLsbD k.val = false →
       exec (.tripRelease n k) s = .next (s.setAxis n { a with filt := putBit a.filt k.val false })) ∧
     (∃ t, exec (.tflagClear n mask) s = .next t ∧
       (t.axis n).drv.tflag = a.drv.tflag &&& ~~~(mask &&& ~~~a.drv.tsrc) ∧
       (a.evPend 3 < 255 → (t.axis n).evWords =
         a.evWords ++ (if mask &&& a.drv.tflag &&& a.drv.tsrc = 0 then [] else [3])) ∧
       (t.axis n).drv.hsto = a.drv.hsto ∧ Frame [.ax, .evm] s t)) ∧
  (∀ (s : State) (n : Fin 4) (ph : Phase) (high : Bool),
     (s.mon.quench = true ∨ s.pwr.axpwr.getLsbD n.val = false →
       (s.axis n).gateOn (s.gateHold n) ph high = false ∧ (s.axis n).brakeOn (s.gateHold n) = false) ∧
     (∀ k : Fin 13, (s.axis n).drv.tflag.getLsbD k.val = true →
       ((s.axis n).tripMask k.val).getLsbD (outBit ph high) = true → ∀ q, (s.axis n).gateOn q ph high = false))

/-! ### The sense die (10) -/

/-- R302: the code is 2^23 times the voltage over the full scale, rounded to the nearest.
R304 to R312, R316, R317, R320: a finished conversion stands in ADRV with its tag, marked unread; the sequence moves on (R306), or
the injected sequence ends with INJDONE; an unread result that is overwritten sets OVR, a reference check out of its window
REFCHK; a waiting REFSEL takes effect; an AIN11 code goes to MON. The voltages are the command's operands (log entry 148).
R308, R309, R314 to R318; 16 R456, R457: a trigger that matches an enabled injection starts the injected sequence,
aborting a regular entry that has begun (log entry 151). REFSEL acts at the end of a running entry, is refused with a
mould active, and REFRDY rises and falls with the reference. A crystal lost is reported once. -/
def Obligations.ConverterActs : Prop :=
  (∀ (s : State) (nv : Int) (refNv : Nat) (inj : Bool) (i : Nat), s.conv.cur = some (inj, i) →
     let code := s.conv.codeOf nv refNv
     let fs : Int := 5 * (s.conv.vref refNv : Int)
     let mux := (s.conv.entry inj i).toNat % 16
     let lastInj := inj && decide (s.conv.seqi.length ≤ i + 1)
     (0 < fs → (2 ^ 25 * nv).natAbs ≤ (2 ^ 23 - 1) * fs → (2 * (code.toInt * fs - 2 ^ 25 * nv)).natAbs ≤ fs) ∧
     ∃ t, exec (.conversionComplete ⟨nv, refNv⟩) s = .next t ∧ t.conv.adrv = BitVec.ofInt 32 (code.toInt * 64) ∧
       t.conv.adrt = adrTag i inj (s.conv.adrt.getLsbD 7) s.conv.rdyAll ∧ t.conv.adrt.getLsbD 7 = true ∧
       (t.conv.flag.getLsbD 0 = (s.conv.flag.getLsbD 0 || s.conv.adrt.getLsbD 7)) ∧
       t.conv.flag.getLsbD 2 =
         (s.conv.flag.getLsbD 2 || (decide (mux = 15) && decide (s.conv.refsel = 0) && refchkBad code.toInt)) ∧
       t.conv.ain11 = (if mux = 11 then (if s.conv.refsel = 0 ∧ s.conv.rdyAll = true then some code else none)
         else s.conv.ain11) ∧
       t.conv.refNext = none ∧
       t.conv.refsel = (match s.conv.refNext with | some r => if r = 3 then 0 else r | none => s.conv.refsel) ∧
       (inj = false → t.conv.cur = some (false, if i + 1 < s.conv.seqr.length then i + 1 else 0)) ∧
       (inj = true → i + 1 < s.conv.seqi.length → t.conv.cur = some (true, i + 1)) ∧
       (lastInj = true → t.conv.cur = if s.conv.seqr = [] then none else some (false, s.conv.due)) ∧
       (Sparse.get 0 (256 + 165) s.evm.cnt < 256 → Sparse.get 0 (256 + 165) t.evm.cnt =
         Sparse.get 0 (256 + 165) s.evm.cnt + (if lastInj then 1 else 0)) ∧
       Frame [.conv, .evm, .mgmt] s t) ∧
  (∀ (s : State) (ev : BitVec 8) (m : Master) (val : Word) (i b : Nat),
     (s.conv.inj.getLsbD 15 = true → fld s.conv.inj 7 0 = ev.toNat → s.conv.seqi ≠ [] →
       (s.conv.cur = some (false, i) → exec (.injectedTrigger ⟨ev, b⟩) s = .next { s with conv := { s.conv with
         aborts := if b = 0 then s.conv.aborts else sat8 s.conv.aborts, due := i, cur := some (true, 0), rdyAll := s.conv.refrdy } }) ∧
       (s.conv.cur = none → exec (.injectedTrigger ⟨ev, b⟩) s =
         .next { s with conv := { s.conv with cur := some (true, 0), rdyAll := s.conv.refrdy } })) ∧
     (s.canAccess m = true → s.mayWrite m 0x3000 = true →
       (s.moulds.active = none → s.conv.cur.isSome = true → exec (.refselWrite m val) s =
         .next { s with conv := { s.conv with refw := val.setWidth 2, refNext := some (val.setWidth 2) } }) ∧
       (s.moulds.active = none → s.conv.cur = none → val.setWidth 2 ≠ s.conv.refsel → val.setWidth 2 ≠ (3 : BitVec 2) →
         exec (.refselWrite m val) s = .next { s with conv := { s.conv with
           refw := val.setWidth 2, refsel := val.setWidth 2, refNext := none, refrdy := false, rdyAll := false
           plsusp := decide (val.setWidth 2 ≠ (0 : BitVec 2)) } }) ∧
       (s.moulds.active.isSome = true → exec (.refselWrite m val) s = .next (s.raiseSns 164))) ∧
     (s.appOn = true →
       exec .refrdySet s = .next { s with conv := { s.conv with refrdy := true } } ∧
       (s.conv.refsel ≠ 1 → exec .referenceLoss s = .next s) ∧
       (s.conv.refsel = 1 → s.conv.refrdy = true → ∃ t, exec .referenceLoss s = .next t ∧ t.conv.refrdy = false ∧
         t.conv.flag.getLsbD 3 = true ∧ Frame [.conv, .evm] s t) ∧
       (∃ t, exec .snsPllUnlock s = .next t ∧ t.pwr.snslock = false ∧ t.conv.refrdy = false ∧
         Frame [.conv, .evm, .pwr] s t) ∧
       (s.pwr.refsrc = false → s.pwr.reflost = false → exec .crystalLoss s =
         .next (({ s with pwr := { s.pwr with reflost := true, refsrc := true, xtalok := false } } : State).raise 251))))

/-- R310: a trigger raised while an injected sequence runs is ignored, sets INJLOST and raises it for SYS; one raised while TEN
is 0 or NINJ is 0 is ignored without any flag. -/
def Obligations.TriggersInASequenceAreLost : Prop :=
  ∀ (s : State) (ev : BitVec 8) (i b : Nat),
    (s.conv.inj.getLsbD 15 = true → fld s.conv.inj 7 0 = ev.toNat → s.conv.seqi ≠ [] → s.conv.cur = some (true, i) →
      ∃ t, exec (.injectedTrigger ⟨ev, b⟩) s = .next t ∧ t = { s with conv := t.conv, evm := t.evm } ∧
        t.conv = { s.conv with flag := s.conv.flag ||| 2 } ∧
        (Sparse.get 0 (256 + 161) s.evm.cnt < 256 →
          t.evm = { s.evm with cnt := Sparse.put 0 (256 + 161) (Sparse.get 0 (256 + 161) s.evm.cnt + 1) s.evm.cnt })) ∧
    (s.conv.inj.getLsbD 15 = false ∨ s.conv.seqi = [] → exec (.injectedTrigger ⟨ev, b⟩) s = .next s)

/-- R323 to R328: the filtered state follows when FILT samples in a row differ from it, and a sample that agrees restarts the
count; it holds on a masked input during the test pulse, on every input while a test forces their levels (19 Table
19-4), and for FILT samples more (the samples are the command's operands, log
entries 73 and 149); an input that stays active past its limit is STUCK until it goes inactive; CHATTER comes with more changes
than CHN and goes with a quiet window; the test pulse marks every masked input that did not follow it. A write to FI.CFGk or
FI.STKk keeps the defined bits and takes effect at the next sample, which then counts anew (log entry 72). -/
def Obligations.FieldInputsClassify : Prop :=
  ∀ (s : State) (k : Fin 16) (level : Bool) (samples : List Bool) (levels : BitVec 16) (m : Master) (val : Word),
    s.appOn = true →
    let f := s.fi.inp.get k
    let x := f.takeCfg
    let put (x : FiIn) : State := { s with fi := { s.fi with inp := s.fi.inp.set k.val x k.isLt } }
    exec (.fiFilterChange k samples) s = .next (put (samples.foldl (FiIn.sample (s.fiHeld k)) f)) ∧
    (s.mgmt.bg = none → s.fiHeld k = (s.fi.pulse && s.fi.tpmask.getLsbD k.val)) ∧
    (f.waits = false → x = f) ∧
    (f.waits = true → x.cfgF = f.cfg ∧ x.stkF = f.stk ∧ x.waits = false ∧ x.cnt = 0 ∧ x.chg = 0 ∧ x.filt = f.filt ∧
      x.chatter = f.chatter ∧ x.stuck = (f.stuck && (f.filt != f.cfg.getLsbD 8))) ∧
    (∀ b : Bool, (f.sample b level).raw = level ∧ (f.sample true level).filt = f.filt ∧
      (level = f.filt → (f.sample b level).filt = f.filt ∧ (f.sample b level).cnt = 0) ∧
      (level ≠ f.filt → x.cnt + 1 < x.filtN →
        (f.sample b level).filt = f.filt ∧ (f.sample b level).cnt = x.cnt + 1)) ∧
    (level ≠ f.filt → f.hold = 0 → x.filtN ≤ x.cnt + 1 →
      (f.sample false level).filt = level ∧ (f.sample false level).stuck = (x.stuck && (level != x.cfgF.getLsbD 8))) ∧
    (f.active = true → f.stuck = false → fld f.stkF 15 0 ≠ 0 →
      exec (.fiStuck k) s = .next ((put { f with stuck := true }).raiseSns 166)) ∧
    (let g := samples.foldl (FiIn.sample (s.fiHeld k)) f
     (g.chg = 0 → exec (.fiChatterWindowEnd k samples) s = .next (put { g with chatter := false })) ∧
     (g.chn ≠ 0 → g.chn < g.chg → g.chatter = false →
       exec (.fiChatterWindowEnd k samples) s = .next ((put { g with chatter := true, chg := 0 }).raiseSns 167)) ∧
     (g.chg ≠ 0 → g.chn = 0 ∨ g.chg ≤ g.chn ∨ g.chatter = true →
       exec (.fiChatterWindowEnd k samples) s = .next (put { g with chg := 0 }))) ∧
    (s.fi.tpGpio.isSome = true → exec .fiTestPulseStart s = .next { s with fi := { s.fi with pulse := true } }) ∧
    (s.fi.pulse = true → ∃ t, exec (.fiTestPulseCheck levels) s = .next t ∧ t.fi.pulse = false ∧
      (∀ j : Fin 16, (t.fi.inp.get j).tpSub =
        (if s.fi.tpmask.getLsbD j.val then levels.getLsbD j.val else (s.fi.inp.get j).tpSub) ∧
        (s.fi.tpmask.getLsbD j.val = true → (t.fi.inp.get j).hold = (s.fi.inp.get j).takeCfg.filtN)) ∧
      t.fi.tpfail = s.fi.tpfail ||| (s.fi.tpmask &&& levels) ∧ Frame [.fi, .evm] s t) ∧
    (s.canAccess m = true → s.mayWrite m (0x3400 + 4 * k.val) = true → exec (.fiConfigWrite m false k val) s =
      .next (put { f with cfg := val &&& 0x0FFF07FF, waits := true })) ∧
    (s.canAccess m = true → s.mayWrite m (0x3440 + 4 * k.val) = true → exec (.fiConfigWrite m true k val) s =
      .next (put { f with stk := val &&& 0xFFFF, waits := true }))

/-- R330 to R334: a valid Hall code is accepted at once when no edge came within Tmin and is held back otherwise; codes 0 and
7 are errors; the encoder counts one per step in either direction and an illegal step is an error; a Z edge latches the
count, and the level of Z shows in any case; HALL.CFG is written in DISABLED and TEST only. In encoder mode new levels that come
as a code count in the same way. An invalid code is reported as it stands (log entry 150); a deferred edge is judged by the code
that stands when Tmin is over (log entry 74). -/
def Obligations.PositionInputsTrack : Prop :=
  ∀ (s : State) (n : Fin 4) (code : BitVec 3) (time : Nat) (a b : Bool) (m : Master) (val : Word), s.appOn = true →
    let h := s.hall.get n
    let put (x : Hall) : State := { s with hall := s.hall.set n x }
    (h.encMode = false → code ≠ 0 → code ≠ 7 → (h.fmax = 0 ∨ h.tLast + h.tmin ≤ time) →
      exec (.hallEdge n code time) s = .next (put { h with code := code, last := code, tLast := time, pend := false })) ∧
    (h.encMode = false → code ≠ 0 → code ≠ 7 → h.fmax ≠ 0 → time < h.tLast + h.tmin →
      exec (.hallEdge n code time) s = .next (put { h with code := code, pend := true })) ∧
    (h.encMode = false → code = 0 ∨ code = 7 → ∃ t, exec (.hallEdge n code time) s = .next t ∧
      t.hallFlag = s.hallFlag ||| bitB 12 n.val ∧ (t.hall.get n).last = h.last ∧ Frame [.hall, .hallFlag, .evm] s t) ∧
    (h.encMode = true ∨ h.pend = false → exec (.hallRateDeferEnd n code) s = .next s) ∧
    (h.encMode = false → h.pend = true → ∃ t, exec (.hallRateDeferEnd n code) s = .next t ∧ (t.hall.get n).pend = false ∧
      (t.hall.get n).rdisc = true ∧ t.hallFlag = s.hallFlag ||| bitB 12 (4 + n.val) ∧ (t.hall.get n).code = code ∧
      (code ≠ h.last → code ≠ 0 → code ≠ 7 →
        (t.hall.get n).last = code ∧ (t.hall.get n).tLast = h.tLast + h.tmin) ∧
      (code = h.last → (t.hall.get n).last = h.last ∧ (t.hall.get n).tLast = h.tLast) ∧
      Frame [.hall, .hallFlag, .evm] s t) ∧
    (h.encMode = true →
      let step := (quadPos a b + 4 - quadPos (h.code.getLsbD 0) (h.code.getLsbD 1)) % 4
      ∃ t, exec (.encoderEdge n a b) s = .next t ∧
        (t.hall.get n).enc = (if step = 1 then h.enc + 1 else if step = 3 then h.enc - 1 else h.enc) ∧
        (step = 2 → t.hallFlag = s.hallFlag ||| bitB 12 (8 + n.val)) ∧ (step ≠ 2 → t.hallFlag = s.hallFlag) ∧
        (t.hall.get n).code.getLsbD 0 = a ∧ (t.hall.get n).code.getLsbD 1 = b ∧ Frame [.hall, .hallFlag, .evm] s t) ∧
    (h.encMode = true → exec (.encoderZEdge n) s =
      .next (put { h with encz := if h.cfg.getLsbD 1 then h.enc else h.encz, code := h.code ||| 4 })) ∧
    (h.encMode = true →
      let step := (quadPos (code.getLsbD 0) (code.getLsbD 1) + 4 - quadPos (h.code.getLsbD 0) (h.code.getLsbD 1)) % 4
      ∃ t, exec (.hallEdge n code time) s = .next t ∧ (t.hall.get n).code = code ∧
        (t.hall.get n).enc = (if step = 1 then h.enc + 1 else if step = 3 then h.enc - 1 else h.enc) ∧
        (t.hall.get n).encz = (if code.getLsbD 2 && !h.code.getLsbD 2 && h.cfg.getLsbD 1 then h.enc else h.encz) ∧
        t.hallFlag = (if step = 2 then s.hallFlag ||| bitB 12 (8 + n.val) else s.hallFlag) ∧
        Frame [.hall, .hallFlag, .evm] s t) ∧
    (h.encMode = false → exec (.encoderEdge n a b) s = .next s ∧ exec (.encoderZEdge n) s = .next s) ∧
    (s.canAccess m = true → s.mayWrite m (0x3500 + 4 * n.val) = true →
      ((s.axis n).st = .disabled ∨ (s.axis n).st = .test → ∃ t, exec (.hallConfigWrite m n val) s = .next t ∧
        (t.hall.get n).cfg = val &&& 0x1FFFFF03 ∧
        t.hallFlag = (if (t.hall.get n).invalid then s.hallFlag ||| bitB 12 n.val else s.hallFlag) ∧
        (∀ k : Fin 4, k ≠ n → t.hall.get k = s.hall.get k) ∧ Frame [.hall, .hallFlag, .evm] s t) ∧
      (¬((s.axis n).st = .disabled ∨ (s.axis n).st = .test) → exec (.hallConfigWrite m n val) s = .next (s.raiseSns 164)))

/-! ### Temperature (17) -/

/-- R476, R477, R480, R485, R487: a reading of all sensors gives each class its governing temperature and every axis the
larger of its own throttle level and CTL's; with no shutdown condition the device state stays; with one, CTL enters
THERMAL_LATCH with the tick stopped; the steps of the running pour of a standard mould are done first. A broken privileged sensor
counts above the shutdown of its class (R478).
R479, R487: MON's own reading latches its shutdown fault and takes the device to THERMAL_LATCH when one of its sensors
is broken or at its limit, once it has begun its checks (the model's reading, log entry 161); otherwise it changes MON
alone. R486: the throttle pause of an axis ends for the level that stands. -/
def Obligations.TemperaturesAreJudged : Prop :=
  (∀ (s : State) (counts : List Nat), counts.length = 22 → s.appOn = true →
     (∀ k : Nat, k < 256 → s.evm.qmap.getLsbD k = true → k = 203) →
     let v := readAll s.mon s.th.sens counts
     let c : Vector ThClass 6 := Vector.ofFn fun k => (s.th.cls.get k).step k.val s.th.cfg (governing v k.val)
     ∃ t, exec (.temperatureReading counts) s = .next t ∧ t.th.sens = v ∧ t.th.cls = c ∧
       t.th.lv.a0 = Nat.max (c.get 0).level (c.get 4).level ∧ t.th.lv.a3 = Nat.max (c.get 3).level (c.get 4).level ∧
       (shutCond v c = false → t.dev = s.dev ∧ t.pwr = s.pwr) ∧
       (shutCond v c = true → s.dev = .run → t.dev = .thermalLatch ∧ t.pwr.therm = true ∧ t.tick.on = false ∧
         t.pour.poured = false ∧ t.mon.reqQ = true) ∧
       t.lc = s.lc ∧ t.locks = s.locks ∧ t.mail = s.mail ∧ t.hall = s.hall) ∧
  (∀ (v : Vector Sensor 22) (c k : Nat), c < 6 → k ∈ classSensors c → isPrivileged k = true → (v.getD k {}).broken = true →
     shutAt c < governing v c) ∧
  (∀ (s : State) (priv : List (Option Nat)) (own : List Nat) (n : Fin 4),
     (priv.length = 4 → own.length = 2 → s.mon.up = true →
       (s.mon.begun = false ∨ monShut (s.mon.readTs priv own) = false → exec (.monTemperatureReading ⟨priv, own⟩) s =
         .next { s with mon := { s.mon with
           ts := s.mon.readTs priv own, missG := s.mon.missing priv, gates := s.mon.gates + 1 } }) ∧
       (s.mon.begun = true → monShut (s.mon.readTs priv own) = true → s.dev = .ready ∨ s.dev = .run ∨ s.dev = .safe →
         ∃ t, exec (.monTemperatureReading ⟨priv, own⟩) s = .next t ∧ t.mon.fault.getLsbD 9 = true ∧ t.dev = .thermalLatch ∧
           t.pwr.therm = true ∧ t.tick.on = false)) ∧
     (∃ t, exec (.throttlePauseEnd n) s = .next t ∧
       (t.mgmt.jax.get n).waited = Nat.max (s.mgmt.jax.get n).waited (s.th.lv.get n) ∧
       (t.mgmt.jax.get n).held = (s.mgmt.jax.get n).held ∧ t.mgmt.jobs = s.mgmt.jobs ∧ Frame [.mgmt] s t))

/-! ### The monitor (18), debug and plausibility (10, 19) -/

/-- R497, R500: a fault that latches on MON stays, asserts the quench lines, is logged and takes the device from READY or RUN
to SAFE with cause 1; a fault that already stands changes nothing.
R491 to R496; 10 R320, R321: the checks run while MON does; a second deviation in a row of the signature or of the tick
latches its fault, as do two life-cycle mismatches, eight AIN11 and four VBUS deviations; a result within its window ends
the run of deviations. What MON measures is the command's operand (log entry 148), an interval whose marker is missing counts
once (log entry 160), and the supply checks run from the first marker on (log entry 161). -/
def Obligations.MonChecksAndFaultsLatch : Prop :=
  (∀ (s : State) (k : Nat), k < 10 →
     (s.mon.fault.getLsbD k = false → (s.monLatch k).mon.fault = s.mon.fault ||| bitB 10 k ∧
       (s.monLatch k).mon.quench = true ∧ (s.monLatch k).mon.logN = s.mon.logN + 1 ∧
       (∀ n ph high, ((s.monLatch k).axis n).gateOn ((s.monLatch k).gateHold n) ph high = false) ∧
       (s.dev = .ready ∨ s.dev = .run → (s.monLatch k).dev = .safe ∧ (s.monLatch k).safecause = 1)) ∧
     (s.mon.fault.getLsbD k = true → s.monLatch k = s)) ∧
  (∀ (s : State) (c : Nat) (code : BitVec 24) (ratio mv sum : Int) (n refNv : Nat) (rail : Fin 3), s.checking = true →
     let off := (code.toInt * 1500000000 - ratio * refNv).natAbs
     (s.mon.sigNew = true → s.mon.sigRx = s.mon.expRx → s.pour.cut = false →
       exec .signatureCheck s = .next { s with mon := { s.mon with sigNew := false, sigrun := 0 } }) ∧
     (s.mon.sigNew = true → s.mon.sigRx ≠ s.mon.expRx ∨ s.pour.cut = true → ∃ t, exec .signatureCheck s = .next t ∧
       t.mon.miss = sat32 s.mon.miss ∧ (s.mon.sigrun = 0 → t.mon.sigrun = 1 ∧ t.dev = s.dev) ∧
       (1 ≤ s.mon.sigrun → t.mon.fault.getLsbD 0 = true)) ∧
     (s.mon.acq = false → s.mon.late = false → tickOff c s.mon.tper = false → ∃ t, exec (.tickMarker c) s = .next t ∧ t.mon.tickrun = 0 ∧
       t.mon.ackMiss = 0 ∧ t.mon.marks = s.mon.marks + 1 ∧ Frame [.mon] s t) ∧
     (s.mon.acq = false → s.mon.late = false → 1 ≤ s.mon.tickrun → tickOff c s.mon.tper = true →
       ∃ t, exec (.tickMarker c) s = .next t ∧ t.mon.fault.getLsbD 1 = true) ∧
     (s.mon.acq = false → 1 ≤ s.mon.tickrun → ∃ t, exec .tickMarkerTimeout s = .next t ∧ t.mon.fault.getLsbD 1 = true) ∧
     (s.mon.begun = true → rail ≠ 2 ∨ s.dev = .run → exec (.supplyWindowFault rail) s = .next (s.monLatch (4 + rail.val))) ∧
     (s.mon.lcDeviates s.lc = true → 1 ≤ s.mon.lcrun → ∃ t, exec .lcReport s = .next t ∧ t.mon.fault.getLsbD 7 = true) ∧
     (s.mon.lcDeviates s.lc = false → ∃ t, exec .lcReport s = .next t ∧ t.mon.lcrun = 0 ∧ Frame [.mon] s t) ∧
     (s.conv.ain11 = some code → off ≤ 7500000 * 2 ^ 23 → ∃ t, exec (.ain11Compare ratio refNv) s = .next t ∧ t.mon.plain = 0 ∧
       t.conv.ain11 = none ∧ Frame [.mon, .conv] s t) ∧
     (s.conv.ain11 = some code → 7500000 * 2 ^ 23 < off → 7 ≤ s.mon.plain →
       ∃ t, exec (.ain11Compare ratio refNv) s = .next t ∧ t.mon.fault.getLsbD 2 = true) ∧
     (s.conv.ain11 = none → exec (.ain11Compare ratio refNv) s = .next s) ∧
     (s.mon.vbLast = some (sum, n) → vbusOff sum n mv = false →
       exec (.vm0Compare mv) s = .next { s with mon := { s.mon with vbLast := none, plvm := 0 } }) ∧
     (s.mon.vbLast = some (sum, n) → vbusOff sum n mv = true → 3 ≤ s.mon.plvm →
       ∃ t, exec (.vm0Compare mv) s = .next t ∧ t.mon.fault.getLsbD 3 = true))

/-- R498, R499, R501; 19 R514: the quench lines follow CTL's request; an external pull takes the device to SAFE with cause 2
and its end leaves it there; eight missing acknowledges lose MON for the jobs and fault every axis; a debug attempt on the
closed port is reported and otherwise ignored. MON boots with its copy of the life-cycle state (20 R546), or latches a ROM
mismatch. -/
def Obligations.QuenchLinesAndMonLoss : Prop :=
  ∀ s : State,
    (s.mon.up = true → ∃ t, exec .quenchRequest s = .next t ∧ t.mon.reqQ = s.mon.req ∧ t.dev = s.dev ∧
      (s.mon.req = true → ∀ n ph high, (t.axis n).gateOn (t.gateHold n) ph high = false) ∧ Frame [.mon, .ax] s t) ∧
    (s.mon.up = true → s.mon.qext = false → s.mon.qdrv = false → s.dev = .ready ∨ s.dev = .run →
      ∃ t, exec .externalQuench s = .next t ∧ t.mon.qext = true ∧ t.dev = .safe ∧ t.safecause = 2 ∧
        (∀ n ph high, (t.axis n).gateOn (t.gateHold n) ph high = false)) ∧
    (s.mon.qext = true → ∃ t, exec .externalQuenchEnd s = .next t ∧ t.mon.qext = false ∧ t.dev = s.dev ∧
      t.safecause = s.safecause ∧ Frame [.mon, .ax] s t) ∧
    (8 ≤ s.mon.ackMiss → s.mgmt.monlost = false → ∃ t, exec .monlost s = .next t ∧ t.mgmt.monlost = true ∧
      (∀ n : Fin 4, (s.axis n).st ≠ .disabled → (t.axis n).nxt = some .fault ∨ (t.axis n).nxt = some .recovery)) ∧
    (s.lc.dbg = false → exec .debugSessionAttempt s = .next (s.raise 252)) ∧
    (s.mon.up = false → s.dev = .boot → ∃ t, exec (.monBootDone true) s = .next t ∧ t.mon.up = true ∧
      t.mon.lc = s.lc.mem ∧ Frame [.mon] s t) ∧
    (s.mon.up = false → s.dev = .boot → ∃ t, exec (.monBootDone false) s = .next t ∧ t.mon.fault.getLsbD 8 = true)

/-- R504, R505, Table 18-3: while MON is powered a Witness request with a good CRC is answered by its data under WST 0, bad
parameters by WST 3, an unknown command by WST 2 and a wrong CRC by WST 1; nothing but the response changes. A request with a
byte that came during a response is discarded. A byte leaves WTX with a start bit, its least significant bit first, and a stop
bit. -/
def Obligations.WitnessAnswers : Prop :=
  ∀ (s : State) (r : WitReq), s.mon.up = true →
    (r.during = true → exec (.witnessStatus r) s = .next s ∧ exec (.witnessReadB r) s = .next s ∧
      exec (.witnessReadLog r) s = .next s ∧ exec (.witnessUnknownCmd r) s = .next s) ∧
    (∀ (t : State) (b : Byte) (w : List Byte) (k : Fin 8), t.mon.wout = b :: w →
      t.mon.wtx[0]? = some false ∧ t.mon.wtx[k.val + 1]? = some (b.getLsbD k.val) ∧ t.mon.wtx[9]? = some true) ∧
    (r.during = false →
    let say (st : Nat) (d : List Byte) : Res := .next { s with mon := { s.mon with wout := witBytes r.cmd st d } }
    let ix := leAt r.payload 0 2
    let n := leAt r.payload 2 1
    (r.cmd = 1 → witCrcOk r = true → exec (.witnessStatus r) s = if r.payload = [] then say 0 s.witStatus else say 3 []) ∧
    (r.cmd = 2 → witCrcOk r = true → r.payload.length = 4 → ix ≤ 8191 → 1 ≤ n → n ≤ 16 →
      exec (.witnessReadB r) s = say 0 (Journal.slots s.jrn.b ix n)) ∧
    (r.cmd = 2 → witCrcOk r = true → (r.payload.length ≠ 4 ∨ 8191 < ix ∨ n = 0 ∨ 16 < n) →
      exec (.witnessReadB r) s = say 3 []) ∧
    (r.cmd = 3 → witCrcOk r = true → r.payload.length = 2 → leAt r.payload 0 1 ≤ 63 → 1 ≤ leAt r.payload 1 1 →
      leAt r.payload 1 1 ≤ 16 → exec (.witnessReadLog r) s = say 0 ((List.range (leAt r.payload 1 1)).flatMap fun i =>
        s.mon.logSlot ((leAt r.payload 0 1 + i) % 64))) ∧
    (r.cmd ≠ 1 → r.cmd ≠ 2 → r.cmd ≠ 3 → witCrcOk r = true → exec (.witnessUnknownCmd r) s = say 2 []) ∧
    (r.cmd = 3 → witCrcOk r = true → (r.payload.length ≠ 2 ∨ 63 < leAt r.payload 0 1 ∨ leAt r.payload 1 1 = 0 ∨
      16 < leAt r.payload 1 1) → exec (.witnessReadLog r) s = say 3 []) ∧
    (witCrcOk r = false → exec (.witnessUnknownCmd r) s = say 1 [] ∧ (r.cmd = 1 → exec (.witnessStatus r) s = say 1 []) ∧
      (r.cmd = 2 → exec (.witnessReadB r) s = say 1 []) ∧ (r.cmd = 3 → exec (.witnessReadLog r) s = say 1 [])) ∧
    exec .witnessGapTimeout s = .next s)

/-! ### Sorac packets (11) -/

/-- The commands that stand for MGMT taking a packet, with the opcode each takes (11 Tables 11-8, 11-10). -/
def packetRows : List (Instr × Nat) :=
  [(.getId, 0x0101), (.getStatus, 0x0102), (.getAxis, 0x0103), (.getTelemetry, 0x0104), (.getParam, 0x0202),
   (.journalQuery, 0x0501), (.journalRead, 0x0502), (.lcState, 0x0801), (.thermalStatus, 0x0901), (.setParam, 0x0201),
   (.storeConfig, 0x0203), (.moveTo, 0x0301), (.moveVel, 0x0302), (.hold, 0x0303), (.stop, 0x0304), (.release, 0x0305),
   (.learnTravel, 0x0306), (.home, 0x0307), (.resume, 0x0308), (.cancel, 0x0309), (.journalTrim, 0x0503),
   (.mouldBegin, 0x0401), (.mouldCheck, 0x0403), (.mouldCommit, 0x0404), (.mouldSelect, 0x0405), (.mouldStore, 0x0406),
   (.selftest, 0x0702), (.lcAdvance, 0x0802), (.lcRmaChallenge, 0x0803), (.lcRmaEnter, 0x0804), (.lcSetMouldKey, 0x0805),
   (.resetDevice, 0x0602), (.hibernate, 0x0603), (.clearFault, 0x0604)]

/-- The rows of RESET_FUNC and LOOPBACK, which the packet's FUNC or IFACE tells apart (log entry 8), with what each takes. -/
def pickRows : List (Instr × (List Byte → Bool)) :=
  [(.resetFuncAxis, isFunc 0), (.resetFuncLink, isFunc 1), (.resetFuncSns, isFunc 2), (.resetFuncSprue, isFunc 3),
   (.resetFuncRunner, isFunc 4), (.resetFuncMailbox, isFunc 5), (.loopbackSprue, isLoop 0), (.loopbackRunner, isLoop 1),
   (.loopbackPlind, isLoop 2), (.loopbackGateDrive, isLoop 3), (.loopbackPhaseSensing, isLoop 4),
   (.loopbackConverter, isLoop 5), (.loopbackFieldInputs, isLoop 6)]

/-- R338, R342, R344: a packet that fails one of the checks 1 to 6 is answered with the refusal of the first that fails; it
leaves the ladle, its reply enters the outlet, and nothing else of the device changes; it waits for nothing under way (R347).
R342: where the checks 1 to 6 refuse, the reply is a refusal or reports a duplicate (R353), with the packet's own
opcode and SEQ; a packet whose CRC is wrong is refused with BAD_PARAM, DCODE 1, at the offset of its CRC (R339).
A packet row takes the head of the ladle when it is of its opcode (the model's choice, log entry 7). -/
def Obligations.RefusedPacketsOnlyAnswer : Prop :=
  (∀ (s : State) (x : Instr × Nat) (p : List Byte) (r : Reply), x ∈ packetRows → s.atHead p = true → pOpc p = x.2 →
     s.headOff.precheck p = some r → exec x.1 s = .next (s.headOff.pushReply r)) ∧
  (∀ (s : State) (x : Instr × (List Byte → Bool)) (p : List Byte) (r : Reply), x ∈ pickRows → s.atHead p = true →
     x.2 p = true → s.headOff.precheck p = some r → exec x.1 s = .next (s.headOff.pushReply r)) ∧
  (∀ (p : List Byte) (k : Nat), 0 < k →
     (isFunc k p = true ↔ pOpc p = 0x0601 ∧ pPar p 0 1 = k) ∧ (isLoop k p = true ↔ pOpc p = 0x0701 ∧ pPar p 0 1 = k) ∧
     (isFunc 0 p = true ↔ pOpc p = 0x0601 ∧ (pPar p 0 1 = 0 ∨ 5 < pPar p 0 1)) ∧
     (isLoop 0 p = true ↔ pOpc p = 0x0701 ∧ (pPar p 0 1 = 0 ∨ 6 < pPar p 0 1))) ∧
  (∀ (s : State) (p : List Byte) (r : Reply), s.precheck p = some r →
     r.opc = pOpc p ∧ r.seq = pSeq p ∧ (r.disp = 8 ∨ r.disp = 2) ∧
     (∀ row, opRow (pOpc p) = some row → row.ent = 0 → pLen p = row.len → pLen p ≤ 1024 → p.length = 16 + pLen p →
       (crc32c (p.take (12 + pLen p))).toNat ≠ leAt p (12 + pLen p) 4 →
       r = refusal (pOpc p) (pSeq p) stBadParam 1 (12 + pLen p)))

/-- Table 11-8: a query that passes its checks is answered OK with its data; it changes nothing but the queues. A packet
whose opcode no row lists is answered BAD_OPCODE (R362).
A packet row takes the head of the ladle when it is of its opcode (the model's choice, log entry 7). -/
def Obligations.QueriesAnswer : Prop :=
  ∀ (s : State) (p : List Byte),
    let u := s.headOff
    let ok (d : List Byte) : Res := .next (u.pushReply (accept p d))
    (s.takes 0x0101 p = true → exec .getId s = ok (idData s)) ∧
    (s.takes 0x0102 p = true → exec .getStatus s = ok (statusData u)) ∧
    (s.takes 0x0103 p = true → exec .getAxis s = ok (axisData s (pAxis p))) ∧
    (s.takes 0x0104 p = true → pPar p 0 4 ≤ 65535 → 1 ≤ pPar p 4 2 → pPar p 4 2 ≤ 1016 → pPar p 0 4 + pPar p 4 2 ≤ 65536 →
      exec .getTelemetry s = ok (leBytes 8 s.exch.telemHeat.toNat ++
        (List.range (pPar p 4 2)).map fun i => telemByte s (pPar p 0 4 + i))) ∧
    (s.takes 0x0202 p = true → pPar p 0 2 = 1 → ∀ w, s.paramValue (pPar p 4 2) = some w →
      exec .getParam s = ok (leBytes 2 (pPar p 4 2) ++ [0, 0] ++ leBytes 4 w.toNat)) ∧
    (s.takes 0x0501 p = true → exec .journalQuery s = ok (queryData s (BitVec.ofNat 32 (pPar p 0 4)))) ∧
    (s.takes 0x0502 p = true → pPar p 0 2 ≤ 8191 → 1 ≤ pPar p 2 1 → pPar p 2 1 ≤ 16 → pPar p 3 1 = 0 →
      exec .journalRead s = ok (Journal.slots s.jrn.a (pPar p 0 2) (pPar p 2 1))) ∧
    (s.takes 0x0801 p = true → exec .lcState s = ok (lcData s)) ∧
    (s.takes 0x0901 p = true → exec .thermalStatus s = ok (thermalData s)) ∧
    (s.atHead p = true → opRow (pOpc p) = none → pLen p ≤ 1024 → p.length = 16 + pLen p →
      (crc32c (p.take (12 + pLen p))).toNat = leAt p (12 + pLen p) 4 →
      exec .unlistedOpcode s = .next (u.pushReply (refusal (pOpc p) (pSeq p) stBadOpcode 0 0)))

/-- R367, 04 R109: a SET_PARAM of one system parameter inside its range is answered OK and takes effect in MGMT's table at
once, whatever mould is active; with PERSIST it waits for its commit with its outlet entry reserved (R350). So does one of
several entries, of system, mould and axis parameters: of two for one ID the last stands; POSCLOSED and POSOPEN of a standard mould
go into the travel store, and PROFOK is cleared (06 R587); with a mould active the values are published, where no publication
stands (04 R109); a refusal sets none of them. STORE_CONFIG runs in the background and
its end writes the partition and answers (12 R371).
A packet row takes the head of the ladle when it is of its opcode (the model's choice, log entry 7). -/
def Obligations.ParametersAreSet : Prop :=
  ∀ (s : State) (p : List Byte),
    let u := s.headOff
    let id := pPar p 4 2
    let v := BitVec.ofNat 32 (pPar p 8 4)
    (s.takes 0x0201 p = true → pPar p 0 2 = 1 → isSysPar id = true → sysParOk id v = true →
      (pPersist p = false →
        ∃ t, exec .setParam s = .next t ∧ Sparse.get none id t.mgmt.par = some v ∧
          t.mgmt.outlet = s.mgmt.outlet ++ [accept p [1, 0, 0, 0]] ∧ t.mgmt.stored = s.mgmt.stored ∧
          (s.moulds.active = none → Frame [.mgmt] s t)) ∧
      (pPersist p = true → s.commitFull (cfgPends p (setEntries p)) = true →
        exec .setParam s = .next (u.pushReply (refuse p stBusy 7 0xFFFF))) ∧
      (pPersist p = true → s.commitFull (cfgPends p (setEntries p)) = false →
        ∃ t, exec .setParam s = .next t ∧ t.mgmt = { u.mgmt with reserved := s.mgmt.reserved + 1 } ∧
          t.jrn.maxSeq = pSeq p ∧ t.jrn.pend.length = s.jrn.pend.length + 1 ∧ Frame [.mgmt, .jrn] s t)) ∧
    (let l := setEntries p
     let last (i : Nat) : Option Word := (l.reverse.find? fun x => decide (x.2.1 = i)).map fun x => x.2.2
     s.takes 0x0201 p = true → 1 ≤ l.length →
       (∀ x ∈ l, u.setNeedsDisabled x.2.1 = false ∧ u.ckEntry p x = none) → u.ckBrake p l = none →
       (l.length ≤ 127 → pPersist p = false → Sparse.wf none s.mgmt.par = true →
         ∃ t, exec .setParam s = .next t ∧ t.mgmt.outlet = s.mgmt.outlet ++ [accept p (leBytes 2 l.length ++ [0, 0])] ∧
           (∀ x ∈ l, (∀ n, u.setKind x.2.1 ≠ .pos n) → Sparse.get none x.2.1 t.mgmt.par = last x.2.1) ∧
           (∀ i, last i = none → Sparse.get none i t.mgmt.par = Sparse.get none i s.mgmt.par) ∧
           (∀ m k, s.moulds.active = some m → m.std = some k → ∀ n : Fin 4,
             let c := 0x1000 * (n.val + 1) + 0x080
             (t.mgmt.travel.get n).closed = (last c).getD (s.mgmt.travel.get n).closed ∧
             (t.mgmt.travel.get n).opened = (last (c + 1)).getD (s.mgmt.travel.get n).opened ∧
             ((last c).isSome ∨ (last (c + 1)).isSome → (t.std.ax.get n).profok = false)) ∧
           (∀ m, s.moulds.active = some m → t.exch.pub = (if s.exch.pub = .none then .ordinary else s.exch.pub)) ∧
           t.mgmt.stored = s.mgmt.stored ∧ t.mgmt.jobs = s.mgmt.jobs ∧ Frame [.mgmt, .std, .exch, .evm] s t) ∧
       (l.length ≤ 80 → pPersist p = true → s.commitFull (cfgPends p l) = false →
         ∃ t, exec .setParam s = .next t ∧ t.mgmt = { u.mgmt with reserved := s.mgmt.reserved + 1 } ∧
           t.jrn.maxSeq = pSeq p ∧ t.jrn.pend.length = s.jrn.pend.length + (l.length + 4) / 5 ∧ Frame [.mgmt, .jrn] s t)) ∧
    (s.takes 0x0201 p = true → (∃ x ∈ setEntries p, u.setNeedsDisabled x.2.1 = true) →
      exec .setParam s = .next (u.pushReply (refuse p stBadState 0 0xFFFF))) ∧
    (s.takes 0x0203 p = true → s.bgFree = true → exec .storeConfig s = .next (u.startBg p .storeConfig)) ∧
    (∀ (o : Nat) (q : Word), s.mgmt.bg = some ⟨.storeConfig, o, q⟩ →
      ∃ t, exec .storeConfigDone s = .next t ∧ t.mgmt.bg = none ∧ t.mgmt.stored.par = s.mgmt.par ∧
        t.mgmt.stored.qmap = s.evm.qmap ∧ t.mgmt.outlet = s.mgmt.outlet ++ [okReply o q []] ∧
        t.mgmt.reserved = s.mgmt.reserved - 1 ∧ Frame [.mgmt, .jrn] s t)

/-- The job commands and their opcodes (Table 11-10). -/
def jobCommands : List (Instr × Nat) :=
  [(.moveTo, 0x0301), (.moveVel, 0x0302), (.hold, 0x0303), (.stop, 0x0304), (.release, 0x0305), (.learnTravel, 0x0306),
   (.home, 0x0307), (.resume, 0x0308), (.cancel, 0x0309)]

/-- R349, R352 to R355, R363: a job packet that passes its checks gets a place in the next commit, an outlet entry and a
place among the jobs of its axis, awaiting its commit; its SEQ is the largest accepted; nothing else changes. One that fails
its state, value or room checks is answered and changes nothing else.
12 R389: a JOURNAL_TRIM that passes its checks waits for its commit with its reply reserved, one at or below the horizon is
answered at once, and the refusals are checked state before value before room.
A packet row takes the head of the ladle when it is of its opcode (the model's choice, log entry 7); a job that awaits its commit
counts as queued (log entry 113). -/
def Obligations.JobAndTrimPacketsAwaitCommit : Prop :=
  (∀ (s : State) (x : Instr × Nat) (p : List Byte), x ∈ jobCommands → s.takes x.2 p = true →
    let u := s.headOff
    let n := pAxis p
    let q : Job := { seq := pSeq p, opc := pOpc p, ax := n, par := pBody p, flags := pFlags p, st := .awaiting, due := false }
    let checks := firstRefusal [u.ckJobState p n, u.ckJobVal p n, u.ckJobRoom p n]
    (checks = none →
      exec x.1 s = .next { u with
        mgmt := { u.mgmt with reserved := u.mgmt.reserved + 1, jobs := u.mgmt.jobs ++ [q] }
        jrn := { u.jrn with
          pend := u.jrn.pend ++ [⟨q.record 1 0 0 false, 2, some [], pSeq p, none, s.jrn.maxSeq⟩], maxSeq := pSeq p } }) ∧
    (∀ r, checks = some r → exec x.1 s = .next (u.pushReply r))) ∧
  (∀ (s : State) (p : List Byte), s.takes 0x0503 p = true →
    let u := s.headOff
    let q := pPar p 0 4
    let open_ := s.mgmt.jobs.any fun x => decide (x.seq.toNat ≤ q)
    let ok := decide (0 < q) && decide (q ≤ s.jrn.maxSeq.toNat)
    (open_ = true → exec .journalTrim s = .next (u.pushReply (refusal (pOpc p) (pSeq p) stBadState 0 0xFFFF))) ∧
    (open_ = false → ok = false → exec .journalTrim s = .next (u.pushReply (refusal (pOpc p) (pSeq p) stBadParam 4 12))) ∧
    (open_ = false → ok = true → q ≤ s.jrn.trim.toNat →
      exec .journalTrim s = .next (u.pushReply (accept p [0, 0, 0, 0]))) ∧
    (open_ = false → ok = true → s.jrn.trim.toNat < q → s.commitFull [trimPend p] = true →
      exec .journalTrim s = .next (u.pushReply (refusal (pOpc p) (pSeq p) stBusy 7 0xFFFF))) ∧
    (open_ = false → ok = true → s.jrn.trim.toNat < q → s.commitFull [trimPend p] = false →
      exec .journalTrim s = .next { u with
        mgmt := { u.mgmt with reserved := u.mgmt.reserved + 1 }
        jrn := { u.jrn with pend := u.jrn.pend ++ [trimPend p] } }))

/-- R356 to R359: the job that may start on an axis is chosen for the next tick boundary. An immediate RESUME releases the
hold of its axis and is over; a CANCEL ends the queued jobs of its axis that it names, or all, CANCELLED, leaves the running job,
and is over; a STOP ends the running and the queued jobs CANCELLED, takes a moving or holding axis to STOPPING with its cause, and
is over at once where the axis does not move (at a holding axis the model's reading, log entry 143).
R360, R361: in RUN with HOSTTO above 0 the silence of the host raises EV249 and is logged once, until the next accepted
frame; every axis with a running or queued job is held, and stops with HOSTACT 1; with no job nothing else changes. A job that
awaits its commit counts as queued (log entry 113). -/
def Obligations.JobsStartResumeAndFallSilent : Prop :=
  (∀ (s : State) (n : Fin 4) (q : Job),
     (s.startable n = some q → ∃ t, exec (.jobStart n) s = .next t ∧
       t.mgmt.jobs = s.mgmt.jobs.map (fun x => if x.seq = q.seq then { x with st := .starting } else x) ∧
       t.mgmt.jax = s.mgmt.jax ∧ t.mgmt.outlet = s.mgmt.outlet ∧ Frame [.mgmt] s t) ∧
     (s.immediateDue n = some q → q.opc = 0x0308 → s.jrn.fault = false →
       ∃ t, exec (.immediateJobEffect n) s = .next t ∧ (t.mgmt.jax.get n).held = false ∧
         (t.mgmt.jax.get n).lastSeq = q.seq ∧ (t.mgmt.jax.get n).lastOut = 4 ∧
         t.mgmt.jobs = s.mgmt.jobs.filter (fun x => decide (x.seq ≠ q.seq)) ∧
         t.jrn.pend.length = s.jrn.pend.length + 2 ∧ (t.axis n).st = (s.axis n).st ∧ Frame [.mgmt, .jrn] s t) ∧
     (s.immediateDue n = some q → q.opc = 0x0309 → s.jrn.fault = false →
       let named (y : Job) : Bool := decide (leAt q.par 0 4 = 0) || decide (y.seq.toNat = leAt q.par 0 4)
       ∃ t, exec (.immediateJobEffect n) s = .next t ∧
         t.mgmt.jobs = s.mgmt.jobs.filter (fun x => decide (x.seq ≠ q.seq) &&
           !(s.queuedJobs n).any fun y => named y && decide (y.seq = x.seq)) ∧
         (t.mgmt.jax.get n).lastSeq = q.seq ∧ (t.mgmt.jax.get n).lastOut = 4 ∧
         t.jrn.pend.length = s.jrn.pend.length + ((s.queuedJobs n).filter named).length + 2 ∧
         Frame [.mgmt, .jrn] s t) ∧
     (s.immediateDue n = some q → q.opc = 0x0304 → s.jrn.fault = false →
       let st := (s.axis n).st
       let gone (x : Job) : Bool := (s.running n).any (fun r => decide (r.seq = x.seq)) ||
         (s.queuedJobs n).any fun y => decide (y.seq = x.seq)
       ∃ t, exec (.immediateJobEffect n) s = .next t ∧ t.queuedJobs n = [] ∧
         t.mgmt.jobs = (((s.mgmt.jobs.filter fun x => !gone x).map fun x =>
           if x.seq = q.seq then { x with st := .started } else x).filter fun x => st.moves || decide (x.seq ≠ q.seq)) ∧
         (st.moves = false → (t.mgmt.jax.get n).lastSeq = q.seq ∧ (t.mgmt.jax.get n).lastOut = 4) ∧
         (t.mgmt.jax.get n).req = (if st.stops then 9 else (s.mgmt.jax.get n).req) ∧
         (t.axis n).nxt = (if st = .start ∨ st = .run ∨ st = .hold then
           (match (s.axis n).nxt with
             | some .fault => some .fault
             | some .recovery => some .recovery
             | _ => some .stopping) else (s.axis n).nxt) ∧ (t.axis n).st = st ∧
         t.jrn.pend.length = s.jrn.pend.length + (if (s.running n).isSome then 1 else 0) + (s.queuedJobs n).length + 1 +
           (if st.moves then 0 else 1) ∧ Frame [.mgmt, .jrn, .ax] s t)) ∧
  (∀ s : State, s.dev = .run → sysValue s.mgmt.par 0xF001 ≠ 0 →
     (s.calm 249 = true → s.mgmt.silent = false → s.mgmt.jobs = [] → ∃ t, exec .hostSilence s = .next t ∧
       t.mgmt.silent = true ∧ t.evm = s.evm.route 249 ∧ t.mgmt.flog = s.mgmt.flog ++ [⟨249, s.tick.heat, none⟩] ∧
       Frame [.mgmt, .evm] s t) ∧
     (s.calm 249 = true → s.mgmt.silent = false → ∃ t, exec .hostSilence s = .next t ∧ t.mgmt.silent = true ∧
       t.mgmt.jobs = s.mgmt.jobs ∧ ∀ n : Fin 4,
         ((s.running n).isSome = true ∨ s.queuedJobs n ≠ [] → (t.mgmt.jax.get n).held = true ∧
           (sysValue s.mgmt.par 0xF002 = 1 → (s.axis n).st.stops = true → (t.mgmt.jax.get n).req = 10)) ∧
         (s.running n = none → s.queuedJobs n = [] → t.mgmt.jax.get n = s.mgmt.jax.get n)) ∧
     (s.mgmt.silent = true → exec .hostSilence s = .next s))

/-! ### Moulds (04) -/

/-- Table 4-5, R118 to R128, R591: the mould packets that pass their checks. BEGIN opens the staging window with its length;
CHECK, COMMIT and STORE start their background operation, taking LOCK0 where they read the staging window; SELECT of an NVM
source starts the copy, and a deactivation with no mould active is answered at once.
A packet row takes the head of the ladle when it is of its opcode (the model's choice, log entry 7). -/
def Obligations.MouldPacketsStart : Prop :=
  ∀ (s : State) (p : List Byte),
    let u := s.headOff
    (s.takes 0x0401 p = true → 1 ≤ pPar p 0 4 → pPar p 0 4 ≤ 524288 → exec .mouldBegin s =
      .next (({ u with
        moulds := { u.moulds with stageLen := some (pPar p 0 4), stageok := false }
        mgmt := { u.mgmt with bg := u.mgmt.bg.map fun (x : Bg) => ({ x with op := x.op.begun } : Bg) } } : State).pushReply
        (accept p []))) ∧
    (s.takes 0x0403 p = true → s.moulds.stageLen.isSome = true → s.lock0Free = true → s.bgFree = true →
      exec .mouldCheck s = .next ((u.lock0Set 1).startBg p (.mouldCheck u.staged false))) ∧
    (s.takes 0x0404 p = true → s.moulds.stageok = true → s.selectOpen = false → s.lock0Free = true → s.bgFree = true →
      exec .mouldCommit s = .next ((u.lock0Set 1).startBg p (.mouldCommit u.staged))) ∧
    (s.takes 0x0406 p = true → pPar p 1 1 ≤ 3 → s.bgFree = true →
      (pPar p 0 1 = 0 → s.moulds.stageok = true → s.lock0Free = true →
        exec .mouldStore s = .next ((u.lock0Set 1).startBg p (.mouldStore 0 (pPar p 1 1) u.staged))) ∧
      (pPar p 0 1 = 1 → s.moulds.inactok = true → s.selectOpen = false →
        exec .mouldStore s = .next (u.startBg p (.mouldStore 1 (pPar p 1 1) (u.inactImage.getD (.raw 0 [])))))) ∧
    (s.takes 0x0405 p = true →
      (pPar p 0 1 = 0xFF → s.allDisabled = true → s.moulds.active = none → s.selectOpen = false → exec .mouldSelect s =
        .next (u.pushReply (accept p (leBytes 8 s.tick.heat.toNat ++ [0, 0, 0, 0])))) ∧
      (srcNvm (pPar p 0 1) = true → u.selectBad (pPar p 0 1) = false → s.selectOpen = false → s.bgFree = true →
        exec .mouldSelect s = .next (u.startBg p (.selectCopy (pPar p 0 1) false))))

/-- R113, R115, R119, R122: the end of a check, a commit, a store or a copy. A check that finds nothing sets STAGEOK, unless a
MOULD_BEGIN has come since it began; a copy
that verifies stands in its slot and is marked so; one that does not leaves no valid image; LOCK0 is released and the
reserved outlet entry is used. -/
def Obligations.MouldOperationsEnd : Prop :=
  ∀ (s : State) (o : Nat) (q : Word) (dst src : Nat) (i : Image) (f : CkFail) (stale : Bool),
    (s.mgmt.bg = some ⟨.mouldCheck i stale, o, q⟩ →
      (i.check s.lc s.run = none → ∃ t, exec .mouldCheckDone s = .next t ∧ t.moulds.stageok = (s.moulds.stageok || !stale) ∧
        t.moulds.lastfail = 0 ∧ t.mgmt.bg = none ∧ t.mgmt.outlet = s.mgmt.outlet ++ [okReply o q (checkData none)] ∧
        Frame [.mgmt, .moulds, .locks] s t) ∧
      (i.check s.lc s.run = some f → ∃ t, exec .mouldCheckDone s = .next t ∧ t.moulds.stageok = s.moulds.stageok ∧
        t.moulds.lastfail = BitVec.ofNat 8 f.code ∧ t.mgmt.bg = none ∧ t.moulds.active = s.moulds.active ∧
        Frame [.mgmt, .moulds, .locks] s t)) ∧
    (s.mgmt.bg = some ⟨.mouldCommit i, o, q⟩ →
      (i.crcOk = true → ∃ t, exec (.mouldCommitDone true) s = .next t ∧ t.inactImage = some i ∧ t.moulds.inactok = true ∧
        t.mgmt.outlet = s.mgmt.outlet ++ [okReply o q []] ∧ Frame [.mgmt, .moulds, .locks, .pour] s t) ∧
      (∃ t, exec (.mouldCommitDone false) s = .next t ∧ t.moulds.inactok = false ∧
        t.mgmt.outlet = s.mgmt.outlet ++ [refusal o q stMouldInvalid 0 0xFFFF] ∧
        Frame [.mgmt, .moulds, .locks, .pour] s t)) ∧
    (s.mgmt.bg = some ⟨.mouldStore src dst i, o, q⟩ →
      (i.crcOk = true → ∃ t, exec (.mouldStoreDone true) s = .next t ∧ t.moulds.cust.get (axOf dst) = (some i, true) ∧
        t.mgmt.outlet = s.mgmt.outlet ++ [okReply o q []] ∧ Frame [.mgmt, .moulds, .locks] s t) ∧
      (∃ t, exec (.mouldStoreDone false) s = .next t ∧ (t.moulds.cust.get (axOf dst)).2 = false ∧
        Frame [.mgmt, .moulds, .locks] s t)) ∧
    (s.mgmt.bg = some ⟨.selectCopy src false, o, q⟩ →
      ((s.nvmImage src).check s.lc s.run = some f → ∃ t, exec .mouldSelectCopyDone s = .next t ∧
        t.moulds.inactok = false ∧ t.moulds.lastfail = BitVec.ofNat 8 f.code ∧ t.mgmt.bg = none ∧
        t.moulds.active = s.moulds.active ∧
        t.mgmt.outlet = s.mgmt.outlet ++ [refusal o q (failStatus f.code) 0 0xFFFF] ∧ Frame [.mgmt, .moulds, .pour] s t) ∧
      ((s.nvmImage src).check s.lc s.run = none → (s.nvmImage src).info.runOk s.run = true →
        s.activatable (s.nvmImage src).info = true →
        ∃ t, exec .mouldSelectCopyDone s = .next t ∧ t.moulds.inactok = true ∧ t.moulds.lastfail = 0 ∧
          t.moulds.pend.isSome = true ∧ t.mgmt.bg = none ∧ t.mgmt.outlet = s.mgmt.outlet ∧
          Frame [.mgmt, .moulds, .pour] s t)) ∧
    (∀ (m old : MouldInfo) (un k : Nat) (h : BitVec 64) (b : Bool),
      s.moulds.pend = some ⟨.live, some m, 0, q, un, h, k, b⟩ → s.moulds.active = some old → 1 ≤ k →
      s.moulds.loadleft ≤ old.loadRate → exec .liveLoadComplete s = .next { s with
        pour := s.pour.load m s.moulds.active false
        moulds := { s.moulds with pend := some ⟨.live, some m, 1, q, un, h, k, b⟩, swap := 3, loadleft := 0 } })

/-! ### The journal (12) -/

/-- R373, R375: in tick 15 a commit takes up to sixteen waiting records, transitions first, then carries, then new packets,
each with the heat of the commit; a commit still running then is a journal fault, and under the fault none begins. With the fault
the packets that wait are answered BUSY, DCODE 7, and their jobs are none (the model's choice, log entry 91); they consume no SEQ (11
R342). Outside tick 15 the
command changes nothing.
R373, R374, R375: whatever its read-backs are, the programming of a record completes. One that reads back in both copies
stands in both at the write pointer, which moves past it, and no other index changes; with the last record the commit ends.
One that fails in a copy retires its index in both and is programmed again at the next; the 256th retired index is a
journal fault. With no record to program nothing changes. -/
def Obligations.CommitsTakeAndProgramRecords : Prop :=
  (∀ s : State,
    (s.tick.on = true → s.tick.hidx = 15 → s.tick.atZero = false →
      (s.jrn.comBusy = false → s.jrn.fault = false → ∃ t, exec .commit s = .next t ∧ t.jrn.com = s.commitList ∧
        t.jrn.pend = s.jrn.pend.drop 16 ∧ t.jrn.comBusy = !s.commitList.isEmpty ∧
        (∀ x ∈ t.jrn.com, x.r.heat = s.tick.heat) ∧ t.jrn.a = s.jrn.a ∧ t.jrn.b = s.jrn.b ∧ Frame [.jrn] s t) ∧
      (s.jrn.comBusy = true → s.jrn.fault = false →
        let l := s.jrn.pend.filter fun p => decide (p.cls = 2)
        ∃ t, exec .commit s = .next t ∧ t.jrn = { s.jrn with
            fault := true, pend := s.jrn.pend.filter fun p => decide (p.cls ≠ 2)
            maxSeq := match l.find? fun p => decide (p.r.seq ≠ 0) with | some p => p.prev | none => s.jrn.maxSeq } ∧
          t.mgmt.jobs = s.mgmt.jobs.filter (fun q => !(decide (q.st = .awaiting) && l.any fun p => decide (p.r.seq = q.seq))) ∧
          t.evm = s.evm.route 250 ∧
          (s.calm 250 = true → t.mgmt.outlet = s.mgmt.outlet ++ ((l.filter fun p => p.reply.isSome).map fun p =>
            refusal p.r.opc.toNat p.rseq stBusy 7 0xFFFF) ∧ Frame [.jrn, .mgmt, .evm] s t)) ∧
      (s.jrn.fault = true → exec .commit s = .next s)) ∧
    (s.tick.on = false ∨ s.tick.hidx ≠ 15 ∨ s.tick.atZero = true → exec .commit s = .next s)) ∧
  (∀ s : State,
    (∀ okA okB : Bool, s.jrn.com = [] → exec (.recordProgrammed okA okB) s = .next s) ∧
    (∀ (w : Pend) (rest : List Pend) (okA okB : Bool), s.jrn.com = w :: rest →
      ∃ t, exec (.recordProgrammed okA okB) s = .next t ∧ t.jrn.com = (if okA && okB then rest else w :: rest) ∧
        (okA && okB → rest = [] → t.jrn.comBusy = false ∧ t.jrn.held = [])) ∧
    (∀ (w : Pend) (rest : List Pend), s.jrn.com = w :: rest → s.jrn.here + 1 < jrnSize →
      Sparse.wf Slot.blank s.jrn.a = true → Sparse.wf Slot.blank s.jrn.b = true →
      (∃ t, exec (.recordProgrammed true true) s = .next t ∧ Sparse.get .blank s.jrn.here t.jrn.a = .ok w.r ∧
        Sparse.get .blank s.jrn.here t.jrn.b = .ok w.r ∧ t.jrn.wp = s.jrn.here + 1 ∧
        (∀ i, i ≠ s.jrn.here → Sparse.get .blank i t.jrn.a = Sparse.get .blank i s.jrn.a) ∧
        (rest ≠ [] → s.jrn.wearRaised = true → Frame [.jrn] s t)) ∧
      (∀ okA okB : Bool, (okA && okB) = false → ∃ t, exec (.recordProgrammed okA okB) s = .next t ∧
        t.jrn.retired s.jrn.here = true ∧ t.jrn.wp = s.jrn.here + 1 ∧
        (255 ≤ s.jrn.retA.length → t.jrn.fault = true) ∧
        (s.jrn.retA.length < 255 → t.jrn.fault = s.jrn.fault ∧ (s.jrn.wearRaised = true → Frame [.jrn] s t)))))

/-! ### Frames of the Sprue port (13) -/

/-- R402 to R410: an accepted frame has its effect at the release of its select and answers with the STATUS byte, its own
ALIVE and its data: STATUS nothing, ECHO what was sent, READ the bytes of its region, TAKE the reply at the head of the
outlet, which it removes, and the deferred action of that reply takes place (11 R364); WRITE enters a register or the staging window, POST a packet into the ladle.
The output is driven in the mode the frame ran in (R395). R396: a frame clocked with another lane mode, or with other data
than its LEN announces, is what the port reads from its levels: a whole frame, or one that ends early. 19 R522: the fall of
the select ends a LOOPBACK of the port. A frame is one command (the model's choice, log entries 6 and 166). -/
def Obligations.AcceptedFramesAct : Prop :=
  (∀ (s : State) (f : Sys2Proof.Frame), ∀ x ∈ [(Instr.write f, Cmd.write), (.post f, .post), (.read f, .read),
      (.take f, .take), (.echo f, .echo), (.status f, .status)],
    exec x.1 s = exec x.1 s.selectFall ∧
    (f.mode.val ≠ s.spr.mode ∨ x.2.shaped f = false →
      let seen := s.spr.see f.mode f.ready (s.spr.levels (BitVec.ofNat 8 x.2.code) f)
      (∀ c g, seen = .whole c g → exec x.1 s = .next (s.selectFall.ofCmd c g)) ∧
      (∀ cmd g k, seen = .cut cmd g k → exec x.1 s = .next (s.selectFall.cutFrame cmd g k false)))) ∧
  (∀ (s : State) (f : Sys2Proof.Frame), f.mode.val = s.spr.mode → s.selectFall = s →
     let a := f.addr.toNat
     let n := f.len.toNat
     let answers (c : Instr) (d : List Byte) (ps : List Part) (also : State → Prop) : Prop :=
       ∃ t, exec c s = .next t ∧ t.spr.out = answerBytes s.statusByte f.alive d true ∧ t.spr.flg = 0 ∧
         t.spr.outMode = s.spr.mode ∧ t.mgmt.silent = false ∧ Frame ps s t ∧ also t
     let silent (c : Instr) (ps : List Part) (also : State → Prop) : Prop :=
       ∃ t, exec c s = .next t ∧ t.spr.out = [] ∧ t.spr.flg = s.spr.flg ∧ t.mgmt.silent = false ∧ Frame ps s t ∧ also t
     (s.accepts .status f = true → answers (.status f) [] [.spr, .mgmt] fun t =>
       (f.alive = 0 → t.spr.sync = true ∧ t.spr.exp = 1) ∧
       (f.alive ≠ 0 → t.spr.sync = s.spr.sync ∧ t.spr.exp = if s.spr.exp = 255 then 1 else s.spr.exp + 1)) ∧
     (s.accepts .echo f = true → answers (.echo f) f.data [.spr, .mgmt] fun t =>
       t.spr.sync = s.spr.sync ∧ t.spr.exp = if s.spr.exp = 255 then 1 else s.spr.exp + 1) ∧
     (s.accepts .read f = true →
       (0x10000 ≤ a → a + n ≤ 0x20000 → answers (.read f) ((List.range n).map fun i => telemByte s (a - 0x10000 + i))
         [.spr, .mgmt] fun t => t.exch = s.exch) ∧
       (0x100000 ≤ a → a + n ≤ 0x180000 → answers (.read f)
         ((List.range n).map fun i => s.moulds.staging.get (a - 0x100000 + i)) [.spr, .mgmt] fun t => t.moulds = s.moulds) ∧
       (0x200000 ≤ a → a + n ≤ 0x210000 → answers (.read f) ((List.range n).map fun i => s.jrn.viewByte (a - 0x200000 + i))
         [.spr, .mgmt] fun t => t.jrn = s.jrn) ∧
       (a < 0x8000 → a % 4 = 0 → n = 4 → s.regRead .host a = ((s.regRead .host a).1, s) →
         answers (.read f) (leBytes 4 (s.regRead .host a).1.toNat) [.spr, .mgmt] fun t => t.lc = s.lc)) ∧
     (s.accepts .take f = true → s.mgmt.defer = none →
       (∀ (r : Reply) (rest : List Reply), s.mgmt.outlet = r :: rest → r.bytes.length ≤ n →
         answers (.take f) (padTo n r.bytes) [.spr, .mgmt] fun t =>
           t.mgmt.outlet = rest ∧ t.mgmt.lastTaken = r.bytes ∧ t.mgmt.jobs = s.mgmt.jobs) ∧
       (s.mgmt.outlet = [] → answers (.take f) (List.replicate n 0) [.spr, .mgmt] fun t =>
         t.mgmt.outlet = [] ∧ t.mgmt.lastTaken = s.mgmt.lastTaken)) ∧
     (∀ (r : Reply) (rest : List Reply) (x : Deferred) (q : Word), s.accepts .take f = true → s.mgmt.outlet = r :: rest →
       r.bytes.length ≤ n → s.mgmt.defer = some (x, q) → ∃ t, exec (.take f) s = .next t ∧
         (¬(r.opc = x.opcode ∧ r.seq = q ∧ r.status = stOK) → t.mgmt.defer = some (x, q) ∧ t.mgmt.outlet = rest ∧
           t.dev = s.dev) ∧
         (r.opc = x.opcode → r.seq = q → r.status = stOK → t.mgmt.defer = none ∧
           (x = .sprueReset → t.spr.sync = false ∧ t.mgmt.outlet = rest ∧
             (∀ k : Fin 16, t.locks.owner.get k = if s.locks.owner.get k = 2 then 0 else s.locks.owner.get k)) ∧
           (s.dev = .ready ∨ s.dev = .run ∨ s.dev = .safe → x = .deviceReset ∨ x = .lcReset →
             t.dev = .boot ∧ t.pwr.cause = (if x = .lcReset then 4 else 2) ∧ t.mgmt.ladle = []) ∧
           (s.dev = .ready → x = .hibernate → t.dev = .hibernate) ∧
           (s.dev ≠ .thermalLatch → x = .rmaEnter → t.lc.rma = true ∧ t.mon.req = true ∧ t.mgmt.outlet = rest))) ∧
     (s.accepts .post f = true → s.mgmt.ladle.length < 32 → silent (.post f) [.spr, .mgmt] fun t =>
       t.mgmt.ladle = s.mgmt.ladle ++ [f.data] ∧ t.mgmt.outlet = s.mgmt.outlet) ∧
     (s.accepts .write f = true →
       (0x100000 ≤ a → silent (.write f) [.spr, .mgmt, .moulds] fun t =>
         t.moulds.staging = s.moulds.staging.putBytes (a - 0x100000) f.data ∧ t.moulds.stageok = false ∧
           t.moulds.active = s.moulds.active) ∧
       (a < 0x8000 → n = 4 → s.mayWrite .host a = true → exec (.write f) s =
         .next (((s.acceptFrame .write f.alive).regWrite .host a (BitVec.ofNat 32 (leAt f.data 0 4))).drive s.spr.mode []))))

/-- R400, R401, R405, R414, R415: a frame that Table 13-3 refuses, by its LEN or by what a whole frame meets, has no effect
but its flags, their counters and events: neither queue, SYNC nor EXP changes, and what it answers fails its CRC unless only
the ALIVE of a STATUS was wrong. An answer whose data is not ready, a frame with an unknown command and a frame cut short set
ABORT_PREV or RANGE_PREV likewise, the last beside the flags of the conditions that what was read decides. A frame that times
out sets ABORT_PREV. The port returns to idle with everything kept. What of a cut frame the port has read is the model's
reading of the levels (log entries 166, 176). -/
def Obligations.RejectedFramesOnlyFlag : Prop :=
  ∀ (s : State) (f : Sys2Proof.Frame), s.portUp = true → f.mode.val = s.spr.mode → s.selectFall = s →
    let onlyFlags (c : Instr) (x : FrFlags) (out : List Byte) : Prop :=
      let up (k : Nat) (n : Byte) : Byte := if x.getLsbD k then sat8 n else n
      ∃ t, exec c s = .next t ∧ t.spr.flg = s.spr.flg ||| x ∧ t.spr.out = out ∧ t.spr.sync = s.spr.sync ∧
        t.spr.exp = s.spr.exp ∧ t.mgmt.ladle = s.mgmt.ladle ∧ t.mgmt.silent = s.mgmt.silent ∧
        t.spr.eRange = up 0 s.spr.eRange ∧ t.spr.eAbort = up 1 s.spr.eAbort ∧ t.spr.eAlive = up 2 s.spr.eAlive ∧
        t.spr.eCrc = up 3 s.spr.eCrc ∧ Frame (.spr :: raiseParts) s t
    let range := frFlag true false false false
    let abort := frFlag false true false false
    let zeros := answerBytes s.statusByte f.alive (List.replicate f.len.toNat 0) false
    (∀ x ∈ [(Instr.write f, Cmd.write, []), (.post f, .post, []), (.read f, .read, zeros), (.take f, .take, zeros),
        (.echo f, .echo, zeros), (.status f, .status, answerBytes s.statusByte f.alive []
          (decide (s.judge .status f = frFlag false false true false)))],
      x.2.1.shaped f = true →
        (x.2.1.lenOk f.len.toNat = false → onlyFlags x.1 range []) ∧
        (x.2.1.lenOk f.len.toNat = true → s.judge x.2.1 f ≠ 0 → onlyFlags x.1 (s.judge x.2.1 f) x.2.2) ∧
        (x.2.1.lenOk f.len.toNat = true → s.judge x.2.1 f = 0 → x.2.1.answers = true → f.ready = false →
          onlyFlags x.1 abort (if x.2.1 = .status then answerBytes s.statusByte f.alive [] false else zeros))) ∧
    (f.crc ≠ crc32c (frameBody .read f) → (s.judge .read f).getLsbD 3 = true) ∧
    (f.alive = 0 ∨ f.alive ≠ s.spr.exp → f.crc = crc32c (frameBody .read f) → (s.judge .read f).getLsbD 2 = true) ∧
    (∀ cmd : Byte, Cmd.ofCode cmd = none → onlyFlags (.unknownCmdFrame cmd f) range []) ∧
    (∀ (cmd : Byte) (c : Cmd), Cmd.ofCode cmd = some c → c.lenOk f.len.toNat = false →
      onlyFlags (.unknownCmdFrame cmd f) range []) ∧
    (∀ (cmd cmd1 : Byte) (c : Cmd) (cycles : Nat) (g : Sys2Proof.Frame) (k : CutAt),
      s.spr.see f.mode f.ready ((s.spr.levels cmd f).take cycles) = .cut cmd1 g k → Cmd.ofCode cmd1 = some c →
        let bad := if c.lenOk g.len.toNat = false ∨ s.badHeader c g = true then range else 0
        (k = .early → onlyFlags (.frameAbort cmd f cycles) abort []) ∧
        (k = .header → onlyFlags (.frameAbort cmd f cycles) (bad ||| abort) []) ∧
        (∀ n, k = .crc n → c.lenOk g.len.toNat = true → s.judge c g ≠ 0 →
          onlyFlags (.frameAbort cmd f cycles) (s.judge c g ||| abort) (s.badAnswer c g (s.judge c g)))) ∧
    (∀ (cmd : Byte) (cycles : Nat), cycles < 8 / (sprueLanes s.spr.mode).cmd →
      onlyFlags (.frameAbort cmd f cycles) abort []) ∧
    (∃ t, exec .frameTimeout s = .next t ∧ t.spr.flg.getLsbD 1 = true ∧ t.spr.sync = s.spr.sync ∧
      t.spr.exp = s.spr.exp ∧ t.mgmt.ladle = s.mgmt.ladle ∧ t.mgmt.silent = s.mgmt.silent ∧
      ((∀ k, k < 256 → s.evm.qmap.getLsbD k = true → k = 203) → t.mgmt.outlet = s.mgmt.outlet)) ∧
    exec .sprueIdleReset s = .next s

/-! ### The Runner port (14) -/

/-- R421 to R429: a mould transaction starts at its START in a tick its HMASK names while nothing runs, an MGMT transaction in
the window left free; it sends its command first and, where the device asks for it, the CRC-32C of what it sent; it completes
at start + 8 + setup + N cycles + hold, with its device selected throughout and RSTBn low from 4 cy after the start to 4 cy
before the end (Table 14-2). At the end of a good read its words stand in RUNRES behind the status word and the alive counter
of the device advances; a wrong CRC leaves the data words, marks the status word and sets the flag. The bytes received are
read from the lanes (R422). A failed MGMT read is retried up to three times (R429): it waits, or has started again. START
and C are reached by the commands, at XP and after it with the swap of the tick behind them (02 R57), and no MGMT transaction may
pass a START of the next tick (the model's choices, log entries 6, 156 and 178). Stated with no result in flight. -/
def Obligations.RunnerTransactionsComplete : Prop :=
  ∀ (s : State) (i : Fin 32) (d : RunDesc) (dev : BitVec 3) (cmd : Byte) (addr : BitVec 24) (w : Bool) (tx : List Byte)
    (n : BitVec 6) (x : RunTx) (lv : List Byte), s.pour.inflight = [] →
    let drives (y : RunTx) (k start : Nat) (c0 : Byte) : Prop :=
      (∀ e, (y.pinsAt e).rsel = BitVec.ofNat 3 k ∧
        (y.pinsAt e).rstb = !(decide (4 ≤ e) && decide (e + 4 < y.c - start))) ∧
      y.start = start ∧ y.sent.head? = some c0 ∧
      (s.run.crcen k = true → ∃ l, y.sent = l ++ leBytes 4 (crc32c l).toNat)
    (s.runDesc i = some d → s.mayRun i d = true → d.dev < 8 → ∃ t y, exec (.runnerMouldStart i) s = .next t ∧
      t.run.tx = some y ∧ t.run.ran.getLsbD i.val = true ∧ y.mgmt = false ∧ y.res = d.res ∧ y.rxlen = d.rxlen ∧
      y.c = s.run.doneAt d.dev (decide (d.dir = 0)) (d.tx.take d.txlen).length d.rxlen d.start ∧
      drives y d.dev d.start d.cmd ∧ (s.exch.xpPast = true → t.exch = s.exch ∧ t.mgmt = s.mgmt) ∧
      Frame [.run, .tick, .exch, .mgmt] s t) ∧
    (s.runDesc i = some d → s.mayRun i d = false → exec (.runnerMouldStart i) s = .next s) ∧
    (1 ≤ dev.toNat → s.tick.on = true → s.run.tx = none → s.run.retry = none → s.runnerDown = false → s.run.free ≤ s.tick.cy →
      let c := s.run.doneAt dev.toNat (!w) tx.length n.toNat s.tick.cy
      s.runFits dev.toNat s.tick.cy c = true → ∃ t y, exec (.runnerMgmtStart dev cmd addr w tx n) s = .next t ∧
        t.run.tx = some y ∧ y.c = c ∧ y.mgmt = true ∧ y.rxlen = n.toNat ∧ drives y dev.toNat s.tick.cy cmd ∧
        Frame [.run] s t) ∧
    (s.run.tx = some x → s.tick.on = true → s.nowAt x.c = false → exec (.runnerComplete lv) s = .next s) ∧
    (s.run.tx = some x → s.run.retry = none → s.tick.on = false ∨ s.nowAt x.c = true →
      let rx := x.recv lv
      let k := x.dev.toNat
      let old := s.pour.runres.getD x.res 0
      (x.mgmt = false → x.isRead = false → ∃ t, exec (.runnerComplete lv) s = .next t ∧ t.run.tx = none ∧
        t.run.free = x.c + s.run.idle k ∧ t.run.flag = s.run.flag ∧
        t.pour = { s.pour with runres := s.pour.runres.setIfInBounds x.res (runStatus old x.alv false false true) } ∧
        (s.exch.xpPast = true → t.exch = s.exch ∧ t.mgmt = s.mgmt) ∧ Frame [.run, .pour, .tick, .exch, .mgmt] s t) ∧
      (x.mgmt = false → x.isRead = true → x.crcBad rx = false → x.echoBad rx = false →
        ∃ t, exec (.runnerComplete lv) s = .next t ∧ t.run.tx = none ∧
        t.run.free = x.c + s.run.idle k ∧ t.run.flag = s.run.flag ∧
        t.pour = { s.pour with
          runres := putWords (s.pour.runres.setIfInBounds x.res (runStatus old x.alv false false true)) (x.res + 1)
            (runWords x.rxlen (x.data rx)) } ∧
        (s.run.alven k = true → t.run.alive k = if s.run.alive k = 255 then 1 else s.run.alive k + 1) ∧
        Frame [.run, .pour, .tick, .exch, .mgmt] s t) ∧
      (x.mgmt = false → x.isRead = true → x.crcBad rx = true → x.echoBad rx = false →
        ∃ t, exec (.runnerComplete lv) s = .next t ∧
        t.run.tx = none ∧ t.run.flag.getLsbD k = true ∧ t.run.deva = s.run.deva ∧ t.run.devb = s.run.devb ∧
        t.pour.runres = s.pour.runres.setIfInBounds x.res (runStatus old x.alv false true false) ∧
        Frame (.run :: .pour :: raiseParts) s t) ∧
      (x.mgmt = true → x.isRead = true → x.crcBad rx = false → x.echoBad rx = false →
        ∃ t, exec (.runnerComplete lv) s = .next t ∧ t.run.tx = none ∧ t.run.mdata = x.data rx ∧
        t.pour = s.pour ∧ Frame [.run, .tick, .exch, .mgmt] s t) ∧
      (x.mgmt = true → x.isRead = true → x.crcBad rx = true →
        ∃ t, exec (.runnerComplete lv) s = .next t ∧ t.run.flag.getLsbD (16 + k) = true ∧ t.run.mdata = s.run.mdata ∧
        t.pour = s.pour ∧ (3 ≤ x.tries → t.run.tx = none ∧ t.run.retry = none) ∧
        (x.tries < 3 → (∃ y, t.run.retry = some y ∧ y.tries = x.tries + 1 ∧ y.sent = x.sent) ∨
          (∃ y, t.run.tx = some y ∧ y.tries = x.tries + 1 ∧ y.cmd = x.cmd ∧ y.addr = x.addr))))

/-! ### Function resets, deferred actions and faults of an axis (11, 15, 16, 18) -/

/-- R364, R472, 14 R430, 15 R448: a RESET_FUNC taken while none is under way begins the reset of its function: an axis goes
to RECOVERY, the job of a link's axis is interrupted, the converter drops its unread result, the Runner port returns to
idle, a mailbox channel keeps its binding only; the Sprue port is answered first and reset when the reply is taken.
R364, R471, R472: the reset under way ends with its OK reply: an axis returns to DISABLED with its compares, flags and
counters cleared, its configuration kept and its link retrained. 15 R451: a pending fault event of an axis is taken by MGMT
and the axis goes to FAULT at the next boundary; so does an axis that a standard mould's CAUSE names, with EV211 (06 R205; how
MGMT learns the axis is log entry 169), which stays pending while another axis waits.
A packet row takes the head of the ladle when it is of its opcode (the model's choice, log entry 7); a FUNC above 5 is handled
by one row (log entry 8). -/
def Obligations.FunctionResetsBeginAndEnd : Prop :=
  (∀ (s : State) (p : List Byte), s.takes 0x0601 p = true → s.mgmt.rfunc = none →
     let f := pPar p 0 1
     let n := pAxis p
     let ch := pPar p 1 1
     let begun (c : Instr) (k : Nat) (ps : List Part) (also : State → Prop) : Prop :=
       ∃ t, exec c s = .next t ∧ t.mgmt.rfunc = some (f, k, pSeq p) ∧ t.mgmt.reserved = s.mgmt.reserved + 1 ∧
         t.mgmt.outlet = s.mgmt.outlet ∧ t.mgmt.ladle = s.mgmt.ladle.tail ∧ Frame ps s t ∧ also t
     (f = 0 → begun .resetFuncAxis n.val [.mgmt, .ax] fun t => (t.axis n).nxt = some .recovery ∧
       (t.axis n).st = (s.axis n).st ∧ (∀ k, k ≠ n → t.axis k = s.axis k)) ∧
     (f = 1 → (s.axis n).st = .disabled ∨ (s.axis n).st = .fault → begun .resetFuncLink n.val [.mgmt, .jrn, .std] fun t =>
       (t.mgmt.jax.get n).held = true ∧ (∀ q, s.running n = some q → (t.mgmt.jax.get n).lastOut = 5)) ∧
     (f = 2 → begun .resetFuncSns 0 [.mgmt, .evm, .conv] fun t => t.conv.adrt.getLsbD 7 = false ∧
       t.conv.cur = (if s.conv.seqr.isEmpty then none else some (false, 0)) ∧ t.conv.refsel = s.conv.refsel) ∧
     (f = 4 → begun .resetFuncRunner 0 [.mgmt, .run, .pour] fun t => t.run.tx = none ∧ (∀ cy, t.run.pins cy = t.run.idlePins) ∧
       t.run.deva = s.run.deva ∧ t.pour.pdm = s.pour.pdm) ∧
     (f = 5 → ∀ k : Fin 16, ch = k.val → begun .resetFuncMailbox ch [.mgmt, .mail] fun t =>
       t.mail.ch.get k = (s.mail.ch.get k).cleared ∧ (∀ j : Fin 16, j ≠ k → t.mail.ch.get j = s.mail.ch.get j)) ∧
     (f = 3 → s.mgmt.defer = none → ∃ t, exec .resetFuncSprue s = .next t ∧
       t.mgmt.outlet = s.mgmt.outlet ++ [accept p []] ∧ t.mgmt.defer = some (.sprueReset, pSeq p) ∧ Frame [.mgmt] s t)) ∧
  (∀ (s : State) (n : Fin 4) (q : Word) (f : Nat),
     (s.mgmt.rfunc = some (0, n.val, q) → (s.axis n).st = .recovery → (s.axis n).nxt = none →
       ∃ t, exec .resetFuncDone s = .next t ∧ t.mgmt.rfunc = none ∧ t.mgmt.outlet = s.mgmt.outlet ++ [okReply 0x0601 q []] ∧
         (t.axis n).nxt = some .disabled ∧ (t.axis n).drv = (s.axis n).drv.funcReset ∧
         (t.axis n).drv.gdrv = (s.axis n).drv.gdrv ∧ (t.axis n).drv.tflag = 0 ∧ (t.axis n).link.trained = true ∧
         (t.axis n).regq = [] ∧ (∀ k, k ≠ n → t.axis k = s.axis k) ∧ Frame [.mgmt, .ax, .pour] s t) ∧
     (s.mgmt.rfunc = some (1, n.val, q) → ∃ t, exec .resetFuncDone s = .next t ∧ t.mgmt.rfunc = none ∧
       (t.axis n).drv = (s.axis n).drv ∧ (t.axis n).link.trained = true ∧ (t.axis n).regq = [] ∧
       t.pour.ax.get n = { s.pour.ax.get n with immq := [], regOn := false } ∧
       t.mgmt.outlet = s.mgmt.outlet ++ [okReply 0x0601 q []] ∧ Frame [.mgmt, .ax, .pour] s t) ∧
     (∀ k : Fin 16, 3 ≤ f → s.mgmt.rfunc = some (f, k.val, q) → exec .resetFuncDone s =
       .next (({ s with mgmt := { s.mgmt with rfunc := none } } : State).pushReserved (okReply 0x0601 q []))) ∧
     (s.mgmt.rfunc = some (2, n.val, q) → ∃ t, exec .resetFuncDone s = .next t ∧ t.mgmt.rfunc = none ∧
       t.pwr.snslock = true ∧ t.conv.flag.getLsbD 2 = false ∧ t.mgmt.outlet = s.mgmt.outlet ++ [okReply 0x0601 q []] ∧
       Frame [.mgmt, .pwr, .conv] s t) ∧
     (∀ j, j ∈ [1, 5, 9, 10, 11, 22] → (j = 5 → (s.axis n).missTwo = true) →
       s.evm.pendMgmt.getLsbD (40 * n.val + j) = true → (s.axis n).st ≠ .disabled →
       ∃ t, exec (.axisFaultApply n) s = .next t ∧ t.evm.pendMgmt.getLsbD (40 * n.val + j) = false ∧
         ((s.axis n).nxt ≠ some .recovery → (t.axis n).nxt = some .fault) ∧ (t.axis n).st = (s.axis n).st ∧
         (∀ k, k ≠ n → t.axis k = s.axis k) ∧ Frame [.evm, .ax, .mgmt] s t) ∧
     (s.stdK.isSome = true → s.evm.pendMgmt.getLsbD 211 = true → s.faultWaits n = true → (s.axis n).st ≠ .disabled →
       ∃ t, exec (.axisFaultApply n) s = .next t ∧ ((s.axis n).nxt ≠ some .recovery → (t.axis n).nxt = some .fault) ∧
         (t.axis n).st = (s.axis n).st ∧
         t.evm.pendMgmt.getLsbD 211 = (axes.any fun k => !decide (k = n) && s.faultWaits k) ∧
         (∀ k, k ≠ n → t.axis k = s.axis k) ∧ Frame [.evm, .ax, .mgmt] s t))

/-- R364: RESET_DEVICE, HIBERNATE and CLEAR_FAULT that pass their checks: the reply of the first two enters the outlet and
the action waits for it; the tick boundary decides the third (01 R33). When the time to take the reply has passed the action
takes place: the device is in BOOT with CAUSE 2, with CAUSE 4 after LC_ADVANCE (20 R544), or in HIBERNATE, or the Sprue port is as after reset with the host's locks
free, or RMA begins: the quench is requested, no other transition goes on and the wipe runs (19 R511, R521). NVM is kept (20 Table
20-5a); HIBERNATE lets the engines finish the record they were handed (20 R548). CLEAR_FAULT takes along a cause of the tick it
came in (18 R508). A packet row takes the head of the ladle when it is of its opcode (the model's choice, log entry 7); that
a second deferred action waits for the first is log entry 119, that HIBERNATE acts only in READY 47, that the record drained
there reads back whole 185, and how RMA entry quenches 48. -/
def Obligations.DeferredActionsTakePlace : Prop :=
  ∀ (s : State) (p : List Byte) (q : Word),
    let u := s.headOff
    let nvm (t : State) : Prop := t.jrn.a = s.jrn.a ∧ t.jrn.b = s.jrn.b ∧ t.jrn.wp = s.jrn.wp ∧
      t.mgmt.stored = s.mgmt.stored ∧ t.tick.ring = s.tick.ring ∧ t.mgmt.flog = s.mgmt.flog ∧
      (s.bgFree = true → s.lc.rma = false → t.lc.mem = s.lc.mem ∧ t.lc.mkey = s.lc.mkey) ∧
      t.pwr.therm = s.pwr.therm ∧ t.mon.fault = s.mon.fault ∧ t.pending = s.pending
    (s.mgmt.defer = none → s.takes 0x0602 p = true → pPar p 0 4 = 0x5A5A0602 →
      exec .resetDevice s = .next (u.deferAction p .deviceReset)) ∧
    (s.mgmt.defer = none → s.takes 0x0603 p = true → u.mgmt.ladle = [] → s.bgFree = true → s.jrn.waits = false →
      exec .hibernate s = .next (u.deferAction p .hibernate)) ∧
    (s.mgmt.clr = none → s.takes 0x0604 p = true → ∃ t, exec .clearFault s = .next t ∧
      t.mgmt.clr = some ((pAx p).setWidth 4, pSeq p, s.mgmt.tickCause) ∧ t.mgmt.reserved = s.mgmt.reserved + 1 ∧
      t.mgmt.outlet = s.mgmt.outlet ∧ Frame [.mgmt] s t) ∧
    (s.mgmt.defer = some (.sprueReset, q) → exec .deferredActionTimeout s = .next { s with
      mgmt := { s.mgmt with defer := none }
      spr := { lateN := s.spr.lateN }
      locks := { s.locks with owner := s.locks.owner.map fun o => if o = 2 then 0 else o } }) ∧
    (∀ x ∈ [(Deferred.deviceReset, (2 : BitVec 3)), (.lcReset, 4)], s.mgmt.defer = some (x.1, q) →
      s.dev = .ready ∨ s.dev = .run ∨ s.dev = .safe → s.jrn.com = [] →
      ∃ t, exec .deferredActionTimeout s = .next t ∧ t.dev = .boot ∧ t.pwr.phase = .rom ∧ t.pwr.cause = x.2 ∧
        t.tick.on = false ∧ t.mgmt.ladle = [] ∧ t.mgmt.jobs = [] ∧ t.moulds.active = none ∧ (∀ n, (t.axis n).st = .disabled) ∧
        nvm t) ∧
    (s.mgmt.defer = some (.hibernate, q) → s.dev = .ready → ∃ t, exec .deferredActionTimeout s = .next t ∧
      t.dev = .hibernate ∧ t.fi.wake = s.fi.wake ∧ t.tick.on = false ∧ t.jrn.com = [] ∧ (s.jrn.com = [] → nvm t)) ∧
    (∀ w : Pend, s.mgmt.defer = some (.hibernate, q) → s.dev = .ready → s.jrn.com = [w] →
      Sparse.wf Slot.blank s.jrn.a = true → Sparse.wf Slot.blank s.jrn.b = true →
      ∃ t, exec .deferredActionTimeout s = .next t ∧ t.dev = .hibernate ∧ Sparse.get .blank s.jrn.here t.jrn.a = .ok w.r ∧
        Sparse.get .blank s.jrn.here t.jrn.b = .ok w.r) ∧
    (s.mgmt.defer = some (.rmaEnter, q) → s.dev ≠ .thermalLatch → exec .deferredActionTimeout s = .next { s with
      mgmt := { s.mgmt with defer := none, bg := s.mgmt.bg.filter fun b => !b.op.programsLc }
      mon := { s.mon with req := true }
      lc := { s.lc with rma := true } })

/-! ### Life cycle and test (19) -/

/-- R516 to R520: LC_ADVANCE with its code, LC_SET_MOULD_KEY with a point of the curve and LC_RMA_ENTER with a nonce start
in the background; LC_RMA_CHALLENGE answers a fresh nonce. LC_ADVANCE's end writes FIELD into both copies, a key's end
stores it, and RMA entry waits for its reply when both responses verify; otherwise it is refused, counted, and EV248 is
raised. Either way the nonce is used up; it also expires. From RMA entry on no transition is taken (R511).
A packet row takes the head of the ladle when it is of its opcode (the model's choice, log entry 7); the nonces are a free
sequence (log entry 10). -/
def Obligations.LifeCyclePacketsAct : Prop :=
  ∀ (s : State) (p : List Byte) (o : Nat) (q : Word) (k : Nat) (key c v n : List Byte),
    let u := s.headOff
    (s.takes 0x0802 p = true → s.lc.rkey.isSome = true → pPar p 0 1 = 2 → advanceCode p = true → s.bgFree = true →
      exec .lcAdvance s = .next (u.startBg p .lcAdvance)) ∧
    (s.takes 0x0805 p = true → pPar p 0 1 ≤ 1 → onCurve (sliceB p 16 32) (sliceB p 48 32) = true → s.bgFree = true →
      exec .lcSetMouldKey s = .next (u.startBg p (.lcSetKey (pPar p 0 1) (sliceB p 16 64)))) ∧
    (s.takes 0x0803 p = true → s.bgFree = true → ∃ t, exec .lcRmaChallenge s = .next t ∧
      t.lc = { s.lc with nonce := some (nonceBytes s.lc.nonceN), nonceN := s.lc.nonceN + 1 } ∧
      t.mgmt.outlet = s.mgmt.outlet ++ [accept p (nonceBytes s.lc.nonceN)] ∧ Frame [.mgmt, .lc] s t) ∧
    (s.takes 0x0804 p = true → s.lc.nonce.isSome = true → s.bgFree = true →
      exec .lcRmaEnter s = .next (u.startBg p (.lcRmaEnter (s.lc.nonce.getD []) (sliceB p 12 64) (sliceB p 76 64)))) ∧
    (s.mgmt.bg = some ⟨.lcAdvance, o, q⟩ → s.mgmt.defer = none → ∃ t, exec .lcAdvanceDone s = .next t ∧
      t.lc = { s.lc with mem := some 2, ctl := some 2 } ∧ t.mgmt.bg = none ∧ t.mgmt.defer = some (.lcReset, q) ∧
      t.mgmt.outlet = s.mgmt.outlet ++ [okReply o q []] ∧ Frame [.mgmt, .lc] s t) ∧
    (s.mgmt.bg = some ⟨.lcSetKey k key, o, q⟩ → ∃ t, exec .lcSetMouldKeyDone s = .next t ∧ t.mgmt.bg = none ∧
      t.lc = (if k = 0 then { s.lc with mkey := some key } else { s.lc with rkey := some key }) ∧
      t.mgmt.outlet = s.mgmt.outlet ++ [okReply o q []] ∧ Frame [.mgmt, .lc] s t) ∧
    (s.mgmt.bg = some ⟨.lcRmaEnter n c v, o, q⟩ → s.mgmt.defer = none →
      (s.lc.rmaOk n c v = true → ∃ t, exec .lcRmaEnterDone s = .next t ∧ t.lc = { s.lc with nonce := none } ∧
        t.mgmt.defer = some (.rmaEnter, q) ∧ t.mgmt.outlet = s.mgmt.outlet ++ [okReply o q []] ∧ Frame [.mgmt, .lc] s t) ∧
      (s.lc.rmaOk n c v = false → s.calm 248 = true → ∃ t, exec .lcRmaEnterDone s = .next t ∧
        t.lc = { s.lc with nonce := none, fails := failsUp s.lc.fails } ∧ t.mgmt.defer = none ∧
        t.mgmt.outlet = s.mgmt.outlet ++ [refusal o q stSigInvalid 0 0xFFFF] ∧ Frame [.mgmt, .lc, .evm] s t)) ∧
    (∀ opc ∈ [0x0802, 0x0803, 0x0804, 0x0805], s.lc.rma = true → s.takes opc p = false) ∧
    (nonceBytes s.lc.nonceN).length = 32 ∧ exec .nonceExpiry s = .next { s with lc := { s.lc with nonce := none } } ∧
    (s.dev = .ready ∨ s.dev = .run ∨ s.dev = .safe → ∃ t, exec .resetnAssert s = .next t ∧ t.lc.nonce = none)

/-- R522 to R524: a LOOPBACK or SELFTEST that passes its checks runs in the background with TEST.LB busy, PATTERN held with it;
its axis, or all four, go to TEST at the next boundary; LB-C of the field inputs gives its test pulse. Its end, once its
precondition stands (Table 19-4), answers with its result, leaves TEST and raises EV253; the self-test answers disjoint sets
of the items it was asked for, of which MON's is as MON's latches say (Table 19-5). The outcome of the items of a test is the
command's operand, and the waiting and the held compares are the model's choices (log entries 28 and 182). -/
def Obligations.TestsRunInBackground : Prop :=
  ∀ (s : State) (p : List Byte) (o : Nat) (q : Word) (i d cnt : Nat) (pat : Word) (n : Fin 4) (errors : Nat) (first : Word)
    (set passed failed : BitVec 18),
    (∀ x ∈ [(Instr.loopbackSprue, 0), (.loopbackRunner, 1), (.loopbackPlind, 2), (.loopbackGateDrive, 3),
        (.loopbackPhaseSensing, 4), (.loopbackConverter, 5), (.loopbackFieldInputs, 6)],
      s.takes 0x0701 p = true → pPar p 0 1 = x.2 → s.ckLoopState p = none → firstRefusal (ckLoop p) = none →
      s.bgFree = true → ∃ t, exec x.1 s = .next t ∧
        t.mgmt.bg = some ⟨.loopback x.2 (pPar p 1 1) (pPar p 2 2) (BitVec.ofNat 32 (pPar p 4 4))
          (if 2 ≤ x.2 ∧ x.2 ≤ 4 then pAxis p else 0) none, 0x0701, pSeq p⟩ ∧
        t.mgmt.reserved = s.mgmt.reserved + 1 ∧ t.lc.lb = s.lc.lb ||| 0x8000 ∧
        ((2 ≤ x.2 ∧ x.2 ≤ 4) → (s.axis (pAxis p)).nxt = none → (t.axis (pAxis p)).nxt = some .test) ∧
        (¬(2 ≤ x.2 ∧ x.2 ≤ 4) → t.ax = s.ax) ∧
        (if x.2 = 6 ∧ pPar p 1 1 = 2 then t.fi = { s.fi with pulse := true } else t.fi = s.fi) ∧
        Frame [.mgmt, .lc, .ax, .fi] s t) ∧
    (s.takes 0x0702 p = true → 1 ≤ pPar p 0 4 → pPar p 0 4 < 2 ^ 18 → s.bgFree = true →
      ∃ t, exec .selftest s = .next t ∧ t.mgmt.bg = some ⟨.selftest (BitVec.ofNat 18 (pPar p 0 4)) false, 0x0702, pSeq p⟩ ∧
        t.lc.lb = s.lc.lb ||| 0x8000 ∧ ((∀ k, (s.axis k).nxt = none) → ∀ k, (t.axis k).nxt = some .test) ∧
        (∀ k, (t.axis k).st = (s.axis k).st) ∧ Frame [.mgmt, .lc, .ax] s t) ∧
    (s.mgmt.bg = some ⟨.loopback i d cnt pat n none, o, q⟩ → s.loopWaits (.loopback i d cnt pat n none) = true →
      exec (.loopbackDone errors first) s = .next s) ∧
    (s.mgmt.bg = some ⟨.loopback i d cnt pat n none, o, q⟩ → s.loopWaits (.loopback i d cnt pat n none) = false →
      errors < 0xFFFF → ∃ t, exec (.loopbackDone errors first) s = .next t ∧
      t.mgmt.bg = none ∧ t.lc.lb = lbWord i d n errors ∧
      (s.calm 253 = true → t.mgmt.outlet = s.mgmt.outlet ++ [okReply o q (if errors = 0 then [1, 0, 0, 0, 255, 255, 255, 255]
        else [0, 0] ++ leBytes 2 errors ++ leBytes 4 first.toNat)]) ∧
      (s.calm 253 = true → (s.axis n).st = .test → (s.axis n).nxt = none → 2 ≤ i → i ≤ 4 →
        (t.axis n).nxt = some .disabled ∧ (t.axis n).noLock = false) ∧
      (i ≠ 6 ∨ d ≠ 1 → t.fi = s.fi) ∧ Frame (.fi :: .lc :: .mgmt :: raiseParts) s t) ∧
    (s.mgmt.bg = some ⟨.selftest set false, o, q⟩ → s.calm 253 = true → ∃ t, exec (.selftestDone passed failed) s = .next t ∧
      t.mgmt.bg = none ∧ t.lc.lb = s.lc.lb &&& 0xFFFF7FFF ∧
      (∃ a b : BitVec 18, a &&& b = 0 ∧ (a ||| b) &&& ~~~set = 0 ∧
        (set.getLsbD 16 = true → a.getLsbD 16 = (decide (s.mon.fault = 0) && !s.mgmt.monlost) ∧ b.getLsbD 16 = !a.getLsbD 16) ∧
        t.mgmt.outlet = s.mgmt.outlet ++ [okReply o q (leBytes 4 a.toNat ++ leBytes 4 b.toNat)]) ∧
      (∀ k, (s.axis k).st = .test → (s.axis k).nxt = none → (t.axis k).nxt = some .disabled) ∧
      (set.getLsbD 14 = false → t.fi = s.fi) ∧ Frame [.lc, .mgmt, .evm, .ax, .fi] s t)

/-! ### Supplies, resets and boot (20) -/

/-- R531 to R549: VDD below its threshold is OFF, and at its return the device boots from step 1; RESETn holds it in BOOT and
its rising edge starts the boot, as it holds the one of a return of VDD or a WAKE while it is low; a watchdog expiry resets; WAKE from HIBERNATE boots with CAUSE 5; the retention cells lose
their latches when VDD stays away; the V5 limiter shows in V5OC. A device reset keeps MON's latches and readings (16 R471). What
of the retained state shows in RETAIN, what a cut transition leaves and which source wakes are log entries 38, 162 and 30. -/
def Obligations.SuppliesAndResets : Prop :=
  ∀ (s : State) (b : Bool) (srcs : BitVec 4),
    let booted (c : Instr) (cause : BitVec 3) (ph : BootPhase) : Prop :=
      ∃ t, exec c s = .next t ∧ t.dev = .boot ∧ t.pwr.cause = cause ∧ t.pwr.phase = ph ∧ t.tick.on = false ∧
        t.mgmt.jobs = [] ∧ t.moulds.active = none ∧ t.pour = State.reset.pour ∧ t.ax = State.reset.ax ∧
        t.mgmt.stored = s.mgmt.stored ∧ (s.bgFree = true → s.lc.rma = false → t.lc.mem = s.lc.mem) ∧ t.lc.dbg = false ∧
        t.tick.ring = s.tick.ring ∧ t.mon.fault = s.mon.fault ∧ (cause ≠ 5 → t.mon.ts = s.mon.ts)
    (s.pwr.vdd = true → ∃ t, exec (.vddFall b) s = .next t ∧ t.dev = .off ∧ t.pwr.vdd = false ∧ t.tick.on = false ∧
      t.mgmt.stored = s.mgmt.stored ∧ t.pwr.therm = s.pwr.therm ∧ t.mon.fault = s.mon.fault ∧ t.pending = s.pending) ∧
    (s.dev = .off → ∃ t, exec .porRelease s = .next t ∧ t.dev = .boot ∧ t.pwr.vdd = true ∧ t.pwr.cause = 0 ∧
      t.pwr.phase = (if s.pwr.rstLow then .held else .rom) ∧ t.pwr.retain = (s.pwr.therm || decide (s.mon.fault ≠ 0)) ∧
      t.pwr.therm = s.pwr.therm ∧ t.pwr.reflost = false ∧ t.mon.fault = s.mon.fault ∧ t.mgmt.stored = s.mgmt.stored ∧
      t.jrn.a = s.jrn.a ∧ t.evm = State.reset.evm ∧ t.pending = s.pending) ∧
    (s.pwr.vdd = false → exec .retentionExpiry s =
      .next { s with pwr := { s.pwr with therm := false }, mon := { s.mon with fault := 0 } }) ∧
    (s.dev = .ready ∨ s.dev = .run ∨ s.dev = .safe → booted .resetnAssert 1 .held) ∧
    (s.pwr.phase = .held →
      exec .resetnRelease s = .next { s with pwr := { s.pwr with rstLow := false, phase := .rom } }) ∧
    (s.dev = .ready ∨ s.dev = .run ∨ s.dev = .safe → s.pwr.phase = .done → booted .watchdogExpiry 3 .rom) ∧
    (s.dev = .hibernate → srcs &&& s.fi.wakeMask ≠ 0 → booted (.wake srcs) 5 (if s.pwr.rstLow then .held else .rom)) ∧
    exec (.v5CurrentLimit b) s = .next { s with pwr := { s.pwr with v5oc := b && s.pwr.v5en && s.pwr.vgd } }

/-- R540 to R543, 19 R513, R514, R521: with one good firmware image the boot goes on and the life-cycle state is the more
advanced of two valid copies, FIELD when neither is valid; the debug port is open outside FIELD. With none the device stays in BOOT.
The boot ends in THERMAL_LATCH, SAFE or READY, with the tick running at its resume value. The wipe of RMA erases configuration,
customer slots, journal, keys and flag, at its end with RMA in both copies and the device reset, or at the boot that finds its
flag set (R542). That a quench line still held and a quench requested during the boot lead to SAFE is log entry 45; the boot's
steps are few commands (log entry 158), and the images are its operands (log entry 124). -/
def Obligations.BootDecidesTheState : Prop :=
  ∀ (s : State) (imgA imgB : Bool),
    (s.pwr.phase = .rom → s.dev = .boot →
      (imgA = true ∨ imgB = true → ∃ t, exec (.firmwareVerified imgA imgB) s = .next t ∧ t.pwr.phase = .mgmt ∧
        t.pwr.fwb = !imgA ∧ t.dev = .boot ∧ t.lc.st = s.lc.load.1.st ∧ t.lc.dbg = decide (t.lc.st ≠ 2) ∧
        (∀ x y, s.lc.ctl = some x → s.lc.mem = some y → t.lc.st = if x.toNat < y.toNat then y else x) ∧
        (s.lc.ctl = none → s.lc.mem = none → t.lc.st = 2) ∧
        (s.lc.wipe = true → t.lc.st = 3 → t.mgmt.stored = {} ∧ t.jrn.a = [] ∧ t.jrn.b = [] ∧ t.lc.mkey = none ∧
          t.lc.rkey = none ∧ t.lc.wipe = false)) ∧
      (imgA = false → imgB = false → exec (.firmwareVerified imgA imgB) s =
        .next { s with pwr := { s.pwr with phase := .stuck }, mon := { s.mon with dev := .boot, heat := 0 } })) ∧
    (s.pwr.phase = .mgmt → ∃ t, exec .bootComplete s = .next t ∧ t.pwr.phase = .done ∧ t.evm.qlock = true ∧
      (s.pwr.therm = true → t.dev = .thermalLatch) ∧
      (s.pwr.therm = false → s.mon.fault = 0 → s.mon.qext = false → s.mon.req = false → t.dev = .ready) ∧
      (s.pwr.therm = false → s.mon.fault ≠ 0 → t.dev = .safe) ∧
      (s.pwr.therm = false → s.mon.fault ≠ 0 → s.mon.qext = false → s.mon.req = false → t.safecause = 1) ∧
      (s.pwr.therm = false → s.mon.fault = 0 → s.mon.qext = true → s.mon.req = false → t.dev = .safe ∧ t.safecause = 2) ∧
      (s.pwr.therm = false → s.mon.fault = 0 → s.mon.qext = false → s.mon.req = true → t.dev = .safe ∧ t.safecause = 3) ∧
      t.tick.on = true ∧ t.tick.hidx = 0 ∧ s.jrn.replayed.nextHeat.toNat ≤ t.tick.heat.toNat) ∧
    (s.lc.rma = true → s.dev = .ready ∨ s.dev = .run ∨ s.dev = .safe →
      ∃ t, exec .rmaWipeDone s = .next t ∧ t.dev = .boot ∧ t.pwr.cause = 4 ∧ t.mgmt.stored = {} ∧
        t.moulds.cust = ⟨(none, false), (none, false), (none, false), (none, false)⟩ ∧ t.jrn.a = [] ∧ t.jrn.b = [] ∧
        t.tick.ring = [] ∧ t.lc.mkey = none ∧ t.lc.rkey = none ∧ t.lc.wipe = false ∧ t.lc.mem = some 3 ∧
        t.lc.ctl = some 3)

/-! ### The life-cycle invariant (19) -/

/-- R514: no step of any command opens the debug port in FIELD. -/
def Obligations.DebugPortStaysClosedInField : Prop :=
  ∀ s t : State, s.lcSafe → step s = .next t → t.lcSafe

/-! ### Clearing faults (01, 18) -/

/-- R33, R38, 18 R498, R508: at the tick boundary a CLEAR_FAULT is answered NOT_PERMITTED and leaves SAFE standing while MON
holds a fault, EV203 was raised or QUENCHn is held low from outside; otherwise in SAFE it is answered OK, SAFE ends with CTL's
quench request withdrawn, each named axis in FAULT without an active source is in DISABLED, and an axis not named stays. A
new cause in the same tick keeps the device in SAFE with that cause. Outside SAFE it is NOT_PERMITTED, with every axis as it
was, when named axes are in FAULT and each keeps an active source, and OK otherwise, its reply naming the axes that left
FAULT. Stated for a device with no mould and no job; that the boundary decides is log entry 102, and the device state it leaves 112. -/
def Obligations.ClearFaultDecidesAtTheBoundary : Prop :=
  ∀ (s : State) (m cause : BitVec 4) (q : Word), s.tick.on = true → s.tick.hidx ≠ 15 →
    s.moulds.active = none → s.moulds.pend = none → s.mgmt.jobs = [] →
    (∀ n : Fin 4, (s.axis n).nxt = none ∧ (s.mgmt.jax.get n).req = 0) → s.mgmt.clr = some (m, q, cause) →
    let keeps (n : Fin 4) : Prop := (s.axis n).st = .fault ∧ ((s.clearFlags n).axis n).faultActive = true
    let leaves (n : Fin 4) : Prop := (s.axis n).st = .fault ∧ ((s.clearFlags n).axis n).faultActive = false
    let refused (d : DevState) : Prop := ∃ t, exec .tickBoundary s = .next t ∧ t.dev = d ∧ t.safecause = s.safecause ∧
      t.mgmt.clr = none ∧ t.mgmt.outlet = s.mgmt.outlet ++ [refusal 0x0604 q stNotPermitted 0 0xFFFF] ∧
      (∀ n : Fin 4, (t.axis n).st = (s.axis n).st)
    let granted : Prop := ∃ (t : State) (c : BitVec 8), exec .tickBoundary s = .next t ∧ (t.dev = .ready ∨ t.dev = .run) ∧
      t.safecause = s.safecause ∧ t.mon.req = false ∧
      t.mgmt.outlet = s.mgmt.outlet ++ [okReply 0x0604 q [c, 0, 0, 0]] ∧
      (∀ n : Fin 4, c.getLsbD n.val = true ↔ m.getLsbD n.val = true ∧ leaves n) ∧
      (∀ n : Fin 4, m.getLsbD n.val = true → leaves n → (t.axis n).st = .disabled ∧ (t.axis n).drv.ena = false) ∧
      (∀ n : Fin 4, m.getLsbD n.val = false ∨ ¬leaves n → (t.axis n).st = (s.axis n).st)
    (s.clearBarred = true → s.dev = .safe → refused .safe) ∧
    (s.clearBarred = false → cause = 0 → s.dev = .safe → granted) ∧
    (s.clearBarred = false → cause ≠ 0 → s.dev = .safe → ∃ t, exec .tickBoundary s = .next t ∧ t.dev = .safe ∧
      t.safecause = cause ∧ t.mgmt.outlet = s.mgmt.outlet ++ [okReply 0x0604 q [0, 0, 0, 0]] ∧
      (∀ n : Fin 4, (t.axis n).st = (s.axis n).st)) ∧
    (s.clearBarred = false → s.dev = .ready ∨ s.dev = .run → (∃ n : Fin 4, m.getLsbD n.val = true ∧ keeps n) →
      (∀ n : Fin 4, m.getLsbD n.val = true → ¬leaves n) → refused .run) ∧
    (s.clearBarred = false → cause = 0 → s.dev = .ready ∨ s.dev = .run →
      (∃ n : Fin 4, m.getLsbD n.val = true ∧ leaves n) ∨ (∀ n : Fin 4, m.getLsbD n.val = true → ¬keeps n) → granted)

/-! ### Invariants of every step -/

/-- 08 R252, R253, R255: no step of any command leaves a phase of an axis with both gate commands past the handshake, so
the two gates of a phase are never on together. -/
def Obligations.NoPhaseShootsThrough : Prop :=
  ∀ s t : State, s.noShootThrough → step s = .next t → t.noShootThrough ∧
    ∀ (n : Fin 4) (p : Phase) (hold : Bool), ¬((t.axis n).gateOn hold p true = true ∧ (t.axis n).gateOn hold p false = true)

/-- Every step keeps the canonical form of the addressed memories: Pour data memory, TRACE, the exchange buffers, the
telemetry mirror, the staging window, the group latches, the reservation ring and both copies of the journal (the form is the
model's own, log entry 3). -/
def Obligations.MemoriesStayCanonical : Prop :=
  ∀ s t : State, s.memWf = true → step s = .next t → t.memWf = true
end

