-- ==== Sys2Proof/Tests/Slice0.lean ====
section
/-! SUPPORT. Tests: ill-formed commands that WellFormed refuses, slot words written out from the spec's encodings, small
steps with results worked out from the spec, and a witness for the hypotheses of every statement. -/

namespace Sys2Proof.Tests

-- One theorem at a time: theorems that wait for the kernel would each hold a thread and its stack.
set_option Elab.async false

open Sys2Proof Sys2Proof.Machine

/-! ### Ill-formed commands, one per check of WellFormed -/

def g0 : Guard := ⟨false, 0⟩
def frm (addr alive len : Nat) (data : List Byte) : Sys2Proof.Frame :=
  ⟨BitVec.ofNat 24 addr, BitVec.ofNat 8 alive, BitVec.ofNat 16 len, data, 0, true, 0⟩

theorem test_wf_refuses_reserved_product : Instr.wf (.mul false g0 0 1 2 3 false) = false ∧
    Instr.wf (.mac false g0 0 1 2 3 false) = false ∧ Instr.wf (.msu true g0 0 1 2 3 true) = false := by decide
theorem test_wf_refuses_v64 : Instr.wf (.mova false g0 63 0 false false true) = false ∧
    Instr.wf (.movac false g0 63 0 false true 0 0) = false ∧ Instr.wf (.sincos g0 63 0) = false ∧
    Instr.wf (.push g0 63 0) = false ∧ Instr.wf (.subh g0 62 0 0) = false := by decide
theorem test_wf_refuses_inbound_store : Instr.wf (.stx g0 0 2047) = false := by decide
theorem test_wf_refuses_ports : Instr.wf (.prd g0 0 0x300) = false ∧ Instr.wf (.pwr g0 0 0x110) = false ∧
    Instr.wf (.pwri g0 0 0x3FF) = false := by decide
theorem test_wf_refuses_odd_address : Instr.wf (.registerWrite .host 0x102 0) = false ∧
    Instr.wf (.registerWrite .host 0x8000 0) = false := by decide
theorem test_wf_refuses_runner : Instr.wf (.runnerMgmtStart 0 0 0 false [] 4) = false ∧
    Instr.wf (.runnerMgmtStart 1 0 0 true [] 1) = false ∧ Instr.wf (.runnerMgmtStart 1 0 0 false [] 33) = false ∧
    Instr.wf (.runnerMgmtStart 1 0 0 true (List.replicate 9 0) 0) = false := by decide
theorem test_wf_refuses_frames : Instr.wf (.write (frm 0 1 4 [0])) = false ∧ Instr.wf (.post (frm 0 1 16 [])) = false ∧
    Instr.wf (.read (frm 0 1 4 [0])) = false ∧ Instr.wf (.take (frm 0 1 16 [0])) = false ∧
    Instr.wf (.status (frm 0 1 0 [0])) = false ∧ Instr.wf (.echo (frm 0 1 4 [0])) = false ∧
    Instr.wf (.unknownCmdFrame 0x60 (frm 0 1 0 [])) = false := by decide +kernel
theorem test_wf_refuses_readings : Instr.wf (.periodWrap 0 []) = false ∧ Instr.wf (.temperatureReading [1]) = false ∧
    Instr.wf (.monTemperatureReading ⟨[], [1]⟩) = false ∧ Instr.wf (.selftestDone 1 1) = false ∧ Instr.wf (.wake 0) = false := by
  decide +kernel
theorem test_wf_refuses_witness : Instr.wf (.witnessStatus ⟨false, 2, [], 0⟩) = false ∧
    Instr.wf (.witnessReadB ⟨false, 1, [], 0⟩) = false ∧ Instr.wf (.witnessReadLog ⟨true, 1, [], 0⟩) = false := by decide

/-! ### Slot words written out from 03 Tables 3-2 and 3-3 -/

/-- The example after 03 R90: MAC A0 += V10 × V20 unguarded, ADD V5 := V6 + V7 guarded by P3 inverted; and its bytes. -/
theorem test_decode_example : decodeSlot 0 0x0200A500 = some (.mac false g0 0 10 20 0 false) ∧
    decodeSlot 3 0x40B1461C = some (.add ⟨true, 3⟩ 5 6 7) ∧
    takeBundle [0x89, 0, 0x13, 0, 0, 0xA5, 0, 2, 0x1C, 0x46, 0xB1, 0x40] =
      some ⟨0x00130089, [(0, 0x0200A500), (3, 0x40B1461C)]⟩ ∧ hdrIdle 0x00130089 = 2 := by decide +kernel
/-- OP 0x01, K 1 at 18, A 2 at 12, B 3 at 6, SC 1 at 4, RM at 3, on XU1; OP 0x09 with D 4, K 2, RM, H, L 5, PD 6. -/
theorem test_decode_mac : decodeSlot 1 0x010420D8 = some (.mul true g0 1 2 3 1 true) ∧
    decodeSlot 0 0x09012CB8 = some (.movac false g0 4 2 true true 5 6) := by decide +kernel
/-- OP 0x21, D 9 at 14, A 3 at 8, B 1 at 2. -/
theorem test_decode_trig : decodeSlot 2 0x21024304 = some (.atan2 g0 9 3 1) := by decide +kernel
/-- OP 0x48 with D 1, A 2, L 3 at 3, PD 4; OP 0x6D with PD 2 at 17, A 1 at 11, BIT 31 at 6; OP 0x60 with D 1 and −1. -/
theorem test_decode_alu : decodeSlot 3 0x4800421C = some (.clamp g0 1 2 3 4) ∧
    decodeSlot 3 0x6D040FC0 = some (.tstb g0 2 1 31) ∧ decodeSlot 3 0x60007FFF = some (.ldi g0 1 0x3FFF) := by
  decide +kernel
/-- 04 Table 4-10: LDX V1 := X[0]; and OP 0x86 with A 1, I 2, K 3, Q 4, QI 1. -/
theorem test_decode_mem : decodeSlot 4 0x82004000 = some (.ldx g0 1 0) ∧
    decodeSlot 4 0x86004239 = some (.strc g0 1 2 3 4 true) := by decide +kernel
/-- 04 Table 4-10: PWR of V1 to port 0x300; OP 0xC2 with IMM8 5 at 12. -/
theorem test_decode_port : decodeSlot 5 0xC1004300 = some (.pwr g0 1 0x300) ∧
    decodeSlot 5 0xC20053D0 = some (.pwri g0 5 0x3D0) := by decide +kernel
/-- An opcode of another unit is no operation, and a word with a reserved bit is not its operation's word (03 R90). -/
theorem test_decode_refuses : decodeSlot 0 0x40000000 = none ∧ encodeSlot (.mov g0 0 0) ≠ 0x4A000001 := by decide +kernel

/-! ### Witnesses: queue and Pour engine -/

/-- A device in READY with its tick running. -/
def up : State := { State.reset with dev := .ready, pwr := { State.reset.pwr with phase := .done }, tick := { on := true } }
/-- The command answers a next state of which `f` holds. -/
def after (r : Res) (f : State → Bool) : Bool := match r with | .next t => f t | _ => false
def withV (s : State) (r : Fin 64) (x : Word) : State := { s with pour := { s.pour with v := s.pour.v.set r.val x r.isLt } }

/-- One empty bundle and one bundle that adds; two range descriptors. -/
def mld : MouldInfo :=
  { rd := [some ⟨0, 1⟩, some ⟨16, 4⟩], axmask := 1,
    code := [0xC0, 0xFF, 0, 0, 0x08, 0, 0, 0, 0, 0, 0, 0x40], run := [⟨0, 1, 1, 0x40, 0, 0, 0, 4, 0, 0, 2000, []⟩] }
def pouring : State :=
  { up with moulds := { State.reset.moulds with active := some mld }, pour := { State.reset.pour with ended := false, boff := 4, nextCy := 1024 } }

theorem wit_StepRunsFrontCommand : ({ up with pending := [.publish, .commit] } : State).pending = .publish :: [.commit] ∧
    State.reset.pending = [] := by decide +kernel
theorem test_idle : step State.reset = .next State.reset := rfl
theorem test_front : step { up with pending := [.quenchRequest] } = exec .quenchRequest up := rfl

theorem wit_SlotWordReadsBack : isSlotOp (.add g0 63 0 63) = true ∧ isSlotOp (.strc ⟨true, 7⟩ 63 63 15 7 true) = true := by
  decide
/-- A false guard, and an engine that is off in OFF, in HIBERNATE and in THERMAL_LATCH at the end of its pour. -/
theorem wit_SlotOperationFrame_guard : isSlotOp (.tint ⟨true, 0⟩ 1 2 1 false) = true ∧
    (Instr.tint ⟨true, 0⟩ 1 2 1 false).wf = true ∧ pouring.declares (.tint ⟨true, 0⟩ 1 2 1 false) = true ∧
    pouring.guardOk (guardOf (.tint ⟨true, 0⟩ 1 2 1 false)) = false ∧ pouring.pourOff = false ∧
    ({ up with dev := .off } : State).pourOff = true ∧ ({ up with dev := .hibernate } : State).pourOff = true ∧
    ({ up with dev := .thermalLatch } : State).pourOff = true ∧
    ({ pouring with dev := .thermalLatch } : State).pourOff = false := by decide +kernel
theorem wit_SlotOperationFrame : isSlotOp (.mov g0 1 2) = true ∧ (∃ t, exec (.mov g0 1 2) up = .next t) ∧
    up.pour.p.getLsbD 0 = true := ⟨by decide, ⟨_, rfl⟩, by decide +kernel⟩
theorem wit_ResultsAppearInOrder : up.pour.inflight = [] ∧ (1 : Nat) ≤ 1 ∧ 0 < up.tick.cy + 2 - 1 ∧ (2 : Nat) < 3 := by
  decide +kernel
theorem wit_Guards : up.guardOk g0 = true ∧ up.pourOff = false ∧ up.guardOk ⟨true, 7⟩ = true ∧ (2 : BitVec 2) ≠ 3 ∧
    Instr.wf (.mova true g0 62 0 true true true) = true ∧ Instr.wf (.mova true g0 63 0 true true false) = true ∧
    Instr.wf (.movac false g0 62 3 true true 31 7) = true ∧ (62 : BitVec 6) ≠ 63 ∧ (0x80000000 : Word).toInt < 0 ∧
    Instr.wf (.push g0 62 0) = true ∧ Instr.wf (.subh g0 61 0 0) = true := by decide +kernel

/-- The clauses of TINT meet at 0, at the last position inside the table, at its end and beyond (03 R102). -/
theorem wit_LoadsAndUpsetWordsComplete : pouring.guardOk g0 = true ∧ pouring.pourOff = false ∧ pouring.pour.pdmUpset = [] ∧
    pouring.rdesc 0 = some ⟨0, 1⟩ ∧ pouring.rdesc 1 = some ⟨16, 4⟩ ∧
    ((withV pouring 3 0).vreg 3).toInt = 0 ∧ ((withV pouring 3 0x2FFFF).vreg 3).toInt < ((4 : Int) - 1) * 65536 ∧
    ((4 : Int) - 1) * 65536 ≤ ((withV pouring 3 0x30000).vreg 3).toInt ∧
    ((withV pouring 3 0xFFFFFFFF).vreg 3).toInt < 0 := by decide +kernel
theorem wit_upset_words :
    Sparse.get 0 (5 : BitVec 14).toNat ({ up.pour with pdmUpset := [(5, 1)] } : Pour).pdmUpset = 1 ∧
    2 ≤ Sparse.get 0 (5 : BitVec 14).toNat ({ up.pour with pdmUpset := [(5, 2)] } : Pour).pdmUpset := by decide +kernel
theorem wit_StoresWriteOneWord : pouring.guardOk g0 = true ∧ pouring.pourOff = false ∧ pouring.memWf = true ∧ pouring.pour.inflight = [] ∧
    pouring.rdesc 1 = some ⟨16, 4⟩ ∧ (pouring.pred 0 != false) = true ∧ (pouring.pred 0 != true) = false ∧
    2048 ≤ (2048 : BitVec 12).toNat := by decide +kernel
/-- Axes 0 and 1 with PCTLn.IMM set, axis 0 in START. -/
def immS : State :=
  { up with ax := ⟨{ st := .start }, {}, {}, {}⟩, pour := { up.pour with ax := ⟨{ imm := true }, { imm := true }, {}, {}⟩ } }
theorem wit_PortOperationsComplete : pouring.guardOk g0 = true ∧ pouring.pourOff = false ∧ portReadable (0x27F : BitVec 12).toNat = true ∧
    portWritable (0x3D0 : BitVec 12).toNat = true ∧ (0x360 : BitVec 12).toNat = 0x300 + 0x20 * (3 : Fin 4).val ∧
    (pouring.pour.ax.get 3).imm = false ∧ pouring.tick.cy ≤ pouring.deadline 3 ∧
    (immS.pour.ax.get 0).imm = true ∧ (immS.axis 0).st = .start ∧ (immS.axis 1).st = .disabled ∧
    (immS.pour.ax.get 1).imm = true ∧ immS.lc.st ≠ 2 ∧ immS.memWf = true := by decide +kernel
theorem wit_rejected_encodings : (2047 : BitVec 12).toNat < 2048 ∧ portWritable 0x300 = true ∧ portReadable 0 = true ∧
    portReadable 0x3FF = false ∧ portWritable 0x3FF = false ∧ pouring.rdesc 2 = none ∧ pouring.pourOff = false ∧
    pouring.rdesc 0 = some ⟨0, 1⟩ ∧ (⟨0, 1⟩ : Rng).len < 2 := by decide +kernel

/-- The second bundle of `mld` is ADD V0 := V0 + V0 alone. -/
def addB : Bundle := ⟨8, [(3, 0x40000000)]⟩
theorem wit_BundlesIssueAndRejectedEncodingsStop : pouring.moulds.active = some mld ∧ mld.std = none ∧ pouring.pour.ended = false ∧
    pouring.pour.upsets = [] ∧ takeBundle (mld.code.drop pouring.pour.boff) = some addB ∧
    (∃ t, issueSlots addB.slots (pouring.advanceTo 1024) = .next t) ∧ ¬mld.xp ≤ pouring.pour.nextCy ∧
      ({ mld with xp := 1024 } : MouldInfo).xp ≤ pouring.pour.nextCy ∧
    (∀ x ∈ addB.slots, ∃ i, decodeSlot x.1 x.2 = some i ∧ i.wf = true ∧ pouring.declares i = true) :=
  ⟨by decide +kernel, by decide +kernel, by decide +kernel, by decide +kernel, by decide +kernel, ⟨_, rfl⟩, by decide +kernel,
    by decide +kernel, fun x h => ⟨.add g0 0 0 0, by simp only [addB, List.mem_singleton] at h; subst h; decide +kernel⟩⟩

/-- A flipped bit in the bundle's second word, two in it, and a bundle whose second word is no operation of its unit. -/
theorem wit_bundle_words : (∃ k ∈ (List.range 2).map (fun j => Sparse.get 0 (1 + j) [(2, 2)]), 2 ≤ k) ∧
    (∀ k ∈ (List.range 2).map (fun j => Sparse.get 0 (1 + j) [(2, 1)]), k ≤ 1) ∧ decodeSlot 3 0 = none ∧
    takeBundle (leBytes 4 0xC028 ++ leBytes 4 0x0200A500 ++ leBytes 4 0) = some ⟨0xC028, [(3, 0x0200A500), (5, 0)]⟩ := by
  decide +kernel
/-- The last register that each form of a move may name. -/
theorem wit_AccumulatorAndMoveOperationsComplete : up.guardOk g0 = true ∧ up.pourOff = false ∧ (2 : BitVec 2) ≠ 3 ∧
    Instr.wf (.mova false g0 62 0 false true true) = true ∧ Instr.wf (.mova true g0 63 3 true false false) = true ∧
    Instr.wf (.movac false g0 62 0 false true 0 1) = true := by decide +kernel
theorem wit_LimitAndLogicOperationsComplete : up.guardOk g0 = true ∧ up.pourOff = false ∧ Instr.wf (.push g0 62 0) = true ∧
    Instr.wf (.subh g0 61 0 0) = true := by decide +kernel
theorem wit_TrigOperationsComplete : up.guardOk g0 = true ∧ up.pourOff = false ∧ (62 : BitVec 6) ≠ 63 ∧ (0x80000000 : Word).toInt < 0 ∧
    (2 ^ 31 - 1) * (0x08000000 : Word).toInt < 2 ^ 58 ∧ 2 ^ 31 * -(0xF8000001 : Word).toInt < 2 ^ 58 ∧
    (xuRecip 0x20000000).2 = false ∧ (2 ^ 31 - 1) ^ 2 < (0x7FFFFFFF : Word).toInt ^ 2 + (1 : Word).toInt ^ 2 ∧
    (0x7FFFFFFF : Word).toInt ^ 2 + (0 : Word).toInt ^ 2 ≤ (2 ^ 31 - 1) ^ 2 := by decide +kernel

/-! ### Small steps of the Pour engine, results from the spec -/

/-- 03 Table 3-7: a sum above 2^31 − 1 saturates and sets SAT. -/
theorem test_add_saturates : after (exec (.add g0 1 2 3) (withV (withV up 2 0x7FFFFFFF) 3 1)) (fun t => decide (t.vreg 1 = 0x7FFFFFFF ∧ t.pour.flags = 1)) = true := by decide +kernel
/-- 02 R75: round half even of 5 / 2 and 7 / 2. -/
theorem test_shrr_half_even : after (exec (.shrr g0 1 2 1) (withV up 2 5)) (fun t => decide (t.vreg 1 = 2)) = true ∧
    after (exec (.shrr g0 1 2 1) (withV up 2 7)) (fun t => decide (t.vreg 1 = 4)) = true := by decide +kernel
/-- 03 Table 3-7: LUI puts the immediate into the upper fourteen bits; LDI extends the sign. -/
theorem test_immediates : after (exec (.lui g0 1 1) up) (fun t => decide (t.vreg 1 = 0x00040000)) = true ∧
    after (exec (.ldi g0 1 0x3FFF) up) (fun t => decide (t.vreg 1 = 0xFFFFFFFF)) = true := by decide +kernel
/-- 03 R99: a load result is not there after one cycle and is there after the fourth. -/
theorem test_load_latency : after (exec (.ld g0 1 2) { up with pour := { up.pour with pdm := [(8, 7)] } }) (fun t => decide (t.vreg 1 = 0 ∧ t.pour.inflight.length = 1 ∧ (retire 3 t.pour).v.get 1 = 7)) = true := by decide +kernel
/-- 03 Table 3-5: MULV of 1.0 in Q2.29 and 3.0 in Q4.27 leaves 3.0 in Q2.29. -/
theorem test_mulv_unit : after (exec (.mulv false g0 1 2 3 false false) (withV (withV up 2 0x20000000) 3 0x18000000)) (fun t => decide ((retire 2 t.pour).v.get 1 = 0x60000000)) = true := by decide +kernel
/-! ### Witnesses: tick, exchange buffers, registers, mailboxes, events -/

def idleAx (s : State) : Bool := axes.all fun n => decide ((s.axis n).nxt = none) && decide ((s.mgmt.jax.get n).req = 0)
def job (opc seq : Nat) (st : JobSt) (due : Bool) : Job := ⟨BitVec.ofNat 32 seq, opc, 0, List.replicate 16 0, 0, st, due⟩
/-- The HALL mould with axis 0 in a state, with a report of it and jobs. -/
def hallM : MouldInfo := { std := some 0, axmask := 1 }
def stdS (st : AxState) (r : Report) (l : List Job) : State :=
  { up with
    tick := { up.tick with hidx := 3 }, moulds := { up.moulds with active := some hallM }, ax := ⟨{ st := st }, {}, {}, {}⟩
    exch := { up.exch with buf1 := { rep := ⟨r, {}, {}, {}⟩ } }, mgmt := { up.mgmt with jobs := l } }
/-- The first bundle of `mld` is empty. -/
theorem wit_TickBoundaryBeginsPour : up.tick.on = true ∧ up.tick.acqBase = none ∧ 0 < mld.xp ∧ (stdS .disabled {} []).pour.upsets = [] ∧ up.tick.hidx ≠ 15 ∧ up.mgmt.jobs = [] ∧ up.mgmt.clr = none ∧
    up.moulds.pend = none ∧ idleAx up = true ∧ up.moulds.active = none ∧ pouring.moulds.active = some mld ∧
    mld.std = none ∧ takeBundle mld.code = some ⟨0xFFC0, []⟩ ∧ pouring.pour.upsets = [] ∧
    (∀ n ∈ axes, (pouring.axis n).st = .disabled) ∧
    ({ up.pour with poured := true } : Pour).poured = true ∧ up.std.todo = 0 ∧ ({ up.tick with atZero := true } : Tick).atZero = true ∧
    takeBundle (mld.code.drop 4) = some addB ∧ (stdS .disabled {} []).moulds.active = some hallM ∧ hallM.std = some 0 ∧
    (∀ n ∈ axes, ((stdS .disabled {} []).axis n).st = .disabled ∧
      ((stdS .disabled {} []).report n).reacts ≤ ((stdS .disabled {} []).mgmt.jax.get n).seen) ∧
    ({ up.conv with adrt := 0xC0 } : Conv).adrt.getLsbD 7 = true ∧ ({ up.conv with adrt := 0xC0 } : Conv).adrt.getLsbD 6 = true ∧
    up.conv.adrt.getLsbD 7 = false := by decide +kernel
/-- Each clause: a state asked for, a FAULT cause, a stop reaction, the end of START and of a motion, nothing, a start. -/
theorem wit_AxisStatesChangeAtTheBoundary :
    (let u := stdS .run {} []
     u.tick.on = true ∧ u.tick.acqBase = none ∧ u.pour.upsets = [] ∧ u.tick.hidx ≠ 15 ∧ u.mgmt.clr = none ∧ u.moulds.pend = none ∧ u.std.todo = 0 ∧
      u.moulds.active = some hallM ∧ hallM.std.isSome = true ∧ (u.std.ax.get 0).faultT < 2 ∧ u.mgmt.jobs = [] ∧
      (u.axis 0).nxt = none ∧ (u.mgmt.jax.get 0).req = 0 ∧ (u.report 0).no = (u.mgmt.jax.get 0).step.no ∧ (u.report 0).reacts = 0 ∧
      (u.report 0).fault = false ∧ (u.report 0).still = false) ∧
    ({ (stdS .run {} []).axis 0 with nxt := some .fault } : Axis).nxt = some .fault ∧
    ((stdS .run { fault := true } []).report 0).fault = true ∧
    (((stdS .run { reacts := 1, repStop := true } []).mgmt.jax.get 0).seen < ((stdS .run { reacts := 1, repStop := true } []).report 0).reacts ∧
      ((stdS .run { reacts := 1, repStop := true } []).report 0).repStop = true) ∧
    ((stdS .start { startDone := true } []).report 0).startDone = true ∧ ((stdS .start {} []).axis 0).st = .start ∧
    (∀ x ∈ [AxState.run, .stopping], let u := stdS x { st := x.code, still := true } []
      (u.report 0).still = true ∧ (u.report 0).st = (u.axis 0).st.code ∧ (u.mgmt.jax.get 0).step.stop ≠ 10) ∧
    (∀ x ∈ [(AxState.disabled, 0x0301), (.hold, 0x0301), (.start, 0x0305), (.run, 0x0305), (.disabled, 0x0305), (.hold, 0x0305),
        (.hold, 0x0303)],
      let u := stdS x.1 {} [job x.2 5 .starting true]
      (u.jobsOf 0).find? (fun y => decide (y.st = .starting)) = some (job x.2 5 .starting true) ∧ u.jobsBarred 0 = false ∧
        (u.mgmt.jax.get 0).held = false ∧ u.unthrottled 0 (job x.2 5 .starting true) = true ∧ u.axisDeclared 0 = true) := by
  decide +kernel
def pendS (k : ActKind) (m : Option MouldInfo) (ph : Nat) : State :=
  { pouring with
    tick := { pouring.tick with hidx := 15 }, exch := { pouring.exch with pub := .boundary }
    moulds := { pouring.moulds with pend := some ⟨k, m, ph, 0, 0, 0, 1, false⟩, active := if ph = 2 then none else some mld } }
theorem wit_HeatAdvancesActivatesAndIsReserved : up.tick.acqBase = none ∧ ({ up.tick with hidx := 15 } : Tick).hidx = 15 ∧
    (∀ x ∈ [(ActKind.stopped, 0), (.stopped, 2), (.live, 1), (.live, 0)],
      (pendS x.1 (some mld) x.2).moulds.pend = some ⟨x.1, some mld, x.2, 0, 0, 0, 1, false⟩) ∧
    (pendS .deact none 0).moulds.pend = some ⟨.deact, none, 0, 0, 0, 0, 1, false⟩ ∧ (pendS .live (some mld) 1).tick.on = true ∧
    (pendS .live (some mld) 1).std.todo = 0 ∧ (pendS .live (some mld) 1).pour.inflight = [] ∧
    (pendS .live (some mld) 1).exch.pub = .boundary ∧ mld.std = none ∧ (mld.par.any fun e => isEvpour e.id) = false ∧
    (∀ k : Fin 256, up.evm.qmap.getLsbD k.val = true → k.val = 203) ∧ up.tick.atZero = false ∧
    up.tick.reserved ≤ up.tick.heat.toNat + 2 ^ 23 ∧ up.tick.heat.toNat + 2 ^ 24 < 2 ^ 64 ∧
    Sparse.wf 0 up.tick.ring = true := by decide +kernel
/-- R19: the entry written first is the counter plus 2^24. -/
theorem test_reservation : after (exec .heatReservation up) (fun t => decide (t.tick.ring = [(0, 0x1000000)])) = true := by
  decide +kernel
theorem wit_ExchangeBuffersSwap : pouring.exch.xpPast = false ∧ pouring.bundlesCount = true ∧ pouring.pour.nextCy < mld.xp ∧
    ({ mld with xp := 1024 } : MouldInfo).xp ≤ pouring.pour.nextCy ∧ (stdS .run {} []).bundlesCount = false ∧
    (stdS .run {} []).moulds.active = some hallM ∧ ({ pouring.exch with xpPast := true } : Exch).xpPast = true ∧
    (pendS .live (some mld) 0).exch.pub ≠ .ordinary ∧ (pendS .live (some mld) 0).tick.hidx = 15 ∧ pouring.moulds.active = some mld ∧ pouring.tick.on = true ∧ pouring.tick.hidx ≠ 15 ∧
    pouring.exch.pub ≠ .ordinary ∧ pouring.exch.pub = .none ∧ pouring.exch.swapped = false ∧
    ({ pouring.exch with pub := .ordinary } : Exch).pub = .ordinary ∧
    ({ pouring.exch with pub := .boundary } : Exch).pub = .boundary ∧ pouring.tick.cy = 0 ∧
    ({ pouring.tick with hidx := 15, cy := 1 } : Tick).hidx = 15 ∧ 0 < ({ pouring.tick with hidx := 15, cy := 1 } : Tick).cy ∧
    ({ pouring.moulds with pend := some ⟨.live, some mld, 1, 0, 0, 0, 0, false⟩ } : Moulds).pend =
      some ⟨.live, some mld, 1, 0, 0, 0, 0, false⟩ := by decide +kernel

theorem wit_GroupReadsLatch : up.canAccess .host = true ∧ up.canAccess .mon = true ∧ Sparse.wf 0 up.latch = true := by
  decide +kernel
/-- A device in FIELD: the host may write the permitted set alone (19 Table 19-2). -/
def field : State := { up with lc := { up.lc with st := 2, ctl := some 2, mem := some 2 } }
theorem wit_RegisterWritesLand : up.canAccess .host = true ∧ up.mayWrite .host 0x4068 = true ∧
    up.mayWrite .host 0x6010 = true ∧ field.mayWrite .host 0x3800 = true ∧ up.mayWrite .host 0x2A0 = true ∧
    ({ up.evm with qlock := true } : Evm).qlock = true ∧ up.evm.qlock = false ∧ up.mayWrite .host 0x2B8 = true ∧
    (0x4068 : BitVec 16).toNat % 4 = 0 ∧ (0x4068 : BitVec 16).toNat < 0x8000 ∧ field.mayWrite .host 0x4068 = false ∧
    occupied 0x4068 = true ∧ field.mayWrite .host 0x7FFC = false ∧ occupied 0x7FFC = false ∧
    up.mayWrite .host 0x4C0 = true ∧ up.mayWrite .host 0x340 = true ∧ (1 : Word).getLsbD 0 = true ∧
    ({ up.evm with pulse := 0x80 } : Evm).pulse.getLsbD 7 = true ∧ up.evm.pulse.getLsbD 7 = false := by decide +kernel
/-- A debug master has no access with the debug port closed (19 R514). -/
theorem test_debug_closed : up.canAccess .debug = false := by decide +kernel
theorem test_register_commands_run : (∃ t, exec (.mblockWrite .host 1) up = .next t) ∧
    (∃ t, exec (.qlockWrite .host 1) up = .next t) := ⟨⟨_, rfl⟩, ⟨_, rfl⟩⟩

def owned (o : BitVec 4) : State := { up with locks := { up.locks with owner := up.locks.owner.set 15 o } }
theorem wit_LockReadsAcquire : (owned 0).locks.owner.get 15 = 0 ∧ (owned 1).locks.owner.get 15 ≠ 0 ∧
    (owned 2).locks.owner.get 15 = BitVec.ofNat 4 (Master.id .host) ∧ fld 0 3 0 = 0 ∧
    ¬((owned 3).locks.owner.get 15 = BitVec.ofNat 4 (Master.id .host) ∧ fld 0 3 0 = 0) ∧
    up.mayWrite .host (lockAddr 15) = true ∧ up.canAccess .host = true := by decide +kernel
/-- R437: an acquired lock reads as its owner from then on. -/
theorem test_lock : after (exec (.lockRead .host 3) up) (fun t => decide (t.rdata = 0) &&
    after (exec (.lockRead .mgmt 3) t) fun r => decide (r.rdata = 2)) = true := by decide +kernel

/-- Channel 0 binds MGMT and the host (15 Table 15-5). -/
def chan (a b : MbSide) : State :=
  { up with mail := { up.mail with ch := up.mail.ch.set 0 { bind := 0x0A12, a := a, b := b } } }
theorem wit_LocksReleaseAndMailboxesPass : up.canAccess .host = true ∧ up.mayWrite .host (mbAddr 0 0) = true ∧
    up.mayWrite .host (mbAddr 0 0x40) = true ∧ up.mbEnd .host 0 = some false ∧ up.mbEnd .mgmt 0 = some true ∧
    up.mbEnd .mon 0 = none ∧ ((up.mail.ch.get 0).side false).txfull = false ∧
    ((chan { txfull := true } {}).mail.ch.get 0).a.txfull = true ∧
    (((chan {} { txfull := true }).mail.ch.get 0).side (!false)).txfull = true ∧
    (((chan { txto := true } {}).mail.ch.get 0).side false).txto = true ∧
    (((chan { timer := true, txfull := true } {}).mail.ch.get 0).side false).timer = true ∧
    fld ((chan {} {}).mail.ch.get 0).bind 15 8 ≠ 0 := by decide +kernel

def counted (k n : Nat) : State := { up with evm := { up.evm with cnt := [(k, n)] } }
def axes0 (a : Axis) : State := { up with ax := ⟨a, {}, {}, {}⟩ }
def resetting (f k : Nat) (a : Axis) : State := { axes0 a with mgmt := { up.mgmt with rfunc := some (f, k, 7), reserved := 1 } }
theorem wit_EventsReachTheirBanks : (203 : Nat) < 256 ∧ up.evm.qmap.getLsbD 203 = true ∧ up.evm.qmap.getLsbD 255 = false ∧
    up.dev = .ready ∧ 0 < Sparse.get 0 (256 + (255 : BitVec 8).toNat) (counted 511 1).evm.cnt ∧
    Sparse.get 0 (256 + (255 : BitVec 8).toNat) (counted 767 1).evm.cnt = 0 ∧
    0 < Sparse.get 0 (512 + (255 : BitVec 8).toNat) (counted 767 1).evm.cnt ∧
    Sparse.get 0 (512 + (0 : BitVec 8).toNat) (counted 0 1).evm.cnt = 0 ∧
    0 < Sparse.get 0 (0 : BitVec 8).toNat (counted 0 1).evm.cnt ∧ up.linkDown 0 = false ∧
    ((axes0 { upOn := some 39 }).upNext 0).axis 0 = { upOn := some 39 } ∧
    (((axes0 { evq := [.event 39] }).upNext 0).axis 0).upOn = some 39 ∧ ((up.upNext 0).axis 0).upOn ≠ some 39 ∧
    up.upBusy 0 = false ∧ (resetting 1 0 {}).upBusy 0 = true ∧
    ({ evq := List.replicate 254 (.event 39) } : Axis).evPend 39 < 255 ∧
    255 ≤ ({ evq := List.replicate 255 (.event 39) } : Axis).evPend 39 ∧ ({ hold := some DevState.run } : Cross DevState).hold = some .run ∧
    up.mon.xDev.hold = none := by decide +kernel
/-- 15 R450: EV203 is mapped to quench at reset; raised in READY it takes the device to SAFE with cause 3. -/
theorem test_quench_event : (up.raise 203).dev = .safe ∧ (up.raise 203).safecause = 3 ∧ (up.raise 202).dev = .ready := by
  decide +kernel

/-! ### Witnesses: links and sensing -/

theorem wit_TickFramesLoadShadows : pouring.moulds.active = some mld ∧ mld.std = none ∧ up.moulds.active = none ∧
    pouring.linkDown 3 = false ∧ (pouring.pour.ax.get 3).sent = false ∧
    (∀ j ∈ [20, 22, 23], (pouring.axis 3).evPend j < 255) := by decide +kernel
/-- HALL with axis 0 in RUN and a cause, and with axis 0 in DISABLED; the frame before and after its step. -/
def stepS (st : AxState) (todo : BitVec 4) : State :=
  { stdS st {} [] with std := { ax := ⟨{ faulting := true }, {}, {}, {}⟩, todo := todo } }
theorem wit_StandardMouldStepsItsAxis :
    (∀ x ∈ [(AxState.run, (15 : BitVec 4)), (.disabled, 15), (.fault, 15), (.test, 15), (.recovery, 15), (.run, 0)],
      let u := stepS x.1 x.2
      u.moulds.active = some hallM ∧ hallM.std = some 0 ∧ u.linkDown 0 = false ∧ (u.pour.ax.get 0).sent = false ∧
        (u.pour.ax.get 0).linkctl.getLsbD 0 = false ∧ (u.axis 0).st = x.1 ∧
        u.std.todo.getLsbD (0 : Fin 4).val = x.2.getLsbD 0) ∧
    (0 : Int) ≤ 5 ∧ (0 : Int) ≤ 100 ∧ ({} : Mot).vcmd = none ∧ ({ vcmd := some 7 } : Mot).vcmd ≠ none ∧
    (({} : Mot).target * 2 ^ 32 - (({} : Mot).trajStep 1 5 100 10).p).natAbs ≤ 2 ^ 32 ∧
    ((({} : Mot).trajStep 1 5 100 10).v.natAbs : Int) ≤ 5 := by decide +kernel
def imq : State := { up with pour := { up.pour with ax := { up.pour.ax with a0 := { up.pour.ax.a0 with immq := [(3, 5, 7)] } } } }
def msg (addr tries : Nat) : State := axes0 { regq := [⟨addr, 0, false, tries, 0, false⟩] }
theorem wit_LinkMessagesApply : (imq.pour.ax.get 0).immq = (3, 5, 7) :: [] ∧ imq.linkDown 0 = false ∧
    (((msg 0x004 0).upNext 0).axis 0).regq = ⟨0x004, 0, false, 0, 0, false⟩ :: [] ∧ isAxisConfig 0x004 = true ∧
    ((msg 0x004 0).axis 0).st = .disabled ∧ ((axes0 { st := .test }).axis 0).st = .test ∧
    ¬(((axes0 { st := .run }).axis 0).st = .disabled ∨ ((axes0 { st := .run }).axis 0).st = .test) ∧
    (((msg 0x040 2).upNext 0).axis 0).regq = ⟨0x040, 0, false, 2, 0, false⟩ :: [] ∧ (2 : Nat) < 3 ∧ (3 : Nat) ≤ 3 ∧
    (msg 0x040 3).linkDown 0 = false ∧ (up.pour.ax.get 0).immFirst = false ∧ (imq.pour.ax.get 0).immFirst = true ∧
    (resetting 1 0 {}).linkDown 0 = true ∧ imq.behindFrame 0 0 = false ∧ (msg 0x004 0).behindFrame 0 0 = false ∧
    ({ imq with tick := { imq.tick with cy := 9999 } } : State).behindFrame 0 9999 = true ∧
    (axes0 { evq := [.ack] }).upBusy 0 = false ∧ ((axes0 { evq := [.ack] }).axis 0).upOn = none ∧
    ((axes0 { evq := [.ack] }).axis 0).evq = [.ack] := by decide +kernel
def words0 : SenseWords := ⟨Vector.replicate 28 1, Vector.replicate 7 2, 3, 4⟩
theorem wit_SenseDataArrives : (axes0 { sense := { frame := some words0 } }).linkDown 0 = false ∧
    ((axes0 { sense := { frame := some words0 } }).axis 0).sense.frame = some words0 ∧
    (∃ x ∈ ({ sense := { lossAt := [(6, 0)] } } : Axis).losses [] 6 ++ ({} : Axis).sticks [] 6,
      ({} : Axis).inWindow x.1 (x.2.getD 10000) = true) ∧
    (up.axis 0).inWindow 5000 (up.axis 0).per = true ∧ (up.axis 0).drv.slost.getLsbD (phIx .w) = false ∧
    (up.axis 0).drv.sstuck.getLsbD (6 : Fin 7).val = false ∧ (up.axis 0).evPend 16 < 255 ∧ (up.axis 0).evPend 17 < 255 ∧ up.appOn = true ∧
    fld (up.axis 0).drv.swin 15 8 = 0 ∧ fld ({ swin := 0x0204 } : Drv).swin 15 8 ≠ 0 ∧ 0 < (1000 : Nat) ∧
    -(2 ^ 17) * ((1000 : Nat) : Int) ≤ 2 ^ 17 * 1000 - 1 ∧ (2 ^ 17 * 1000 - 1 : Int) < 2 ^ 17 * (1000 : Nat) := by decide +kernel
/-- R284: the window of WSTART 4 and WLEN 2 is 16 samples from the 32nd on; a mean of full-scale samples saturates. -/
theorem test_window : ({ per := 10000, drv := { swin := 0x0204 } } : Axis).window = (32, 48) ∧
    ({ per := 400, drv := { swin := 0x0204 } } : Axis).window = (32, 40) ∧ meanOf (131072 * 8) 8 = 8388607 := by decide +kernel
def synced (y : SyncSt) : State := { up with sync := y }
/-- SYNC.CFG bits 1:0 hold the mode (07 Table 7-9); a deviation of the window itself is no deviation, one more is. -/
theorem wit_SyncFollowsItsEdges : (1 : Fin 4) ≠ 0 ∧ (synced { cfg := 0x402, armed := true }).sync.armed = true ∧
    (synced { cfg := 0x402, armed := true }).sync.mode = 2 ∧ up.moulds.active = none ∧ up.tick.on = true ∧
    (synced { cfg := 0x402 }).sync.armed = false ∧ ((fld 0x402 15 8 : Int) < (5 : Int).natAbs) ∧
    ((-4 : Int).natAbs : Int) ≤ fld 0x402 15 8 ∧ 10 + fld (0x402 : Word) 30 16 < 32 ∧ 32 ≤ 10 + fld (0x160402 : Word) 30 16 := by
  decide +kernel
theorem wit_PeriodWrapLoadsShadows : up.appOn = true ∧ up.mgmt.bg = none ∧ (up.axis 0).cfgq = [] ∧
    (BgOp.loopback 3 0 1 0 0 none).density 0 0 = none ∧ (BgOp.loopback 4 0 1 0 0 none).density 0 0 ≠ none ∧
    ((axes0 { cfgq := [(0x004, 100)], enWait := true }).axis 0).cfgq = [(0x004, 100)] ∧
    (BgOp.loopback 3 0 1 0 0 none).compares 0 10000 0 ≠ none := by decide +kernel
/-- R210, R214: at the wrap the raw commands follow the shadows and a configuration write takes effect. -/
theorem test_wrap : after (exec (.periodWrap 0 []) (axes0 { cfgq := [(0x004, 0xFFF)], drv := { scmp := ⟨16, 0, 0, 0⟩ } }))
    (fun t => decide ((t.axis 0).ph.u.raw = true ∧ (t.axis 0).ph.v.raw = false ∧ (t.axis 0).drv.dt = 0x7FF)) = true := by
  decide +kernel
/-! ### Witnesses: the PWM generator and the gates -/

theorem wit_PwmEdgesAndEnable : up.appOn = true ∧
    (∀ c : Fin 4, ((axes0 { eff := ⟨9999, 1, 0, 9999⟩ }).axis 0).eff.get c < up.tick.tper ∧
      up.tick.tper ≤ ((axes0 { eff := ⟨10000, 10000, 10000, 10000⟩ }).axis 0).eff.get c) ∧
    ((((axes0 { ph := ⟨{ h := { dt := true } }, {}, {}⟩ }).axis 0).ph.get .u).side true).w3 = false ∧
    ((((axes0 { ph := ⟨{ h := { w3 := true } }, {}, {}⟩ }).axis 0).ph.get .u).side true).w3 = true ∧
    ((axes0 { st := .start }).axis 0).st.mayEnable = true ∧
    ((axes0 { st := .start }).axis 0).drv.ctrl.getLsbD 0 = false ∧
    ((((axes0 { ph := ⟨{ h := { w3 := true }, l := { off := false } }, {}, {}⟩ }).axis 0).ph.get .u).side false).off = false ∧
    ((((axes0 {}).axis 0).ph.get .u).side false).off = true ∧ ((((axes0 {}).axis 0).ph.get .u).side false).s4 = false ∧ up.linkDown 0 = false ∧
    (resetting 0 0 {}).linkDown 0 = true := by decide +kernel
/-- 07 R227: in DISABLED, EN is not set. -/
theorem test_enable_disabled : exec (.enSet 0) up = .next up := rfl

/-- Phase U with its high command waiting in stage 4, the low one off, or on past stage 4 while its gate is held off. -/
def w4 (low : Bool) : State := axes0 { ph := ⟨{ h := { cmd := true, w4 := true }, l := { s4 := low } }, {}, {}⟩ }
theorem wit_HandshakeGuardsThePhase : ((((w4 false).axis 0).ph.get .u).side true).w4 = true ∧
    ((w4 false).axis 0).gateOn ((w4 false).gateHold 0) .u (!true) = false ∧
    ((w4 true).axis 0).gateOn ((w4 true).gateHold 0) .u (!true) = false ∧
    ((((w4 false).axis 0).ph.get .u).side (!true)).s4 = false ∧
    ((((w4 true).axis 0).ph.get .u).side (!true)).s4 = true := by decide +kernel

def powered (a : Axis) : State := { axes0 a with pwr := { up.pwr with axpwr := 1 } }
theorem wit_GateDriveProtections : (up.axis 0).drv.brkhw.getLsbD 31 = true ∧
    fld (up.axis 0).drv.brkhw 7 0 < fld (up.axis 0).drv.brkhw 15 8 ∧ (up.axis 0).drv.bhact = false ∧
    ((powered { drv := { ena := true }, ph := ⟨{ h := { s4 := true } }, {}, {}⟩ }).axis 0).cmd7
      ((powered { drv := { ena := true }, ph := ⟨{ h := { s4 := true } }, {}, {}⟩ }).gateHold 0) .u true = true ∧
    (up.axis 0).drv.fpglow.getLsbD (phIx .u) = false ∧
    ((axes0 { drv := { ena := true, bstuv := 1 } }).axis 0).drv.bstuv.getLsbD (phIx .u) = true ∧
    ((axes0 { drv := { ena := true, bstuv := 1 } }).axis 0).drv.ena = true ∧
    ((axes0 { drv := { ena := true, bstuv := 1 } }).axis 0).low5 .u = false ∧
    ((axes0 { ph := ⟨{ l := { s4 := true } }, {}, {}⟩ }).axis 0).low5 .u = true ∧ ({ noLock := true } : Axis).noLock = true ∧
    (((axes0 { drv := { ena := true, bstuv := 1 } }).axis 0).ph.get .u).refr = 0 ∧
    (((axes0 { ph := ⟨{ refr := 1 }, {}, {}⟩ }).axis 0).ph.get .u).refr = 1 ∧
    (up.axis 0).noLock = false ∧ (up.axis 0).drv.vmlo = false ∧
    ((axes0 { drv := { vmlo := true } }).axis 0).drv.vmlo = true := by decide +kernel

theorem wit_TripsLatchAndHoldGates : (up.axis 0).sourceLive 12 = false ∧ (up.axis 0).sourceLive 0 = true ∧
    ((axes0 { counting := 1, drv := { tsrc := 1 } }).axis 0).counting.getLsbD 0 = true ∧
    ((axes0 { counting := 1, drv := { tsrc := 1 } }).axis 0).drv.tsrc.getLsbD 0 = true ∧
    tcCbc ((up.axis 0).drv.tcfg.get 0) = false ∧ tcCbc ((up.axis 0).drv.tcfg.get 1) = true ∧
    ((up.axis 0).tripMask 0).getLsbD (outBit .u true) = true ∧ (up.axis 0).drv.tsrc.getLsbD 0 = false ∧
    (up.pwr.axpwr.getLsbD 0 = false ∧ ({ up.mon with qext := true } : Mon).quench = true) ∧
    ((axes0 { drv := { tflag := 1 } }).axis 0).drv.tflag.getLsbD 0 = true := by decide +kernel
/-- 07 R238, Table 7-3: trip 0 holds all seven outputs, and a new trip latches its flag. -/
theorem test_trip_latches : after (exec (.tripAssert 0 0) (axes0 { counting := 1, drv := { tsrc := 1 } }))
    (fun t => decide ((t.axis 0).drv.tflag = 1) && decide ((t.axis 0).offMask = 0x7F)) = true := by decide +kernel

/-! ### Witnesses: the sense die, temperature, MON -/

def convS (c : Conv) : State := { up with conv := c }
theorem wit_ConverterActs : (convS { cur := some (true, 0), seqi := [5], seqr := [1, 2] }).conv.cur = some (true, 0) ∧
    (convS { cur := some (true, 0), seqi := [5], seqr := [1, 2] }).conv.refNext = none ∧
    ((convS { cur := some (true, 0), seqi := [5], seqr := [1, 2] }).conv.entry true 0).toNat % 16 ≠ 15 ∧
    ((convS { cur := some (false, 1), seqr := [1, 2] }).conv.entry false 1).toNat % 16 ≠ 15 ∧
    (convS { cur := some (true, 0), seqi := [5, 6] }).conv.seqi.length = 2 ∧
    (convS { inj := 0x8005, seqi := [5] }).conv.inj.getLsbD 15 = true ∧ up.conv.inj.getLsbD 15 = false ∧ up.conv.seqi = [] ∧
    fld (convS { inj := 0x8005, seqi := [5] }).conv.inj 7 0 = (5 : BitVec 8).toNat ∧ up.canAccess .mgmt = true ∧
    up.mayWrite .mgmt 0x3000 = true ∧ up.moulds.active = none ∧ up.appOn = true ∧
    (convS { refsel := 1, refrdy := true }).conv.refsel = 1 ∧ up.conv.refsel ≠ 1 ∧ up.conv.cur = none ∧
    0 < 5 * (up.conv.vref 0 : Int) ∧ (2 ^ 25 * (1499999821 : Int)).natAbs ≤ (2 ^ 23 - 1) * (5 * (up.conv.vref 0 : Int)) ∧ pouring.moulds.active.isSome = true ∧
    (2 : Word).setWidth 2 ≠ up.conv.refsel ∧ (2 : Word).setWidth 2 ≠ (3 : BitVec 2) ∧
    (convS { refrdy := true }).conv.refrdy = true ∧ up.pwr.refsrc = false ∧ up.pwr.reflost = false := by decide +kernel
/-- A sequence of one step in progress with the trigger enabled for event 5, and the trigger off. -/
theorem wit_TriggersInASequenceAreLost :
    let c := (convS { inj := 0x8005, seqi := [5], cur := some (true, 0) }).conv
    c.inj.getLsbD 15 = true ∧ fld c.inj 7 0 = (5 : BitVec 8).toNat ∧ c.seqi ≠ [] ∧ c.cur = some (true, 0) ∧
      Sparse.get 0 (256 + 161) up.evm.cnt < 256 ∧ up.conv.inj.getLsbD 15 = false := by decide +kernel
/-- 10 R302, R311: −179 nV of the full scale 1.5 V is a code of −1, which ADRV shows as −64. -/
theorem test_conversion : after (exec (.conversionComplete ⟨-179, 0⟩) (convS { cur := some (false, 0), seqr := [1] }))
    (fun t => decide (t.conv.adrv = 0xFFFFFFC0)) = true := by decide +kernel

def fiS (f : FiIn) : State := { up with fi := { up.fi with inp := up.fi.inp.set 0 f } }
theorem wit_FieldInputsClassify : up.appOn = true ∧ up.mgmt.bg = none ∧ up.fi.pulse = false ∧ ({ up.fi with pulse := true, tpmask := 1 } : Fi).tpmask.getLsbD 0 = true ∧
    ((fiS { filt := true, stk := 1 }).fi.inp.get 0).active = true ∧ ((fiS { filt := true, stk := 1 }).fi.inp.get 0).stuck = false ∧
    fld ((fiS { filt := true, stk := 1 }).fi.inp.get 0).stk 15 0 ≠ 0 ∧ (up.fi.inp.get 0).chn ≠ 0 ∧
    (up.fi.inp.get 0).chn < ((fiS { chg := 100 }).fi.inp.get 0).chg ∧ ((fiS { chg := 100 }).fi.inp.get 0).chatter = false ∧
    (up.fi.inp.get 0).chg = 0 ∧ (up.fi.inp.get 0).hold = 0 ∧ true ≠ (up.fi.inp.get 0).filt ∧
    (up.fi.inp.get 0).cnt + 1 < (up.fi.inp.get 0).filtN ∧
    ((fiS { cnt := 29 }).fi.inp.get 0).filtN ≤ ((fiS { cnt := 29 }).fi.inp.get 0).cnt + 1 ∧
    ({ up.fi with tp := 0x80000002 } : Fi).tpGpio.isSome = true ∧ up.canAccess .host = true ∧
    up.mayWrite .host (0x3400 + 4 * 15) = true ∧ (up.fi.inp.get 0).waits = false ∧
    ((fiS { waits := true }).fi.inp.get 0).waits = true := by decide +kernel

def hallS (h : Hall) : State := { up with hall := ⟨h, {}, {}, {}⟩ }
/-- An edge exactly Tmin after the last is accepted; one cycle earlier it is held back (R331). -/
theorem wit_PositionInputsTrack : ((hallS {}).hall.get 0).encMode = false ∧ (5 : BitVec 3) ≠ 0 ∧ (5 : BitVec 3) ≠ 7 ∧
    ((hallS {}).hall.get 0).fmax ≠ 0 ∧ ((hallS {}).hall.get 0).tLast + ((hallS {}).hall.get 0).tmin ≤ 33334 ∧
    33333 < ((hallS {}).hall.get 0).tLast + ((hallS {}).hall.get 0).tmin ∧ ((hallS { cfg := 0 }).hall.get 0).fmax = 0 ∧
    ((hallS { pend := true }).hall.get 0).pend = true ∧ ((hallS { pend := true }).hall.get 0).encMode = false ∧ up.appOn = true ∧
    ((hallS { cfg := 3, pend := true }).hall.get 0).encMode = true ∧ ((hallS { cfg := 3 }).hall.get 0).encMode = true ∧
    ((hallS { cfg := 3 }).hall.get 0).cfg.getLsbD 1 = true ∧ up.canAccess .host = true ∧
    ((hallS {}).hall.get 0).code = 0 ∧ up.mayWrite .host (0x3500 + 4 * 3) = true ∧ (up.axis 3).st = .disabled ∧ ((axes0 { st := .run }).axis 0).st = .run := by
  decide +kernel
/-- R332: one step in quadrature counts one. -/
theorem test_encoder : after (exec (.encoderEdge 0 true false) (hallS { cfg := 1 })) (fun t => decide ((t.hall.get 0).enc = 1)) = true := by
  decide +kernel

theorem wit_TemperaturesAreJudged : (List.replicate 22 20000).length = 22 ∧ up.appOn = true ∧
    (∀ k : Fin 256, up.evm.qmap.getLsbD k.val = true → k.val = 203) ∧ (List.replicate 4 (some 20000)).length = 4 ∧
    (List.replicate 2 20000).length = 2 ∧ up.mon.begun = false ∧ ({ up.mon with begun := true } : Mon).begun = true ∧
    monShut (({ up.mon with ts := (Vector.replicate 6 {}).set 0 { broken := true } } : Mon).readTs [] [0, 0]) = true ∧
    ({ up.mon with up := true } : Mon).up = true ∧ up.dev = .ready := by decide +kernel
/-- A sensor at its shutdown limit, and one below it, on the CTL class. -/
theorem wit_shutCond : shutCond (Vector.replicate 22 {}) (Vector.replicate 6 {}) = false ∧
    shutCond (Vector.replicate 22 {}) ((Vector.replicate 6 {}).set 4 { gov := shutAt 4 }) = true ∧
    monShut (Vector.replicate 6 {}) = false ∧ monShut ((Vector.replicate 6 {}).set 0 { broken := true }) = true ∧
    ({ up with dev := .run } : State).dev = .run ∧ 3 ∈ classSensors 0 ∧ isPrivileged 3 = true ∧
    (((Vector.replicate 22 {}).set 3 { broken := true } : Vector Sensor 22).getD 3 {}).broken = true := by decide +kernel

/-- MON checks. -/
def mons (m : Mon) : State := { up with mon := { m with up := true, checks := true } }
theorem wit_mon_latch : (9 : Nat) < 10 ∧ (mons {}).mon.fault.getLsbD 9 = false ∧
    (mons { fault := 0x200 }).mon.fault.getLsbD 9 = true ∧ (mons {}).dev = .ready := by decide +kernel
theorem wit_MonChecksAndFaultsLatch : (mons {}).checking = true ∧ (mons { sigNew := true }).mon.sigNew = true ∧
    (mons { sigNew := true }).mon.sigRx = (mons { sigNew := true }).mon.expRx ∧ (mons {}).pour.cut = false ∧
    (mons { sigNew := true, sigRx := 1 }).mon.sigRx ≠ (mons { sigNew := true, sigRx := 1 }).mon.expRx ∧
    (mons {}).mon.sigrun = 0 ∧ 1 ≤ (mons { sigrun := 1 }).mon.sigrun ∧ (mons {}).mon.acq = false ∧
    tickOff 800 10000 = false ∧ tickOff 850 10000 = true ∧ 1 ≤ (mons { tickrun := 1 }).mon.tickrun ∧ (0 : Fin 3) ≠ 2 ∧
    (mons { lc := some 2 }).mon.lcDeviates up.lc = true ∧ 1 ≤ (mons { lcrun := 1 }).mon.lcrun ∧
    (mons {}).mon.lcDeviates up.lc = false ∧ up.conv.refsel = 0 ∧ (convS { adrt := 0x40 }).conv.adrt.getLsbD 6 = true ∧
    (mons {}).mon.late = false ∧ (mons { begun := true }).mon.begun = true ∧ ({ up with dev := .run } : State).dev = .run ∧
    (convS { ain11 := some 0 }).conv.ain11 = some 0 ∧ up.conv.ain11 = none ∧
    ((0 : BitVec 24).toInt * 1500000000 - 2 ^ 23 * (7500000 : Nat)).natAbs ≤ 7500000 * 2 ^ 23 ∧
    7500000 * 2 ^ 23 < ((0 : BitVec 24).toInt * 1500000000 - 2 ^ 23 * (7500001 : Nat)).natAbs ∧ 7 ≤ (mons { plain := 7 }).mon.plain ∧
    (mons { vbLast := some (8388608, 16) }).mon.vbLast = some (8388608, 16) ∧ vbusOff 8388608 16 6000 = false ∧
    vbusOff 8388608 16 6481 = true ∧ 3 ≤ (mons { plvm := 3 }).mon.plvm := by decide +kernel
theorem wit_QuenchLinesAndMonLoss : (mons {}).mon.up = true ∧ (mons { req := true }).mon.req = true ∧
    (mons {}).mon.qext = false ∧ (mons {}).mon.qdrv = false ∧ (mons {}).dev = .ready ∧ (mons { qext := true }).mon.qext = true ∧
    8 ≤ (mons { ackMiss := 8 }).mon.ackMiss ∧ (mons {}).mgmt.monlost = false ∧ ((axes0 { st := .run }).axis 0).st ≠ .disabled ∧
    up.lc.dbg = false ∧ State.reset.mon.up = false ∧ State.reset.dev = .boot := by decide +kernel
theorem wit_WitnessAnswers : (mons {}).mon.up = true ∧ (mons { wout := [1, 2] }).mon.wout = 1 :: [2] ∧ leAt [0xFF, 0x1F, 16, 0] 0 2 ≤ 8191 ∧ 1 ≤ leAt [0xFF, 0x1F, 16, 0] 2 1 ∧
    leAt [0xFF, 0x1F, 16, 0] 2 1 ≤ 16 ∧ 8191 < leAt [0, 0x20, 1, 0] 0 2 ∧ leAt [63, 16] 0 1 ≤ 63 ∧ 1 ≤ leAt [63, 16] 1 1 ∧
    leAt [63, 16] 1 1 ≤ 16 ∧ witCrcOk ⟨false, 1, [], crc32c [1, 0, 0]⟩ = true ∧ witCrcOk ⟨true, 1, [], 0⟩ = false ∧ (4 : Byte) ≠ 1 ∧ (4 : Byte) ≠ 2 ∧ (4 : Byte) ≠ 3 := by decide +kernel
/-! ### Witnesses: packets, jobs, moulds -/

/-- A request with its CRC (11 Table 11-1). -/
def pkt (opc fl ax seq : Nat) (par : List Byte) : List Byte :=
  let b := leBytes 2 opc ++ leBytes 1 fl ++ leBytes 1 ax ++ leBytes 4 seq ++ leBytes 2 par.length ++ [0, 0] ++ par
  b ++ leBytes 4 (crc32c b).toNat
def ladled (s : State) (p : List Byte) : State := { s with mgmt := { s.mgmt with ladle := [p] } }
/-- The packet stands at the head and is taken. -/
def taken (s : State) (opc : Nat) (p : List Byte) : Bool := (ladled s p).takes opc p
def q0 (opc : Nat) : List Byte := pkt opc 0 0 0 []
def par4 (n : Nat) : List Byte := leBytes 4 n

theorem wit_RefusedPacketsOnlyAnswer : (Instr.getId, 0x0101) ∈ packetRows ∧ 0 < 5 ∧
    (let p := pkt 0x0601 0 3 7 [1, 0, 0, 0]
     isFunc 1 p = true ∧ (ladled up p).atHead p = true ∧ ((ladled up p).headOff.precheck p).isSome = true) ∧
    (let p := pkt 0x0701 0 9 7 ([3, 0, 1, 0] ++ leBytes 4 0)
     isLoop 3 p = true ∧ (ladled up p).atHead p = true ∧ ((ladled up p).headOff.precheck p).isSome = true) ∧
    (let p := pkt 0x0602 0 0 7 []
     (ladled up p).atHead p = true ∧ ((ladled up p).headOff.precheck p).isSome = true) ∧
    (let p := pkt 0x0101 0 1 7 []
     (ladled up p).atHead p = true ∧ pOpc p = 0x0101 ∧
      (ladled up p).headOff.precheck p = some (refusal 0x0101 7 stBadAxis 0 3)) ∧
    (let p := q0 0x0101 |>.set 15 0
     opRow (pOpc p) = some ⟨0x0101, 0, 0, [], .none, .query, 0⟩ ∧ pLen p = 0 ∧ p.length = 16 + pLen p ∧
      (crc32c (p.take (12 + pLen p))).toNat ≠ leAt p (12 + pLen p) 4 ∧
      up.precheck p = some (refusal 0x0101 0 stBadParam 1 12)) := by decide +kernel
theorem wit_QueriesAnswer : taken up 0x0101 (q0 0x0101) = true ∧ taken up 0x0102 (q0 0x0102) = true ∧
    taken up 0x0103 (pkt 0x0103 0 8 0 []) = true ∧
    (let p := pkt 0x0104 0 0 0 (par4 64520 ++ [0xF8, 3, 0, 0])
     taken up 0x0104 p = true ∧ pPar p 0 4 ≤ 65535 ∧ 1 ≤ pPar p 4 2 ∧ pPar p 4 2 ≤ 1016 ∧ pPar p 0 4 + pPar p 4 2 ≤ 65536) ∧
    (let p := pkt 0x0202 0 0 0 [1, 0, 0, 0, 1, 0xF0]
     taken up 0x0202 p = true ∧ pPar p 0 2 = 1 ∧ (up.paramValue (pPar p 4 2)).isSome = true) ∧
    taken up 0x0501 (pkt 0x0501 0 0 0 (par4 1)) = true ∧
    (let p := pkt 0x0502 0 0 0 [0xFF, 0x1F, 16, 0]
     taken up 0x0502 p = true ∧ pPar p 0 2 ≤ 8191 ∧ 1 ≤ pPar p 2 1 ∧ pPar p 2 1 ≤ 16 ∧ pPar p 3 1 = 0) ∧
    taken up 0x0801 (q0 0x0801) = true ∧ taken up 0x0901 (q0 0x0901) = true ∧
    (let p := q0 0x0999
     (ladled up p).atHead p = true ∧ opRow (pOpc p) = none ∧ pLen p ≤ 1024 ∧ p.length = 16 + pLen p ∧
      (crc32c (p.take (12 + pLen p))).toNat = leAt p (12 + pLen p) 4) := by decide +kernel
/-- SET_PARAM of HOSTTO (11 R367). -/
def setP (fl seq v : Nat) : List Byte := pkt 0x0201 fl 0 seq ([1, 0, 0, 0, 1, 0xF0, 0, 0] ++ par4 v)
def bgS (o : BgOp) (opc : Nat) : State := { up with mgmt := { up.mgmt with bg := some ⟨o, opc, 7⟩, reserved := 1 } }
theorem wit_ParametersAreSet : taken up 0x0201 (setP 0 0 1000) = true ∧ pPar (setP 0 0 1000) 0 2 = 1 ∧
    isSysPar (pPar (setP 0 0 1000) 4 2) = true ∧ sysParOk 0xF001 1000 = true ∧ up.stdK = none ∧
    pPersist (setP 0 0 1000) = false ∧ up.moulds.active = none ∧
    taken up 0x0201 (setP 4 9 1000) = true ∧ pPersist (setP 4 9 1000) = true ∧ up.commitFull (cfgPends (setP 4 9 1000) (setEntries (setP 4 9 1000))) = false ∧
    ({ up with jrn := { fault := true } } : State).commitFull (cfgPends (setP 4 9 1000) (setEntries (setP 4 9 1000))) = true ∧
    taken up 0x0203 (q0 0x0203) = true ∧ up.bgFree = true ∧
    (bgS .storeConfig 0x0203).mgmt.bg = some ⟨.storeConfig, 0x0203, 7⟩ := by decide +kernel

/-- Two entries of standard mould HALL: HOSTTO and POSCLOSED of axis 0, the axis in DISABLED and in RUN. -/
def set2 (fl : Nat) : List Byte :=
  pkt 0x0201 fl 0 9 (leBytes 4 2 ++ leBytes 4 0xF001 ++ par4 1000 ++ leBytes 4 0x1080 ++ par4 77)
def hallI : MouldInfo := (up.nvmImage 0x20).info
def hallOn (st : AxState) : State :=
  { axes0 { st := st } with moulds := { up.moulds with active := some hallI } }
theorem wit_several_entries : (∀ fl ∈ [0, 4],
    let s := ladled (hallOn .disabled) (set2 fl)
    let l := setEntries (set2 fl)
    s.takes 0x0201 (set2 fl) = true ∧ 1 ≤ l.length ∧ l.length ≤ 80 ∧ pPersist (set2 fl) = decide (fl = 4) ∧
      (∀ x ∈ l, s.headOff.setNeedsDisabled x.2.1 = false ∧ s.headOff.ckEntry (set2 fl) x = none) ∧
      s.headOff.ckBrake (set2 fl) l = none ∧ Sparse.wf none s.mgmt.par = true ∧ s.commitFull (cfgPends (set2 fl) l) = false ∧
      s.headOff.setKind 0x1080 = .pos 0 ∧ hallI.std.isSome = true ∧
      (l.reverse.find? fun x => decide (x.2.1 = 0x1080)) = some (1, 0x1080, 77)) ∧
    (let s := ladled (hallOn .run) (set2 0)
     s.takes 0x0201 (set2 0) = true ∧ ∃ x ∈ setEntries (set2 0), s.headOff.setNeedsDisabled x.2.1 = true) := by
  refine ⟨by decide +kernel, by decide +kernel, ?_⟩
  exact ⟨(1, 0x1080, 77), by decide +kernel, by decide +kernel⟩

def movP (seq : Nat) : List Byte := pkt 0x0301 0 1 seq (List.replicate 16 0)
def ready : State := { pouring with pwr := { pouring.pwr with axpwr := 1 } }
def ckJob (s : State) (p : List Byte) : Option Reply :=
  firstRefusal [s.ckJobState p (pAxis p), s.ckJobVal p (pAxis p), s.ckJobRoom p (pAxis p)]
/-- With a mould that declares the axis the job awaits its commit; without one it is refused. -/
theorem wit_JobAndTrimPacketsAwaitCommit : (Instr.moveTo, 0x0301) ∈ jobCommands ∧ taken ready 0x0301 (movP 1) = true ∧
    ckJob (ladled ready (movP 1)).headOff (movP 1) = none ∧ taken up 0x0301 (movP 1) = true ∧
    (ckJob (ladled up (movP 1)).headOff (movP 1)).isSome = true := by decide +kernel
def jobs (l : List Job) : State := { up with mgmt := { up.mgmt with jobs := l } }
theorem wit_JobsStartResumeAndFallSilent :
    (jobs [job 0x0301 5 .accepted true]).startable 0 = some (job 0x0301 5 .accepted true) ∧
    (∀ o ∈ [0x0308, 0x0309, 0x0304], (jobs [job 0x0301 5 .started true, job o 6 .accepted true]).immediateDue 0 =
      some (job o 6 .accepted true)) ∧
    ((jobs [job 0x0301 5 .started true]).running 0).isSome = true ∧ (jobs [job 0x0301 5 .awaiting false]).queuedJobs 0 ≠ [] ∧
    (up.axis 0).st.moves = false ∧ ((axes0 { st := .run }).axis 0).st.stops = true ∧
    up.jrn.fault = false ∧ ({ up with dev := .run } : State).dev = .run ∧ sysValue [(0xF002, some 1)] 0xF002 = 1 ∧
    sysValue [(0xF001, some 50)] 0xF001 ≠ 0 ∧ up.calm 249 = true ∧ up.mgmt.silent = false ∧ up.mgmt.jobs = [] := by
  decide +kernel
/-- R358: STOP ends the job that awaits its commit too. -/
theorem test_stop : after (exec (.immediateJobEffect 0) (jobs [job 0x0301 5 .awaiting false, job 0x0304 6 .accepted true]))
    (fun t => decide (t.mgmt.jobs = [] ∧ (t.mgmt.jax.get 0).lastSeq = 6)) = true := by decide +kernel

/-! An image built from 04 Tables 4-1, 4-2 and 4-10: ten empty bundles that cover 10 000 cycles. -/

def imgCode : List Byte := (List.replicate 9 (leBytes 4 0xFFC0)).flatten ++ leBytes 4 0xC3C0
def imgCert : List Byte := leBytes 4 1 ++ leBytes 4 0x04800011 ++ List.replicate 8 0
def imgHead : List Byte :=
  [0x4C, 0x59, 0x4D, 0x44] ++ leBytes 2 1 ++ leBytes 2 0x0480 ++ [0x11, 0] ++ leBytes 2 4 ++ leBytes 4 376 ++ leBytes 2 10000 ++
    [3, 1] ++ leBytes 4 10000 ++ leBytes 2 800 ++ leBytes 2 9500 ++ leBytes 2 9400 ++ [15, 0] ++ List.replicate 8 0 ++
    leBytes 4 (crc32c imgCode).toNat ++ leBytes 4 0 ++ List.replicate 160 0 ++ leBytes 4 0x100 ++ List.replicate 40 0
def imgEntry (ty : List Byte) (off : Nat) (l : List Byte) : List Byte :=
  ty ++ leBytes 4 off ++ leBytes 4 l.length ++ leBytes 4 (crc32c l).toNat
def img : List Byte :=
  imgHead ++ leBytes 4 (crc32c imgHead).toNat ++ imgEntry tyCode 0x140 imgCode ++ imgEntry tyPmap 0x168 [] ++
    imgEntry tyParm 0x168 [] ++ imgEntry tyCert 0x168 imgCert ++ imgCode ++ imgCert
def image : Image := .raw 376 (Mem.ofBytes img)
set_option maxRecDepth 1000000 in
theorem test_image_passes : img.length = 376 ∧ image.check up.lc up.run = none ∧ image.crcOk = true := by decide +kernel
set_option maxRecDepth 1000000 in
/-- One byte of CODE changed: the section's CRC is the first check that fails, code 0x06 (04 Table 4-4). -/
theorem test_image_fails : ((Image.raw 376 (Mem.ofBytes (img.set 0x140 0))).check up.lc up.run).map CkFail.code = some 6 := by
  decide +kernel
set_option maxRecDepth 1000000 in
/-- In FIELD without a mould key the image fails with code 0x31 (19 R517). -/
theorem test_image_field : (image.check field.lc up.run).map CkFail.code = some 0x31 := by decide +kernel
def packet (opc : Nat) (par : List Byte) : List Byte := pkt opc 0 0 0 par
theorem wit_MouldPacketsStart : taken up 0x0401 (packet 0x0401 (par4 1)) = true ∧
    1 ≤ pPar (packet 0x0401 (par4 524288)) 0 4 ∧ pPar (packet 0x0401 (par4 524288)) 0 4 ≤ 524288 ∧
    taken up 0x0403 (q0 0x0403) = true ∧ ({ up.moulds with stageLen := some 1 } : Moulds).stageLen.isSome = true ∧
    up.lock0Free = true ∧ up.bgFree = true ∧ taken up 0x0404 (q0 0x0404) = true ∧
    ({ up.moulds with stageok := true } : Moulds).stageok = true ∧ up.selectOpen = false ∧
    (let p := packet 0x0406 [0, 3, 0, 0]
     taken up 0x0406 p = true ∧ pPar p 1 1 ≤ 3 ∧ pPar p 0 1 = 0) ∧
    (let p := packet 0x0406 [1, 3, 0, 0]
     taken up 0x0406 p = true ∧ pPar p 1 1 ≤ 3 ∧ pPar p 0 1 = 1 ∧ ({ up.moulds with inactok := true } : Moulds).inactok = true) ∧
    (let p := packet 0x0405 [0xFF, 0, 0, 0]
     taken up 0x0405 p = true ∧ pPar p 0 1 = 0xFF ∧ up.allDisabled = true ∧ up.moulds.active = none) ∧
    (let p := packet 0x0405 [0x10, 0, 0, 0]
     taken up 0x0405 p = true ∧ srcNvm (pPar p 0 1) = true ∧ (ladled up p).headOff.selectBad (pPar p 0 1) = false) := by
  decide +kernel

set_option maxRecDepth 1000000 in
theorem wit_MouldOperationsEnd : (bgS (.mouldCheck image false) 0x0403).mgmt.bg = some ⟨.mouldCheck image false, 0x0403, 7⟩ ∧
    image.check up.lc up.run = none ∧ (Image.raw 3 [(0, 0x4C), (1, 0x59), (2, 0x4D)]).check up.lc up.run = some ⟨1, 0, 0xFFFF⟩ ∧
    (bgS (.mouldCommit image) 0x0404).mgmt.bg = some ⟨.mouldCommit image, 0x0404, 7⟩ ∧ image.crcOk = true ∧
    (bgS (.mouldStore 0 3 image) 0x0406).mgmt.bg = some ⟨.mouldStore 0 3 image, 0x0406, 7⟩ := by decide +kernel
/-- An empty customer slot fails its check; a standard mould passes it. -/
theorem wit_select : (bgS (.selectCopy 0x10 false) 0x0405).mgmt.bg = some ⟨.selectCopy 0x10 false, 0x0405, 7⟩ ∧
    (up.nvmImage 0x10).check up.lc up.run = some ⟨1, 0, 0xFFFF⟩ ∧ (up.nvmImage 0x20).check up.lc up.run = none ∧
    (up.nvmImage 0x20).info.runOk up.run = true ∧ up.activatable (up.nvmImage 0x20).info = true :=
  ⟨by decide +kernel, by decide +kernel, rfl, rfl, rfl⟩
theorem wit_live_load : ({ up.moulds with pend := some ⟨.live, some mld, 0, 0, 0, 0, 1, false⟩ } : Moulds).pend =
    some ⟨.live, some mld, 0, 0, 0, 0, 1, false⟩ ∧ pouring.moulds.active = some mld ∧ 1 ≤ (1 : Nat) ∧
    pouring.moulds.loadleft ≤ mld.loadRate := by decide +kernel

/-! ### Witnesses: the journal -/

def rec0 : JRec := ⟨5, 0x0301, 0, 1, List.replicate 40 0, 0⟩
def pend0 : Pend := ⟨rec0, 2, some [], 5, none, 0⟩
def com (j : Journal) : State := { up with tick := { up.tick with hidx := 15 }, jrn := j }
theorem wit_CommitsTakeAndProgramRecords : (com {}).tick.on = true ∧ (com {}).tick.hidx = 15 ∧ (com {}).tick.atZero = false ∧
    (com {}).jrn.comBusy = false ∧ (com {}).jrn.fault = false ∧ (com { comBusy := true }).jrn.comBusy = true ∧
    (com { fault := true }).jrn.fault = true ∧ up.tick.hidx ≠ 15 := by decide +kernel
theorem wit_programmed : (com {}).jrn.com = [] ∧
    (com { com := [pend0, pend0], wearRaised := true }).jrn.com = pend0 :: [pend0] ∧ [pend0] ≠ [] ∧
    (com { com := [pend0, pend0] }).jrn.here + 1 < jrnSize ∧ (com { wearRaised := true }).jrn.wearRaised = true ∧
    Sparse.wf Slot.blank (com {}).jrn.a = true ∧ Sparse.wf Slot.blank (com {}).jrn.b = true ∧ (com {}).jrn.retA.length < 255 ∧
    255 ≤ (com { retA := List.range 255 }).jrn.retA.length := by decide +kernel
/-- R373, R374: a commit takes the waiting record, which then stands in both copies; a failed read-back keeps it. -/
theorem test_commit : after (exec .commit (com { pend := [pend0] })) (fun t =>
    decide (t.jrn.com.length = 1) && after (exec (.recordProgrammed true true) t) (fun u => decide (u.jrn.com = [] ∧ u.jrn.wp = 1)) &&
    after (exec (.recordProgrammed true false) t) fun u => decide (u.jrn.com.length = 1 ∧ u.jrn.wp = 1)) = true := by
  decide +kernel
theorem wit_trim :
    (let p := packet 0x0503 (par4 4)
     let s := ladled { up with jrn := { maxSeq := 4 } } p
     s.takes 0x0503 p = true ∧ s.mgmt.jobs = [] ∧ 0 < pPar p 0 4 ∧ pPar p 0 4 ≤ s.jrn.maxSeq.toNat ∧
      s.jrn.trim.toNat < pPar p 0 4 ∧ s.commitFull [trimPend p] = false ∧
      (ladled { up with jrn := { maxSeq := 4, trim := 4 } } p).takes 0x0503 p = true ∧
      (ladled up p).takes 0x0503 p = true ∧ up.jrn.maxSeq.toNat < pPar p 0 4 ∧
      (ladled (jobs [job 0x0301 4 .started true]) p).takes 0x0503 p = true) := by decide +kernel
/-- R389: the trim itself adds its record to those that wait. -/
theorem test_trim : after (exec .journalTrim (ladled { up with jrn := { maxSeq := 4 } } (packet 0x0503 (par4 4))))
    (fun t => decide (t.jrn.pend.length = 1 ∧ t.mgmt.outlet = [])) = true := by decide +kernel

/-! ### Witnesses: Sprue frames and the Runner -/

/-- A frame with its CRC (13 Table 13-2). -/
def frame (c : Cmd) (addr alive len : Nat) (data : List Byte) : Sys2Proof.Frame :=
  let f := frm addr alive len data
  { f with crc := crc32c (frameBody c f) }
/-- In sync, next ALIVE 255, with the host holding LOCK0. -/
def port : State :=
  { owned 0 with spr := { up.spr with sync := true, exp := 255 }, locks := { up.locks with owner := up.locks.owner.set 0 2 } }
theorem wit_AcceptedFramesAct : (frame .status 0 0 0 []).mode.val = up.spr.mode ∧ up.selectFall = up ∧ port.selectFall = port ∧
    up.accepts .status (frame .status 0 0 0 []) = true ∧ (frame .status 0 0 0 []).alive = 0 ∧
    port.accepts .status (frame .status 0 255 0 []) = true ∧ (frame .status 0 255 0 []).alive ≠ 0 ∧
    port.accepts .echo (frame .echo 0 255 2 [1, 2]) = true ∧ port.accepts .read (frame .read 0x1FFFC 255 4 []) = true ∧
    port.accepts .read (frame .read 0x100000 255 4 []) = true ∧ port.accepts .read (frame .read 0x20FFFC 255 4 []) = true ∧
    port.accepts .read (frame .read 0x7FFC 255 4 []) = true ∧ port.accepts .read (frame .read 0x3800 255 4 []) = true ∧
    port.accepts .take (frame .take 0x9000 255 16 []) = true ∧ port.mgmt.defer = none ∧ port.mgmt.outlet = [] ∧
    (refusal 0x0101 0 stBusy 0 0).bytes.length ≤ 20 ∧
    port.accepts .post (frame .post 0x8000 255 16 (List.replicate 16 0)) = true ∧ port.mgmt.ladle.length < 32 ∧
    port.accepts .write (frame .write 0x17FFFF 255 1 [9]) = true ∧ 0x100000 ≤ (0x17FFFF : BitVec 24).toNat ∧
    port.accepts .write (frame .write 0x3800 255 4 [1, 0, 0, 0]) = true ∧ port.mayWrite .host 0x3800 = true := by
  decide +kernel
/-- A reply to which an action is bound, and one that is not it. -/
theorem wit_take_acts : (∀ x ∈ [Deferred.sprueReset, .deviceReset, .lcReset, .hibernate, .rmaEnter],
    let r : Reply := okReply x.opcode 7 []
    let s : State := { port with mgmt := { port.mgmt with outlet := [r], defer := some (x, 7) } }
    s.accepts .take (frame .take 0x9000 255 20 []) = true ∧ s.mgmt.outlet = r :: [] ∧ r.bytes.length ≤ 20 ∧
      s.mgmt.defer = some (x, 7) ∧ r.opc = x.opcode ∧ r.seq = 7 ∧ r.status = stOK ∧ s.dev = .ready ∧ s.selectFall = s) ∧
    (refusal 0x0101 0 stBusy 0 0).opc ≠ Deferred.sprueReset.opcode := by decide +kernel
/-- A register whose read has no side effect, SPR.CFG. -/
theorem wit_read_register : port.regRead .host 0x3800 = ((port.regRead .host 0x3800).1, port) := rfl
theorem wit_RejectedFramesOnlyFlag : port.portUp = true ∧ port.selectFall = port ∧ (frm 0 255 4 []).mode.val = port.spr.mode ∧ Cmd.lenOk .write 1 = true ∧
    Cmd.shaped .write (frm 0x17FFFF 255 1 [9]) = true ∧ port.judge .write (frm 0x17FFFF 255 1 [9]) ≠ 0 ∧
    port.judge .post (frm 0x8000 255 16 (List.replicate 16 0)) ≠ 0 ∧ port.judge .read (frm 0 255 4 []) ≠ 0 ∧
    port.judge .take (frm 0x9000 255 16 []) ≠ 0 ∧ port.judge .echo (frm 0 255 1 [0]) ≠ 0 ∧
    port.judge .status (frm 0 255 0 []) ≠ 0 ∧ port.judge .status (frame .status 0 3 0 []) = frFlag false false true false ∧
    (frm 0 255 4 []).crc ≠ crc32c (frameBody .read (frm 0 255 4 [])) ∧
    (frame .read 0 0 4 []).alive = 0 ∧ (frame .read 0 254 4 []).alive ≠ port.spr.exp ∧
    (frame .read 0 0 4 []).crc = crc32c (frameBody .read (frame .read 0 0 4 [])) ∧ Cmd.ofCode 0x61 = none ∧
    Cmd.ofCode 0x60 = some .status ∧ Cmd.shaped .status (frm 0 255 4 []) = true ∧ Cmd.lenOk .status 4 = false ∧
    port.judge .status (frame .status 0 255 0 []) = 0 ∧ ({ frame .status 0 255 0 [] with ready := false }).ready = false := by
  decide +kernel

/-- A STATUS frame clocked on eight lanes at a port in mode 0 ends before the port has read its address (13 R395, R396). -/
def narrow : Sys2Proof.Frame := { frame .status 0 0 0 [] with mode := 5 }
theorem wit_other_mode : narrow.mode.val ≠ up.spr.mode ∧ Cmd.lenOk .status narrow.len.toNat = true ∧
    Cmd.shaped .status narrow = true ∧
    (match up.spr.see narrow.mode narrow.ready (up.spr.levels 0x60 narrow) with
      | .cut _ _ .early => true | _ => false) = true := by decide +kernel
theorem levelsAt_driven (l : List LaneCycle) : ∀ i n, ((l.take n).all fun c => decide (c.drv = 0xFF)) = true →
    (levelsAt i l).take n = (l.take n).map LaneCycle.val := by
  induction l with
  | nil => intros; simp [levelsAt]
  | cons c t ih =>
    intro i n h
    cases n with
    | zero => simp
    | succ n =>
      simp only [List.take_succ_cons, List.all_cons, Bool.and_eq_true, decide_eq_true_eq] at h
      simp [levelsAt, ih _ _ h.2, h.1]
/-- In mode 5, a STATUS frame cut in its CRC, and one with a wrong CRC cut before its answer. -/
def wide5 : State := { port with spr := { port.spr with cfg := 5 } }
theorem wit_cut_frames : Cmd.ofCode 0x60 = some .status ∧ 7 < 8 / (sprueLanes port.spr.mode).cmd ∧
    (match wide5.spr.see 5 true ((wide5.spr.levels 0x60 { frame .status 0 255 0 [] with mode := 5 }).take 9) with
      | .cut 0x60 g .header => Cmd.lenOk .status g.len.toNat | _ => false) = true ∧
    (match wide5.spr.see 5 true ((wide5.spr.levels 0x60 { frm 0 255 0 [] with mode := 5 }).take 11) with
      | .cut 0x60 g (.crc _) => Cmd.lenOk .status g.len.toNat && decide (wide5.judge .status g ≠ 0) | _ => false) = true := by
  refine ⟨by decide +kernel, by decide +kernel, ?_, ?_⟩ <;>
    rw [Sprue.levels, levelsAt_driven _ _ _ (by decide +kernel)] <;> decide +kernel
/-- A POST on eight lanes whose SIO0 carries 0x60 and zeros is read whole in mode 0: a STATUS. -/
def wideF : Sys2Proof.Frame := { frame .post 0x010100 0 160 (List.replicate 160 0) with mode := 5 }
theorem wit_other_mode_whole : wideF.mode.val ≠ up.spr.mode ∧ Cmd.lenOk .post wideF.len.toNat = true ∧
    Cmd.shaped .post wideF = true ∧
    (match up.spr.see wideF.mode wideF.ready (up.spr.levels (BitVec.ofNat 8 Cmd.post.code) wideF) with
      | .whole .status _ => true | _ => false) = true := by
  refine ⟨by decide +kernel, by decide +kernel, by decide +kernel, ?_⟩
  have h (l : List LaneCycle) (h : (l.all fun c => decide (c.drv = 0xFF)) = true) : levelsAt 0 l = l.map LaneCycle.val := by
    have e (k : Nat) (x : List LaneCycle) : (levelsAt k x).length = x.length := by
      induction x generalizing k <;> simp_all [levelsAt]
    simpa [List.take_of_length_le, e] using levelsAt_driven l 0 l.length (by simpa using h)
  rw [Sprue.levels, h _ (by decide +kernel)]
  decide +kernel

def running (t : RunTx) : State := { up with run := { up.run with tx := some t } }
/-- A read of four bytes without and with CRC and echo (14 R423, Table 14-5), complete at its START + 60. -/
def tx0 : RunTx :=
  { dev := 1, mgmt := false, isRead := true, alv := 1, rxlen := 4, res := 8, tries := 0, start := 0, c := 60, cfgA := 0
    cfgB := 0, n := 1, sent := [0x40] }
def tx1 : RunTx := { tx0 with cfgA := 0x30000 }
def rxs : List Byte := [1, 9, 9, 9, 9]
/-- The levels that carry bytes on RIO1 (14 R422, 13 R395). -/
def onRio1 (l : List Byte) : List Byte := l.flatMap fun b => [7, 6, 5, 4, 3, 2, 1, 0].map fun i => if b.getLsbD i then 2 else 0
theorem wit_RunnerTransactionsComplete :
    let d : RunDesc := ⟨0, 1, 1, 0x40, 0, 0, 0, 4, 0, 0, 2000, []⟩
    pouring.runDesc 0 = some d ∧ pouring.mayRun 0 d = true ∧ d.dev < 8 ∧
    ({ pouring with tick := { pouring.tick with hidx := 1 } } : State).mayRun 0 d = false ∧
    pouring.pour.inflight = [] ∧ up.exch.xpPast = false ∧ (running tx0).pour.inflight = [] ∧ (running tx0).run.retry = none ∧
    up.run.tx = none ∧ up.run.retry = none ∧ up.runnerDown = false ∧ 1 ≤ (7 : BitVec 3).toNat ∧ up.tick.on = true ∧
    up.run.free ≤ up.tick.cy ∧ up.runFits 7 up.tick.cy (up.run.doneAt 7 true 0 32 up.tick.cy) = true ∧
    (running tx0).run.tx = some tx0 ∧ (running tx0).nowAt tx0.c = true ∧
    ({ running tx0 with tick := { up.tick with cy := 61 } } : State).nowAt tx0.c = false ∧ tx0.mgmt = false ∧
    tx0.isRead = true ∧ tx0.recv (onRio1 rxs) = rxs.take 4 ∧ tx0.crcBad (tx0.recv (onRio1 rxs)) = false ∧
    tx0.echoBad (tx0.recv (onRio1 rxs)) = false ∧
    (let l := rxs ++ leBytes 4 (crc32c rxs).toNat
     tx1.crcBad (tx1.recv (onRio1 l)) = false ∧ tx1.echoBad (tx1.recv (onRio1 l)) = false) ∧
    tx1.crcBad (tx1.recv (onRio1 rxs)) = true ∧ tx1.echoBad (tx1.recv (onRio1 rxs)) = false ∧
    ({ up.run with deva := Vector.replicate 8 0xFFFFFFFF } : Runner).crcen 1 = true ∧
    ({ tx0 with isRead := false } : RunTx).isRead = false ∧ ({ tx0 with mgmt := true, tries := 3 } : RunTx).mgmt = true ∧
    3 ≤ ({ tx0 with mgmt := true, tries := 3 } : RunTx).tries ∧ tx0.tries < 3 := by decide +kernel
/-- 14 R428: the words of a good read stand behind the status word. -/
theorem test_runner_read : after (exec (.runnerComplete (onRio1 [9, 9, 9, 1])) (running tx0))
    (fun t => decide (t.pour.runres.getD 9 0 = 0x01090909 ∧ t.run.tx = none)) = true := by decide +kernel
/-! ### Witnesses: resets, deferred actions, life cycle, tests, power -/

def fn (f ax k : Nat) : List Byte := pkt 0x0601 0 ax 0 [BitVec.ofNat 8 f, BitVec.ofNat 8 k, 0, 0]
def takes0 (p : List Byte) (f : Nat) : Bool := taken up 0x0601 p && decide (pPar p 0 1 = f)
theorem wit_FunctionResetsBeginAndEnd : takes0 (fn 0 8 0) 0 = true ∧ takes0 (fn 1 1 0) 1 = true ∧ takes0 (fn 2 0 0) 2 = true ∧
    takes0 (fn 3 0 0) 3 = true ∧ takes0 (fn 4 0 0) 4 = true ∧ takes0 (fn 5 0 15) 5 = true ∧ up.mgmt.rfunc = none ∧
    (up.axis (pAxis (fn 1 1 0))).st = .disabled ∧ ((axes0 { st := .fault }).axis 0).st = .fault ∧
    pPar (fn 5 0 15) 1 1 = (15 : Fin 16).val ∧ up.mgmt.defer = none ∧
    (jobs [job 0x0301 5 .started true]).running 0 = some (job 0x0301 5 .started true) := by decide +kernel
theorem wit_fault_waits :
    let s : State := { stdS .run {} [] with
      std := { ax := ⟨{ faulting := true }, {}, {}, {}⟩ }, evm := { up.evm with pendMgmt := bitB 256 211 } }
    s.stdK.isSome = true ∧ s.evm.pendMgmt.getLsbD 211 = true ∧ s.faultWaits 0 = true ∧ (s.axis 0).st ≠ .disabled := by
  decide +kernel
theorem wit_function_resets_end : (resetting 0 0 { st := .recovery }).mgmt.rfunc = some (0, (0 : Fin 4).val, 7) ∧
    ((resetting 0 0 { st := .recovery }).axis 0).st = .recovery ∧ ((resetting 0 0 { st := .recovery }).axis 0).nxt = none ∧
    (resetting 1 0 {}).mgmt.rfunc = some (1, (0 : Fin 4).val, 7) ∧ (2 : Nat) ≤ 5 ∧
    (resetting 5 15 {}).mgmt.rfunc = some (5, (15 : Fin 16).val, 7) ∧ 22 ∈ [1, 5, 9, 10, 11, 22] ∧
    (resetting 2 0 {}).mgmt.rfunc = some (2, (0 : Fin 4).val, 7) ∧ ((axes0 { missTwo := true }).axis 0).missTwo = true ∧
    (bitB 256 142 : EvSet).getLsbD (40 * (3 : Fin 4).val + 22) = true ∧ ((axes0 { st := .run }).axis 0).st ≠ .disabled ∧
    ((axes0 { st := .run }).axis 0).nxt ≠ some .recovery := by decide +kernel
def deferring (d : Deferred) : State := { up with mgmt := { up.mgmt with defer := some (d, 7) } }
theorem wit_DeferredActionsTakePlace :
    (let p := packet 0x0602 (par4 0x5A5A0602)
     taken up 0x0602 p = true ∧ pPar p 0 4 = 0x5A5A0602) ∧ up.mgmt.defer = none ∧ taken up 0x0603 (q0 0x0603) = true ∧
    (ladled up (q0 0x0603)).headOff.mgmt.ladle = [] ∧ up.bgFree = true ∧ up.jrn.waits = false ∧ up.mgmt.clr = none ∧
    taken up 0x0604 (pkt 0x0604 0 15 0 []) = true ∧ (deferring .sprueReset).mgmt.defer = some (.sprueReset, 7) ∧
    (deferring .deviceReset).dev = .ready ∧ (deferring .lcReset).mgmt.defer = some (.lcReset, 7) ∧ (deferring .deviceReset).jrn.com = [] ∧ (deferring .hibernate).dev = .ready ∧
    (deferring .rmaEnter).dev ≠ .thermalLatch ∧
    ({ deferring .hibernate with jrn := { com := [pend0] } } : State).jrn.com = [pend0] ∧ Sparse.wf Slot.blank up.jrn.a = true ∧
    up.lc.rma = false := by decide +kernel

/-- LC_ADVANCE: any serial number gives its confirmation code. -/
theorem leNat_leBytes4 {n : Nat} (h : n < 2 ^ 32) : leNat (leBytes 4 n) = n := by
  simp only [leBytes, leNat, BitVec.toNat_ofNat]; omega
def advP : List Byte := packet 0x0802 ([2, 0, 0, 0] ++ serialBytes.map fun b => b ^^^ 0xA5)
theorem advP_crc : ckPacket (opRow 0x0802) advP = none := by
  have e : leAt advP 24 4 = (crc32c (advP.take 24)).toNat := leNat_leBytes4 (crc32c (advP.take 24)).isLt
  have h : pLen advP = 12 := rfl
  have l : advP.length = 28 := rfl
  have r : opRow 0x0802 = some ⟨0x0802, 12, 0, [1, 2, 3], .none, .ready, 0⟩ := rfl
  simp [ckPacket, h, l, e, r]
theorem wit_lcAdvance : (ladled { up with lc := { up.lc with rkey := some [] } } advP).takes 0x0802 advP = true ∧
    ({ up.lc with rkey := some [] } : Lc).rkey.isSome = true ∧ pPar advP 0 1 = 2 ∧ advanceCode advP = true := by
  refine ⟨State.takes_iff.2 ⟨by simp [State.atHead, ladled]; exact ⟨rfl, rfl⟩, rfl, ?_⟩, rfl, rfl, ?_⟩
  · have h : pOpc advP = 0x0802 := rfl
    simp only [State.precheck, h, advP_crc, Option.none_or]
    rfl
  · simp only [advanceCode, decide_eq_true_eq]
    rfl

/-- The base point of P-256 is a point of the curve; its second coordinate plus one is none. -/
theorem wit_curve : onCurve (leBytes 32 ecGx) (leBytes 32 ecGy) = true ∧
    onCurve (leBytes 32 ecGx) (leBytes 32 (ecGy + 1)) = false := by decide +kernel
def keyP : List Byte := packet 0x0805 ([1, 0, 0, 0] ++ leBytes 32 ecGx ++ leBytes 32 ecGy)
def rmaP : List Byte := packet 0x0804 (List.replicate 128 0)
set_option maxRecDepth 1000000 in
theorem wit_LifeCyclePacketsAct : taken up 0x0805 keyP = true ∧ pPar keyP 0 1 ≤ 1 ∧
    onCurve (sliceB keyP 16 32) (sliceB keyP 48 32) = true ∧ taken up 0x0803 (q0 0x0803) = true ∧
    taken up 0x0804 rmaP = true ∧ ({ up.lc with nonce := some [] } : Lc).nonce.isSome = true ∧
    (bgS .lcAdvance 0x0802).mgmt.bg = some ⟨.lcAdvance, 0x0802, 7⟩ ∧ (bgS .lcAdvance 0x0802).mgmt.defer = none ∧
    (bgS (.lcSetKey 0 []) 0x0805).mgmt.bg = some ⟨.lcSetKey 0 [], 0x0805, 7⟩ ∧
    (bgS (.lcRmaEnter [] [1] []) 0x0804).mgmt.bg = some ⟨.lcRmaEnter [] [1] [], 0x0804, 7⟩ ∧
    up.lc.rmaOk [] [1] [] = false ∧ up.calm 248 = true ∧ ({ up.lc with rma := true } : Lc).rma = true := by decide +kernel
/-- A signature that verifies needs the vendor key, which the spec does not give: with one, the state is at hand. -/
theorem wit_rma_verified (l : Lc) (n c v : List Byte) (h : l.rmaOk n c v = true) :
    ∃ s : State, s.mgmt.bg = some ⟨.lcRmaEnter n c v, 0x0804, 7⟩ ∧ s.mgmt.defer = none ∧ s.lc.rmaOk n c v = true :=
  ⟨{ bgS (.lcRmaEnter n c v) 0x0804 with lc := l }, rfl, rfl, h⟩
/-- FIPS 180-4's example "abc", and the P-256, SHA-256 example "sample" of RFC 6979. -/
theorem test_sha256 : sha256 [0x61, 0x62, 0x63] = 0xBA7816BF8F01CFEA414140DE5DAE2223B00361A396177A9CB410FF61F20015AD := by
  decide +kernel
theorem test_ecdsa : ecdsaVerifies
    (leBytes 32 0x60FED4BA255A9D31C961EB74C6356D68C049B8923B61FA6CE669622E60F29FB6 ++
      leBytes 32 0x7903FE1008B8BC99A41AE9E95628BC64F2F1B20C2D7E9F5177A3C294D4462299)
    [0x73, 0x61, 0x6D, 0x70, 0x6C, 0x65]
    (leBytes 32 0xEFD48B2AACB6A8FD1140DD9CD45E81D69D2C877B56AAF991C34D0EA84EAF3716 ++
      leBytes 32 0xF7CB1C942D657C41D436C7A1B6E29F65F3E900DBB9AFF4064DC4AB2F843ACDA8) = true := by decide +kernel

def loopP (i ax : Nat) : List Byte := pkt 0x0701 0 ax 0 ([BitVec.ofNat 8 i, 0, 1, 0] ++ par4 0)
def loopS : State := { up with pwr := { up.pwr with axpwr := 15 } }
def loopOk (i ax : Nat) : Bool :=
  let p := loopP i ax
  taken loopS 0x0701 p && decide (pPar p 0 1 = i) && decide ((ladled loopS p).ckLoopState p = none) &&
    decide (firstRefusal (ckLoop p) = none)
theorem wit_TestsRunInBackground : loopOk 0 0 = true ∧ loopOk 1 0 = true ∧ loopOk 2 8 = true ∧ loopOk 3 8 = true ∧
    loopOk 4 8 = true ∧ loopOk 5 0 = true ∧ loopOk 6 0 = true ∧ loopS.bgFree = true ∧ (loopS.axis 3).nxt = none ∧
    (let p := packet 0x0702 (par4 0x3FFFF)
     taken up 0x0702 p = true ∧ 1 ≤ pPar p 0 4 ∧ pPar p 0 4 < 2 ^ 18) ∧
    (bgS (.loopback 6 0 1 0 0 none) 0x0701).mgmt.bg = some ⟨.loopback 6 0 1 0 0 none, 0x0701, 7⟩ ∧
    up.loopWaits (.loopback 6 0 1 0 0 none) = false ∧ (running tx0).loopWaits (.loopback 1 1 1 0 0 none) = true ∧ (0xFFFE : Nat) < 0xFFFF ∧
    up.calm 253 = true ∧ (6 ≠ 6 ∨ 2 ≠ 1) ∧ (1 : BitVec 18).getLsbD 14 = false ∧ ((axes0 { st := .test }).axis 0).st = .test ∧ ((axes0 { st := .test }).axis 0).nxt = none ∧
    (bgS (.selftest 1 false) 0x0702).mgmt.bg = some ⟨.selftest 1 false, 0x0702, 7⟩ := by decide +kernel

theorem wit_SuppliesAndResets : up.pwr.vdd = true ∧ ({ up with dev := .off } : State).dev = .off ∧
    ({ up.pwr with vdd := false } : Power).vdd = false ∧ up.dev = .ready ∧ ({ up.pwr with phase := .held } : Power).phase = .held ∧
    up.pwr.phase = .done ∧ ({ up with dev := .hibernate } : State).dev = .hibernate ∧
    (1 : BitVec 4) &&& ({ up.fi with wake := 3 } : Fi).wakeMask ≠ 0 := by decide +kernel
theorem wit_BootDecidesTheState : State.reset.pwr.phase = .rom ∧ State.reset.dev = .boot ∧ State.reset.lc.ctl = some 1 ∧
    State.reset.lc.mem = some 1 ∧ ({ up.pwr with phase := .mgmt } : Power).phase = .mgmt ∧
    ({ up.pwr with therm := true } : Power).therm = true ∧ up.pwr.therm = false ∧ up.mon.fault = 0 ∧ up.mon.qext = false ∧
    (mons { fault := 1 }).mon.fault ≠ 0 ∧ ({ up.lc with wipe := true } : Lc).wipe = true ∧ up.pwr.phase = .done ∧
    (mons { req := true }).mon.req = true ∧ up.mon.req = false ∧ ({ up.lc with ctl := some 3, mem := some 3 } : Lc).load.1.st = 3 := by
  decide +kernel
/-- The invariant holds, and a step keeps going, in FIELD with the port closed. -/
theorem wit_NoPhaseShootsThrough : (w4 true).memWf = true ∧ (∃ t, step (w4 true) = .next t) ∧
    ∀ n ∈ axes, ∀ p ∈ [Phase.u, .v, .w], ¬(((((w4 true).axis n).ph.get p).h.s4 = true) ∧ (((w4 true).axis n).ph.get p).l.s4 = true) :=
  ⟨by decide +kernel, ⟨_, rfl⟩, by decide +kernel⟩
theorem wit_MemoriesStayCanonical : pouring.memWf = true ∧ ∃ t, step { pouring with pending := [.st g0 1 5] } = .next t :=
  ⟨by decide +kernel, ⟨_, rfl⟩⟩
theorem wit_DebugPortStaysClosedInField : field.lcSafe ∧ (∃ t, step field = .next t) := ⟨fun _ => rfl, ⟨_, rfl⟩⟩

def clearing (s : State) (cause : BitVec 4) : State := { s with dev := .safe, mgmt := { s.mgmt with clr := some (1, 7, cause) } }
theorem wit_ClearFaultDecidesAtTheBoundary : (clearing up 0).tick.on = true ∧ (clearing up 0).tick.hidx ≠ 15 ∧
    (clearing up 0).dev = .safe ∧ (clearing up 0).moulds.active = none ∧ (clearing up 0).moulds.pend = none ∧
    (clearing up 0).mgmt.jobs = [] ∧ idleAx (clearing up 0) = true ∧ (clearing up 0).mgmt.clr = some (1, 7, 0) ∧
    (clearing (mons { fault := 1 }) 0).clearBarred = true ∧ (clearing up 0).clearBarred = false ∧ (3 : BitVec 4) ≠ 0 ∧
    ((axes0 { st := .fault, drv := { tflag := 1 } }).axis 0).st = .fault ∧
    (((clearing (axes0 { st := .fault, drv := { tflag := 1 } }) 0).clearFlags 0).axis 0).faultActive = false ∧
    (1 : BitVec 4).getLsbD 0 = true ∧ (1 : BitVec 4).getLsbD 1 = false ∧
    (let s : State := { clearing (axes0 { st := .fault, drv := { tflag := 1, tsrc := 1 } }) 0 with dev := .run }
     s.dev = .run ∧ s.clearBarred = false ∧ ((s.clearFlags 0).axis 0).faultActive = true) := by decide +kernel
/-- The whole clearing on that state: OK, SAFE left, the axis in DISABLED. -/
theorem test_clear : after (exec .tickBoundary (clearing (axes0 { st := .fault, drv := { tflag := 1 } }) 0)) (fun t =>
    decide (t.dev = .ready) && decide ((t.axis 0).st = .disabled) && decide (t.mgmt.outlet.length = 1)) = true := by
  decide +kernel
end Sys2Proof.Tests
end

section
/-! SUPPORT. Register writes under their master's access rules (00 R11, 13 R408), the two lock bits (15 R442, R454), and
the end of a GPIO pulse (15 R453). -/

namespace Sys2Proof.Machine

/-! ### One bit of a mask -/

theorem getLsbD_bitB (w k j : Nat) : (bitB w k).getLsbD j = (decide (j < w) && decide (k = j)) := by
  rw [bitB, BitVec.getLsbD_ofNat, Nat.testBit_two_pow]

theorem getLsbD_or_bitB {w : Nat} (x : BitVec w) (k : Nat) (hk : k < w) : (x ||| bitB w k).getLsbD k = true := by
  rw [BitVec.getLsbD_or, getLsbD_bitB, decide_eq_true hk, decide_eq_true rfl, Bool.and_self, Bool.or_true]

theorem getLsbD_and_not_bitB_same {w : Nat} (x : BitVec w) (k : Nat) : (x &&& ~~~bitB w k).getLsbD k = false := by
  rw [BitVec.getLsbD_and, BitVec.getLsbD_not, getLsbD_bitB]
  cases decide (k < w) <;> simp

theorem getLsbD_and_not_bitB_ne {w : Nat} (x : BitVec w) {k j : Nat} (h : j ≠ k) :
    (x &&& ~~~bitB w k).getLsbD j = x.getLsbD j := by
  rw [BitVec.getLsbD_and, BitVec.getLsbD_not, getLsbD_bitB, decide_eq_false h.symm]
  by_cases hj : j < w
  · simp [hj]
  · simp [BitVec.getLsbD_of_ge x j (by omega)]

/-! ### Writes by a master -/

theorem State.asMaster_granted {s : State} {m : Master} {a : Nat} (f : State → State) (ha : s.canAccess m = true)
    (hw : s.mayWrite m a = true) : s.asMaster m a f = f s := by
  simp [State.asMaster, ha, hw]

theorem State.asMaster_forbidden {s : State} {m : Master} {a : Nat} (f : State → State) (ha : s.canAccess m = true)
    (hw : s.mayWrite m a = false) : s.asMaster m a f = if occupied a then s.rangePrev else s := by
  simp [State.asMaster, ha, hw]

/-- A property of the next state that the three outcomes share: no access, a forbidden write, a granted one. -/
theorem State.asMaster_keeps {P : State → Prop} {s : State} {f : State → State} (m : Master) (a : Nat) (hs : P s)
    (hr : P s.rangePrev) (hf : P (f s)) : P (s.asMaster m a f) := by
  unfold State.asMaster
  split
  · exact hs
  · split
    · exact hf
    · split
      · exact hr
      · exact hs

/-- A write to a word address of the window is the write of that register (13 R408). -/
theorem exec_registerWrite {a : BitVec 16} (m : Master) (val : Word) (s : State) (hw : a.toNat % 4 = 0)
    (hb : a.toNat < 0x8000) : exec (.registerWrite m a val) s = .next (s.regWrite m a.toNat val) :=
  if_pos ⟨hw, hb⟩

theorem exec_registerWrite_granted {a : BitVec 16} {n : Nat} {m : Master} {s : State} (val : Word)
    (ha : s.canAccess m = true) (hw : s.mayWrite m n = true) (hn : a.toNat = n) (h4 : n % 4 = 0) (hb : n < 0x8000) :
    exec (.registerWrite m a val) s = .next (s.regSet m n val) := by
  subst hn
  rw [exec_registerWrite m val s h4 hb, State.regWrite, State.asMaster_granted _ ha hw]

theorem exec_registerWrite_forbidden {a : BitVec 16} {m : Master} {s : State} (val : Word) (ha : s.canAccess m = true)
    (hw : s.mayWrite m a.toNat = false) (h4 : a.toNat % 4 = 0) (hb : a.toNat < 0x8000) :
    exec (.registerWrite m a val) s = .next (if occupied a.toNat then s.rangePrev else s) := by
  rw [exec_registerWrite m val s h4 hb, State.regWrite, State.asMaster_forbidden _ ha hw]

theorem exec_mblockWrite (m : Master) (val : Word) (s : State) :
    exec (.mblockWrite m val) s = .next (s.asMaster m 0x4C0 fun t => t.mblockSet val) := rfl

theorem exec_qlockWrite (m : Master) (val : Word) (s : State) :
    exec (.qlockWrite m val) s = .next (s.asMaster m 0x340 fun t => t.qlockSet val) := rfl

/-! ### The registers -/

/-- TH.CFG (17 Table 17-6). -/
theorem State.regSet_thCfg (s : State) (m : Master) (val : Word) :
    s.regSet m 0x4068 val = { s with th := { s.th with cfg := val &&& 0xFFFF } } := rfl

/-- POUR.FLAGS (02 R85). -/
theorem State.regSet_pourFlags (s : State) (m : Master) (val : Word) :
    s.regSet m 0x6010 val = { s with pour := { s.pour with flags := s.pour.flags &&& ~~~(val.setWidth 3) } } := rfl

/-- SPRUE.CFG (13 R396). -/
theorem State.regSet_sprueCfg (s : State) (m : Master) (val : Word) :
    s.regSet m 0x3800 val = { s with spr := { s.spr with cfg := val &&& 0x00FF1F07 } } := rfl

/-- A word of QMAP (15 R454). -/
theorem State.regSet_qmap (s : State) (m : Master) {a : Nat} (val : Word) (h : 0x2A0 ≤ a) (h' : a < 0x2C0) :
    s.regSet m a val = if s.evm.qlock then s else
      { s with evm := { s.evm with qmap := setEvWord s.evm.qmap ((a % 0x20) / 4) val ||| bitB 256 203 } } := by
  have hblock : s.regSet m a val = s.evmWrite m a val := by
    rw [State.regSet, if_neg (by omega), if_pos (by omega)]
  rw [hblock, State.evmWrite, if_neg (by omega), if_neg (by omega), if_neg (by omega), if_neg (by omega),
    if_neg (by omega), if_pos h']

/-! ### The lock bits -/

theorem State.mblockSet_sets (s : State) {val : Word} (h : val.getLsbD 0 = true) :
    s.mblockSet val = { s with mail := { s.mail with lock := true } } := if_pos h

theorem State.qlockSet_sets (s : State) {val : Word} (h : val.getLsbD 0 = true) :
    s.qlockSet val = { s with evm := { s.evm with qlock := true } } := if_pos h

/-- The lock bits of `t` stand where those of `s` do (15 R442, R454). -/
def State.LockBitsStay (s t : State) : Prop :=
  (s.mail.lock = true → t.mail.lock = true) ∧ (s.evm.qlock = true → t.evm.qlock = true)

theorem State.LockBitsStay.refl (s : State) : s.LockBitsStay s := ⟨id, id⟩

theorem State.LockBitsStay.rangePrev (s : State) : s.LockBitsStay s.rangePrev := ⟨id, id⟩

theorem State.LockBitsStay.mblockSet (s : State) (val : Word) : s.LockBitsStay (s.mblockSet val) := by
  unfold State.mblockSet
  split
  · exact ⟨fun _ => rfl, id⟩
  · exact .refl s

theorem State.LockBitsStay.qlockSet (s : State) (val : Word) : s.LockBitsStay (s.qlockSet val) := by
  unfold State.qlockSet
  split
  · exact ⟨id, fun _ => rfl⟩
  · exact .refl s

/-- Once set, a lock bit stays under the writes that could reach it, granted or not. -/
theorem lockBitWrites_keep_lockBits {s t : State} {m : Master} {val : Word} {c : Instr}
    (hc : c = .mblockWrite m val ∨ c = .qlockWrite m val) (ht : exec c s = .next t) : s.LockBitsStay t := by
  obtain rfl | rfl := hc
  · rw [exec_mblockWrite] at ht
    cases ht
    exact State.asMaster_keeps m _ (.refl s) (.rangePrev s) (.mblockSet s val)
  · rw [exec_qlockWrite] at ht
    cases ht
    exact State.asMaster_keeps m _ (.refl s) (.rangePrev s) (.qlockSet s val)

/-! ### The end of a GPIO pulse -/

/-- A command that sets only the event part leaves every other part. -/
theorem Frame.of_evm (s : State) (e : Evm) : Frame [.evm] s { s with evm := e } := by
  intro p hp
  cases p with
  | evm => exact absurd (List.mem_singleton_self _) hp
  | _ => rfl

/-- The pulse of `k` ends: its pin falls, and the microsecond of merging begins (15 R453). -/
def Evm.pulseEnd (e : Evm) (k : Fin 8) : Evm :=
  { e with pulse := e.pulse &&& ~~~bitB 8 k.val, pin := e.pin &&& ~~~bitB 8 k.val, after := e.after ||| bitB 8 k.val }

/-- The microsecond of merging after the pulse of `k` ends (log entry 68). -/
def Evm.mergeEnd (e : Evm) (k : Fin 8) : Evm := { e with after := e.after &&& ~~~bitB 8 k.val }

theorem exec_gpioPulseEnd_running {s : State} {k : Fin 8} (h : s.evm.pulse.getLsbD k.val = true) :
    exec (.gpioPulseEnd k) s = .next { s with evm := s.evm.pulseEnd k } := if_pos h

theorem exec_gpioPulseEnd_over {s : State} {k : Fin 8} (h : s.evm.pulse.getLsbD k.val = false) :
    exec (.gpioPulseEnd k) s = .next { s with evm := s.evm.mergeEnd k } := if_neg (ne_true_of_eq_false h)

/-! ### The statement -/

/-- Settles O18: granted and forbidden writes through `State.asMaster`, the lock bits by
`lockBitWrites_keep_lockBits`, and the two ends of a GPIO pulse by the rules of `bitB`. -/
theorem registerWritesLand : Obligations.RegisterWritesLand := by
  unfold Obligations.RegisterWritesLand
  constructor
  · intro s m val ha
    refine ⟨fun hw => ?_, fun hw => ?_, fun hw => ?_, fun hw hq => ?_, fun hw hq => ?_,
      fun a h4 hb hw => exec_registerWrite_forbidden val ha hw h4 hb⟩
    · rw [exec_registerWrite_granted (a := 0x4068) val ha hw rfl (by decide) (by decide), State.regSet_thCfg]
    · rw [exec_registerWrite_granted (a := 0x6010) val ha hw rfl (by decide) (by decide), State.regSet_pourFlags]
    · rw [exec_registerWrite_granted (a := 0x3800) val ha hw rfl (by decide) (by decide), State.regSet_sprueCfg]
    · rw [exec_registerWrite_granted (a := 0x2A0) val ha hw rfl (by decide) (by decide),
        State.regSet_qmap s m val (by decide) (by decide), if_pos hq]
    · rw [exec_registerWrite_granted (a := 0x2B8) val ha hw rfl (by decide) (by decide),
        State.regSet_qmap s m val (by decide) (by decide), if_neg (ne_true_of_eq_false hq)]
  · intro s m val k ha
    refine ⟨fun hw hv => ?_, fun hw hv => ?_, fun c t hc ht => lockBitWrites_keep_lockBits hc ht,
      fun hp => ?_, fun hp => ?_⟩
    · rw [exec_mblockWrite, State.asMaster_granted _ ha hw, State.mblockSet_sets s hv]
    · rw [exec_qlockWrite, State.asMaster_granted _ ha hw, State.qlockSet_sets s hv]
    · exact ⟨_, exec_gpioPulseEnd_running hp, getLsbD_and_not_bitB_same _ _, getLsbD_and_not_bitB_same _ _,
        getLsbD_or_bitB _ _ k.isLt, fun j hj => getLsbD_and_not_bitB_ne _ (Fin.val_ne_of_ne hj), .of_evm s _⟩
    · exact ⟨_, exec_gpioPulseEnd_over hp, getLsbD_and_not_bitB_same _ _, rfl, rfl, .of_evm s _⟩

end Sys2Proof.Machine
end

section
/-! SUPPORT. The canonical form of the memories (log entry 3) through every function of the model, in the order of the
definitions. A function that writes no memory leaves `memWf` as it is, an equation `simp` uses; one that writes keeps it. -/

namespace Sys2Proof.Machine

/-! ### The memories as parts of the state -/

/-- The canonical form of the memories, said of the memories themselves. -/
def memsWf (pdm trace in0 out0 in1 out1 telem staging : Mem) (latch : Sparse Word) (ring : Sparse (BitVec 64))
    (ja jb : Sparse Slot) : Bool :=
  pdm.wf && trace.wf && in0.wf && out0.wf && in1.wf && out1.wf && telem.wf && staging.wf && Sparse.wf 0 latch &&
    Sparse.wf 0 ring && Sparse.wf Slot.blank ja && Sparse.wf Slot.blank jb

@[simp] theorem State.memWf_mk (pending : List Instr) (dev : DevState) (safecause : BitVec 4) (tick : Tick) (exch : Exch)
    (pour : Pour) (moulds : Moulds) (mgmt : Mgmt) (jrn : Journal) (spr : Sprue) (run : Runner) (evm : Evm) (locks : Locks)
    (mail : Mail) (ax : Four Axis) (std : StdSt) (conv : Conv) (fi : Fi) (hall : Four Hall) (hallFlag : BitVec 12)
    (th : Thermal) (mon : Mon) (lc : Lc) (pwr : Power) (sync : SyncSt) (latch : Sparse Word) (rdata : Word) :
    State.memWf ⟨pending, dev, safecause, tick, exch, pour, moulds, mgmt, jrn, spr, run, evm, locks, mail, ax, std, conv, fi,
      hall, hallFlag, th, mon, lc, pwr, sync, latch, rdata⟩ =
    memsWf pour.pdm pour.trace exch.buf0.inb exch.buf0.outb exch.buf1.inb exch.buf1.outb exch.telem moulds.staging latch
      tick.ring jrn.a jrn.b := rfl

@[simp] theorem memsWf_self (s : State) :
    memsWf s.pour.pdm s.pour.trace s.exch.buf0.inb s.exch.buf0.outb s.exch.buf1.inb s.exch.buf1.outb s.exch.telem
      s.moulds.staging s.latch s.tick.ring s.jrn.a s.jrn.b = s.memWf := rfl

theorem memsWf_iff {pdm trace in0 out0 in1 out1 telem staging : Mem} {latch : Sparse Word} {ring : Sparse (BitVec 64)}
    {ja jb : Sparse Slot} : memsWf pdm trace in0 out0 in1 out1 telem staging latch ring ja jb = true ↔
      (pdm.wf = true ∧ trace.wf = true) ∧ (in0.wf = true ∧ out0.wf = true) ∧ (in1.wf = true ∧ out1.wf = true) ∧
        telem.wf = true ∧ staging.wf = true ∧ Sparse.wf 0 latch = true ∧ Sparse.wf 0 ring = true ∧
        Sparse.wf Slot.blank ja = true ∧ Sparse.wf Slot.blank jb = true := by
  simp only [memsWf, Bool.and_eq_true, and_assoc]

theorem State.memWf_iff {s : State} : s.memWf = true ↔
    (s.pour.pdm.wf = true ∧ s.pour.trace.wf = true) ∧ (s.exch.buf0.inb.wf = true ∧ s.exch.buf0.outb.wf = true) ∧
      (s.exch.buf1.inb.wf = true ∧ s.exch.buf1.outb.wf = true) ∧ s.exch.telem.wf = true ∧ s.moulds.staging.wf = true ∧
      Sparse.wf 0 s.latch = true ∧ Sparse.wf 0 s.tick.ring = true ∧ Sparse.wf Slot.blank s.jrn.a = true ∧
      Sparse.wf Slot.blank s.jrn.b = true := memsWf_iff

@[simp] theorem State.memWf_ite (c : Prop) [Decidable c] (s t : State) :
    State.memWf (if c then s else t) = if c then s.memWf else t.memWf := apply_ite _ c s t

/-- The canonical form in the state a command answers; a stop has no next state. -/
def Res.memWf : Res → Bool
  | .next t => t.memWf
  | .fault _ => true
  | .refused _ => true

@[simp] theorem Res.memWf_next (t : State) : Res.memWf (.next t) = t.memWf := rfl
@[simp] theorem Res.memWf_fault (f : Fault) : Res.memWf (.fault f) = true := rfl
@[simp] theorem Res.memWf_ite (c : Prop) [Decidable c] (r q : Res) :
    Res.memWf (if c then r else q) = if c then r.memWf else q.memWf := apply_ite _ c r q

/-- The memories of the parts that an entry to SAFE changes are as before. -/
abbrev State.SameMems (t s : State) : Prop :=
  t.tick.ring = s.tick.ring ∧ t.exch.buf0 = s.exch.buf0 ∧ t.exch.buf1 = s.exch.buf1 ∧ t.exch.telem = s.exch.telem ∧
    t.moulds.staging = s.moulds.staging

/-- A fold of steps that each keep the form keeps it. -/
@[simp] theorem foldl_memWf {α : Type} {f : State → α → State} (hf : ∀ s x, (f s x).memWf = s.memWf) (l : List α) (s : State) :
    (l.foldl f s).memWf = s.memWf := by
  induction l generalizing s with
  | nil => rfl
  | cons x l ih => exact (ih _).trans (hf s x)

/-- A fold of steps that each keep the form, where some write. -/
theorem foldl_keeps_memWf {α : Type} {f : State → α → State} (hf : ∀ t x, t.memWf = true → (f t x).memWf = true)
    (l : List α) {s : State} (h : s.memWf = true) : (l.foldl f s).memWf = true :=
  List.foldlRecOn l f h fun t ht x _ => hf t x ht

/-! ### The canonical form through the functions of Ops -/

@[simp] theorem State.setAxis_memWf (s : State) (n : Fin 4) (a : Axis) : (State.setAxis s n a).memWf = s.memWf := by
  simp [State.setAxis]

@[simp] theorem State.updAxis_memWf (s : State) (n : Fin 4) (f : Axis → Axis) :
    (State.updAxis s n f).memWf = s.memWf := by
  simp [State.updAxis]

@[simp] theorem State.updDrv_memWf (s : State) (n : Fin 4) (f : Drv → Drv) : (State.updDrv s n f).memWf = s.memWf := by
  simp [State.updDrv]

@[simp] theorem State.updPort_memWf (s : State) (n : Fin 4) (f : PortAx → PortAx) :
    (State.updPort s n f).memWf = s.memWf := by
  simp [State.updPort]

@[simp] theorem State.pushReply_memWf (s : State) (r : Reply) : (State.pushReply s r).memWf = s.memWf := by
  simp [State.pushReply]

@[simp] theorem State.pushReserved_memWf (s : State) (r : Reply) : (State.pushReserved s r).memWf = s.memWf := by
  simp [State.pushReserved]

@[simp] theorem State.logEntry_memWf (s : State) (e : FaultLog) : (State.logEntry s e).memWf = s.memWf := by
  simp [State.logEntry]

@[simp] theorem State.logFault_memWf (s : State) (code : Nat) : (State.logFault s code).memWf = s.memWf := by
  simp [State.logFault]

@[simp] theorem State.cancelPend_mems (s : State) : s.cancelPend.SameMems s := by
  unfold State.cancelPend
  split
  · exact ⟨rfl, rfl, rfl, rfl, rfl⟩
  · split
    · exact ⟨rfl, rfl, rfl, rfl, rfl⟩
    · dsimp only
      split <;> exact ⟨rfl, rfl, rfl, rfl, rfl⟩

@[simp] theorem State.cancelPend_memWf (s : State) : s.cancelPend.memWf = s.memWf := by
  unfold State.cancelPend
  split
  · rfl
  · split
    · rfl
    · simp

@[simp] theorem State.cancelCopy_mems (s : State) : s.cancelCopy.SameMems s := by
  unfold State.cancelCopy
  split
  · dsimp only
    split <;> exact ⟨rfl, rfl, rfl, rfl, rfl⟩
  · exact ⟨rfl, rfl, rfl, rfl, rfl⟩

@[simp] theorem State.cancelCopy_memWf (s : State) : s.cancelCopy.memWf = s.memWf := by
  unfold State.cancelCopy
  split <;> simp

@[simp] theorem State.cancelActivation_mems (s : State) : s.cancelActivation.SameMems s := by
  simp [State.cancelActivation, State.SameMems]
@[simp] theorem State.cancelActivation_memWf (s : State) : s.cancelActivation.memWf = s.memWf := by
  simp [State.cancelActivation]

@[simp] theorem State.whenOn_memWf {s : State} {r : Res} (d : PDom) (h : s.memWf = true) (hr : r.memWf = true) :
    (s.whenOn d r).memWf = true := by
  unfold State.whenOn
  split
  · exact hr
  · exact h

@[simp] theorem State.upNext_memWf (s : State) (n : Fin 4) : (State.upNext s n).memWf = s.memWf := by
  simp [State.upNext]

@[simp] theorem State.raiseDrv_memWf (n : Fin 4) (j : Nat) (s : State) : (State.raiseDrv n j s).memWf = s.memWf := by
  simp [State.raiseDrv]

@[simp] theorem State.raiseDrvIf_memWf (b : Bool) (n : Fin 4) (j : Nat) (s : State) :
    (State.raiseDrvIf b n j s).memWf = s.memWf := by
  simp [State.raiseDrvIf]

@[simp] theorem State.axNext_memWf (s : State) (n : Fin 4) (t : AxState) : (State.axNext s n t).memWf = s.memWf := by
  simp [State.axNext]

@[simp] theorem State.abortTest_memWf (sel : BgOp → Bool) (s : State) : (State.abortTest sel s).memWf = s.memWf := by
  simp [State.abortTest]

@[simp] theorem State.axFault_memWf (s : State) (n : Fin 4) : (State.axFault s n).memWf = s.memWf := by
  simp [State.axFault]

@[simp] theorem State.clrCause_memWf (cause : BitVec 4) (s : State) : (State.clrCause cause s).memWf = s.memWf := by
  simp [State.clrCause]

@[simp] theorem State.setDev_memWf (d : DevState) (s : State) : (State.setDev d s).memWf = s.memWf := by
  simp [State.setDev]

@[simp] theorem State.faults_memWf (s : State) : (axes.foldl State.axFault s).memWf = s.memWf :=
  foldl_memWf State.axFault_memWf axes s

@[simp] theorem State.enterSafe_mems (s : State) (c : BitVec 4) : (s.enterSafe c).SameMems s := by
  unfold State.enterSafe
  split <;> simp [State.SameMems, State.clrCause]
@[simp] theorem State.enterSafe_memWf (cause : BitVec 4) (s : State) : (s.enterSafe cause).memWf = s.memWf := by
  unfold State.enterSafe
  split <;> simp

@[simp] theorem State.quenchFor_mems (k : Nat) (s : State) : (State.quenchFor k s).SameMems s := by
  unfold State.quenchFor
  split <;> simp [State.SameMems]
@[simp] theorem State.quenchFor_memWf (k : Nat) (s : State) : (State.quenchFor k s).memWf = s.memWf := by
  simp [State.quenchFor]

@[simp] theorem State.raise_mems (k : Nat) (s : State) : (s.raise k).SameMems s := by
  simp [State.raise, State.SameMems]
@[simp] theorem State.raise_memWf (k : Nat) (s : State) : (s.raise k).memWf = s.memWf := by
  simp [State.raise]

@[simp] theorem State.raiseIf_mems (b : Bool) (k : Nat) (s : State) : (s.raiseIf b k).SameMems s := by
  unfold State.raiseIf
  split <;> simp [State.SameMems]
@[simp] theorem State.raiseIf_memWf (b : Bool) (k : Nat) (s : State) : (s.raiseIf b k).memWf = s.memWf := by
  simp [State.raiseIf]

@[simp] theorem State.raiseSns_memWf (k : Nat) (s : State) : (State.raiseSns k s).memWf = s.memWf := by
  simp [State.raiseSns]

@[simp] theorem State.raiseMon_memWf (k : Nat) (s : State) : (State.raiseMon k s).memWf = s.memWf := by
  simp [State.raiseMon]

/-! ### The canonical form through the functions of Flags -/

@[simp] theorem State.pourFlag_memWf (k : Nat) (s : State) : (State.pourFlag k s).memWf = s.memWf := by
  simp [State.pourFlag]

@[simp] theorem State.setSat_memWf (sat : Bool) (s : State) : (State.setSat sat s).memWf = s.memWf := by
  simp [State.setSat]

@[simp] theorem State.setClamped_memWf (hit : Bool) (s : State) : (State.setClamped hit s).memWf = s.memWf := by
  simp [State.setClamped]

@[simp] theorem State.eccCorrected_memWf (s : State) : (State.eccCorrected s).memWf = s.memWf := by
  simp [State.eccCorrected]

@[simp] theorem State.eccUncorrectable_memWf (s : State) : (State.eccUncorrectable s).memWf = s.memWf := by
  simp [State.eccUncorrectable]

@[simp] theorem State.eccRead_memWf (n : Nat) (w : Word) (s : State) : (s.eccRead n w).2.memWf = s.memWf := by
  unfold State.eccRead
  split <;> simp

/-! ### The canonical form through the functions of Operands -/

@[simp] theorem State.setAcc_memWf (s : State) (u : Bool) (k : BitVec 2) (x : BitVec 64) :
    (State.setAcc s u k x).memWf = s.memWf := by
  simp [State.setAcc]

@[simp] theorem State.later_memWf (s : State) (lat unit : Nat) (a : WbAct) :
    (State.later s lat unit a).memWf = s.memWf := by
  simp [State.later]

theorem applyWB_mems (p : Pour) (a : WbAct) : (applyWB p a).pdm = p.pdm ∧ (applyWB p a).trace = p.trace := by
  cases a <;> exact ⟨rfl, rfl⟩

/-- A result in flight goes to registers and predicates only. -/
theorem retire_mems (c : Nat) (p : Pour) : (retire c p).pdm = p.pdm ∧ (retire c p).trace = p.trace := by
  have all : ∀ (l : List WB) (q : Pour), (l.foldl (fun q w => applyWB q w.act) q).pdm = q.pdm ∧
      (l.foldl (fun q w => applyWB q w.act) q).trace = q.trace := by
    intro l
    induction l with
    | nil => intro q; exact ⟨rfl, rfl⟩
    | cons w l ih =>
      intro q
      obtain ⟨h1, h2⟩ := ih (applyWB q w.act)
      obtain ⟨k1, k2⟩ := applyWB_mems q w.act
      exact ⟨h1.trans k1, h2.trans k2⟩
  exact all _ p

@[simp] theorem retire_pdm (c : Nat) (p : Pour) : (retire c p).pdm = p.pdm := (retire_mems c p).1
@[simp] theorem retire_trace (c : Nat) (p : Pour) : (retire c p).trace = p.trace := (retire_mems c p).2

@[simp] theorem State.reach_memWf (c : Nat) (s : State) : (s.reach c).memWf = s.memWf := by
  simp [State.reach]

@[simp] theorem State.endCycle_memWf (s : State) : (State.endCycle s).memWf = s.memWf := by
  simp [State.endCycle]

theorem Res.endCycle_memWf {r : Res} (h : r.memWf = true) : r.endCycle.memWf = true := by
  cases r with
  | next s => simpa using h
  | fault f => rfl
  | refused f => rfl

theorem State.pourRow_memWf {s : State} {r : Res} (h : s.memWf = true) (hr : r.memWf = true) :
    (s.pourRow r).memWf = true := by
  unfold State.pourRow
  split
  · exact h
  · exact Res.endCycle_memWf hr

/-! ### The canonical form through the functions of PourMem -/

theorem State.setXAct_memWf {s : State} {x : XBuf} (h : s.memWf = true) (hi : x.inb.wf = true) (ho : x.outb.wf = true) :
    (s.setXAct x).memWf = true := by
  obtain ⟨hp, h0, h1, hr⟩ := State.memWf_iff.1 h
  unfold State.setXAct
  split
  · exact State.memWf_iff.2 ⟨hp, h0, ⟨hi, ho⟩, hr⟩
  · exact State.memWf_iff.2 ⟨hp, ⟨hi, ho⟩, h1, hr⟩

theorem State.setXInact_memWf {s : State} {x : XBuf} (h : s.memWf = true) (hi : x.inb.wf = true) (ho : x.outb.wf = true) :
    (s.setXInact x).memWf = true := by
  obtain ⟨hp, h0, h1, hr⟩ := State.memWf_iff.1 h
  unfold State.setXInact
  split
  · exact State.memWf_iff.2 ⟨hp, ⟨hi, ho⟩, h1, hr⟩
  · exact State.memWf_iff.2 ⟨hp, h0, ⟨hi, ho⟩, hr⟩

theorem State.xAct_wf {s : State} (h : s.memWf = true) : s.xAct.inb.wf = true ∧ s.xAct.outb.wf = true := by
  obtain ⟨-, h0, h1, -⟩ := State.memWf_iff.1 h
  unfold State.xAct
  split
  · exact h1
  · exact h0

theorem State.xInact_wf {s : State} (h : s.memWf = true) : s.xInact.inb.wf = true ∧ s.xInact.outb.wf = true := by
  obtain ⟨-, h0, h1, -⟩ := State.memWf_iff.1 h
  unfold State.xInact
  split
  · exact h0
  · exact h1

@[simp] theorem State.pdmRead_memWf (s : State) (a : Nat) : (s.pdmRead a).2.memWf = s.memWf := by
  simp [State.pdmRead]

@[simp] theorem State.pdmWrite_memWf {s : State} (a : Nat) (w : Word) (h : s.memWf = true) :
    (s.pdmWrite a w).memWf = true := by
  obtain ⟨⟨hp, ht⟩, hr⟩ := State.memWf_iff.1 h
  exact State.memWf_iff.2 ⟨⟨Mem.wf_putWord _ _ hp, ht⟩, hr⟩

theorem withRd_memWf {k : BitVec 4} {f : Rng → State → Res} {s : State} (hf : ∀ r, (f r s).memWf = true) :
    (withRd k f s).memWf = true := by
  unfold withRd
  split
  · rfl
  · exact hf _

@[simp] theorem loadTo_memWf (d : BitVec 6) (r : Word × State) : (loadTo d r).memWf = r.2.memWf := rfl

theorem opLd_memWf {s : State} (g : Guard) (d : BitVec 6) (addr : BitVec 14) (h : s.memWf = true) :
    (opLd g d addr s).memWf = true := by
  simp [opLd, h]

theorem opSt_memWf {s : State} (g : Guard) (a : BitVec 6) (addr : BitVec 14) (h : s.memWf = true) :
    (opSt g a addr s).memWf = true := by
  simp [opSt, h]

theorem opLdx_memWf {s : State} (g : Guard) (d : BitVec 6) (xofs : BitVec 12) (h : s.memWf = true) :
    (opLdx g d xofs s).memWf = true := by
  simp [opLdx, h]

@[simp] theorem State.xStore_memWf {s : State} (xofs : Nat) (w : Word) (h : s.memWf = true) :
    (s.xStore xofs w).memWf = true :=
  State.setXAct_memWf h (State.xAct_wf h).1 (Mem.wf_putWord _ _ (State.xAct_wf h).2)

theorem opStx_memWf {s : State} (g : Guard) (a : BitVec 6) (xofs : BitVec 12) (h : s.memWf = true) :
    (opStx g a xofs s).memWf = true := by
  simp [opStx, h]

theorem opLdr_memWf {s : State} (g : Guard) (d i : BitVec 6) (k : BitVec 4) (h : s.memWf = true) :
    (opLdr g d i k s).memWf = true :=
  withRd_memWf fun r => by simp [h]

theorem storeRd_memWf {s : State} (g : Guard) (cond : Bool) (a i : BitVec 6) (k : BitVec 4) (h : s.memWf = true) :
    (storeRd g cond a i k s).memWf = true :=
  withRd_memWf fun r => by simp [h]

theorem opTint_memWf {s : State} (g : Guard) (d x : BitVec 6) (k : BitVec 4) (rm : Bool) (h : s.memWf = true) :
    (opTint g d x k rm s).memWf = true := by
  refine withRd_memWf fun r => ?_
  split
  · rfl
  · split
    · dsimp only
      split <;> simpa using h
    · exact h

/-! ### The canonical form through the functions of Params -/

@[simp] theorem State.streamed_memWf (s : State) : (State.streamed s).memWf = s.memWf := by
  simp [State.streamed]

@[simp] theorem State.imageTaken_memWf (s : State) (m : MouldInfo) : (State.imageTaken s m).memWf = s.memWf := by
  simp [State.imageTaken]

theorem fillCustom_wf (s : State) (m : MouldInfo) : (fillCustom s m).wf = true := by
  refine List.foldlRecOn m.par _ (motive := fun b : Mem => b.wf = true) rfl fun b hb e _ => ?_
  split
  · exact Mem.wf_putWord _ _ hb
  · exact hb

theorem State.filled_wf {s : State} {x : XBuf} (m : MouldInfo) (ho : x.outb.wf = true) :
    (s.filled m x).inb.wf = true ∧ (s.filled m x).outb.wf = true := by
  unfold State.filled
  split
  · exact ⟨fillCustom_wf s m, ho⟩
  · exact ⟨rfl, ho⟩

@[simp] theorem State.publishFor_memWf {s : State} (m : MouldInfo) (k : Pub) (h : s.memWf = true) :
    (s.publishFor m k).memWf = true := by
  obtain ⟨hi, ho⟩ := State.filled_wf (s := s) m (State.xInact_wf h).2
  simpa [State.publishFor] using State.setXInact_memWf h hi ho

theorem execPublish_memWf {s : State} (h : s.memWf = true) : (execPublish s).memWf = true := by
  unfold execPublish
  split <;> simp [h]

theorem execBoundaryPublish_memWf {s : State} (h : s.memWf = true) : (execBoundaryPublish s).memWf = true := by
  unfold execBoundaryPublish
  split <;> simp [h]

@[simp] theorem State.snapshot_memWf {s : State} (h : s.memWf = true) : s.snapshot.memWf = true := by
  obtain ⟨hp, h0, h1, -, hr⟩ := State.memWf_iff.1 h
  exact State.memWf_iff.2 ⟨hp, h0, h1, (State.xInact_wf h).2, hr⟩

@[simp] theorem State.swapAtXp_memWf (s : State) : (State.swapAtXp s).memWf = s.memWf := by
  simp [State.swapAtXp]

@[simp] theorem State.passXp_memWf {s : State} (h : s.memWf = true) : s.passXp.memWf = true := by
  simp [State.passXp, h]

@[simp] theorem State.reachXp_memWf {s : State} (c : Nat) (h : s.memWf = true) : (s.reachXp c).memWf = true := by
  unfold State.reachXp
  split <;> simp [h]

theorem execExchangeSwap_memWf {s : State} (h : s.memWf = true) : (execExchangeSwap s).memWf = true := by
  unfold execExchangeSwap
  split <;> simp [h]

/-! ### The canonical form through the functions of PourAlu -/

theorem guarded_memWf {g : Guard} {f : State → State} {s : State} (h : s.memWf = true) (hf : ∀ t, (f t).memWf = t.memWf) :
    (guarded g f s).memWf = true := by
  simp [guarded, hf, h]

@[simp] theorem accResult_memWf (u : Bool) (k : BitVec 2) (x : Int × Bool) (s : State) :
    (accResult u k x s).memWf = s.memWf := by
  simp [accResult]

@[simp] theorem vResult_memWf (lat unit : Nat) (d : BitVec 6) (sh : Nat) (x : Word × Bool) (s : State) :
    (vResult lat unit d sh x s).memWf = s.memWf := by
  simp [vResult]

theorem xu3_memWf {g : Guard} {d : BitVec 6} {f : State → Word × Bool} {s : State} (h : s.memWf = true) :
    (xu3 g d f s).memWf = true := guarded_memWf h (by simp)

theorem xu3p_memWf {g : Guard} {pd : BitVec 3} {f : State → Bool} {s : State} (h : s.memWf = true) :
    (xu3p g pd f s).memWf = true := guarded_memWf h (by simp)

theorem xu2_memWf {g : Guard} {d : BitVec 6} {f : State → Word × Bool} {s : State} (h : s.memWf = true) :
    (xu2 g d f s).memWf = true := guarded_memWf h (by simp)

theorem needReg_memWf {d : BitVec 6} {n : Nat} {r : Res} (hr : r.memWf = true) : (needReg d n r).memWf = true := by
  simp [needReg, hr]

theorem opProd_memWf {u : Bool} {g : Guard} {k : BitVec 2} {a b : BitVec 6} {sc : BitVec 2} {rm : Bool}
    {f : Int → Int → Int} {s : State} (h : s.memWf = true) : (opProd u g k a b sc rm f s).memWf = true := by
  unfold opProd
  split
  · rfl
  · exact guarded_memWf h (by simp)

/-! ### The canonical form through the functions of PourPort -/

@[simp] theorem State.markRead_memWf (s : State) (pa : Nat) : (State.markRead s pa).memWf = s.memWf := by
  simp [State.markRead]

theorem opPrd_memWf {s : State} (g : Guard) (d : BitVec 6) (pa : BitVec 12) (h : s.memWf = true) :
    (opPrd g d pa s).memWf = true := by
  unfold opPrd
  split
  · exact guarded_memWf h (by simp)
  · split <;> rfl

@[simp] theorem State.cmpShadow_memWf (s : State) (n : Fin 4) (p : Nat) (x : BitVec 20) :
    (State.cmpShadow s n p x).memWf = s.memWf := by
  simp [State.cmpShadow]

@[simp] theorem State.sendImm_memWf (n : Fin 4) (l : List (Fin 4 × BitVec 20 × Nat)) (s : State) :
    (State.sendImm n l s).memWf = s.memWf := by
  simp [State.sendImm]

@[simp] theorem State.cmpWrite_memWf (s : State) (n : Fin 4) (p : Fin 4) (w : Word) :
    (State.cmpWrite s n p w).memWf = s.memWf := by
  simp [State.cmpWrite]

@[simp] theorem State.evset_memWf (s : State) (w : Word) : (s.evset w).memWf = s.memWf :=
  foldl_memWf (by simp) _ s

@[simp] theorem State.traceWrite_memWf {s : State} (w : Word) (h : s.memWf = true) : (s.traceWrite w).memWf = true := by
  obtain ⟨⟨hp, ht⟩, hr⟩ := State.memWf_iff.1 h
  unfold State.traceWrite
  split
  · exact h
  · exact State.memWf_iff.2 ⟨⟨hp, Mem.wf_putWord _ _ ht⟩, hr⟩

@[simp] theorem State.portWrite_memWf {s : State} (pa : Nat) (w : Word) (h : s.memWf = true) :
    (s.portWrite pa w).memWf = true := by
  simp [State.portWrite, h]

theorem portOut_memWf {s : State} (g : Guard) (pa : BitVec 12) (f : State → Word) (h : s.memWf = true) :
    (portOut g pa f s).memWf = true := by
  simp [portOut, h]

/-! ### The canonical form through the functions of Bundle -/

theorem issueOp_memWf (i : Instr) {s : State} (h : s.memWf = true) : (issueOp i s).memWf = true := by
  cases i with
  | mul | mac | msu => simp only [issueOp]; exact opProd_memWf h
  | madv | mulv | adda | clamp | lda | clra => simp only [issueOp]; exact guarded_memWf h (by simp)
  | mova | movac | sincos | push | subh => simp only [issueOp]; exact needReg_memWf (guarded_memWf h (by simp))
  | atan2 | sqrt | recip | mag => simp only [issueOp]; exact xu2_memWf h
  | add | sub | addw | subw | neg | abs | min | max | sel | mov | and | or | xor | andn | shl | shr | shll | shrl | shrr
  | ldi | lui => simp only [issueOp]; exact xu3_memWf h
  | cmplt | cmple | cmpeq | cmpne | cmpltu | tstb | pand | por | pxor => simp only [issueOp]; exact xu3p_memWf h
  | ld => simp only [issueOp]; exact opLd_memWf _ _ _ h
  | st => simp only [issueOp]; exact opSt_memWf _ _ _ h
  | ldx => simp only [issueOp]; exact opLdx_memWf _ _ _ h
  | stx => simp only [issueOp]; exact opStx_memWf _ _ _ h
  | ldr => simp only [issueOp]; exact opLdr_memWf _ _ _ _ h
  | str | strc => simp only [issueOp]; exact storeRd_memWf _ _ _ _ _ h
  | tint => simp only [issueOp]; exact opTint_memWf _ _ _ _ _ h
  | prd g d pa => simp only [issueOp]; exact opPrd_memWf g d pa h
  | pwr | pwri => simp only [issueOp]; exact portOut_memWf _ _ _ h
  | _ => rfl

/-- A row of one operation: it issues alone, and the cycle ends (log entry 6). -/
theorem exec_slotOp {i : Instr} (hi : isSlotOp i = true) (s : State) : exec i s = s.pourRow (issueOp i s) := by
  cases i with
  | mul | mac | msu | madv | mulv | mova | movac | lda | clra | adda | sincos | atan2 | sqrt | recip | mag | add | sub
  | addw | subw | neg | abs | min | max | clamp | sel | mov | push | subh | and | or | xor | andn | shl | shr | shll | shrl
  | shrr | ldi | lui | cmplt | cmple | cmpeq | cmpne | cmpltu | tstb | pand | por | pxor | ld | st | ldx | stx | ldr | str
  | strc | tint | prd | pwr | pwri => rfl
  | _ => exact absurd hi Bool.false_ne_true

theorem issueSlots_memWf (l : List (Nat × Word)) {s : State} (h : s.memWf = true) : (issueSlots l s).memWf = true := by
  induction l generalizing s with
  | nil => exact h
  | cons x t ih =>
    obtain ⟨u, w⟩ := x
    rw [issueSlots]
    split
    · rfl
    · rename_i i _
      have hi := issueOp_memWf i h
      split
      · rename_i s1 h1
        rw [h1] at hi
        exact ih hi
      · exact hi

@[simp] theorem State.fetchCut_memWf (s : State) : (State.fetchCut s).memWf = s.memWf := by
  simp [State.fetchCut]

@[simp] theorem State.fetchCorrect_memWf (s : State) (n : Nat) : (s.fetchCorrect n).memWf = s.memWf :=
  foldl_memWf (by simp) _ s

@[simp] theorem State.advanceTo_memWf (s : State) (cy : Nat) : (State.advanceTo s cy).memWf = s.memWf := by
  simp [State.advanceTo]

theorem issueBundle_memWf (m : MouldInfo) {s : State} (h : s.memWf = true) : (issueBundle m s).memWf = true := by
  unfold issueBundle
  split
  · simp [h]
  · rename_i b _
    have h0 : (if m.xp ≤ s.pour.nextCy then s.passXp else s).memWf = true := by simp [h]
    dsimp only
    generalize hq : (if s.pour.nextCy = 0 then _ else _ : State) = q
    have h1 : q.memWf = true := by subst hq; simp [h0]
    split
    · simp [h1]
    · have hi := issueSlots_memWf b.slots
        ((State.fetchCorrect_memWf q ((q.fetchUpsets b).filter fun n => decide (n = 1)).length).trans h1)
      split
      · rename_i s3 h3
        rw [h3] at hi
        simpa using hi
      · exact hi

theorem execBundleIssue_memWf {s : State} (h : s.memWf = true) : (execBundleIssue s).memWf = true := by
  unfold execBundleIssue
  split
  · exact h
  · split
    · exact h
    · exact issueBundle_memWf _ h

/-! ### The canonical form through the functions of Gate -/

@[simp] theorem State.updChain_memWf (s : State) (n : Fin 4) (f : Axis → Axis) :
    (State.updChain s n f).memWf = s.memWf := by
  simp [State.updChain]

@[simp] theorem State.settleAll_memWf (s : State) : (State.settleAll s).memWf = s.memWf := by
  simp [State.settleAll]

@[simp] theorem State.interlock_memWf (s : State) (n : Fin 4) (p : Phase) : (State.interlock s n p).memWf = s.memWf := by
  simp [State.interlock]

@[simp] theorem State.enClear_memWf (s : State) (n : Fin 4) : (State.enClear s n).memWf = s.memWf := by
  simp [State.enClear]

theorem execCompareMatch_memWf (n : Fin 4) (ch : Fin 4) {s : State} (h : s.memWf = true) :
    (execCompareMatch n ch s).memWf = true := by
  simp [execCompareMatch, h]

theorem execDeadTimeEnd_memWf (n : Fin 4) (ph : Phase) (high : Bool) {s : State} (h : s.memWf = true) :
    (execDeadTimeEnd n ph high s).memWf = true := by
  simp [execDeadTimeEnd, h]

theorem execHandshakeRelease_memWf (n : Fin 4) (ph : Phase) (high : Bool) {s : State} (h : s.memWf = true) :
    (execHandshakeRelease n ph high s).memWf = true := by
  simp [execHandshakeRelease, h]

theorem execHandshakeTimeout_memWf (n : Fin 4) (ph : Phase) (high : Bool) {s : State} (h : s.memWf = true) :
    (execHandshakeTimeout n ph high s).memWf = true := by
  simp [execHandshakeTimeout, h]

@[simp] theorem State.hstoWrite_memWf (s : State) (n : Fin 4) (mask : BitVec 3) :
    (State.hstoWrite s n mask).memWf = s.memWf := by
  simp [State.hstoWrite]

theorem execHstoClear_memWf (n : Fin 4) (mask : BitVec 3) {s : State} (h : s.memWf = true) :
    (execHstoClear n mask s).memWf = true := by
  simp [execHstoClear, h]

@[simp] theorem State.shootWrite_memWf (s : State) (n : Fin 4) (mask : BitVec 3) :
    (State.shootWrite s n mask).memWf = s.memWf := by
  simp [State.shootWrite]

theorem execEnSet_memWf (n : Fin 4) {s : State} (h : s.memWf = true) : (execEnSet n s).memWf = true := by
  simp [execEnSet, h]

theorem execEnClear_memWf (n : Fin 4) {s : State} (h : s.memWf = true) : (execEnClear n s).memWf = true := by
  simp [execEnClear, h]

theorem execBrakeBackupEngage_memWf (n : Fin 4) {s : State} (h : s.memWf = true) :
    (execBrakeBackupEngage n s).memWf = true := by
  simp [execBrakeBackupEngage, h]

theorem execBrakeBackupRelease_memWf (n : Fin 4) {s : State} (h : s.memWf = true) :
    (execBrakeBackupRelease n s).memWf = true := by
  simp [execBrakeBackupRelease, h]

theorem execVdsBlankingEnd_memWf (n : Fin 4) (ph : Phase) (high : Bool) {s : State} (h : s.memWf = true) :
    (execVdsBlankingEnd n ph high s).memWf = true := by
  simp [execVdsBlankingEnd, h]

theorem execFpglowAssert_memWf (n : Fin 4) (p : PhaseAt) {s : State} (h : s.memWf = true) :
    (execFpglowAssert n p s).memWf = true := by
  simp [execFpglowAssert, h]

theorem execFpglowRelease_memWf (n : Fin 4) (p : PhaseAt) {s : State} (h : s.memWf = true) :
    (execFpglowRelease n p s).memWf = true := by
  simp [execFpglowRelease, h]

theorem execBstuvAssert_memWf (n : Fin 4) (ph : Phase) {s : State} (h : s.memWf = true) :
    (execBstuvAssert n ph s).memWf = true := by
  simp [execBstuvAssert, h]

theorem execBstuvRelease_memWf (n : Fin 4) (ph : Phase) {s : State} (h : s.memWf = true) :
    (execBstuvRelease n ph s).memWf = true := by
  simp [execBstuvRelease, h]

@[simp] theorem State.countRefresh_memWf (s : State) (n : Fin 4) : (State.countRefresh s n).memWf = s.memWf := by
  simp [State.countRefresh]

theorem execRefreshStart_memWf (n : Fin 4) (ph : Phase) {s : State} (h : s.memWf = true) :
    (execRefreshStart n ph s).memWf = true := by
  simp [execRefreshStart, h]

theorem execRefreshTimeEnd_memWf (n : Fin 4) (ph : Phase) {s : State} (h : s.memWf = true) :
    (execRefreshTimeEnd n ph s).memWf = true := by
  simp [execRefreshTimeEnd, h]

theorem execVmLockoutEngage_memWf (n : Fin 4) {s : State} (h : s.memWf = true) :
    (execVmLockoutEngage n s).memWf = true := by
  simp [execVmLockoutEngage, h]

theorem execVmLockoutRelease_memWf (n : Fin 4) {s : State} (h : s.memWf = true) :
    (execVmLockoutRelease n s).memWf = true := by
  simp [execVmLockoutRelease, h]

@[simp] theorem State.seeVgd_memWf (s : State) (n : Fin 4) (k : Fin 13) (active : Bool) :
    (State.seeVgd s n k active).memWf = s.memWf := by
  simp [State.seeVgd]

theorem execTripSourceChange_memWf (n : Fin 4) (k : Fin 13) (active : Bool) {s : State} (h : s.memWf = true) :
    (execTripSourceChange n k active s).memWf = true := by
  simp [execTripSourceChange, h]

theorem execTripAssert_memWf (n : Fin 4) (k : Fin 13) {s : State} (h : s.memWf = true) :
    (execTripAssert n k s).memWf = true := by
  simp [execTripAssert, h]

theorem execTripRelease_memWf (n : Fin 4) (k : Fin 13) {s : State} (h : s.memWf = true) :
    (execTripRelease n k s).memWf = true := by
  simp [execTripRelease, h]

@[simp] theorem State.tflagWrite_memWf (s : State) (n : Fin 4) (mask : BitVec 13) :
    (State.tflagWrite s n mask).memWf = s.memWf := by
  simp [State.tflagWrite]

theorem execTflagClear_memWf (n : Fin 4) (mask : BitVec 13) {s : State} (h : s.memWf = true) :
    (execTflagClear n mask s).memWf = true := by
  simp [execTflagClear, h]

/-! ### The canonical form through the functions of Journal -/

@[simp] theorem State.refuseWaiting_memWf (s : State) : (State.refuseWaiting s).memWf = s.memWf := by
  simp [State.refuseWaiting]

@[simp] theorem State.journalFault_memWf (s : State) : (State.journalFault s).memWf = s.memWf := by
  simp [State.journalFault]

theorem execCommit_memWf {s : State} (h : s.memWf = true) : (execCommit s).memWf = true := by
  simp [execCommit, h]

@[simp] theorem State.checkWear_memWf (s : State) : (State.checkWear s).memWf = s.memWf := by
  simp [State.checkWear]

@[simp] theorem State.notifyHost_memWf (s : State) (i : Nat) (r : JRec) (disp : Nat) :
    (State.notifyHost s i r disp).memWf = s.memWf := by
  simp [State.notifyHost]

@[simp] theorem State.setPos_memWf (s : State) (n : Fin 4) (opened : Bool) (v : Word) (persist : Bool) :
    (State.setPos s n opened v persist).memWf = s.memWf := by
  simp [State.setPos]

@[simp] theorem State.setPar_memWf (s : State) (persist : Bool) (e : Nat × Word) :
    (State.setPar s persist e).memWf = s.memWf := by
  simp [State.setPar]

@[simp] theorem State.applyPar_memWf (s : State) (persist : Bool) (e : Nat × Word) : (s.applyPar persist e).memWf = s.memWf := by
  unfold State.applyPar
  split <;> simp

@[simp] theorem State.applyConfig_memWf (s : State) (r : JRec) : (State.applyConfig s r).memWf = s.memWf := by
  simp [State.applyConfig]

@[simp] theorem State.jobAccepted_memWf (s : State) (q : Word) : (State.jobAccepted s q).memWf = s.memWf := by
  simp [State.jobAccepted]

@[simp] theorem State.release1_memWf (s : State) (x : Nat × Pend) : (s.release1 x).memWf = s.memWf := by
  have trim : ∀ (c : Prop) [Decidable c] (u : State) (r : JRec) (d : List Byte),
      (if c then u.applyTrim r else (u, d)).1.memWf = u.memWf := by
    intro c _ u r d
    split <;> rfl
  cases hn : x.2.notify <;> cases hr : x.2.reply <;> simp [State.release1, hn, hr, trim]

@[simp] theorem State.commitDone_memWf (s : State) : (State.commitDone s).memWf = s.memWf := by
  simp [State.commitDone]

/-- Both copies of the journal in canonical form. -/
abbrev Journal.CopiesWf (j : Journal) : Prop := Sparse.wf Slot.blank j.a = true ∧ Sparse.wf Slot.blank j.b = true

theorem State.copiesWf {s : State} (h : s.memWf = true) : s.jrn.CopiesWf := by
  obtain ⟨-, -, -, -, -, -, -, hj⟩ := State.memWf_iff.1 h
  exact hj

theorem State.memWf_withJrn {s : State} {j : Journal} (h : s.memWf = true) (hj : j.CopiesWf) :
    ({ s with jrn := j } : State).memWf = true := by
  obtain ⟨hp, h0, h1, ht, hs, hl, hr, -⟩ := State.memWf_iff.1 h
  exact State.memWf_iff.2 ⟨hp, h0, h1, ht, hs, hl, hr, hj⟩

theorem Journal.copiesWf_program {j : Journal} (i : Nat) (r : JRec) (okA okB : Bool) (h : j.CopiesWf) :
    (j.program i r okA okB).CopiesWf := by
  obtain ⟨ha, hb⟩ := h
  cases okA <;> cases okB <;> exact ⟨Sparse.wf_put ha, Sparse.wf_put hb⟩

theorem execRecordProgrammed_memWf (okA okB : Bool) (s : State) (h : s.memWf = true) :
    (execRecordProgrammed okA okB s).memWf = true := by
  unfold execRecordProgrammed
  split
  · exact h
  · rename_i p _ _
    have hj := Journal.copiesWf_program s.jrn.here p.r okA okB (State.copiesWf h)
    dsimp only
    split
    · have h1 := State.memWf_withJrn h (j := { ((s.jrn.program s.jrn.here p.r okA okB).pass s.jrn.here).mirror s.jrn.here p.r
        with com := s.jrn.com.drop 1
             held := ((s.jrn.program s.jrn.here p.r okA okB).pass s.jrn.here).held ++ [(s.jrn.here, p)] }) hj
      split <;> simpa using h1
    · have h1 := State.memWf_withJrn h (j := { (s.jrn.program s.jrn.here p.r okA okB).pass s.jrn.here with
        retA := ((s.jrn.program s.jrn.here p.r okA okB).pass s.jrn.here).retA ++ [s.jrn.here]
        retB := ((s.jrn.program s.jrn.here p.r okA okB).pass s.jrn.here).retB ++ [s.jrn.here] }) hj
      split <;> simpa using h1

theorem Journal.copiesWf_land {j : Journal} (p : Pend) (okA okB : Bool) (h : j.CopiesWf) : (j.land p okA okB).CopiesWf := by
  have hp := Journal.copiesWf_program j.here p.r okA okB h
  unfold Journal.land
  dsimp only
  split <;> exact hp

theorem Journal.copiesWf_cut {j : Journal} (okA okB : Bool) (h : j.CopiesWf) : (j.cut okA okB).CopiesWf := by
  unfold Journal.cut
  split
  · exact h
  · exact Journal.copiesWf_land _ okA okB h

theorem Journal.copiesWf_drain {j : Journal} (h : j.CopiesWf) : j.drain.CopiesWf := by
  have hd := List.foldlRecOn (motive := Journal.CopiesWf) j.com (fun k p => k.land p true true) h
    fun k hk p _ => Journal.copiesWf_land p true true hk
  exact hd

/-- Filling one copy from the other writes slots only. -/
theorem Journal.copiesWf_repair {j : Journal} (h : j.CopiesWf) : j.repair.CopiesWf := by
  have fill : ∀ (l : List (Nat × JRec)) (d : Sparse Slot), Sparse.wf Slot.blank d = true →
      Sparse.wf Slot.blank (l.foldl (fun d x => match Slot.rec? (Sparse.get .blank x.1 d) with
        | some _ => d
        | none => Sparse.put .blank x.1 (.ok x.2) d) d) = true := by
    intro l d hd
    refine List.foldlRecOn (motive := fun d : Sparse Slot => Sparse.wf Slot.blank d = true) l _ hd fun d hd x _ => ?_
    split
    · exact hd
    · exact Sparse.wf_put hd
  exact ⟨fill _ _ h.1, fill _ _ h.2⟩

theorem Journal.copiesWf_replayed {j : Journal} (h : j.CopiesWf) : j.replayed.CopiesWf :=
  Journal.copiesWf_repair (j := { j with
    retA := (j.retA ++ j.retB).eraseDups, retB := (j.retA ++ j.retB).eraseDups
    pend := [], com := [], held := [], comBusy := false, fault := false }) h

@[simp] theorem State.replayConfig_memWf (s : State) : s.replayConfig.memWf = s.memWf := by
  simp [State.replayConfig]

/-! ### The canonical form through the functions of StdMould -/

@[simp] theorem State.stdStatus_memWf {s : State} (n : Fin 4) (m : Mot) (h : s.memWf = true) :
    (s.stdStatus n m).memWf = true := by
  obtain ⟨hi, ho⟩ := State.xAct_wf h
  refine State.setXAct_memWf h hi ?_
  refine List.foldlRecOn (motive := fun b : Mem => b.wf = true) _ _ ho fun b hb e _ => ?_
  split
  · exact Mem.wf_putWord _ _ hb
  · exact hb

@[simp] theorem State.profileIn_memWf {s : State} (n : Fin 4) (m : Mot) (h : s.memWf = true) :
    (s.profileIn n m).1.memWf = true := by
  unfold State.profileIn
  dsimp only
  split
  · exact h
  · exact foldl_keeps_memWf (fun t i => State.pdmWrite_memWf _ _) _ h

@[simp] theorem State.profileFormed_memWf {s : State} (n : Fin 4) (m : Mot) (h : s.memWf = true) :
    (s.profileFormed n m).memWf = true := by
  unfold State.profileFormed
  split
  · exact foldl_keeps_memWf (fun t i => State.pdmWrite_memWf _ _) _ h
  · exact h

@[simp] theorem State.pointOut_memWf {s : State} (n : Fin 4) (i : Nat) (h : s.memWf = true) :
    (s.pointOut n i).memWf = true := by
  have hr : (s.pdmRead (profBase n.val + i)).2.memWf = true := by simpa using h
  exact State.setXAct_memWf hr (State.xAct_wf hr).1 (State.xAct_wf hr).2

@[simp] theorem State.profileOut_memWf {s : State} (n : Fin 4) (m : Mot) (h : s.memWf = true) :
    (s.profileOut n m).1.memWf = true := by
  unfold State.profileOut
  split
  · exact h
  · have ht := foldl_keeps_memWf (f := fun t i => State.pointOut n t (2048 - m.outLeft + i))
      (fun _ _ => State.pointOut_memWf n _) (List.range 64) h
    dsimp only
    revert ht
    generalize List.foldl _ s _ = t
    intro ht
    exact State.setXAct_memWf ht (State.xAct_wf ht).1 (State.xAct_wf ht).2

@[simp] theorem State.raiseMev_memWf (s : State) (ev : BitVec 8) : (State.raiseMev s ev).memWf = s.memWf := by
  simp [State.raiseMev]

@[simp] theorem State.motFlags_memWf (s : State) (m : Mot) : (State.motFlags s m).memWf = s.memWf := by
  simp [State.motFlags]

/-- The end of an axis step: the learned profile, the profile blocks, the status words, the mould's events. -/
theorem State.stdAxisStep_end_memWf {s : State} (n : Fin 4) (m : Mot) (f : State → Mot → StdSt) (h : s.memWf = true) :
    let r := (s.profileFormed n m).profileIn n m
    let q := r.1.profileOut n r.2
    ((({ q.1 with std := f q.1 q.2 } : State).stdStatus n q.2).raiseMev q.2.ev).memWf = true := by
  intro r q
  have hr : r.1.memWf = true := State.profileIn_memWf n m (State.profileFormed_memWf n m h)
  have hq : ({ q.1 with std := f q.1 q.2 } : State).memWf = true := State.profileOut_memWf n r.2 hr
  rw [State.raiseMev_memWf]
  exact State.stdStatus_memWf n q.2 hq

@[simp] theorem State.stdAxisStep_memWf {s : State} (k : Nat) (n : Fin 4) (h : s.memWf = true) :
    (s.stdAxisStep k n).memWf = true := by
  unfold State.stdAxisStep
  refine State.stdAxisStep_end_memWf n _
    (fun u q => { u.std with ax := u.std.ax.set n q, todo := u.std.todo &&& ~~~(bitB 4 n.val) }) ?_
  rw [State.motFlags_memWf, State.sendImm_memWf, State.updPort_memWf, h]

@[simp] theorem State.stdStep_memWf {s : State} (n : Fin 4) (h : s.memWf = true) : (s.stdStep n).memWf = true := by
  unfold State.stdStep
  split
  · split
    · simp [h]
    · exact h
  · exact h

@[simp] theorem State.stdEdge_memWf (s : State) : (State.stdEdge s).memWf = s.memWf := by
  simp [State.stdEdge]

@[simp] theorem State.stdLoad_memWf (s : State) : (State.stdLoad s).memWf = s.memWf := by
  simp [State.stdLoad]

@[simp] theorem State.stdFetch_memWf (s : State) (m : MouldInfo) : (s.stdFetch m).memWf = s.memWf := by
  unfold State.stdFetch
  split <;> simp

@[simp] theorem State.stdBegin_memWf (s : State) (m : MouldInfo) : (State.stdBegin s m).memWf = s.memWf := by
  simp [State.stdBegin]

@[simp] theorem State.stdFinish_memWf {s : State} (h : s.memWf = true) : s.stdFinish.memWf = true :=
  foldl_keeps_memWf (fun _ n => State.stdStep_memWf n) axes h

/-! ### The canonical form through the functions of Jobs -/

theorem Journal.add_a (j : Journal) (p : Pend) : (j.add p).a = j.a := rfl
theorem Journal.add_b (j : Journal) (p : Pend) : (j.add p).b = j.b := rfl

theorem Journal.foldl_add_copies (l : List Pend) (j : Journal) :
    (l.foldl Journal.add j).a = j.a ∧ (l.foldl Journal.add j).b = j.b := by
  induction l generalizing j with
  | nil => exact ⟨rfl, rfl⟩
  | cons p l ih => exact ih (j.add p)

theorem Journal.accept_a (j : Journal) (l : List Pend) (q : Word) : (j.accept l q).a = j.a :=
  (Journal.foldl_add_copies _ j).1
theorem Journal.accept_b (j : Journal) (l : List Pend) (q : Word) : (j.accept l q).b = j.b :=
  (Journal.foldl_add_copies _ j).2

@[simp] theorem State.transition_memWf (s : State) (q : Job) (st : Nat) (cause : Word) (replay : Bool) :
    (s.transition q st cause replay).memWf = s.memWf := by
  simp [State.transition, Journal.add_a, Journal.add_b]

@[simp] theorem State.updJax_memWf (s : State) (n : Fin 4) (f : JobAx → JobAx) :
    (State.updJax s n f).memWf = s.memWf := by
  simp [State.updJax]

@[simp] theorem State.endJob_memWf (s : State) (q : Job) (disp : Nat) (cause : Word) :
    (State.endJob s q disp cause).memWf = s.memWf := by
  simp [State.endJob]

@[simp] theorem State.cancelJobs_memWf (s : State) (l : List Job) : (State.cancelJobs s l).memWf = s.memWf := by
  simp [State.cancelJobs]

@[simp] theorem State.endRunning_memWf (s : State) (n : Fin 4) (disp : Nat) :
    (State.endRunning s n disp).memWf = s.memWf := by
  unfold State.endRunning
  split <;> simp

@[simp] theorem State.setJobSt_memWf (s : State) (q : Word) (st : JobSt) : (State.setJobSt s q st).memWf = s.memWf := by
  simp [State.setJobSt]

@[simp] theorem State.giveStep_memWf (s : State) (n : Fin 4) (f : JobStep → JobStep) :
    (State.giveStep s n f).memWf = s.memWf := by
  simp [State.giveStep]

@[simp] theorem State.readReaction_memWf (s : State) (n : Fin 4) (r : Report) :
    (State.readReaction s n r).memWf = s.memWf := by
  simp [State.readReaction]

@[simp] theorem State.readRun_memWf (s : State) (n : Fin 4) (r : Report) : (State.readRun s n r).memWf = s.memWf := by
  simp [State.readRun]

@[simp] theorem State.readStop_memWf (s : State) (n : Fin 4) : (State.readStop s n).memWf = s.memWf := by
  unfold State.readStop
  split <;> simp

@[simp] theorem State.readMould_memWf (s : State) (n : Fin 4) : (State.readMould s n).memWf = s.memWf := by
  simp only [State.readMould]
  (repeat' split) <;> simp

@[simp] theorem State.profStore_memWf (s : State) (n : Fin 4) : (State.profStore s n).memWf = s.memWf := by
  simp [State.profStore]

@[simp] theorem State.startNow_memWf (s : State) (n : Fin 4) (q : Job) : (State.startNow s n q).memWf = s.memWf := by
  simp [State.startNow]

@[simp] theorem State.clearTheWay_memWf (s : State) (n : Fin 4) (q : Job) :
    (State.clearTheWay s n q).memWf = s.memWf := by
  simp [State.clearTheWay]

@[simp] theorem State.unstart_memWf (s : State) (n : Fin 4) : (State.unstart s n).memWf = s.memWf := by
  simp [State.unstart]

@[simp] theorem State.startChosen_memWf (s : State) (n : Fin 4) : (State.startChosen s n).memWf = s.memWf := by
  unfold State.startChosen
  split <;> simp

theorem execJobStart_memWf (n : Fin 4) {s : State} (h : s.memWf = true) : (execJobStart n s).memWf = true := by
  unfold execJobStart
  split <;> simp [h]

@[simp] theorem State.stopNow_memWf (s : State) (n : Fin 4) (q : Job) : (State.stopNow s n q).memWf = s.memWf := by
  simp [State.stopNow]

@[simp] theorem State.cancelNow_memWf (s : State) (n : Fin 4) (q : Job) : (State.cancelNow s n q).memWf = s.memWf := by
  simp [State.cancelNow]

@[simp] theorem State.resumeNow_memWf (s : State) (n : Fin 4) (q : Job) : (State.resumeNow s n q).memWf = s.memWf := by
  simp [State.resumeNow]

theorem execImmediateJobEffect_memWf (n : Fin 4) {s : State} (h : s.memWf = true) :
    (execImmediateJobEffect n s).memWf = true := by
  unfold execImmediateJobEffect
  split <;> simp [h]

@[simp] theorem State.stopAxis_memWf (s : State) (n : Fin 4) (cause : Nat) :
    (State.stopAxis s n cause).memWf = s.memWf := by
  simp [State.stopAxis]

@[simp] theorem State.thermalStop_memWf (s : State) (n : Fin 4) : (State.thermalStop s n).memWf = s.memWf := by
  simp only [State.thermalStop]
  (repeat' split) <;> simp

@[simp] theorem State.silenceAxis_memWf (act : Word) (s : State) (n : Fin 4) :
    (State.silenceAxis act s n).memWf = s.memWf := by
  simp [State.silenceAxis]

theorem execHostSilence_memWf {s : State} (h : s.memWf = true) : (execHostSilence s).memWf = true := by
  simp [execHostSilence, h]

@[simp] theorem State.axisLost_memWf (s : State) (n : Fin 4) : (State.axisLost s n).memWf = s.memWf := by
  simp [State.axisLost]

@[simp] theorem State.applyReq_memWf (s : State) (n : Fin 4) : (State.applyReq s n).memWf = s.memWf := by
  simp [State.applyReq]

@[simp] theorem State.enterAx_memWf (s : State) (n : Fin 4) (t : AxState) : (State.enterAx s n t).memWf = s.memWf := by
  simp [State.enterAx]

@[simp] theorem State.axisChange_memWf (s : State) (n : Fin 4) : (State.axisChange s n).memWf = s.memWf := by
  simp only [State.axisChange]
  (repeat' split) <;> simp

@[simp] theorem State.axisBoundary_memWf (s : State) (n : Fin 4) : (State.axisBoundary s n).memWf = s.memWf := by
  simp [State.axisBoundary]

@[simp] theorem State.devFromAxes_memWf (s : State) : (State.devFromAxes s).memWf = s.memWf := by
  unfold State.devFromAxes
  split <;> simp

@[simp] theorem State.replayEnd_memWf (s : State) (q : Job) (disp : Nat) :
    (State.replayEnd s q disp).memWf = s.memWf := by
  simp [State.replayEnd]

@[simp] theorem State.replayEndAll_memWf (s : State) (l : List Job) (disp : Nat) :
    (State.replayEndAll s l disp).memWf = s.memWf := by
  simp [State.replayEndAll]

@[simp] theorem State.replayImmediate_memWf (s : State) (n : Fin 4) (q : Job) :
    (State.replayImmediate s n q).memWf = s.memWf := by
  simp [State.replayImmediate]

@[simp] theorem State.replayAxis_memWf (started : List Word) (s : State) (n : Fin 4) :
    (State.replayAxis started s n).memWf = s.memWf := by
  simp only [State.replayAxis]
  (repeat' split) <;> simp

@[simp] theorem State.replayJobs_memWf (s : State) : (State.replayJobs s).memWf = s.memWf := by
  simp [State.replayJobs]

/-! ### The canonical form through the functions of Pwm -/

@[simp] theorem State.latchHall_memWf (s : State) (n : Fin 4) : (State.latchHall s n).memWf = s.memWf := by
  simp [State.latchHall]

@[simp] theorem State.showInvalid_memWf (s : State) (n : Fin 4) : (State.showInvalid s n).memWf = s.memWf := by
  simp [State.showInvalid]

@[simp] theorem State.raiseSovr_memWf (s : State) (n : Fin 4) (ovr : BitVec 7) :
    (State.raiseSovr s n ovr).memWf = s.memWf := by
  simp [State.raiseSovr]

@[simp] theorem State.testPeriod_memWf (n : Fin 4) (s : State) : (State.testPeriod n s).memWf = s.memWf := by
  simp only [State.testPeriod]
  (repeat' split) <;> simp

theorem execPeriodWrap_memWf (n : Fin 4) (raw : List ChanBits) {s0 : State} (h : s0.memWf = true) :
    (execPeriodWrap n raw s0).memWf = true := by
  simp [execPeriodWrap, h]

theorem execSyncChainPulse_memWf (n : Fin 4) {s : State} (h : s.memWf = true) :
    (execSyncChainPulse n s).memWf = true := by
  simp [execSyncChainPulse, h]

theorem execSyncmiss_memWf (n : Fin 4) {s : State} (h : s.memWf = true) : (execSyncmiss n s).memWf = true := by
  simp [execSyncmiss, h]

@[simp] theorem State.syncDeviate_memWf (s : State) : (State.syncDeviate s).memWf = s.memWf := by
  simp [State.syncDeviate]

theorem execSyncEdge_memWf (dev : Int) {s : State} (h : s.memWf = true) : (execSyncEdge dev s).memWf = true := by
  simp [execSyncEdge, h]

theorem execSyncEdgeMissing_memWf {s : State} (h : s.memWf = true) : (execSyncEdgeMissing s).memWf = true := by
  simp [execSyncEdgeMissing, h]

theorem execModulatorLostClock_memWf (n : Fin 4) (p : PhaseAt) {s : State} (h : s.memWf = true) :
    (execModulatorLostClock n p s).memWf = true := by
  simp [execModulatorLostClock, h]

theorem execBitstreamStuck_memWf (n : Fin 4) (c : ChanAt) {s : State} (h : s.memWf = true) :
    (execBitstreamStuck n c s).memWf = true := by
  simp [execBitstreamStuck, h]

/-! ### The canonical form through the functions of Plind -/

@[simp] theorem State.updLink_memWf (s : State) (n : Fin 4) (f : Link → Link) :
    (State.updLink s n f).memWf = s.memWf := by
  simp [State.updLink]

@[simp] theorem State.slipDown_memWf (s : State) (n : Fin 4) (eye : Int) : (State.slipDown s n eye).memWf = s.memWf := by
  simp [State.slipDown]

@[simp] theorem State.slipUp_memWf (s : State) (n : Fin 4) (eye : Int) : (State.slipUp s n eye).memWf = s.memWf := by
  simp [State.slipUp]

@[simp] theorem State.frameSent_memWf (s : State) (n : Fin 4) : (State.frameSent s n).memWf = s.memWf := by
  simp [State.frameSent]

@[simp] theorem State.tickFrameGood_memWf (s : State) (n : Fin 4) : (State.tickFrameGood s n).memWf = s.memWf := by
  simp [State.tickFrameGood]

@[simp] theorem State.tickFrameBad_memWf (s : State) (n : Fin 4) : (State.tickFrameBad s n).memWf = s.memWf := by
  simp [State.tickFrameBad]

theorem execTickFrame_memWf (n : Fin 4) (good : Bool) (eye : Int) {s0 : State} (h : s0.memWf = true) :
    (execTickFrame n good eye s0).memWf = true := by
  simp [execTickFrame, h]

theorem execImmediateMessage_memWf (n : Fin 4) (good : Bool) {s : State} (h : s.memWf = true) :
    (execImmediateMessage n good s).memWf = true := by
  unfold execImmediateMessage
  split <;> simp [h]

@[simp] theorem State.ctrlWrite_memWf (s : State) (n : Fin 4) (val : Word) (host : Bool) :
    (State.ctrlWrite s n val host).memWf = s.memWf := by
  simp [State.ctrlWrite]

@[simp] theorem State.dieWrite_memWf (s : State) (n : Fin 4) (o : Nat) (val : Word) (host : Bool) :
    (State.dieWrite s n o val host).memWf = s.memWf := by
  simp [State.dieWrite]

@[simp] theorem State.regArrives_memWf (s : State) (n : Fin 4) (m : RegMsg) (rest : List RegMsg) :
    (State.regArrives s n m rest).memWf = s.memWf := by
  simp [State.regArrives]

theorem execRegisterMessage_memWf (n : Fin 4) {s0 : State} (h : s0.memWf = true) :
    (execRegisterMessage n s0).memWf = true := by
  simp only [execRegisterMessage]
  (repeat' split) <;> simp [h]

@[simp] theorem State.regList_memWf (s : State) (n : Fin 4) (l : List RegMsg) :
    (State.regList s n l).memWf = s.memWf := by
  simp [State.regList]

theorem execRegisterAckTimeout_memWf (n : Fin 4) {s0 : State} (h : s0.memWf = true) :
    (execRegisterAckTimeout n s0).memWf = true := by
  simp only [execRegisterAckTimeout]
  (repeat' split) <;> simp [h]

@[simp] theorem State.addVbus_memWf (s : State) (w : SenseWords) : (State.addVbus s w).memWf = s.memWf := by
  simp [State.addVbus]

@[simp] theorem State.senseGood_memWf (s : State) (n : Fin 4) (w : SenseWords) :
    (State.senseGood s n w).memWf = s.memWf := by
  simp [State.senseGood]

@[simp] theorem State.senseBad_memWf (s : State) (n : Fin 4) : (State.senseBad s n).memWf = s.memWf := by
  simp [State.senseBad]

theorem execSenseFrame_memWf (n : Fin 4) (good : Bool) (eye : Int) {s : State} (h : s.memWf = true) :
    (execSenseFrame n good eye s).memWf = true := by
  simp only [execSenseFrame]
  (repeat' split) <;> simp [h]

@[simp] theorem State.statusBad_memWf (s : State) (n : Fin 4) : (State.statusBad s n).memWf = s.memWf := by
  simp [State.statusBad]

theorem execStatusFrame_memWf (n : Fin 4) (vcoreMv : Option Int) {s : State} (h : s.memWf = true) :
    (execStatusFrame n vcoreMv s).memWf = true := by
  simp only [execStatusFrame]
  (repeat' split) <;> simp [h]

theorem execDrvEventWord_memWf (n : Fin 4) (j : Fin 40) {s0 : State} (h : s0.memWf = true) :
    (execDrvEventWord n j s0).memWf = true := by
  simp [execDrvEventWord, h]

/-! ### The canonical form through the functions of Runner -/

theorem execRunnerMouldStart_memWf (i : Fin 32) {s : State} (h : s.memWf = true) :
    (execRunnerMouldStart i s).memWf = true := by
  unfold execRunnerMouldStart
  split <;> simp [h]

theorem execRunnerMgmtStart_memWf (dev : BitVec 3) (cmd : Byte) (addr : BitVec 24) (isWrite : Bool) (tx : List Byte) (rxlen : BitVec 6) {s : State} (h : s.memWf = true) :
    (execRunnerMgmtStart dev cmd addr isWrite tx rxlen s).memWf = true := by
  simp [execRunnerMgmtStart, h]

@[simp] theorem State.runAgain_memWf (s : State) : (State.runAgain s).memWf = s.memWf := by
  unfold State.runAgain
  split <;> simp

@[simp] theorem State.runRetry_memWf (s : State) (t : RunTx) : (State.runRetry s t).memWf = s.memWf := by
  simp [State.runRetry]

theorem execRunnerComplete_memWf (levels : List Byte) {s0 : State} (h : s0.memWf = true) :
    (execRunnerComplete levels s0).memWf = true := by
  unfold execRunnerComplete
  split <;> simp [h]

@[simp] theorem State.runnerReset_memWf (s : State) : (State.runnerReset s).memWf = s.memWf := by
  simp [State.runnerReset]

/-! ### The canonical form through the functions of Mailbox -/

@[simp] theorem State.rangePrev_memWf (s : State) : (State.rangePrev s).memWf = s.memWf := by
  simp [State.rangePrev]

@[simp] theorem State.asMaster_memWf {s : State} (m : Master) (a : Nat) {f : State → State} (h : s.memWf = true)
    (hf : (f s).memWf = true) : (s.asMaster m a f).memWf = true :=
  State.asMaster_keeps (P := fun t => t.memWf = true) m a h h hf

@[simp] theorem State.lockRead_memWf (s : State) (m : Master) (k : Fin 16) : (s.lockRead m k).2.memWf = s.memWf := by
  unfold State.lockRead
  dsimp only
  split <;> rfl

@[simp] theorem State.lockWrite_memWf (s : State) (m : Master) (k : Fin 16) (val : Word) :
    (State.lockWrite s m k val).memWf = s.memWf := by
  simp [State.lockWrite]

@[simp] theorem State.updMb_memWf (s : State) (ch : Fin 16) (f : MbCh → MbCh) :
    (State.updMb s ch f).memWf = s.memWf := by
  simp [State.updMb]

@[simp] theorem State.mbDeny_memWf (s : State) (ch : Fin 16) : (State.mbDeny s ch).memWf = s.memWf := by
  simp [State.mbDeny]

@[simp] theorem State.asEnd_memWf {s : State} (m : Master) (ch : Fin 16) {f : Bool → State → State} (h : s.memWf = true)
    (hf : ∀ b, (f b s).memWf = true) : (s.asEnd m ch f).memWf = true := by
  unfold State.asEnd
  split
  · exact hf _
  · simpa using h

@[simp] theorem State.mbData_memWf (s : State) (ch i : Fin 16) (val : Word) (b : Bool) :
    (State.mbData s ch i val b).memWf = s.memWf := by
  simp [State.mbData]

@[simp] theorem State.mbRing_memWf (s : State) (ch : Fin 16) (b : Bool) : (State.mbRing s ch b).memWf = s.memWf := by
  simp [State.mbRing]

@[simp] theorem State.mbConsume_memWf (s : State) (ch : Fin 16) (b : Bool) :
    (State.mbConsume s ch b).memWf = s.memWf := by
  simp [State.mbConsume]

@[simp] theorem State.mbCancelMsg_memWf (s : State) (ch : Fin 16) (b : Bool) :
    (State.mbCancelMsg s ch b).memWf = s.memWf := by
  simp [State.mbCancelMsg]

@[simp] theorem State.mbCtrl_memWf (s : State) (ch : Fin 16) (val : Word) (b : Bool) :
    (State.mbCtrl s ch val b).memWf = s.memWf := by
  simp [State.mbCtrl]

@[simp] theorem State.mbFlagClear_memWf (s : State) (ch : Fin 16) (val : Word) (b : Bool) :
    (State.mbFlagClear s ch val b).memWf = s.memWf := by
  simp [State.mbFlagClear]

@[simp] theorem State.mbBind_memWf (s : State) (ch : Fin 16) (val : Word) : (State.mbBind s ch val).memWf = s.memWf := by
  simp [State.mbBind]

theorem execLockRead_memWf (m : Master) (k : Fin 16) {s : State} (h : s.memWf = true) :
    (execLockRead m k s).memWf = true := by
  simp [execLockRead, h]

theorem execLockRelease_memWf (m : Master) (k : Fin 16) (val : Word) {s : State} (h : s.memWf = true) :
    (execLockRelease m k val s).memWf = true := by
  simp [execLockRelease, h]

theorem execMbDataWrite_memWf (m : Master) (ch i : Fin 16) (val : Word) {s : State} (h : s.memWf = true) :
    (execMbDataWrite m ch i val s).memWf = true := by
  simp [execMbDataWrite, h]

theorem execMbDoorbell_memWf (m : Master) (ch : Fin 16) {s : State} (h : s.memWf = true) :
    (execMbDoorbell m ch s).memWf = true := by
  simp [execMbDoorbell, h]

theorem execMbAck_memWf (m : Master) (ch : Fin 16) {s : State} (h : s.memWf = true) :
    (execMbAck m ch s).memWf = true := by
  simp [execMbAck, h]

theorem execMbCancel_memWf (m : Master) (ch : Fin 16) {s : State} (h : s.memWf = true) :
    (execMbCancel m ch s).memWf = true := by
  simp [execMbCancel, h]

theorem execMbTimeout_memWf (ch : Fin 16) (sideB : Bool) {s : State} (h : s.memWf = true) :
    (execMbTimeout ch sideB s).memWf = true := by
  simp [execMbTimeout, h]

@[simp] theorem State.mblockSet_memWf (s : State) (val : Word) : (State.mblockSet s val).memWf = s.memWf := by
  simp [State.mblockSet]

theorem execMblockWrite_memWf (m : Master) (val : Word) {s : State} (h : s.memWf = true) :
    (execMblockWrite m val s).memWf = true := by
  simp [execMblockWrite, h]

@[simp] theorem State.qlockSet_memWf (s : State) (val : Word) : (State.qlockSet s val).memWf = s.memWf := by
  simp [State.qlockSet]

theorem execQlockWrite_memWf (m : Master) (val : Word) {s : State} (h : s.memWf = true) :
    (execQlockWrite m val s).memWf = true := by
  simp [execQlockWrite, h]

theorem execGpioPulseEnd_memWf (k : Fin 8) {s : State} (h : s.memWf = true) : (execGpioPulseEnd k s).memWf = true := by
  simp [execGpioPulseEnd, h]

theorem execEventCrossingDelivery_memWf (k : BitVec 8) {s : State} (h : s.memWf = true) :
    (execEventCrossingDelivery k s).memWf = true := by
  simp [execEventCrossingDelivery, h]

/-! ### The canonical form through the functions of Sns -/

@[simp] theorem State.convFlag_memWf (s : State) (k : Nat) : (State.convFlag s k).memWf = s.memWf := by
  simp [State.convFlag]

@[simp] theorem State.adrWrite_memWf (s : State) (inj : Bool) (i : Nat) (code : BitVec 24) :
    (State.adrWrite s inj i code).memWf = s.memWf := by
  simp [State.adrWrite]

@[simp] theorem State.convAdvance_memWf (s : State) (inj : Bool) (i : Nat) :
    (State.convAdvance s inj i).memWf = s.memWf := by
  simp [State.convAdvance]

theorem execConversionComplete_memWf (v : ConvIn) {s0 : State} (h : s0.memWf = true) :
    (execConversionComplete v s0).memWf = true := by
  unfold execConversionComplete
  split <;> simp [h]

theorem execInjectedTrigger_memWf (e : TrigAt) {s : State} (h : s.memWf = true) :
    (execInjectedTrigger e s).memWf = true := by
  simp only [execInjectedTrigger]
  (repeat' split) <;> simp [h]

@[simp] theorem State.convHonour_memWf {s : State} {f : State → State} (h : s.memWf = true) (hf : (f s).memWf = true) :
    (s.convHonour f).memWf = true := by
  unfold State.convHonour
  split
  · simpa using h
  · exact hf

@[simp] theorem State.refselSet_memWf {s : State} (val : Word) (h : s.memWf = true) : (s.refselSet val).memWf = true := by
  simp [State.refselSet, h]

theorem execRefselWrite_memWf (m : Master) (val : Word) {s : State} (h : s.memWf = true) :
    (execRefselWrite m val s).memWf = true := by
  simp [execRefselWrite, h]

theorem execRefrdySet_memWf {s : State} (h : s.memWf = true) : (execRefrdySet s).memWf = true := by
  simp [execRefrdySet, h]

@[simp] theorem State.refLoss_memWf (s : State) : (State.refLoss s).memWf = s.memWf := by
  simp [State.refLoss]

theorem execReferenceLoss_memWf {s : State} (h : s.memWf = true) : (execReferenceLoss s).memWf = true := by
  simp [execReferenceLoss, h]

theorem execSnsPllUnlock_memWf {s : State} (h : s.memWf = true) : (execSnsPllUnlock s).memWf = true := by
  simp [execSnsPllUnlock, h]

@[simp] theorem State.updFi_memWf (s : State) (k : Fin 16) (f : FiIn → FiIn) : (State.updFi s k f).memWf = s.memWf := by
  simp [State.updFi]

theorem execFiFilterChange_memWf (k : Fin 16) (samples : List Bool) {s : State} (h : s.memWf = true) :
    (execFiFilterChange k samples s).memWf = true := by
  simp [execFiFilterChange, h]

theorem execFiStuck_memWf (k : Fin 16) {s : State} (h : s.memWf = true) : (execFiStuck k s).memWf = true := by
  simp [execFiStuck, h]

theorem execFiChatterWindowEnd_memWf (k : Fin 16) (samples : List Bool) {s0 : State} (h : s0.memWf = true) :
    (execFiChatterWindowEnd k samples s0).memWf = true := by
  simp [execFiChatterWindowEnd, h]

theorem execFiTestPulseStart_memWf {s : State} (h : s.memWf = true) : (execFiTestPulseStart s).memWf = true := by
  simp [execFiTestPulseStart, h]

@[simp] theorem State.tpCheck_memWf (levels : BitVec 16) (s : State) (k : Fin 16) :
    (State.tpCheck levels s k).memWf = s.memWf := by
  simp [State.tpCheck]

theorem execFiTestPulseCheck_memWf (levels : BitVec 16) {s : State} (h : s.memWf = true) :
    (execFiTestPulseCheck levels s).memWf = true := by
  simp [execFiTestPulseCheck, h]

@[simp] theorem State.fiConfig_memWf (s : State) (stk : Bool) (k : Fin 16) (val : Word) :
    (State.fiConfig s stk k val).memWf = s.memWf := by
  simp [State.fiConfig]

theorem execFiConfigWrite_memWf (m : Master) (stk : Bool) (k : Fin 16) (val : Word) {s : State} (h : s.memWf = true) :
    (execFiConfigWrite m stk k val s).memWf = true := by
  simp [execFiConfigWrite, h]

@[simp] theorem State.fiUpdate_memWf (s : State) : (State.fiUpdate s).memWf = s.memWf := by
  simp [State.fiUpdate]

@[simp] theorem State.updHall_memWf (s : State) (n : Fin 4) (f : Hall → Hall) :
    (State.updHall s n f).memWf = s.memWf := by
  simp [State.updHall]

@[simp] theorem State.posErr_memWf (s : State) (n : Fin 4) (k : Nat) : (State.posErr s n k).memWf = s.memWf := by
  simp [State.posErr]

@[simp] theorem State.encEdge_memWf (s : State) (n : Fin 4) (c : BitVec 3) (zRise : Bool) :
    (State.encEdge s n c zRise).memWf = s.memWf := by
  simp [State.encEdge]

theorem execHallEdge_memWf (n : Fin 4) (code : BitVec 3) (t : Nat) {s : State} (h : s.memWf = true) :
    (execHallEdge n code t s).memWf = true := by
  simp [execHallEdge, h]

theorem execHallRateDeferEnd_memWf (n : Fin 4) (code : BitVec 3) {s : State} (h : s.memWf = true) :
    (execHallRateDeferEnd n code s).memWf = true := by
  simp [execHallRateDeferEnd, h]

theorem execEncoderEdge_memWf (n : Fin 4) (a b : Bool) {s : State} (h : s.memWf = true) :
    (execEncoderEdge n a b s).memWf = true := by
  simp [execEncoderEdge, h]

theorem execEncoderZEdge_memWf (n : Fin 4) {s : State} (h : s.memWf = true) : (execEncoderZEdge n s).memWf = true := by
  simp [execEncoderZEdge, h]

@[simp] theorem State.hallConfig_memWf (s : State) (n : Fin 4) (val : Word) :
    (State.hallConfig s n val).memWf = s.memWf := by
  simp [State.hallConfig]

theorem execHallConfigWrite_memWf (m : Master) (n : Fin 4) (val : Word) {s : State} (h : s.memWf = true) :
    (execHallConfigWrite m n val s).memWf = true := by
  simp [execHallConfigWrite, h]

/-! ### The canonical form through the functions of Registers -/

@[simp] theorem State.latchGroup_memWf {s : State} (m : Master) (a : Nat) (h : s.memWf = true) :
    (s.latchGroup m a).memWf = true := by
  obtain ⟨hp, h0, h1, ht, hs, hl, hr⟩ := State.memWf_iff.1 h
  refine State.memWf_iff.2 ⟨hp, h0, h1, ht, hs, ?_, hr⟩
  exact List.foldlRecOn (motive := fun l : Sparse Word => Sparse.wf 0 l = true) _ _ hl fun l hl x _ => Sparse.wf_put hl

@[simp] theorem State.advanceTrace_memWf (s : State) : (State.advanceTrace s).memWf = s.memWf := by
  simp [State.advanceTrace]

@[simp] theorem State.mbWordRead_memWf (s : State) (m : Master) (a : Nat) : (s.mbWordRead m a).2.memWf = s.memWf := by
  unfold State.mbWordRead
  dsimp only
  split <;> simp

@[simp] theorem State.regRead_memWf {s : State} (m : Master) (a : Nat) (h : s.memWf = true) :
    (s.regRead m a).2.memWf = true := by
  unfold State.regRead
  (repeat' split) <;> simp [h]

@[simp] theorem State.readInto_memWf {s : State} (m : Master) (a : Nat) (h : s.memWf = true) :
    (s.readInto m a).memWf = true := State.regRead_memWf m a h

@[simp] theorem State.evmWrite_memWf (s : State) (m : Master) (o : Nat) (val : Word) :
    (State.evmWrite s m o val).memWf = s.memWf := by
  simp [State.evmWrite]

@[simp] theorem State.lockBlockWrite_memWf (s : State) (m : Master) (o : Nat) (val : Word) :
    (State.lockBlockWrite s m o val).memWf = s.memWf := by
  simp [State.lockBlockWrite]

@[simp] theorem State.mbWrite_memWf {s : State} (m : Master) (a : Nat) (val : Word) (h : s.memWf = true) :
    (s.mbWrite m a val).memWf = true := by
  unfold State.mbWrite
  refine State.asEnd_memWf m _ h fun b => ?_
  (repeat' split) <;> simp [h]

@[simp] theorem State.syncWrite_memWf (s : State) (val : Word) : (State.syncWrite s val).memWf = s.memWf := by
  simp [State.syncWrite]

@[simp] theorem State.axisWrite_memWf (s : State) (m : Master) (n : Fin 4) (o : Nat) (val : Word) :
    (State.axisWrite s m n o val).memWf = s.memWf := by
  simp [State.axisWrite]

@[simp] theorem State.convWrite_memWf {s : State} (o : Nat) (val : Word) (h : s.memWf = true) :
    (s.convWrite o val).memWf = true := by
  simp [State.convWrite, h]

@[simp] theorem State.fiWrite_memWf (s : State) (o : Nat) (val : Word) : (State.fiWrite s o val).memWf = s.memWf := by
  simp [State.fiWrite]

theorem State.memWf_withRun (s : State) (r : Runner) : ({ s with run := r } : State).memWf = s.memWf := rfl

@[simp] theorem State.runDevWrite_memWf (s : State) (o : Nat) (val : Word) : (s.runDevWrite o val).memWf = s.memWf := by
  unfold State.runDevWrite
  split
  · exact State.raise_memWf 194 s
  · dsimp only
    split <;> exact State.memWf_withRun _ _

@[simp] theorem State.sprWrite_memWf (s : State) (o : Nat) (val : Word) : (State.sprWrite s o val).memWf = s.memWf := by
  simp [State.sprWrite]

@[simp] theorem State.sysWrite_memWf (s : State) (o : Nat) (val : Word) : (State.sysWrite s o val).memWf = s.memWf := by
  simp [State.sysWrite]

@[simp] theorem State.regSet_memWf {s : State} (m : Master) (a : Nat) (val : Word) (h : s.memWf = true) :
    (s.regSet m a val).memWf = true := by
  simp [State.regSet, h]

@[simp] theorem State.regWrite_memWf {s : State} (m : Master) (a : Nat) (val : Word) (h : s.memWf = true) :
    (s.regWrite m a val).memWf = true :=
  State.asMaster_memWf m a h (State.regSet_memWf m a val h)

theorem execRegisterWrite_memWf (m : Master) (addr : BitVec 16) (val : Word) {s : State} (h : s.memWf = true) :
    (execRegisterWrite m addr val s).memWf = true := by
  simp [execRegisterWrite, h]

theorem execHeat0Read_memWf (m : Master) {s : State} (h : s.memWf = true) : (execHeat0Read m s).memWf = true := by
  simp [execHeat0Read, h]

theorem execPourStatRead_memWf (m : Master) {s : State} (h : s.memWf = true) : (execPourStatRead m s).memWf = true := by
  simp [execPourStatRead, h]

theorem execPwmStatRead_memWf (m : Master) (n : Fin 4) {s : State} (h : s.memWf = true) :
    (execPwmStatRead m n s).memWf = true := by
  simp [execPwmStatRead, h]

theorem execSensMean0Read_memWf (m : Master) (n : Fin 4) {s : State} (h : s.memWf = true) :
    (execSensMean0Read m n s).memWf = true := by
  simp [execSensMean0Read, h]

theorem execAdrvRead_memWf (m : Master) {s : State} (h : s.memWf = true) : (execAdrvRead m s).memWf = true := by
  simp [execAdrvRead, h]

theorem execFiStateRead_memWf (m : Master) {s : State} (h : s.memWf = true) : (execFiStateRead m s).memWf = true := by
  simp [execFiStateRead, h]

theorem execThTemp0Read_memWf (m : Master) {s : State} (h : s.memWf = true) : (execThTemp0Read m s).memWf = true := by
  simp [execThTemp0Read, h]

theorem execMonFaultRead_memWf (m : Master) {s : State} (h : s.memWf = true) : (execMonFaultRead m s).memWf = true := by
  simp [execMonFaultRead, h]

theorem execTrdataRead_memWf (m : Master) {s : State} (h : s.memWf = true) : (execTrdataRead m s).memWf = true := by
  simp [execTrdataRead, h]

/-! ### The canonical form through the functions of Packets -/

@[simp] theorem State.onPacket_memWf {s : State} {sel : List Byte → Bool} {f : List Byte → State → State} (h : s.memWf = true)
    (hf : ∀ p t, t.memWf = true → (f p t).memWf = true) : (s.onPacket sel f).memWf = true := by
  obtain hs | ⟨r, hr⟩ | ⟨p, hp⟩ := s.onPacket_cases sel f
  · rw [hs, h]
  · rw [hr]; exact h
  · rw [hp]; exact hf p s.headOff h

@[simp] theorem State.answer_memWf {s : State} (opc : Nat) (f : List Byte → State → Reply) (h : s.memWf = true) :
    (s.answer opc f).memWf = true :=
  State.onPacket_memWf h fun p t ht => by simp [ht]

@[simp] theorem State.reserve_memWf (s : State) : (State.reserve s).memWf = s.memWf := by
  simp [State.reserve]

@[simp] theorem State.unless_memWf {s : State} {c : List (Option Reply)} {f : State → State} (h : s.memWf = true)
    (hf : (f s).memWf = true) : (s.unless c f).memWf = true := by
  unfold State.unless
  split
  · exact h
  · exact hf

@[simp] theorem State.startBg_memWf (s : State) (p : List Byte) (op : BgOp) :
    (State.startBg s p op).memWf = s.memWf := by
  simp [State.startBg]

theorem execGetId_memWf {s : State} (h : s.memWf = true) : (execGetId s).memWf = true := by
  simp [execGetId, h]

theorem execGetStatus_memWf {s : State} (h : s.memWf = true) : (execGetStatus s).memWf = true := by
  simp [execGetStatus, h]

theorem execGetAxis_memWf {s : State} (h : s.memWf = true) : (execGetAxis s).memWf = true := by
  simp [execGetAxis, h]

theorem execGetTelemetry_memWf {s : State} (h : s.memWf = true) : (execGetTelemetry s).memWf = true := by
  simp [execGetTelemetry, h]

theorem execGetParam_memWf {s : State} (h : s.memWf = true) : (execGetParam s).memWf = true := by
  simp [execGetParam, h]

theorem execJournalQuery_memWf {s : State} (h : s.memWf = true) : (execJournalQuery s).memWf = true := by
  simp [execJournalQuery, h]

theorem execJournalRead_memWf {s : State} (h : s.memWf = true) : (execJournalRead s).memWf = true := by
  simp [execJournalRead, h]

theorem execLcState_memWf {s : State} (h : s.memWf = true) : (execLcState s).memWf = true := by
  simp [execLcState, h]

theorem execThermalStatus_memWf {s : State} (h : s.memWf = true) : (execThermalStatus s).memWf = true := by
  simp [execThermalStatus, h]

theorem execUnlistedOpcode_memWf {s : State} (h : s.memWf = true) : (execUnlistedOpcode s).memWf = true := by
  simp [execUnlistedOpcode, h]

@[simp] theorem State.setAccept_memWf {s : State} (p : List Byte) (h : s.memWf = true) : (s.setAccept p).memWf = true := by
  unfold State.setAccept
  dsimp only
  split
  · simpa [Journal.accept_a, Journal.accept_b] using h
  · have hl : ((setEntries p).foldl (fun t x => t.applyPar false x.2) s).memWf = true := by simp [h]
    revert hl
    generalize List.foldl _ s _ = t
    intro ht
    split
    · split <;> simp [ht]
    · simp [ht]

theorem execSetParam_memWf {s : State} (h : s.memWf = true) : (execSetParam s).memWf = true :=
  State.onPacket_memWf h fun p t ht => by simp [ht]

theorem execStoreConfig_memWf {s : State} (h : s.memWf = true) : (execStoreConfig s).memWf = true :=
  State.onPacket_memWf h fun p t ht => by simp [ht]

@[simp] theorem State.jobChecked_memWf (s : State) (p : List Byte) (n : Fin 4) :
    (State.jobChecked s p n).memWf = s.memWf := rfl

@[simp] theorem State.jobPacket_memWf {s : State} (opc : Nat) (h : s.memWf = true) : (s.jobPacket opc).memWf = true :=
  State.onPacket_memWf h fun p t ht => by simp [ht]

theorem execMoveTo_memWf {s : State} (h : s.memWf = true) : (execMoveTo s).memWf = true := by
  simp [execMoveTo, h]

theorem execMoveVel_memWf {s : State} (h : s.memWf = true) : (execMoveVel s).memWf = true := by
  simp [execMoveVel, h]

theorem execHold_memWf {s : State} (h : s.memWf = true) : (execHold s).memWf = true := by
  simp [execHold, h]

theorem execStop_memWf {s : State} (h : s.memWf = true) : (execStop s).memWf = true := by
  simp [execStop, h]

theorem execRelease_memWf {s : State} (h : s.memWf = true) : (execRelease s).memWf = true := by
  simp [execRelease, h]

theorem execLearnTravel_memWf {s : State} (h : s.memWf = true) : (execLearnTravel s).memWf = true := by
  simp [execLearnTravel, h]

theorem execHome_memWf {s : State} (h : s.memWf = true) : (execHome s).memWf = true := by
  simp [execHome, h]

theorem execResume_memWf {s : State} (h : s.memWf = true) : (execResume s).memWf = true := by
  simp [execResume, h]

theorem execCancel_memWf {s : State} (h : s.memWf = true) : (execCancel s).memWf = true := by
  simp [execCancel, h]

theorem execJournalTrim_memWf {s : State} (h : s.memWf = true) : (execJournalTrim s).memWf = true :=
  State.onPacket_memWf h fun p t ht => by simp [ht, Journal.add_a, Journal.add_b]

/-! ### The canonical form through the functions of MouldCmd -/

@[simp] theorem State.setInact_memWf (s : State) (i : Option Image) (ok : Bool) :
    (State.setInact s i ok).memWf = s.memWf := by
  simp [State.setInact]

@[simp] theorem State.stageWrite_memWf {s : State} (a : Nat) (l : List Byte) (h : s.memWf = true) :
    (s.stageWrite a l).memWf = true := by
  obtain ⟨hp, h0, h1, ht, hs, hr⟩ := State.memWf_iff.1 h
  exact State.memWf_iff.2 ⟨hp, h0, h1, ht, Mem.wf_putBytes _ _ _ hs, hr⟩

@[simp] theorem State.lock0Set_memWf (s : State) (o : BitVec 4) : (State.lock0Set s o).memWf = s.memWf := by
  simp [State.lock0Set]

@[simp] theorem State.lock0Release_memWf (s : State) : (State.lock0Release s).memWf = s.memWf := by
  simp [State.lock0Release]

@[simp] theorem State.beginActivation_memWf (s : State) (m : Option MouldInfo) (seq : Word) (boot : Bool) :
    (State.beginActivation s m seq boot).memWf = s.memWf := by
  simp [State.beginActivation]

@[simp] theorem State.resolve_memWf (s : State) (m : MouldInfo) (seq : Word) (boot : Bool) :
    (State.resolve s m seq boot).memWf = s.memWf := by
  simp [State.resolve]

theorem execMouldBegin_memWf {s : State} (h : s.memWf = true) : (execMouldBegin s).memWf = true :=
  State.onPacket_memWf h fun p t ht => by simp [ht]

theorem execMouldCheck_memWf {s : State} (h : s.memWf = true) : (execMouldCheck s).memWf = true :=
  State.onPacket_memWf h fun p t ht => by simp [ht]

@[simp] theorem State.bgEnd_memWf (s : State) : (State.bgEnd s).memWf = s.memWf := by
  simp [State.bgEnd]

@[simp] theorem State.onBg_memWf {s : State} {sel : BgOp → Bool} {f : Bg → State → State} (h : s.memWf = true)
    (hf : ∀ b t, t.memWf = true → (f b t).memWf = true) : (s.onBg sel f).memWf = true := by
  obtain hs | ⟨b, -, hb⟩ := s.onBg_cases sel f
  · rw [hs, h]
  · rw [hb]; exact hf b s.bgEnd h

theorem execMouldCheckDone_memWf {s : State} (h : s.memWf = true) : (execMouldCheckDone s).memWf = true := by
  unfold execMouldCheckDone
  rw [Res.memWf_next]
  refine State.onBg_memWf h fun b t ht => ?_
  cases b.op.checks with
  | none => exact ht
  | some x => simp [ht]

theorem execMouldCommit_memWf {s : State} (h : s.memWf = true) : (execMouldCommit s).memWf = true :=
  State.onPacket_memWf h fun p t ht => by simp [ht]

theorem execMouldCommitDone_memWf (verified : Bool) {s : State} (h : s.memWf = true) : (execMouldCommitDone verified s).memWf = true := by
  unfold execMouldCommitDone
  rw [Res.memWf_next]
  refine State.onBg_memWf h fun b t ht => ?_
  cases b.op.commits with
  | none => exact ht
  | some x => simp [ht]

theorem execMouldStore_memWf {s : State} (h : s.memWf = true) : (execMouldStore s).memWf = true :=
  State.onPacket_memWf h fun p t ht => by simp [ht]

theorem execMouldStoreDone_memWf (verified : Bool) {s : State} (h : s.memWf = true) : (execMouldStoreDone verified s).memWf = true := by
  unfold execMouldStoreDone
  rw [Res.memWf_next]
  refine State.onBg_memWf h fun b t ht => ?_
  cases b.op.stores with
  | none => exact ht
  | some x => simp [ht]

@[simp] theorem State.selectGo_memWf (s : State) (p : List Byte) (src : Nat) :
    (State.selectGo s p src).memWf = s.memWf := by
  simp only [State.selectGo]
  (repeat' split) <;> simp

theorem execMouldSelect_memWf {s : State} (h : s.memWf = true) : (execMouldSelect s).memWf = true :=
  State.onPacket_memWf h fun p t ht => State.unless_memWf ht (by simp [ht])

theorem execMouldSelectCopyDone_memWf {s : State} (h : s.memWf = true) : (execMouldSelectCopyDone s).memWf = true := by
  unfold execMouldSelectCopyDone
  rw [Res.memWf_next]
  refine State.onBg_memWf h fun b t ht => ?_
  split
  · dsimp only
    split <;> simp [ht]
  · exact ht

theorem Sparse.wfFrom_filter {α : Type} [DecidableEq α] {d : α} (q : Nat × α → Bool) (m : Sparse α) : ∀ lo : Nat,
    Sparse.wfFrom d lo m = true → Sparse.wfFrom d lo (m.filter q) = true := by
  induction m with
  | nil => intro lo h; exact h
  | cons e t ih =>
    obtain ⟨j, v⟩ := e
    intro lo h
    simp only [Sparse.wfFrom, Bool.and_eq_true, decide_eq_true_eq] at h
    obtain ⟨⟨hlo, hv⟩, ht⟩ := h
    rw [List.filter_cons]
    split
    · simp only [Sparse.wfFrom, Bool.and_eq_true, decide_eq_true_eq]
      exact ⟨⟨hlo, hv⟩, ih _ ht⟩
    · exact Sparse.wfFrom_mono (by omega) (ih _ ht)

theorem Mem.wf_filter {m : Mem} (q : Nat × Byte → Bool) (h : m.wf = true) : Mem.wf (m.filter q) = true :=
  Sparse.wfFrom_filter q m 0 h

theorem loadSect_wf (stays : Nat → Bool) (base : Nat) (l : List Word) {d : Mem} (h : d.wf = true) :
    (loadSect stays base l d).wf = true := by
  refine List.foldlRecOn (motive := fun d : Mem => d.wf = true) _ _ h fun d hd x _ => ?_
  split
  · exact hd
  · exact Mem.wf_putWord _ _ hd

theorem Pour.load_mems {p : Pour} (m : MouldInfo) (old : Option MouldInfo) (all : Bool) (h : p.pdm.wf = true) :
    (p.load m old all).pdm.wf = true ∧ (p.load m old all).trace = p.trace := by
  refine ⟨?_, rfl⟩
  unfold Pour.load Pour.loadBut
  dsimp only
  exact loadSect_wf _ _ _ (loadSect_wf _ _ _ (Mem.wf_filter _ h))

theorem State.memWf_withPour {s : State} {p : Pour} (h : s.memWf = true) (hp : p.pdm.wf = true)
    (ht : p.trace.wf = true) : ({ s with pour := p } : State).memWf = true :=
  State.memWf_iff.2 ⟨⟨hp, ht⟩, (State.memWf_iff.1 h).2⟩

theorem State.loaded_memWf {s : State} (m : MouldInfo) (old : Option MouldInfo) (all : Bool) (h : s.memWf = true) :
    ({ s with pour := s.pour.load m old all } : State).memWf = true := by
  obtain ⟨⟨hp, ht⟩, -⟩ := State.memWf_iff.1 h
  obtain ⟨hp', ht'⟩ := Pour.load_mems m old all hp
  exact State.memWf_withPour h hp' (ht'.symm ▸ ht)

theorem execLiveLoadComplete_memWf {s : State} (h : s.memWf = true) : (execLiveLoadComplete s).memWf = true := by
  unfold execLiveLoadComplete
  split
  · split
    · split
      · exact State.loaded_memWf _ _ false h
      · exact h
    · exact h
  · exact h

/-! ### The canonical form through the functions of Tick -/

@[simp] theorem State.closePour_memWf {s : State} (h : s.memWf = true) : s.closePour.memWf = true := by
  unfold State.closePour
  split
  · have hf := State.stdFinish_memWf h
    obtain ⟨⟨hp, ht⟩, hr⟩ := State.memWf_iff.1 hf
    refine State.memWf_iff.2 ⟨⟨?_, ?_⟩, hr⟩
    · exact (retire_pdm _ _).symm ▸ hp
    · exact (retire_trace _ _).symm ▸ ht
  · exact h

@[simp] theorem State.settleFaults_memWf (s : State) : s.settleFaults.memWf = s.memWf :=
  foldl_memWf (fun t n => by split <;> simp) axes s

theorem State.settleFaults_sameMems (s : State) : s.settleFaults.SameMems s := by
  refine List.foldlRecOn (motive := fun t : State => t.SameMems s) axes _ ⟨rfl, rfl, rfl, rfl, rfl⟩ fun t ht n _ => ?_
  split
  · simpa [State.SameMems] using ht
  · exact ht

@[simp] theorem State.toNoMould_memWf (s : State) : s.toNoMould.memWf = s.memWf := s.settleFaults_memWf

@[simp] theorem State.loadOffsets_memWf (s : State) (o : Four Nat) : (State.loadOffsets s o).memWf = s.memWf := by
  simp [State.loadOffsets]

@[simp] theorem State.toggleSlot_memWf (s : State) : (State.toggleSlot s).memWf = s.memWf := by
  simp [State.toggleSlot]

@[simp] theorem State.loadSequences_memWf (s : State) (m : MouldInfo) (live : Bool) :
    (State.loadSequences s m live).memWf = s.memWf := by
  simp [State.loadSequences]

@[simp] theorem State.streamAgain_memWf (s : State) (n : Fin 4) : (State.streamAgain s n).memWf = s.memWf := by
  simp [State.streamAgain]

@[simp] theorem State.freshMot_memWf (s : State) (k : Nat) (n : Fin 4) : (State.freshMot s k n).memWf = s.memWf := by
  simp [State.freshMot]

@[simp] theorem State.motLost_memWf (s : State) (n : Fin 4) : (State.motLost s n).memWf = s.memWf := by
  simp [State.motLost]

@[simp] theorem State.reseedMot_memWf (s : State) (k : Nat) (n : Fin 4) : (State.reseedMot s k n).memWf = s.memWf := by
  simp [State.reseedMot]

@[simp] theorem State.startMot_memWf (s : State) (m : MouldInfo) (old : Option MouldInfo) (k : Nat) (live : Bool) (n : Fin 4) :
    (State.startMot s m old k live n).memWf = s.memWf := by
  simp [State.startMot]

@[simp] theorem State.startStd_memWf (s : State) (m : MouldInfo) (old : Option MouldInfo) (live : Bool) :
    (State.startStd s m old live).memWf = s.memWf := by
  unfold State.startStd
  split <;> simp

theorem Pour.carryRegs_mems (p : Pour) (m : MouldInfo) (old : Option MouldInfo) :
    (p.carryRegs m old).pdm = p.pdm ∧ (p.carryRegs m old).trace = p.trace := by
  unfold Pour.carryRegs
  refine List.foldlRecOn (motive := fun q : Pour => q.pdm = p.pdm ∧ q.trace = p.trace) m.car _ ⟨rfl, rfl⟩ fun q hq e _ => ?_
  split
  · exact hq
  · refine List.foldlRecOn (motive := fun q : Pour => q.pdm = p.pdm ∧ q.trace = p.trace) _ _ hq fun q hq i _ => ?_
    split <;> exact hq

@[simp] theorem State.takeMould_memWf (s : State) (m : MouldInfo) (old : Option MouldInfo) (live : Bool) :
    (s.takeMould m old live).memWf = s.memWf := by
  unfold State.takeMould
  dsimp only
  rw [State.startStd_memWf, State.loadOffsets_memWf, State.loadSequences_memWf, State.toggleSlot_memWf, State.memWf_mk,
    (Pour.carryRegs_mems _ m old).1, (Pour.carryRegs_mems _ m old).2]
  exact s.settleFaults_memWf

@[simp] theorem State.fillBuffers_memWf {s : State} (m : MouldInfo) (h : s.memWf = true) :
    (s.fillBuffers m).memWf = true := by
  obtain ⟨hp, ⟨hi0, ho0⟩, ⟨hi1, ho1⟩, hr⟩ := State.memWf_iff.1 h
  exact State.memWf_iff.2 ⟨hp, State.filled_wf m ho0, State.filled_wf m ho1, hr⟩

@[simp] theorem State.fillBoth_memWf {s : State} (m : MouldInfo) (h : s.memWf = true) : (s.fillBoth m).memWf = true := by
  simp [State.fillBoth, h]

@[simp] theorem State.activated_memWf (s : State) (a : Activation) (m : MouldInfo) (old : Option MouldInfo) :
    (State.activated s a m old).memWf = s.memWf := by
  simp [State.activated]

@[simp] theorem State.kthUpdate_memWf (s : State) : (State.kthUpdate s).memWf = s.memWf := by
  unfold State.kthUpdate
  split <;> simp

@[simp] theorem State.neighbour_memWf (s : State) (n : Fin 4) : (State.neighbour s n).memWf = s.memWf := by
  simp [State.neighbour]

@[simp] theorem Tick.takeRate_ring (t : Tick) : t.takeRate.ring = t.ring := by
  unfold Tick.takeRate
  split <;> rfl

@[simp] theorem State.nextHeat_memWf (s : State) : s.nextHeat.memWf = s.memWf := by
  simp [State.nextHeat]

@[simp] theorem State.imageDue_memWf {s : State} (h : s.memWf = true) : s.imageDue.memWf = true := by
  unfold State.imageDue
  split
  · exact h
  · dsimp only
    split
    · exact State.publishFor_memWf _ _ h
    · exact h

@[simp] theorem State.selectReply_memWf (s : State) (a : Activation) : (State.selectReply s a).memWf = s.memWf := by
  simp [State.selectReply]

@[simp] theorem State.stoppedBoundary_memWf {s : State} (a : Activation) (m : MouldInfo) (h : s.memWf = true) :
    (s.stoppedBoundary a m).memWf = true := by
  unfold State.stoppedBoundary
  split
  · exact s.toNoMould_memWf.trans h
  · split
    · have hl : ({ s with pour := s.pour.load m s.moulds.outgoing true, ax := s.ax.map Axis.noCompares } : State).memWf = true :=
        State.loaded_memWf m s.moulds.outgoing true h
      refine State.fillBoth_memWf m ?_
      rw [State.kthUpdate_memWf, State.activated_memWf, State.takeMould_memWf]
      exact State.fillBuffers_memWf m hl
    · exact h

@[simp] theorem State.liveBoundary_memWf (s : State) (a : Activation) (m : MouldInfo) :
    (s.liveBoundary a m).memWf = s.memWf := by
  unfold State.liveBoundary
  split
  · simp only [State.kthUpdate_memWf, State.activated_memWf, State.takeMould_memWf, State.streamed_memWf]
    rfl
  · exact s.kthUpdate_memWf

@[simp] theorem State.deactBoundary_memWf (s : State) (a : Activation) : (s.deactBoundary a).memWf = s.memWf := by
  unfold State.deactBoundary
  split
  · exact (State.selectReply_memWf _ _).trans s.toNoMould_memWf
  · rfl

@[simp] theorem State.activationBoundary_memWf {s : State} (h : s.memWf = true) : s.activationBoundary.memWf = true := by
  unfold State.activationBoundary
  split
  · simpa using h
  · split <;> simp [h]

theorem execHeatBoundary_memWf {s : State} (h : s.memWf = true) : (execHeatBoundary s).memWf = true := by
  unfold execHeatBoundary
  split
  · rw [Res.memWf_next, foldl_memWf State.neighbour_memWf]
    refine State.imageDue_memWf (State.activationBoundary_memWf ?_)
    rw [State.nextHeat_memWf, State.closePour_memWf h]
  · exact h

@[simp] theorem State.clearFlags_memWf (s : State) (n : Fin 4) : (State.clearFlags s n).memWf = s.memWf := by
  simp [State.clearFlags]

@[simp] theorem State.leaveSafe_memWf (s : State) : (State.leaveSafe s).memWf = s.memWf := by
  simp [State.leaveSafe]

@[simp] theorem State.clearReply_memWf (s : State) (seq : Word) (r : Option (List (Fin 4))) :
    (State.clearReply s seq r).memWf = s.memWf := by
  unfold State.clearReply
  split <;> simp

@[simp] theorem State.clearNow_memWf (s : State) (m cause : BitVec 4) : (s.clearNow m cause).1.memWf = s.memWf := by
  have hf : ((namedAxes m).foldl State.clearFlags s).memWf = s.memWf := foldl_memWf State.clearFlags_memWf _ s
  unfold State.clearNow
  split
  · rfl
  · dsimp only
    split
    · exact hf
    · split
      · exact hf
      · rw [foldl_memWf (by simp), State.leaveSafe_memWf, hf]

@[simp] theorem State.axesBoundary_memWf (s : State) : s.axesBoundary.memWf = s.memWf := by
  unfold State.axesBoundary
  split
  · exact foldl_memWf State.axisBoundary_memWf axes s
  · rw [State.clearReply_memWf, foldl_memWf State.axisBoundary_memWf, State.clearNow_memWf]
    rfl

@[simp] theorem Tick.next_ring (t : Tick) : t.next.ring = t.ring := by
  unfold Tick.next
  split
  · rfl
  · split <;> rfl

@[simp] theorem State.nextTick_memWf (s : State) : s.nextTick.memWf = s.memWf := by
  simp [State.nextTick]

@[simp] theorem State.freshPorts_memWf (s : State) : (State.freshPorts s).memWf = s.memWf := by
  simp [State.freshPorts]

theorem Pour.loadFirst_mems {p : Pour} (m : MouldInfo) (old : Option MouldInfo) (n : Nat) (h : p.pdm.wf = true) :
    (p.loadFirst m old n).pdm.wf = true ∧ (p.loadFirst m old n).trace = p.trace := by
  refine ⟨?_, rfl⟩
  unfold Pour.loadFirst Pour.loadBut
  dsimp only
  exact loadSect_wf _ _ _ (loadSect_wf _ _ _ (Mem.wf_filter _ h))

@[simp] theorem State.loadTick_memWf {s : State} (a : Activation) (h : s.memWf = true) : (s.loadTick a).memWf = true := by
  obtain ⟨⟨hp, ht⟩, hr⟩ := State.memWf_iff.1 h
  refine State.memWf_iff.2 ⟨?_, hr⟩
  unfold State.loadTick
  dsimp only
  split
  · split
    · obtain ⟨hp', ht'⟩ := Pour.loadFirst_mems _ s.moulds.outgoing _ hp
      exact ⟨hp', ht'.symm ▸ ht⟩
    · exact ⟨hp, ht⟩
  · exact ⟨hp, ht⟩

@[simp] theorem State.activationTick_memWf {s : State} (h : s.memWf = true) : s.activationTick.memWf = true := by
  unfold State.activationTick
  split
  · exact h
  · split
    · split
      · simpa using h
      · exact h
    · exact State.loadTick_memWf _ h

theorem State.startPour_memWf {s : State} (h : s.memWf = true) : s.startPour.memWf = true := by
  unfold State.startPour
  split
  · exact h
  · dsimp only
    split
    · rw [Res.memWf_next, State.stdBegin_memWf]
      exact h
    · exact issueBundle_memWf _ h

@[simp] theorem State.idleSnapshot_memWf {s : State} (h : s.memWf = true) : s.idleSnapshot.memWf = true := by
  unfold State.idleSnapshot
  split <;> simp [h]

theorem endOfCy0_memWf {r : Res} (h : r.memWf = true) : (endOfCy0 r).memWf = true := by
  cases r with
  | next s => exact s.fiUpdate_memWf.trans h
  | fault f => rfl
  | refused f => rfl

theorem execTickBoundary_memWf {s : State} (h : s.memWf = true) : (execTickBoundary s).memWf = true := by
  unfold execTickBoundary
  split
  · refine endOfCy0_memWf (State.startPour_memWf (State.idleSnapshot_memWf (State.activationTick_memWf ?_)))
    simp [h]
  · exact h

@[simp] theorem State.acquired_memWf (s : State) : (State.acquired s).memWf = s.memWf := by
  simp [State.acquired]

theorem execSyncAcquire_memWf {s : State} (h : s.memWf = true) : (execSyncAcquire s).memWf = true := by
  unfold execSyncAcquire
  split
  · split
    · exact s.acquired_memWf.trans h
    · exact execTickBoundary_memWf (s.acquired_memWf.trans h)
  · exact h

theorem execHeatReservation_memWf {s : State} (h : s.memWf = true) : (execHeatReservation s).memWf = true := by
  unfold execHeatReservation
  split
  · obtain ⟨hp, h0, h1, ht, hs, hl, hr, hj⟩ := State.memWf_iff.1 h
    exact State.memWf_iff.2 ⟨hp, h0, h1, ht, hs, hl, Sparse.wf_put hr, hj⟩
  · exact h

@[simp] theorem State.takeFaultReq_memWf (s : State) (n : Fin 4) : (State.takeFaultReq s n).memWf = s.memWf := by
  simp [State.takeFaultReq]

theorem execAxisFaultApply_memWf (n : Fin 4) {s : State} (h : s.memWf = true) :
    (execAxisFaultApply n s).memWf = true := by
  simp [execAxisFaultApply, h]

/-! ### The canonical form through the functions of System -/

theorem State.onFunc_memWf {s : State} (k : Nat) {f : List Byte → State → State} (h : s.memWf = true)
    (hf : ∀ p t, t.memWf = true → (f p t).memWf = true) : (s.onFunc k f).memWf = true := by
  unfold State.onFunc
  split
  · exact h
  · exact State.onPacket_memWf h hf

@[simp] theorem State.beginFunc_memWf (s : State) (p : List Byte) (k n : Nat) :
    (State.beginFunc s p k n).memWf = s.memWf := by
  simp [State.beginFunc]

@[simp] theorem State.dropCompares_memWf (s : State) (n : Fin 4) : (State.dropCompares s n).memWf = s.memWf := by
  simp [State.dropCompares]

@[simp] theorem State.dropMessages_memWf (s : State) (n : Fin 4) : (State.dropMessages s n).memWf = s.memWf := by
  simp [State.dropMessages]

theorem execResetFuncAxis_memWf {s : State} (h : s.memWf = true) : (execResetFuncAxis s).memWf = true :=
  State.onFunc_memWf 0 h fun p t ht => State.unless_memWf ht (by simp [ht])

@[simp] theorem State.interrupted_memWf (s : State) (n : Fin 4) : (State.interrupted s n).memWf = s.memWf := by
  simp [State.interrupted]

theorem execResetFuncLink_memWf {s : State} (h : s.memWf = true) : (execResetFuncLink s).memWf = true :=
  State.onFunc_memWf 1 h fun p t ht => State.unless_memWf ht (by simp [ht])

theorem execResetFuncSns_memWf {s : State} (h : s.memWf = true) : (execResetFuncSns s).memWf = true :=
  State.onFunc_memWf 2 h fun p t ht => by simp [ht]

theorem execResetFuncSprue_memWf {s : State} (h : s.memWf = true) : (execResetFuncSprue s).memWf = true := by
  unfold execResetFuncSprue
  split
  · exact h
  · exact State.onFunc_memWf 3 h fun p t ht => by simp [ht]

theorem execResetFuncRunner_memWf {s : State} (h : s.memWf = true) : (execResetFuncRunner s).memWf = true :=
  State.onFunc_memWf 4 h fun p t ht => by simp [ht]

theorem execResetFuncMailbox_memWf {s : State} (h : s.memWf = true) : (execResetFuncMailbox s).memWf = true :=
  State.onFunc_memWf 5 h fun p t ht => State.unless_memWf ht (by simp [ht])

@[simp] theorem State.funcEnd_memWf (s : State) (seq : Word) : (State.funcEnd s seq).memWf = s.memWf := by
  simp [State.funcEnd]

@[simp] theorem State.snsRestored_memWf (s : State) : (State.snsRestored s).memWf = s.memWf := by
  simp [State.snsRestored]

theorem execResetFuncDone_memWf {s : State} (h : s.memWf = true) : (execResetFuncDone s).memWf = true := by
  unfold execResetFuncDone
  split <;> simp [h]

@[simp] theorem State.deferAction_memWf (s : State) (p : List Byte) (a : Deferred) :
    (State.deferAction s p a).memWf = s.memWf := by
  simp [State.deferAction]

theorem execResetDevice_memWf {s : State} (h : s.memWf = true) : (execResetDevice s).memWf = true := by
  unfold execResetDevice
  split
  · exact h
  · exact State.onPacket_memWf h fun p t ht => State.unless_memWf ht (by simp [ht])

theorem execHibernate_memWf {s : State} (h : s.memWf = true) : (execHibernate s).memWf = true := by
  unfold execHibernate
  split
  · exact h
  · exact State.onPacket_memWf h fun p t ht => State.unless_memWf ht (by simp [ht])

theorem execClearFault_memWf {s : State} (h : s.memWf = true) : (execClearFault s).memWf = true := by
  unfold execClearFault
  split
  · exact h
  · exact State.onPacket_memWf h fun p t ht => by simp [ht]

@[simp] theorem State.storeAll_memWf (s : State) : (State.storeAll s).memWf = s.memWf := by
  simp [State.storeAll]

theorem execStoreConfigDone_memWf {s : State} (h : s.memWf = true) : (execStoreConfigDone s).memWf = true := by
  simp [execStoreConfigDone, h]

@[simp] theorem State.testBegin_memWf (s : State) : (State.testBegin s).memWf = s.memWf := by
  simp [State.testBegin]

@[simp] theorem State.loopGo_memWf (s : State) (p : List Byte) : (State.loopGo s p).memWf = s.memWf := by
  simp [State.loopGo]

@[simp] theorem State.loopPacket_memWf {s : State} (k : Nat) (h : s.memWf = true) : (s.loopPacket k).memWf = true :=
  State.onPacket_memWf h fun p t ht => State.unless_memWf ht (by simp [ht])

theorem execLoopbackSprue_memWf {s : State} (h : s.memWf = true) : (execLoopbackSprue s).memWf = true := by
  simp [execLoopbackSprue, h]

theorem execLoopbackRunner_memWf {s : State} (h : s.memWf = true) : (execLoopbackRunner s).memWf = true := by
  simp [execLoopbackRunner, h]

theorem execLoopbackPlind_memWf {s : State} (h : s.memWf = true) : (execLoopbackPlind s).memWf = true := by
  simp [execLoopbackPlind, h]

theorem execLoopbackGateDrive_memWf {s : State} (h : s.memWf = true) : (execLoopbackGateDrive s).memWf = true := by
  simp [execLoopbackGateDrive, h]

theorem execLoopbackPhaseSensing_memWf {s : State} (h : s.memWf = true) : (execLoopbackPhaseSensing s).memWf = true := by
  simp [execLoopbackPhaseSensing, h]

theorem execLoopbackConverter_memWf {s : State} (h : s.memWf = true) : (execLoopbackConverter s).memWf = true := by
  simp [execLoopbackConverter, h]

theorem execLoopbackFieldInputs_memWf {s : State} (h : s.memWf = true) : (execLoopbackFieldInputs s).memWf = true := by
  simp [execLoopbackFieldInputs, h]

@[simp] theorem State.testLeave_memWf (s0 : State) (n : Fin 4) : (State.testLeave s0 n).memWf = s0.memWf := by
  simp [State.testLeave]

@[simp] theorem State.testTrace_memWf (s : State) (x0 : BgOp) : (State.testTrace s x0).memWf = s.memWf := by
  unfold State.testTrace
  split <;> simp

theorem execLoopbackDone_memWf (errors : Nat) (first : Word) {s : State} (h : s.memWf = true) :
    (execLoopbackDone errors first s).memWf = true := by
  unfold execLoopbackDone
  rw [Res.memWf_next]
  refine State.onBg_memWf h fun b t ht => ?_
  dsimp only
  split
  · simp only [State.pushReserved_memWf, State.raise_memWf]
    refine (State.testTrace_memWf _ _).trans ?_
    split <;> simp [ht]
  · exact ht

theorem execSelftest_memWf {s : State} (h : s.memWf = true) : (execSelftest s).memWf = true :=
  State.onPacket_memWf h fun p t ht => by simp [ht]

theorem execSelftestDone_memWf (passed failed : BitVec 18) {s : State} (h : s.memWf = true) :
    (execSelftestDone passed failed s).memWf = true := by
  unfold execSelftestDone
  rw [Res.memWf_next]
  refine State.onBg_memWf h fun b t ht => ?_
  dsimp only
  split
  · simp only [State.pushReserved_memWf, State.raise_memWf]
    refine (State.testTrace_memWf _ _).trans ?_
    rw [foldl_memWf State.testLeave_memWf]
    exact ht
  · exact ht

/-! ### The canonical form through the functions of Power -/

/-- A reset empties every memory but the reservation ring and the two copies of the journal. -/
theorem State.cold_memWf {s : State} (hr : Sparse.wf 0 s.tick.ring = true) (hj : s.jrn.CopiesWf) : s.cold.memWf = true :=
  State.memWf_iff.2 ⟨⟨rfl, rfl⟩, ⟨rfl, rfl⟩, ⟨rfl, rfl⟩, rfl, rfl, rfl, hr, hj⟩

theorem State.ring_wf {s : State} (h : s.memWf = true) : Sparse.wf 0 s.tick.ring = true := by
  obtain ⟨-, -, -, -, -, -, hr, -⟩ := State.memWf_iff.1 h
  exact hr

theorem State.memWf_withMon (s : State) (m : Mon) : ({ s with mon := m } : State).memWf = s.memWf := rfl
theorem State.memWf_withPwr (s : State) (p : Power) : ({ s with pwr := p } : State).memWf = s.memWf := rfl

theorem State.cut_cold_memWf {s : State} (okA okB : Bool) (h : s.memWf = true) :
    ({ s with jrn := s.jrn.cut okA okB } : State).cold.memWf = true := by
  have hr := State.ring_wf h
  have hj := Journal.copiesWf_cut okA okB (State.copiesWf h)
  exact State.cold_memWf hr hj

@[simp] theorem State.reboot_memWf {s : State} (cause : BitVec 3) (ph : BootPhase) (h : s.memWf = true) :
    (s.reboot cause ph).memWf = true :=
  State.cut_cold_memWf true true h

@[simp] theorem State.deviceReset_memWf {s : State} (cause : BitVec 3) (h : s.memWf = true) :
    (s.deviceReset cause).memWf = true := by
  unfold State.deviceReset
  split
  · exact State.reboot_memWf _ _ h
  · exact h

theorem execResetnAssert_memWf {s : State} (h : s.memWf = true) : (execResetnAssert s).memWf = true := by
  unfold execResetnAssert
  dsimp only
  rw [Res.memWf_next, State.memWf_withPwr]
  split
  · exact State.reboot_memWf _ _ h
  · exact h

theorem execResetnRelease_memWf {s : State} (h : s.memWf = true) : (execResetnRelease s).memWf = true := by
  simp [execResetnRelease, h]

theorem execWatchdogExpiry_memWf {s : State} (h : s.memWf = true) : (execWatchdogExpiry s).memWf = true := by
  simp [execWatchdogExpiry, h]

theorem execVddFall_memWf (memAbove140 : Bool) {s : State} (h : s.memWf = true) :
    (execVddFall memAbove140 s).memWf = true := by
  unfold execVddFall
  split
  · exact State.cut_cold_memWf false memAbove140 h
  · exact h

theorem execPorRelease_memWf {s : State} (h : s.memWf = true) : (execPorRelease s).memWf = true := by
  unfold execPorRelease
  split
  · exact State.cold_memWf (State.ring_wf h) (State.copiesWf h)
  · exact h

theorem execRetentionExpiry_memWf {s : State} (h : s.memWf = true) : (execRetentionExpiry s).memWf = true := by
  simp [execRetentionExpiry, h]

theorem execV5CurrentLimit_memWf (limited : Bool) {s : State} (h : s.memWf = true) :
    (execV5CurrentLimit limited s).memWf = true := by
  simp [execV5CurrentLimit, h]

@[simp] theorem State.wipeAll_memWf {s : State} (h : s.memWf = true) : s.wipeAll.memWf = true := by
  obtain ⟨hp, h0, h1, ht, hs, hl, -⟩ := State.memWf_iff.1 h
  exact State.memWf_iff.2 ⟨hp, h0, h1, ht, hs, hl, rfl, rfl, rfl⟩

theorem execRmaWipeDone_memWf {s : State} (h : s.memWf = true) : (execRmaWipeDone s).memWf = true := by
  unfold execRmaWipeDone
  split
  · exact State.deviceReset_memWf 4 (State.wipeAll_memWf h)
  · exact h

@[simp] theorem State.monBoot_memWf (s : State) : (State.monBoot s).memWf = s.memWf := by
  simp [State.monBoot]

@[simp] theorem State.bootReg_memWf {s : State} (e : Nat × Option Word) (h : s.memWf = true) : (s.bootReg e).memWf = true := by
  unfold State.bootReg
  split
  · exact h
  · split
    · split <;> simp [h]
    · exact State.regSet_memWf _ _ _ h

@[simp] theorem State.bootBind_memWf (s : State) (e : Nat × Option Word) : (State.bootBind s e).memWf = s.memWf := by
  unfold State.bootBind
  split <;> simp

@[simp] theorem State.bootMail_memWf (s : State) : (State.bootMail s).memWf = s.memWf := by
  simp [State.bootMail]

theorem execCrystalLoss_memWf {s : State} (h : s.memWf = true) : (execCrystalLoss s).memWf = true := by
  simp [execCrystalLoss, h]

@[simp] theorem State.powerUp_memWf (s : State) : (State.powerUp s).memWf = s.memWf := by
  simp [State.powerUp]

@[simp] theorem State.mgmtStart_memWf {s : State} (h : s.memWf = true) : s.mgmtStart.memWf = true := by
  unfold State.mgmtStart
  dsimp only
  rw [State.bootMail_memWf]
  exact foldl_keeps_memWf (fun t e => State.bootReg_memWf e) _ h

@[simp] theorem State.lcBoot_memWf {s : State} (h : s.memWf = true) : s.lcBoot.memWf = true := by
  unfold State.lcBoot
  dsimp only
  rw [State.raiseIf_memWf]
  split
  · exact State.wipeAll_memWf h
  · exact h

theorem execFirmwareVerified_memWf (imgA imgB : Bool) {s : State} (h : s.memWf = true) :
    (execFirmwareVerified imgA imgB s).memWf = true := by
  unfold execFirmwareVerified
  split
  · split
    · refine State.mgmtStart_memWf (State.lcBoot_memWf ?_)
      rw [State.powerUp_memWf]
      exact h
    · exact h
  · exact h

@[simp] theorem State.replay_memWf {s : State} (h : s.memWf = true) : s.replay.memWf = true := by
  unfold State.replay
  rw [State.replayJobs_memWf, State.replayConfig_memWf]
  exact State.memWf_withJrn h (Journal.copiesWf_replayed (State.copiesWf h))

@[simp] theorem State.startTick_memWf {s : State} (h : s.memWf = true) : s.startTick.memWf = true := by
  obtain ⟨hp, h0, h1, ht, hs, hl, hr, hj⟩ := State.memWf_iff.1 h
  exact State.memWf_iff.2 ⟨hp, h0, h1, ht, hs, hl, Sparse.wf_put hr, hj⟩

@[simp] theorem State.bootState_memWf {s : State} (h : s.memWf = true) : s.bootState.memWf = true := by
  unfold State.bootState
  dsimp only
  simp only [State.memWf_withMon, State.memWf_ite, State.enterSafe_memWf, ite_self]
  exact State.startTick_memWf h

@[simp] theorem State.bootMould_memWf (s : State) : (State.bootMould s).memWf = s.memWf := by
  simp [State.bootMould]

theorem execBootComplete_memWf {s : State} (h : s.memWf = true) : (execBootComplete s).memWf = true := by
  unfold execBootComplete
  split
  · rw [Res.memWf_next, State.bootMould_memWf]
    exact State.bootState_memWf (State.replay_memWf h)
  · exact h

@[simp] theorem State.hibernateNow_memWf {s : State} (h : s.memWf = true) : s.hibernateNow.memWf = true := by
  have hr := State.ring_wf h
  have hj := Journal.copiesWf_drain (State.copiesWf h)
  exact State.cold_memWf (s := { s with jrn := s.jrn.drain }) hr hj

theorem execWake_memWf (srcs : BitVec 4) {s : State} (h : s.memWf = true) : (execWake srcs s).memWf = true := by
  unfold execWake
  dsimp only
  split
  · rw [Res.memWf_next, State.logFault_memWf]
    exact State.cold_memWf (State.ring_wf h) (State.copiesWf h)
  · exact h

/-! ### The canonical form through the functions of LifeCycle -/

theorem execLcAdvance_memWf {s : State} (h : s.memWf = true) : (execLcAdvance s).memWf = true :=
  State.onPacket_memWf h fun p t ht => by simp [ht]

@[simp] theorem State.replyThen_memWf (s : State) (b : Bg) (a : Deferred) : (State.replyThen s b a).memWf = s.memWf := by
  simp [State.replyThen]

theorem execLcAdvanceDone_memWf {s : State} (h : s.memWf = true) : (execLcAdvanceDone s).memWf = true := by
  simp [execLcAdvanceDone, h]

theorem execLcSetMouldKey_memWf {s : State} (h : s.memWf = true) : (execLcSetMouldKey s).memWf = true :=
  State.onPacket_memWf h fun p t ht => by simp [ht]

theorem execLcSetMouldKeyDone_memWf {s : State} (h : s.memWf = true) : (execLcSetMouldKeyDone s).memWf = true := by
  unfold execLcSetMouldKeyDone
  rw [Res.memWf_next]
  refine State.onBg_memWf h fun b t ht => ?_
  split
  · simpa using ht
  · exact ht

theorem execLcRmaChallenge_memWf {s : State} (h : s.memWf = true) : (execLcRmaChallenge s).memWf = true :=
  State.onPacket_memWf h fun p t ht => by simp [ht]

theorem execNonceExpiry_memWf {s : State} (h : s.memWf = true) : (execNonceExpiry s).memWf = true := by
  simp [execNonceExpiry, h]

theorem execLcRmaEnter_memWf {s : State} (h : s.memWf = true) : (execLcRmaEnter s).memWf = true :=
  State.onPacket_memWf h fun p t ht => by simp [ht]

theorem execLcRmaEnterDone_memWf {s : State} (h : s.memWf = true) : (execLcRmaEnterDone s).memWf = true := by
  unfold execLcRmaEnterDone
  split
  · exact h
  · rw [Res.memWf_next]
    refine State.onBg_memWf h fun b t ht => ?_
    split
    · dsimp only
      split <;> simp [ht]
    · exact ht

@[simp] theorem State.rmaEnterNow_memWf (s : State) : (State.rmaEnterNow s).memWf = s.memWf := by
  simp [State.rmaEnterNow]

@[simp] theorem State.sprueReset_memWf (s : State) : (State.sprueReset s).memWf = s.memWf := by
  simp [State.sprueReset]

@[simp] theorem State.perform_memWf {s : State} (a : Deferred) (h : s.memWf = true) : (s.perform a).memWf = true := by
  have ht : ({ s with mgmt := { s.mgmt with defer := none } } : State).memWf = true := h
  unfold State.perform
  cases a with
  | sprueReset => simpa using ht
  | deviceReset => exact State.deviceReset_memWf 2 ht
  | hibernate =>
    dsimp only
    split
    · exact State.hibernateNow_memWf ht
    · exact ht
  | rmaEnter =>
    dsimp only
    split
    · exact ht
    · simpa using ht
  | lcReset => exact State.deviceReset_memWf 4 ht

theorem execDeferredActionTimeout_memWf {s : State} (h : s.memWf = true) : (execDeferredActionTimeout s).memWf = true := by
  unfold execDeferredActionTimeout
  split
  · exact h
  · exact State.perform_memWf _ h

/-! ### The canonical form through the functions of Sprue -/

theorem State.readWords_memWf (n : Nat) {s : State} (a : Nat) (h : s.memWf = true) :
    (s.readWords a n).2.memWf = true := by
  induction n generalizing s a with
  | zero => exact h
  | succ n ih => exact ih (a + 4) (State.regRead_memWf .host a h)

@[simp] theorem State.readMap_memWf {s : State} (a n : Nat) (h : s.memWf = true) : (s.readMap a n).2.2.memWf = true := by
  unfold State.readMap
  split
  · exact h
  · dsimp only
    split
    · split
      · exact State.readWords_memWf _ a h
      · exact h
    · exact h

@[simp] theorem State.frameFlags_memWf (s : State) (x : FrFlags) (timeout : Bool) :
    (State.frameFlags s x timeout).memWf = s.memWf := by
  simp [State.frameFlags]

@[simp] theorem State.selectFall_memWf (s : State) : (State.selectFall s).memWf = s.memWf := by
  simp [State.selectFall]

@[simp] theorem State.driveFor_memWf (m n : Nat) (l : List Byte) (s : State) :
    (State.driveFor m n l s).memWf = s.memWf := by
  simp [State.driveFor]

@[simp] theorem State.drive_memWf (s : State) (m : Nat) (l : List Byte) : (State.drive s m l).memWf = s.memWf := by
  simp [State.drive]

@[simp] theorem State.reject_memWf (s : State) (x : FrFlags) (out : List Byte) :
    (State.reject s x out).memWf = s.memWf := by
  simp [State.reject]

@[simp] theorem State.cutShort_memWf (s : State) (x : FrFlags) (out : List Byte) (n : Nat) (timeout : Bool) :
    (State.cutShort s x out n timeout).memWf = s.memWf := by
  simp [State.cutShort]

@[simp] theorem State.acceptFrame_memWf (s : State) (c : Cmd) (a : Byte) :
    (State.acceptFrame s c a).memWf = s.memWf := by
  simp [State.acceptFrame]

theorem State.frame_memWf {s : State} (c : Cmd) (f : Sys2Proof.Frame) {fetch : State → Fetch} {land : State → State}
    (h : s.memWf = true) (hf : (fetch s).2.2.memWf = true) (hl : ∀ t, t.memWf = true → (land t).memWf = true) :
    (s.frame c f fetch land).memWf = true := by
  unfold State.frame
  dsimp only
  split
  · exact h
  · split
    · simpa using h
    · split
      · exact h
      · split
        · simpa using h
        · split
          · simpa using h
          · rw [State.frameFlags_memWf, State.drive_memWf]
            exact hl _ ((State.acceptFrame_memWf _ _ _).trans hf)

theorem State.writeWords_memWf (n : Nat) {s : State} (a : Nat) (l : List Byte) (h : s.memWf = true) :
    (s.writeWords a l n).memWf = true := by
  induction n generalizing s a l with
  | zero => exact h
  | succ n ih => exact ih (a + 4) (l.drop 4) (State.regWrite_memWf .host a _ h)

@[simp] theorem State.landWrite_memWf {s : State} (f : Sys2Proof.Frame) (h : s.memWf = true) : (s.landWrite f).memWf = true := by
  unfold State.landWrite
  split
  · exact State.writeWords_memWf _ _ _ h
  · exact State.stageWrite_memWf _ _ h

@[simp] theorem State.writeFrame_memWf {s : State} (f : Sys2Proof.Frame) (h : s.memWf = true) : (s.writeFrame f).memWf = true :=
  State.frame_memWf .write f h h fun _ ht => State.landWrite_memWf f ht

@[simp] theorem State.post_memWf (s : State) (l : List Byte) : (State.post s l).memWf = s.memWf := by
  simp [State.post]

@[simp] theorem State.postFrame_memWf {s : State} (f : Sys2Proof.Frame) (h : s.memWf = true) : (s.postFrame f).memWf = true :=
  State.frame_memWf .post f h h fun t ht => (t.post_memWf f.data).trans ht

@[simp] theorem State.takeHead_memWf {s : State} (r : Reply) (rest : List Reply) (h : s.memWf = true) :
    (s.takeHead r rest).memWf = true := by
  unfold State.takeHead
  dsimp only
  split
  · exact State.perform_memWf _ h
  · exact h

@[simp] theorem State.takeData_memWf (s : State) (n : Nat) : (s.takeData n).2.2.memWf = s.memWf := by
  unfold State.takeData
  split <;> rfl

@[simp] theorem State.landTake_memWf {s : State} (n : Nat) (h : s.memWf = true) : (s.landTake n).memWf = true := by
  unfold State.landTake
  split
  · exact h
  · split
    · exact h
    · exact State.takeHead_memWf _ _ h

@[simp] theorem State.fetch_memWf {s : State} (c : Cmd) (f : Sys2Proof.Frame) (h : s.memWf = true) : (s.fetch c f).2.2.memWf = true := by
  unfold State.fetch
  split <;> simp [h]

@[simp] theorem State.takeFrame_memWf {s : State} (f : Sys2Proof.Frame) (h : s.memWf = true) : (s.takeFrame f).memWf = true :=
  State.frame_memWf .take f h (State.fetch_memWf .take f h) fun _ ht => State.landTake_memWf _ ht

@[simp] theorem State.readFrame_memWf {s : State} (f : Sys2Proof.Frame) (h : s.memWf = true) : (s.readFrame f).memWf = true :=
  State.frame_memWf .read f h (State.fetch_memWf .read f h) fun _ ht => ht

@[simp] theorem State.statusFrame_memWf {s : State} (f : Sys2Proof.Frame) (h : s.memWf = true) : (s.statusFrame f).memWf = true :=
  State.frame_memWf .status f h (State.fetch_memWf .status f h) fun _ ht => ht

@[simp] theorem State.echoFrame_memWf {s : State} (f : Sys2Proof.Frame) (h : s.memWf = true) : (s.echoFrame f).memWf = true :=
  State.frame_memWf .echo f h (State.fetch_memWf .echo f h) fun _ ht => ht

@[simp] theorem State.ofCmd_memWf {s : State} (c : Cmd) (f : Sys2Proof.Frame) (h : s.memWf = true) : (s.ofCmd c f).memWf = true := by
  cases c <;> simp [State.ofCmd, h]

@[simp] theorem State.cutFrame_memWf {s : State} (cmd : Byte) (f : Sys2Proof.Frame) (k : CutAt) (timeout : Bool) (h : s.memWf = true) :
    (s.cutFrame cmd f k timeout).memWf = true := by
  unfold State.cutFrame
  split
  · exact h
  · split
    · split <;> simpa using h
    · split
      · simpa using h
      · simpa using h
      · dsimp only
        split
        · simpa using h
        · split
          · simpa using h
          · rw [State.cutShort_memWf]
            split
            · exact State.fetch_memWf _ f h
            · exact h

@[simp] theorem State.takeSeen_memWf {s : State} (x : Seen) (h : s.memWf = true) : (s.takeSeen x).memWf = true := by
  cases x with
  | whole c g => exact State.ofCmd_memWf c g h
  | cut cmd g k => exact State.cutFrame_memWf cmd g k false h

@[simp] theorem State.readCycles_memWf {s : State} (cmd : Byte) (f : Sys2Proof.Frame) (cycles : Nat) (h : s.memWf = true) :
    (s.readCycles cmd f cycles).memWf = true := State.takeSeen_memWf _ h

@[simp] theorem State.clocked_memWf {s : State} (c : Cmd) (f : Sys2Proof.Frame) (h : s.memWf = true) : (s.clocked c f).memWf = true := by
  have hs : s.selectFall.memWf = true := s.selectFall_memWf.trans h
  unfold State.clocked
  dsimp only
  split
  · exact State.ofCmd_memWf c f hs
  · exact State.takeSeen_memWf _ hs

theorem execWrite_memWf (f : Sys2Proof.Frame) {s : State} (h : s.memWf = true) : (execWrite f s).memWf = true := by
  simp [execWrite, h]

theorem execPost_memWf (f : Sys2Proof.Frame) {s : State} (h : s.memWf = true) : (execPost f s).memWf = true := by
  simp [execPost, h]

theorem execRead_memWf (f : Sys2Proof.Frame) {s : State} (h : s.memWf = true) : (execRead f s).memWf = true := by
  simp [execRead, h]

theorem execTake_memWf (f : Sys2Proof.Frame) {s : State} (h : s.memWf = true) : (execTake f s).memWf = true := by
  simp [execTake, h]

theorem execStatus_memWf (f : Sys2Proof.Frame) {s : State} (h : s.memWf = true) : (execStatus f s).memWf = true := by
  simp [execStatus, h]

theorem execEcho_memWf (f : Sys2Proof.Frame) {s : State} (h : s.memWf = true) : (execEcho f s).memWf = true := by
  simp [execEcho, h]

theorem execUnknownCmdFrame_memWf (cmd : Byte) (f : Sys2Proof.Frame) {s : State} (h : s.memWf = true) :
    (execUnknownCmdFrame cmd f s).memWf = true := by
  have hr (n : Nat) : (s.selectFall.readCycles cmd f n).memWf = true :=
    State.readCycles_memWf cmd f n (s.selectFall_memWf.trans h)
  unfold execUnknownCmdFrame
  dsimp only
  rw [Res.memWf_ite, Res.memWf_ite]
  simp [h, hr]

theorem execFrameAbort_memWf (cmd : Byte) (f : Sys2Proof.Frame) (cycles : Nat) {s : State} (h : s.memWf = true) :
    (execFrameAbort cmd f cycles s).memWf = true :=
  State.readCycles_memWf cmd f cycles (s.selectFall_memWf.trans h)

@[simp] theorem State.expire_memWf {s : State} (x : Seen) (h : s.memWf = true) : (s.expire x).memWf = true := by
  cases x <;> exact State.cutFrame_memWf _ _ _ _ h

theorem execFrameTimeout_memWf {s : State} (h : s.memWf = true) : (execFrameTimeout s).memWf = true :=
  State.expire_memWf _ ((State.selectFall_memWf _).trans h)

theorem execSprueIdleReset_memWf {s : State} (h : s.memWf = true) : (execSprueIdleReset s).memWf = true := by
  simp [execSprueIdleReset, h]

/-! ### The canonical form through the functions of Monitor -/

@[simp] theorem State.monLog_memWf (s : State) (code : Nat) : (State.monLog s code).memWf = s.memWf := by
  simp [State.monLog]

@[simp] theorem State.monLatchOnly_memWf (s : State) (k : Nat) : (State.monLatchOnly s k).memWf = s.memWf := by
  simp [State.monLatchOnly]

@[simp] theorem State.monLatch_memWf (s : State) (k : Nat) : (State.monLatch s k).memWf = s.memWf := by
  simp [State.monLatch]

theorem execMonBootDone_memWf (romOk : Bool) {s : State} (h : s.memWf = true) :
    (execMonBootDone romOk s).memWf = true := by
  simp [execMonBootDone, h]

theorem execQuenchRequest_memWf {s : State} (h : s.memWf = true) : (execQuenchRequest s).memWf = true := by
  simp [execQuenchRequest, h]

theorem execExternalQuench_memWf {s : State} (h : s.memWf = true) : (execExternalQuench s).memWf = true := by
  simp [execExternalQuench, h]

theorem execExternalQuenchEnd_memWf {s : State} (h : s.memWf = true) : (execExternalQuenchEnd s).memWf = true := by
  simp [execExternalQuenchEnd, h]

theorem execMonlost_memWf {s : State} (h : s.memWf = true) : (execMonlost s).memWf = true := by
  simp [execMonlost, h]

theorem execSignatureCheck_memWf {s : State} (h : s.memWf = true) : (execSignatureCheck s).memWf = true := by
  simp [execSignatureCheck, h]

@[simp] theorem State.tickDeviates_memWf (s : State) : (State.tickDeviates s).memWf = s.memWf := by
  simp [State.tickDeviates]

theorem execTickMarker_memWf (monCycles : Nat) {s : State} (h : s.memWf = true) :
    (execTickMarker monCycles s).memWf = true := by
  simp [execTickMarker, h]

theorem execTickMarkerTimeout_memWf {s : State} (h : s.memWf = true) : (execTickMarkerTimeout s).memWf = true := by
  simp [execTickMarkerTimeout, h]

theorem execSupplyWindowFault_memWf (rail : Fin 3) {s : State} (h : s.memWf = true) :
    (execSupplyWindowFault rail s).memWf = true := by
  simp [execSupplyWindowFault, h]

theorem execLcReport_memWf {s : State} (h : s.memWf = true) : (execLcReport s).memWf = true := by
  simp [execLcReport, h]

theorem execAin11Compare_memWf (ratio : Int) (refNv : Nat) {s : State} (h : s.memWf = true) :
    (execAin11Compare ratio refNv s).memWf = true := by
  unfold execAin11Compare
  split <;> simp [h]

theorem execVm0Compare_memWf (monMv : Int) {s : State} (h : s.memWf = true) : (execVm0Compare monMv s).memWf = true := by
  unfold execVm0Compare
  split <;> simp [h]

theorem execValueCrossingTransfer_memWf (which : Fin 6) {s : State} (h : s.memWf = true) :
    (execValueCrossingTransfer which s).memWf = true := by
  simp only [execValueCrossingTransfer]
  (repeat' split) <;> simp [h]

@[simp] theorem State.witness_memWf (s : State) (r : WitReq) (data : Option (List Byte)) :
    (State.witness s r data).memWf = s.memWf := by
  simp [State.witness]

theorem execWitnessStatus_memWf (r : WitReq) {s : State} (h : s.memWf = true) :
    (execWitnessStatus r s).memWf = true := by
  simp [execWitnessStatus, h]

theorem execWitnessReadB_memWf (r : WitReq) {s : State} (h : s.memWf = true) : (execWitnessReadB r s).memWf = true := by
  simp [execWitnessReadB, h]

theorem execWitnessReadLog_memWf (r : WitReq) {s : State} (h : s.memWf = true) :
    (execWitnessReadLog r s).memWf = true := by
  simp [execWitnessReadLog, h]

theorem execWitnessUnknownCmd_memWf (r : WitReq) {s : State} (h : s.memWf = true) :
    (execWitnessUnknownCmd r s).memWf = true := by
  simp [execWitnessUnknownCmd, h]

theorem execWitnessGapTimeout_memWf {s : State} (h : s.memWf = true) : (execWitnessGapTimeout s).memWf = true := by
  simp [execWitnessGapTimeout, h]

theorem execDebugSessionAttempt_memWf {s : State} (h : s.memWf = true) : (execDebugSessionAttempt s).memWf = true := by
  simp [execDebugSessionAttempt, h]

/-! ### The canonical form through the functions of Thermal -/

@[simp] theorem State.stopNvm_memWf (s : State) : (State.stopNvm s).memWf = s.memWf := by
  unfold State.stopNvm
  split <;> simp

@[simp] theorem State.stopClear_memWf (s : State) : (State.stopClear s).memWf = s.memWf := by
  unfold State.stopClear
  split <;> simp

@[simp] theorem State.stopJournal_memWf {s : State} (h : s.memWf = true) : s.stopJournal.memWf = true :=
  State.memWf_withJrn (s := s) h (Journal.copiesWf_cut true true (State.copiesWf h))

@[simp] theorem State.shutdown_memWf {s : State} (h : s.memWf = true) : s.shutdown.memWf = true := by
  have ha : (((s.stdFinish.cancelActivation.abortTest fun _ => true).stopNvm.stopClear).stopJournal).memWf = true :=
    State.stopJournal_memWf (by simp [h])
  unfold State.shutdown
  split
  case h_5 => exact h
  all_goals
    revert ha
    dsimp only
    generalize State.stopJournal _ = a
    intro ha
    simpa using ha

@[simp] theorem State.brokenEvents_memWf (s : State) (old new : Vector Sensor 22) :
    (State.brokenEvents s old new).memWf = s.memWf := by
  simp [State.brokenEvents]

@[simp] theorem State.classEvents_memWf (s : State) (c : Fin 6) (o x : ThClass) :
    (State.classEvents s c o x).memWf = s.memWf := by
  simp [State.classEvents]

@[simp] theorem State.throttle_memWf (s : State) (oldCtl : Nat) : (State.throttle s oldCtl).memWf = s.memWf := by
  simp [State.throttle]

@[simp] theorem State.riseStops_memWf (s : State) (old new : Vector ThClass 6) :
    (State.riseStops s old new).memWf = s.memWf := by
  simp [State.riseStops]

theorem execTemperatureReading_memWf (counts : List Nat) {s : State} (h : s.memWf = true) :
    (execTemperatureReading counts s).memWf = true := by
  simp [execTemperatureReading, h]

theorem execMonTemperatureReading_memWf (r : MonTemps) {s : State} (h : s.memWf = true) :
    (execMonTemperatureReading r s).memWf = true := by
  simp [execMonTemperatureReading, h]

theorem execThrottlePauseEnd_memWf (n : Fin 4) {s : State} (h : s.memWf = true) :
    (execThrottlePauseEnd n s).memWf = true := by
  simp [execThrottlePauseEnd, h]

/-! ### Every command, and the step -/

theorem exec_slotOp_memWf {i : Instr} (hi : isSlotOp i = true) {s : State} (h : s.memWf = true) :
    Res.memWf (exec i s) = true := by
  rw [exec_slotOp hi]
  exact State.pourRow_memWf h (issueOp_memWf i h)

/-- Every command keeps the canonical form: a slot operation by its row of the pour, each other command by its own lemma. -/
theorem exec_memWf (i : Instr) {s : State} (h : s.memWf = true) : Res.memWf (exec i s) = true := by
  cases i with
  | mul | mac | msu | madv | mulv | mova | movac | lda | clra | adda | sincos | atan2 | sqrt | recip | mag | add
  | sub | addw | subw | neg | abs | min | max | clamp | sel | mov | push | subh | and | or | xor | andn | shl
  | shr | shll | shrl | shrr | ldi | lui | cmplt | cmple | cmpeq | cmpne | cmpltu | tstb | pand | por | pxor | ld
  | st | ldx | stx | ldr | str | strc | tint | prd | pwr | pwri =>
    exact exec_slotOp_memWf rfl h
  | tickBoundary => exact execTickBoundary_memWf (h := h) ..
  | heatBoundary => exact execHeatBoundary_memWf (h := h) ..
  | heatReservation => exact execHeatReservation_memWf (h := h) ..
  | exchangeSwap => exact execExchangeSwap_memWf (h := h) ..
  | publish => exact execPublish_memWf (h := h) ..
  | boundaryPublish => exact execBoundaryPublish_memWf (h := h) ..
  | heat0Read => exact execHeat0Read_memWf (h := h) ..
  | bundleIssue => exact execBundleIssue_memWf (h := h) ..
  | pourStatRead => exact execPourStatRead_memWf (h := h) ..
  | registerWrite => exact execRegisterWrite_memWf (h := h) ..
  | axisFaultApply => exact execAxisFaultApply_memWf (h := h) ..
  | mouldBegin => exact execMouldBegin_memWf (h := h) ..
  | mouldCheck => exact execMouldCheck_memWf (h := h) ..
  | mouldCheckDone => exact execMouldCheckDone_memWf (h := h) ..
  | mouldCommit => exact execMouldCommit_memWf (h := h) ..
  | mouldCommitDone => exact execMouldCommitDone_memWf (h := h) ..
  | mouldStore => exact execMouldStore_memWf (h := h) ..
  | mouldStoreDone => exact execMouldStoreDone_memWf (h := h) ..
  | mouldSelect => exact execMouldSelect_memWf (h := h) ..
  | mouldSelectCopyDone => exact execMouldSelectCopyDone_memWf (h := h) ..
  | liveLoadComplete => exact execLiveLoadComplete_memWf (h := h) ..
  | getId => exact execGetId_memWf (h := h) ..
  | getStatus => exact execGetStatus_memWf (h := h) ..
  | getAxis => exact execGetAxis_memWf (h := h) ..
  | getTelemetry => exact execGetTelemetry_memWf (h := h) ..
  | getParam => exact execGetParam_memWf (h := h) ..
  | journalQuery => exact execJournalQuery_memWf (h := h) ..
  | journalRead => exact execJournalRead_memWf (h := h) ..
  | lcState => exact execLcState_memWf (h := h) ..
  | thermalStatus => exact execThermalStatus_memWf (h := h) ..
  | setParam => exact execSetParam_memWf (h := h) ..
  | storeConfig => exact execStoreConfig_memWf (h := h) ..
  | storeConfigDone => exact execStoreConfigDone_memWf (h := h) ..
  | moveTo => exact execMoveTo_memWf (h := h) ..
  | moveVel => exact execMoveVel_memWf (h := h) ..
  | hold => exact execHold_memWf (h := h) ..
  | stop => exact execStop_memWf (h := h) ..
  | release => exact execRelease_memWf (h := h) ..
  | learnTravel => exact execLearnTravel_memWf (h := h) ..
  | home => exact execHome_memWf (h := h) ..
  | resume => exact execResume_memWf (h := h) ..
  | cancel => exact execCancel_memWf (h := h) ..
  | jobStart => exact execJobStart_memWf (h := h) ..
  | immediateJobEffect => exact execImmediateJobEffect_memWf (h := h) ..
  | journalTrim => exact execJournalTrim_memWf (h := h) ..
  | resetFuncAxis => exact execResetFuncAxis_memWf (h := h) ..
  | resetFuncLink => exact execResetFuncLink_memWf (h := h) ..
  | resetFuncSns => exact execResetFuncSns_memWf (h := h) ..
  | resetFuncSprue => exact execResetFuncSprue_memWf (h := h) ..
  | resetFuncRunner => exact execResetFuncRunner_memWf (h := h) ..
  | resetFuncMailbox => exact execResetFuncMailbox_memWf (h := h) ..
  | resetFuncDone => exact execResetFuncDone_memWf (h := h) ..
  | resetDevice => exact execResetDevice_memWf (h := h) ..
  | hibernate => exact execHibernate_memWf (h := h) ..
  | clearFault => exact execClearFault_memWf (h := h) ..
  | loopbackSprue => exact execLoopbackSprue_memWf (h := h) ..
  | loopbackRunner => exact execLoopbackRunner_memWf (h := h) ..
  | loopbackPlind => exact execLoopbackPlind_memWf (h := h) ..
  | loopbackGateDrive => exact execLoopbackGateDrive_memWf (h := h) ..
  | loopbackPhaseSensing => exact execLoopbackPhaseSensing_memWf (h := h) ..
  | loopbackConverter => exact execLoopbackConverter_memWf (h := h) ..
  | loopbackFieldInputs => exact execLoopbackFieldInputs_memWf (h := h) ..
  | loopbackDone => exact execLoopbackDone_memWf (h := h) ..
  | selftest => exact execSelftest_memWf (h := h) ..
  | selftestDone => exact execSelftestDone_memWf (h := h) ..
  | lcAdvance => exact execLcAdvance_memWf (h := h) ..
  | lcRmaChallenge => exact execLcRmaChallenge_memWf (h := h) ..
  | lcRmaEnter => exact execLcRmaEnter_memWf (h := h) ..
  | lcSetMouldKey => exact execLcSetMouldKey_memWf (h := h) ..
  | nonceExpiry => exact execNonceExpiry_memWf (h := h) ..
  | rmaWipeDone => exact execRmaWipeDone_memWf (h := h) ..
  | hostSilence => exact execHostSilence_memWf (h := h) ..
  | deferredActionTimeout => exact execDeferredActionTimeout_memWf (h := h) ..
  | commit => exact execCommit_memWf (h := h) ..
  | recordProgrammed => exact execRecordProgrammed_memWf (h := h) ..
  | write => exact execWrite_memWf (h := h) ..
  | post => exact execPost_memWf (h := h) ..
  | read => exact execRead_memWf (h := h) ..
  | take => exact execTake_memWf (h := h) ..
  | status => exact execStatus_memWf (h := h) ..
  | echo => exact execEcho_memWf (h := h) ..
  | frameAbort => exact execFrameAbort_memWf (h := h) ..
  | frameTimeout => exact execFrameTimeout_memWf (h := h) ..
  | sprueIdleReset => exact execSprueIdleReset_memWf (h := h) ..
  | runnerMouldStart => exact execRunnerMouldStart_memWf (h := h) ..
  | runnerMgmtStart => exact execRunnerMgmtStart_memWf (h := h) ..
  | runnerComplete => exact execRunnerComplete_memWf (h := h) ..
  | lockRead => exact execLockRead_memWf (h := h) ..
  | lockRelease => exact execLockRelease_memWf (h := h) ..
  | mbDataWrite => exact execMbDataWrite_memWf (h := h) ..
  | mbDoorbell => exact execMbDoorbell_memWf (h := h) ..
  | mbAck => exact execMbAck_memWf (h := h) ..
  | mbCancel => exact execMbCancel_memWf (h := h) ..
  | mbTimeout => exact execMbTimeout_memWf (h := h) ..
  | mblockWrite => exact execMblockWrite_memWf (h := h) ..
  | qlockWrite => exact execQlockWrite_memWf (h := h) ..
  | gpioPulseEnd => exact execGpioPulseEnd_memWf (h := h) ..
  | eventCrossingDelivery => exact execEventCrossingDelivery_memWf (h := h) ..
  | valueCrossingTransfer => exact execValueCrossingTransfer_memWf (h := h) ..
  | drvEventWord => exact execDrvEventWord_memWf (h := h) ..
  | tickFrame => exact execTickFrame_memWf (h := h) ..
  | immediateMessage => exact execImmediateMessage_memWf (h := h) ..
  | registerMessage => exact execRegisterMessage_memWf (h := h) ..
  | registerAckTimeout => exact execRegisterAckTimeout_memWf (h := h) ..
  | senseFrame => exact execSenseFrame_memWf (h := h) ..
  | statusFrame => exact execStatusFrame_memWf (h := h) ..
  | crystalLoss => exact execCrystalLoss_memWf (h := h) ..
  | snsPllUnlock => exact execSnsPllUnlock_memWf (h := h) ..
  | periodWrap => exact execPeriodWrap_memWf (h := h) ..
  | compareMatch => exact execCompareMatch_memWf (h := h) ..
  | deadTimeEnd => exact execDeadTimeEnd_memWf (h := h) ..
  | handshakeRelease => exact execHandshakeRelease_memWf (h := h) ..
  | handshakeTimeout => exact execHandshakeTimeout_memWf (h := h) ..
  | hstoClear => exact execHstoClear_memWf (h := h) ..
  | enSet => exact execEnSet_memWf (h := h) ..
  | enClear => exact execEnClear_memWf (h := h) ..
  | brakeBackupEngage => exact execBrakeBackupEngage_memWf (h := h) ..
  | brakeBackupRelease => exact execBrakeBackupRelease_memWf (h := h) ..
  | syncChainPulse => exact execSyncChainPulse_memWf (h := h) ..
  | syncmiss => exact execSyncmiss_memWf (h := h) ..
  | syncAcquire => exact execSyncAcquire_memWf (h := h) ..
  | syncEdge => exact execSyncEdge_memWf (h := h) ..
  | syncEdgeMissing => exact execSyncEdgeMissing_memWf (h := h) ..
  | tripSourceChange => exact execTripSourceChange_memWf (h := h) ..
  | tripAssert => exact execTripAssert_memWf (h := h) ..
  | tripRelease => exact execTripRelease_memWf (h := h) ..
  | tflagClear => exact execTflagClear_memWf (h := h) ..
  | pwmStatRead => exact execPwmStatRead_memWf (h := h) ..
  | vdsBlankingEnd => exact execVdsBlankingEnd_memWf (h := h) ..
  | fpglowAssert => exact execFpglowAssert_memWf (h := h) ..
  | fpglowRelease => exact execFpglowRelease_memWf (h := h) ..
  | bstuvAssert => exact execBstuvAssert_memWf (h := h) ..
  | refreshStart => exact execRefreshStart_memWf (h := h) ..
  | refreshTimeEnd => exact execRefreshTimeEnd_memWf (h := h) ..
  | vmLockoutEngage => exact execVmLockoutEngage_memWf (h := h) ..
  | vmLockoutRelease => exact execVmLockoutRelease_memWf (h := h) ..
  | modulatorLostClock => exact execModulatorLostClock_memWf (h := h) ..
  | bitstreamStuck => exact execBitstreamStuck_memWf (h := h) ..
  | sensMean0Read => exact execSensMean0Read_memWf (h := h) ..
  | conversionComplete => exact execConversionComplete_memWf (h := h) ..
  | injectedTrigger => exact execInjectedTrigger_memWf (h := h) ..
  | refselWrite => exact execRefselWrite_memWf (h := h) ..
  | refrdySet => exact execRefrdySet_memWf (h := h) ..
  | referenceLoss => exact execReferenceLoss_memWf (h := h) ..
  | adrvRead => exact execAdrvRead_memWf (h := h) ..
  | ain11Compare => exact execAin11Compare_memWf (h := h) ..
  | vm0Compare => exact execVm0Compare_memWf (h := h) ..
  | fiFilterChange => exact execFiFilterChange_memWf (h := h) ..
  | fiStuck => exact execFiStuck_memWf (h := h) ..
  | fiChatterWindowEnd => exact execFiChatterWindowEnd_memWf (h := h) ..
  | fiTestPulseStart => exact execFiTestPulseStart_memWf (h := h) ..
  | fiTestPulseCheck => exact execFiTestPulseCheck_memWf (h := h) ..
  | fiConfigWrite => exact execFiConfigWrite_memWf (h := h) ..
  | fiStateRead => exact execFiStateRead_memWf (h := h) ..
  | hallEdge => exact execHallEdge_memWf (h := h) ..
  | hallRateDeferEnd => exact execHallRateDeferEnd_memWf (h := h) ..
  | encoderEdge => exact execEncoderEdge_memWf (h := h) ..
  | encoderZEdge => exact execEncoderZEdge_memWf (h := h) ..
  | hallConfigWrite => exact execHallConfigWrite_memWf (h := h) ..
  | temperatureReading => exact execTemperatureReading_memWf (h := h) ..
  | monTemperatureReading => exact execMonTemperatureReading_memWf (h := h) ..
  | throttlePauseEnd => exact execThrottlePauseEnd_memWf (h := h) ..
  | thTemp0Read => exact execThTemp0Read_memWf (h := h) ..
  | signatureCheck => exact execSignatureCheck_memWf (h := h) ..
  | tickMarker => exact execTickMarker_memWf (h := h) ..
  | tickMarkerTimeout => exact execTickMarkerTimeout_memWf (h := h) ..
  | supplyWindowFault => exact execSupplyWindowFault_memWf (h := h) ..
  | lcReport => exact execLcReport_memWf (h := h) ..
  | quenchRequest => exact execQuenchRequest_memWf (h := h) ..
  | externalQuench => exact execExternalQuench_memWf (h := h) ..
  | externalQuenchEnd => exact execExternalQuenchEnd_memWf (h := h) ..
  | monlost => exact execMonlost_memWf (h := h) ..
  | witnessStatus => exact execWitnessStatus_memWf (h := h) ..
  | witnessReadB => exact execWitnessReadB_memWf (h := h) ..
  | witnessReadLog => exact execWitnessReadLog_memWf (h := h) ..
  | witnessGapTimeout => exact execWitnessGapTimeout_memWf (h := h) ..
  | monFaultRead => exact execMonFaultRead_memWf (h := h) ..
  | trdataRead => exact execTrdataRead_memWf (h := h) ..
  | debugSessionAttempt => exact execDebugSessionAttempt_memWf (h := h) ..
  | porRelease => exact execPorRelease_memWf (h := h) ..
  | vddFall => exact execVddFall_memWf (h := h) ..
  | retentionExpiry => exact execRetentionExpiry_memWf (h := h) ..
  | resetnAssert => exact execResetnAssert_memWf (h := h) ..
  | resetnRelease => exact execResetnRelease_memWf (h := h) ..
  | watchdogExpiry => exact execWatchdogExpiry_memWf (h := h) ..
  | monBootDone => exact execMonBootDone_memWf (h := h) ..
  | firmwareVerified => exact execFirmwareVerified_memWf (h := h) ..
  | bootComplete => exact execBootComplete_memWf (h := h) ..
  | wake => exact execWake_memWf (h := h) ..
  | unlistedOpcode => exact execUnlistedOpcode_memWf (h := h) ..
  | unknownCmdFrame => exact execUnknownCmdFrame_memWf (h := h) ..
  | witnessUnknownCmd => exact execWitnessUnknownCmd_memWf (h := h) ..
  | bstuvRelease => exact execBstuvRelease_memWf (h := h) ..
  | v5CurrentLimit => exact execV5CurrentLimit_memWf (h := h) ..
  | lcAdvanceDone => exact execLcAdvanceDone_memWf (h := h) ..
  | lcSetMouldKeyDone => exact execLcSetMouldKeyDone_memWf (h := h) ..
  | lcRmaEnterDone => exact execLcRmaEnterDone_memWf (h := h) ..

theorem step_memWf {s t : State} (h : s.memWf = true) (hs : step s = .next t) : t.memWf = true := by
  unfold step at hs
  split at hs
  · cases hs
    exact h
  · rename_i c rest _
    have ht := exec_memWf c (s := { s with pending := rest }) h
    rw [hs] at ht
    exact ht

/-- Settles O60: every command keeps the canonical form of each memory. -/
theorem memoriesStayCanonical : Obligations.MemoriesStayCanonical := by
  unfold Obligations.MemoriesStayCanonical
  exact fun _ _ => step_memWf

end Sys2Proof.Machine
end

section
/-! SUPPORT. The values of the state after reset, group by group (O2). -/

namespace Sys2Proof.Machine

/-! ### The state after reset -/

/-- Tables 7-3 to 7-9 and 9-5, 10-10: what every drive die and every position block starts with. -/
theorem State.reset_axis (n : Fin 4) :
    (State.reset.axis n).st = .disabled ∧ (State.reset.axis n).drv.ctrl = 0 ∧ (State.reset.axis n).drv.dt = 100 ∧
    (State.reset.axis n).drv.brkhw = 0x8000EBE1 ∧ (State.reset.axis n).drv.gdrv = 0x44404440 ∧
    (State.reset.axis n).drv.gbst = 0x1434 ∧ (State.reset.axis n).drv.ghs = 1 ∧
    (State.reset.axis n).drv.gvds = 0x000A0909 ∧ (State.reset.axis n).drv.gocf = 0x16 ∧
    (State.reset.axis n).drv.gvm = 0xF213 ∧ (State.reset.axis n).drv.sctrl = 0x70 ∧
    (State.reset.axis n).drv.tcfg.get 0 = 0x1000047F ∧ (State.reset.hall.get n).cfg = 0x03E81900 := by
  revert n
  decide

theorem State.reset_fieldInput (k : Fin 16) :
    (State.reset.fi.inp.get k).cfg = 0x0914001E ∧ State.reset.locks.owner.get k = 0 := by
  revert k
  decide

/-- Table 14-5: DEV0 is the boot record's; DEV1 to DEV7 start alike. -/
theorem State.reset_runnerDevice (k : Fin 8) (hk : 1 ≤ k.val) :
    State.reset.run.deva.get k = 0x08000000 ∧ State.reset.run.devb.get k = 0x140A0A01 := by
  revert k
  decide

/-- Table 15-8, as log entry 42 reads it. -/
theorem State.reset_bindings :
    (State.reset.mail.ch.get 0).bind = 0x0A12 ∧ (State.reset.mail.ch.get 1).bind = 0x0A32 ∧
    (State.reset.mail.ch.get 2).bind = 0x0A31 := by
  decide

theorem State.reset_noShootThrough : State.reset.noShootThrough := by
  unfold State.noShootThrough Axis.noShootThrough
  intro n p
  revert n
  cases p <;> decide

/-- Settles O2: each register group by its value after reset, the invariants by the values they read. -/
theorem resetHasTheSpecsValues : Obligations.ResetHasTheSpecsValues := by
  unfold Obligations.ResetHasTheSpecsValues
  refine ⟨⟨rfl, rfl, rfl, State.reset_axis, State.reset_fieldInput, rfl, rfl, rfl, rfl, rfl, rfl, rfl, rfl, ?_⟩, ?_⟩
  · obtain ⟨h0, h1, h2⟩ := State.reset_bindings
    exact ⟨h0, h1, h2, State.reset_runnerDevice⟩
  · exact ⟨fun _ => rfl, rfl, State.reset_noShootThrough⟩

end Sys2Proof.Machine
end

section
/-! SUPPORT. Resets, HIBERNATE, RMA entry and CLEAR_FAULT taken from the ladle, and the deferred actions (11 R364, O52). -/

namespace Sys2Proof.Machine

/-! ### The journal at a reset -/

theorem Journal.cut_idle {j : Journal} (okA okB : Bool) (h : j.com = []) : j.cut okA okB = j.idle := by
  simp only [Journal.cut, h]

theorem Journal.drain_idle {j : Journal} (h : j.com = []) : j.drain = j.idle := by
  simp only [Journal.drain, h, List.foldl_nil]

/-- A record in progress that the engines complete stands in both copies at the index it was for (R373). -/
theorem Journal.get_drain {j : Journal} {w : Pend} (h : j.com = [w]) (ha : Sparse.wf Slot.blank j.a = true)
    (hb : Sparse.wf Slot.blank j.b = true) :
    Sparse.get .blank j.here j.drain.a = .ok w.r ∧ Sparse.get .blank j.here j.drain.b = .ok w.r := by
  have hj : j.drain.a = Sparse.put .blank j.here (.ok w.r) j.a ∧ j.drain.b = Sparse.put .blank j.here (.ok w.r) j.b := by
    simp only [Journal.drain, h, List.foldl_cons, List.foldl_nil]
    exact ⟨rfl, rfl⟩
  rw [hj.1, hj.2]
  exact ⟨Sparse.get_put_same _ 0 ha, Sparse.get_put_same _ 0 hb⟩

/-! ### What stands in NVM and in the retention cells (20 Table 20-5a) -/

theorem State.coldLc_of_free {s : State} (hb : s.bgFree = true) (hr : s.lc.rma = false) : s.coldLc = s.lc.cold := by
  simp only [State.bgFree, Option.isNone_iff_eq_none] at hb
  simp [State.coldLc, hr, hb]

/-- NVM, the retention cells and the commands to come are the same in both states. -/
def State.NvmKept (s t : State) : Prop :=
  t.jrn.a = s.jrn.a ∧ t.jrn.b = s.jrn.b ∧ t.jrn.wp = s.jrn.wp ∧ t.mgmt.stored = s.mgmt.stored ∧ t.tick.ring = s.tick.ring ∧
    t.mgmt.flog = s.mgmt.flog ∧
    (s.bgFree = true → s.lc.rma = false → t.lc.mem = s.lc.mem ∧ t.lc.mkey = s.lc.mkey) ∧
    t.pwr.therm = s.pwr.therm ∧ t.mon.fault = s.mon.fault ∧ t.pending = s.pending

theorem State.coldLc_kept (s : State) (hb : s.bgFree = true) (hr : s.lc.rma = false) :
    s.coldLc.mem = s.lc.mem ∧ s.coldLc.mkey = s.lc.mkey := by
  rw [State.coldLc_of_free hb hr]
  exact ⟨rfl, rfl⟩

theorem State.reboot_nvmKept {s : State} (cause : BitVec 3) (ph : BootPhase) (h : s.jrn.com = []) :
    s.NvmKept (s.reboot cause ph) := by
  have hc : s.jrn.cut true true = s.jrn.idle := Journal.cut_idle true true h
  have hj : (s.reboot cause ph).jrn = s.jrn.idle.cold := congrArg Journal.cold hc
  exact ⟨(congrArg Journal.a hj).trans rfl, (congrArg Journal.b hj).trans rfl, (congrArg Journal.wp hj).trans rfl, rfl, rfl, rfl,
    State.coldLc_kept s, rfl, rfl, rfl⟩

theorem State.hibernateNow_nvmKept {s : State} (h : s.jrn.com = []) : s.NvmKept s.hibernateNow := by
  have hj : s.hibernateNow.jrn = s.jrn.idle.cold := congrArg Journal.cold (Journal.drain_idle h)
  exact ⟨(congrArg Journal.a hj).trans rfl, (congrArg Journal.b hj).trans rfl, (congrArg Journal.wp hj).trans rfl, rfl, rfl, rfl,
    State.coldLc_kept s, rfl, rfl, rfl⟩

/-! ### The actions that wait for their reply -/

theorem exec_deferredAction {s : State} {a : Deferred} {q : Word} (h : s.mgmt.defer = some (a, q)) :
    exec .deferredActionTimeout s = .next (s.perform a) := by
  change execDeferredActionTimeout s = _
  simp only [execDeferredActionTimeout, h]

/-- The state in which a deferred action takes place. -/
def State.deferTaken (s : State) : State := { s with mgmt := { s.mgmt with defer := none } }

theorem State.resettable_of_dev {s : State} (h : s.dev = .ready ∨ s.dev = .run ∨ s.dev = .safe) : s.resettable = true := by
  obtain h | h | h := h <;> simp [State.resettable, h]

/-- RESET_DEVICE and the reset of LC_ADVANCE differ in their cause only. -/
theorem State.perform_reset {s : State} {x : Deferred × BitVec 3}
    (hx : x ∈ [(Deferred.deviceReset, (2 : BitVec 3)), (.lcReset, 4)])
    (h : s.dev = .ready ∨ s.dev = .run ∨ s.dev = .safe) : s.perform x.1 = s.deferTaken.reboot x.2 .rom := by
  have hr : s.deferTaken.resettable = true := State.resettable_of_dev h
  have hd (c : BitVec 3) : s.deferTaken.deviceReset c = s.deferTaken.reboot c .rom := if_pos hr
  simp only [List.mem_cons, List.not_mem_nil, or_false] at hx
  obtain rfl | rfl := hx
  · exact hd 2
  · exact hd 4

theorem State.perform_hibernate {s : State} (h : s.dev = .ready) : s.perform .hibernate = s.deferTaken.hibernateNow :=
  if_pos h

theorem State.perform_rmaEnter {s : State} (h : s.dev ≠ .thermalLatch) : s.perform .rmaEnter = s.deferTaken.rmaEnterNow :=
  if_neg h

/-! ### The packets -/

theorem exec_resetDevice_takes {s : State} {p : List Byte} (hd : s.mgmt.defer = none) (h : s.takes 0x0602 p = true)
    (hc : pPar p 0 4 = 0x5A5A0602) : exec .resetDevice s = .next (s.headOff.deferAction p .deviceReset) := by
  change execResetDevice s = _
  simp [execResetDevice, hd, State.onPacket_takes h, hc, State.unless]

theorem exec_hibernate_takes {s : State} {p : List Byte} (hd : s.mgmt.defer = none) (h : s.takes 0x0603 p = true)
    (hl : s.headOff.mgmt.ladle = []) (hb : s.bgFree = true) (hj : s.jrn.waits = false) :
    exec .hibernate s = .next (s.headOff.deferAction p .hibernate) := by
  change execHibernate s = _
  simp [execHibernate, hd, State.onPacket_takes h, hl, hb, hj, State.unless]

theorem Frame.of_mgmt (s : State) (g : Mgmt) : Frame [.mgmt] s { s with mgmt := g } := by
  intro p hp
  cases p with
  | mgmt => exact absurd (List.mem_singleton.2 rfl) hp
  | _ => rfl

/-- CLEAR_FAULT waits for the boundary with the cause of the tick it came in (18 R508). -/
theorem exec_clearFault_takes {s : State} {p : List Byte} (hc : s.mgmt.clr = none) (h : s.takes 0x0604 p = true) :
    exec .clearFault s = .next { s with mgmt := { s.mgmt with
      ladle := s.mgmt.ladle.tail, reserved := s.mgmt.reserved + 1
      clr := some ((pAx p).setWidth 4, pSeq p, s.mgmt.tickCause) } } := by
  change execClearFault s = _
  simp only [execClearFault, hc, Option.isSome_none, Bool.false_and, Bool.false_eq_true, if_false, State.onPacket_takes h]
  rfl

/-- Settles O52: each packet by the row that takes it, each action by what `State.perform` does for it. -/
theorem deferredActionsTakePlace : Obligations.DeferredActionsTakePlace := by
  unfold Obligations.DeferredActionsTakePlace
  intro s p q u nvm
  refine ⟨exec_resetDevice_takes, exec_hibernate_takes, ?_, exec_deferredAction, ?_, ?_, ?_, ?_⟩
  · intro hc h
    refine ⟨_, exec_clearFault_takes hc h, rfl, rfl, rfl, .of_mgmt s _⟩
  · intro x hx hd hdev hj
    refine ⟨_, (exec_deferredAction hd).trans (congrArg _ (State.perform_reset hx hdev)), rfl, rfl, rfl, rfl, rfl, rfl, rfl, ?_,
      State.reboot_nvmKept (s := s.deferTaken) x.2 .rom hj⟩
    intro n
    exact (State.reset_axis n).1
  · intro hd hdev
    exact ⟨_, (exec_deferredAction hd).trans (congrArg _ (State.perform_hibernate hdev)), rfl, rfl, rfl, rfl,
      fun hj => State.hibernateNow_nvmKept (s := s.deferTaken) hj⟩
  · intro w hd hdev hj ha hb
    obtain ⟨h1, h2⟩ := Journal.get_drain hj ha hb
    exact ⟨_, (exec_deferredAction hd).trans (congrArg _ (State.perform_hibernate hdev)), rfl, h1, h2⟩
  · intro hd hdev
    exact (exec_deferredAction hd).trans (congrArg _ (State.perform_rmaEnter hdev))

end Sys2Proof.Machine
end

section
/-! SUPPORT. The boot (20 R540 to R543) and the wipe of RMA (19 R521), O56. -/

namespace Sys2Proof.Machine

/-! ### What writing back the stored registers leaves alone -/

/-- What the boot decides and no register write of it moves: that the device is in BOOT, its supplies, its life cycle. -/
def State.bootView (s : State) : Bool × Power × Lc := (decide (s.dev = .boot), s.pwr, s.lc)

@[simp] theorem State.bootView_mk (pending : List Instr) (dev : DevState) (safecause : BitVec 4) (tick : Tick) (exch : Exch)
    (pour : Pour) (moulds : Moulds) (mgmt : Mgmt) (jrn : Journal) (spr : Sprue) (run : Runner) (evm : Evm) (locks : Locks)
    (mail : Mail) (ax : Four Axis) (std : StdSt) (conv : Conv) (fi : Fi) (hall : Four Hall) (hallFlag : BitVec 12)
    (th : Thermal) (mon : Mon) (lc : Lc) (pwr : Power) (sync : SyncSt) (latch : Sparse Word) (rdata : Word) :
    State.bootView ⟨pending, dev, safecause, tick, exch, pour, moulds, mgmt, jrn, spr, run, evm, locks, mail, ax, std, conv, fi,
      hall, hallFlag, th, mon, lc, pwr, sync, latch, rdata⟩ = (decide (dev = .boot), pwr, lc) := rfl

@[simp] theorem bootView_self (s : State) : (decide (s.dev = .boot), s.pwr, s.lc) = s.bootView := rfl

/-- BOOT is neither left nor entered by an entry to SAFE (01 Table 1-6). -/
@[simp] theorem State.enterSafe_dev_boot (s : State) (c : BitVec 4) : (s.enterSafe c).dev = .boot ↔ s.dev = .boot := by
  unfold State.enterSafe
  split
  · simp [State.clrCause, State.setDev, *]
  · simp [State.clrCause, State.setDev, *]
  · simp [State.clrCause, *]
  · rfl

@[simp] theorem State.raise_dev_boot (s : State) (k : Nat) : (s.raise k).dev = .boot ↔ s.dev = .boot := by
  unfold State.raise State.quenchFor
  dsimp only
  split
  · exact State.enterSafe_dev_boot _ 3
  · rfl

@[simp] theorem State.raise_bootView (s : State) (k : Nat) : (s.raise k).bootView = s.bootView := by
  simp only [State.bootView, State.raise_dev_boot, State.raise_pwr, State.raise_lc]

@[simp] theorem State.raiseIf_bootView (s : State) (b : Bool) (k : Nat) : (s.raiseIf b k).bootView = s.bootView := by
  unfold State.raiseIf
  split <;> simp

@[simp] theorem State.updMb_bootView (s : State) (ch : Fin 16) (f : MbCh → MbCh) : (s.updMb ch f).bootView = s.bootView := rfl

@[simp] theorem State.mbConsume_bootView (s : State) (ch : Fin 16) (b : Bool) : (s.mbConsume ch b).bootView = s.bootView := by
  unfold State.mbConsume
  split <;> simp

@[simp] theorem State.mbCancelMsg_bootView (s : State) (ch : Fin 16) (b : Bool) :
    (s.mbCancelMsg ch b).bootView = s.bootView := by
  unfold State.mbCancelMsg
  split <;> simp

@[simp] theorem State.mbRing_bootView (s : State) (ch : Fin 16) (b : Bool) : (s.mbRing ch b).bootView = s.bootView := by
  unfold State.mbRing
  split <;> simp

@[simp] theorem State.bootView_ite (c : Prop) [Decidable c] (s t : State) :
    (if c then s else t).bootView = if c then s.bootView else t.bootView := apply_ite _ c s t

@[simp] theorem State.mbCtrl_bootView (s : State) (ch : Fin 16) (val : Word) (b : Bool) :
    (s.mbCtrl ch val b).bootView = s.bootView := by
  simp [State.mbCtrl]

@[simp] theorem State.mbWrite_bootView (s : State) (m : Master) (a : Nat) (val : Word) :
    (s.mbWrite m a val).bootView = s.bootView := by
  unfold State.mbWrite State.asEnd
  dsimp only
  split
  · simp [State.mbData, State.mbFlagClear]
  · rfl

@[simp] theorem State.evmWrite_bootView (s : State) (m : Master) (o : Nat) (val : Word) :
    (s.evmWrite m o val).bootView = s.bootView := by
  simp [State.evmWrite, State.qlockSet]

@[simp] theorem State.lockBlockWrite_bootView (s : State) (m : Master) (o : Nat) (val : Word) :
    (s.lockBlockWrite m o val).bootView = s.bootView := by
  simp [State.lockBlockWrite, State.lockWrite, State.mbBind, State.mblockSet]

@[simp] theorem State.syncWrite_bootView (s : State) (val : Word) : (s.syncWrite val).bootView = s.bootView := by
  simp [State.syncWrite]

@[simp] theorem State.axisWrite_bootView (s : State) (m : Master) (n : Fin 4) (o : Nat) (val : Word) :
    (s.axisWrite m n o val).bootView = s.bootView := by
  simp [State.axisWrite, State.updAxis, State.setAxis]

@[simp] theorem State.raiseSns_bootView (s : State) (k : Nat) : (s.raiseSns k).bootView = s.bootView := rfl

@[simp] theorem State.convWrite_bootView (s : State) (o : Nat) (val : Word) : (s.convWrite o val).bootView = s.bootView := by
  simp [State.convWrite, State.refselSet, State.convHonour]

@[simp] theorem State.hallConfig_bootView (s : State) (n : Fin 4) (val : Word) :
    (s.hallConfig n val).bootView = s.bootView := by
  simp [State.hallConfig, State.showInvalid, State.updHall]

@[simp] theorem State.fiWrite_bootView (s : State) (o : Nat) (val : Word) : (s.fiWrite o val).bootView = s.bootView := by
  simp [State.fiWrite, State.fiConfig, State.updFi]

theorem State.bootView_withRun (s : State) (r : Runner) : ({ s with run := r } : State).bootView = s.bootView := rfl

@[simp] theorem State.runDevWrite_bootView (s : State) (o : Nat) (val : Word) : (s.runDevWrite o val).bootView = s.bootView := by
  unfold State.runDevWrite
  split
  · exact State.raise_bootView s 194
  · dsimp only
    split <;> exact State.bootView_withRun s _

@[simp] theorem State.sprWrite_bootView (s : State) (o : Nat) (val : Word) : (s.sprWrite o val).bootView = s.bootView := by
  simp [State.sprWrite]

@[simp] theorem State.sysWrite_bootView (s : State) (o : Nat) (val : Word) : (s.sysWrite o val).bootView = s.bootView := by
  simp [State.sysWrite]

@[simp] theorem State.regSet_bootView (s : State) (m : Master) (a : Nat) (val : Word) :
    (s.regSet m a val).bootView = s.bootView := by
  unfold State.regSet
  simp only [State.bootView_ite, State.evmWrite_bootView, State.lockBlockWrite_bootView, State.mbWrite_bootView,
    State.axisWrite_bootView, State.convWrite_bootView, State.fiWrite_bootView, State.sprWrite_bootView,
    State.sysWrite_bootView, ite_self]

theorem State.updDrv_bootView (s : State) (n : Fin 4) (f : Drv → Drv) : (s.updDrv n f).bootView = s.bootView := rfl

@[simp] theorem State.bootReg_bootView (s : State) (e : Nat × Option Word) : (s.bootReg e).bootView = s.bootView := by
  unfold State.bootReg
  split
  · rfl
  · split
    · split
      · exact State.syncWrite_bootView s _
      · exact State.updDrv_bootView s _ _
    · exact State.regSet_bootView s .mgmt _ _

/-- A fold of steps that each keep the view keeps it. -/
theorem foldl_bootView {α : Type} {f : State → α → State} (hf : ∀ s x, (f s x).bootView = s.bootView) (l : List α) (s : State) :
    (l.foldl f s).bootView = s.bootView :=
  List.foldlRecOn (motive := fun t : State => t.bootView = s.bootView) l f rfl fun t ht x _ => (hf t x).trans ht

@[simp] theorem State.bootMail_bootView (s : State) : s.bootMail.bootView = s.bootView := by
  unfold State.bootMail
  split
  · refine Eq.trans rfl (foldl_bootView (fun t e => ?_) _ s)
    unfold State.bootBind
    split <;> rfl
  · rfl

/-- Step 7 moves of the view the boot phase alone. -/
theorem State.mgmtStart_bootView (s : State) :
    s.mgmtStart.bootView = (decide (s.dev = .boot), { s.pwr with phase := .mgmt }, s.lc) := by
  unfold State.mgmtStart
  dsimp only
  rw [State.bootMail_bootView, foldl_bootView State.bootReg_bootView]
  rfl

/-! ### The life-cycle state at boot (19 R513, R521) -/

/-- The life-cycle block once a wipe that its flag asks for in RMA has run. -/
def Lc.booted (l : Lc) : Lc :=
  if l.load.1.wipe && decide (l.load.1.st = 3) then { l.load.1 with mkey := none, rkey := none, wipe := false } else l.load.1

theorem Lc.booted_st (l : Lc) : l.booted.st = l.load.1.st := by
  unfold Lc.booted
  split <;> rfl

theorem Lc.load_wipe (l : Lc) : l.load.1.wipe = l.wipe := by
  unfold Lc.load
  split <;> rfl

/-- R514: the port is open outside FIELD. -/
theorem Lc.booted_dbg (l : Lc) : l.booted.dbg = decide (l.booted.st ≠ 2) := by
  have hl : l.load.1.dbg = decide (l.load.1.st ≠ 2) := by
    unfold Lc.load
    split <;> rfl
  unfold Lc.booted
  split <;> exact hl

theorem Lc.load_st_of_both {l : Lc} {x y : BitVec 2} (hx : l.ctl = some x) (hy : l.mem = some y) :
    l.load.1.st = if x.toNat < y.toNat then y else x := by
  simp only [Lc.load, hx, hy]

theorem Lc.load_st_of_none {l : Lc} (hx : l.ctl = none) (hy : l.mem = none) : l.load.1.st = 2 := by
  simp only [Lc.load, hx, hy]

theorem State.lcBoot_bootView (s : State) : s.lcBoot.bootView = (decide (s.dev = .boot), s.pwr, s.lc.booted) := by
  unfold State.lcBoot Lc.booted
  dsimp only
  rw [State.raiseIf_bootView]
  split <;> rfl

/-- Steps 4 to 7 with an image that verifies. -/
def State.startedBy (s : State) (fwb : Bool) : State :=
  ({ s with pwr := { s.pwr with fwb := fwb } } : State).powerUp.lcBoot.mgmtStart

theorem exec_firmwareVerified_good {s : State} {imgA imgB : Bool} (hp : s.pwr.phase = .rom) (hd : s.dev = .boot)
    (hi : imgA = true ∨ imgB = true) : exec (.firmwareVerified imgA imgB) s = .next (s.startedBy !imgA) := by
  have hi' : (imgA || imgB) = true := by simpa using hi
  exact (if_pos ⟨hp, .inl hd⟩).trans (if_pos hi')

theorem exec_firmwareVerified_bad {s : State} (hp : s.pwr.phase = .rom) (hd : s.dev = .boot) :
    exec (.firmwareVerified false false) s =
      .next { s with pwr := { s.pwr with phase := .stuck }, mon := { s.mon with dev := .boot, heat := 0 } } := by
  change execFirmwareVerified false false s = _
  simp only [execFirmwareVerified, hp, hd, Bool.or_self, Bool.false_eq_true, true_and, true_or, if_true, if_false]

theorem State.mgmtStart_lcBoot {u : State} (h : u.dev = .boot) :
    u.lcBoot.mgmtStart.dev = .boot ∧ u.lcBoot.mgmtStart.pwr = { u.pwr with phase := .mgmt } ∧
      u.lcBoot.mgmtStart.lc = u.lc.booted := by
  have hm := State.mgmtStart_bootView u.lcBoot
  have hl := State.lcBoot_bootView u
  simp only [State.bootView, Prod.mk.injEq] at hm hl
  obtain ⟨hmd, hmp, hml⟩ := hm
  obtain ⟨hld, hlp, hll⟩ := hl
  exact ⟨of_decide_eq_true ((hmd.trans hld).trans (decide_eq_true h)), hlp ▸ hmp, hml.trans hll⟩

theorem State.startedBy_fields {s : State} (fwb : Bool) (h : s.dev = .boot) :
    (s.startedBy fwb).dev = .boot ∧ (s.startedBy fwb).pwr.phase = .mgmt ∧ (s.startedBy fwb).pwr.fwb = fwb ∧
      (s.startedBy fwb).lc = s.lc.booted := by
  obtain ⟨hd, hp, hl⟩ :=
    State.mgmtStart_lcBoot (u := ({ s with pwr := { s.pwr with fwb := fwb } } : State).powerUp) h
  exact ⟨hd, congrArg Power.phase hp, congrArg Power.fwb hp, hl⟩

/-- In BOOT an event changes nothing of what is stored. -/
theorem State.raiseIf_stored {s : State} (b : Bool) (k : Nat) (h : s.dev = .boot) :
    (s.raiseIf b k).mgmt.stored = s.mgmt.stored := by
  have hs (t : State) (ht : t.dev = .boot) : (t.quenchFor k).mgmt.stored = t.mgmt.stored := by
    unfold State.quenchFor
    rw [State.enterSafe_boot t 3 ht]
    split <;> rfl
  unfold State.raiseIf
  split
  · exact hs _ h
  · rfl

theorem State.mgmtStart_of_erased {s : State} (h : s.mgmt.stored = {}) :
    s.mgmtStart.mgmt.stored = {} ∧ s.mgmtStart.jrn = s.jrn := by
  unfold State.mgmtStart State.bootMail
  simp only [h, List.foldl_nil]
  split <;> exact ⟨rfl, rfl⟩

/-- R542: a boot that finds the flag of a wipe set erases NVM. -/
theorem State.startedBy_wiped {s : State} (fwb : Bool) (h : s.dev = .boot) (hw : s.lc.wipe = true) (hl : s.lc.load.1.st = 3) :
    (s.startedBy fwb).mgmt.stored = {} ∧ (s.startedBy fwb).jrn.a = [] ∧ (s.startedBy fwb).jrn.b = [] := by
  have hb : ∃ u : State, u.dev = .boot ∧ u.mgmt.stored = {} ∧ u.jrn.a = [] ∧ u.jrn.b = [] ∧
      ({ s with pwr := { s.pwr with fwb := fwb } } : State).powerUp.lcBoot = u.raiseIf s.lc.load.2 255 := by
    refine ⟨({ ({ s with pwr := { s.pwr with fwb := fwb } } : State).powerUp with lc := s.lc.load.1 } : State).wipeAll, h, rfl,
      rfl, rfl, ?_⟩
    have hc : (s.lc.load.1.wipe && decide (s.lc.load.1.st = 3)) = true := by simp [Lc.load_wipe, hw, hl]
    exact congrArg (State.raiseIf s.lc.load.2 255) (if_pos hc)
  obtain ⟨u, hu, hs, ha, hb, he⟩ := hb
  obtain ⟨h1, h2⟩ := State.mgmtStart_of_erased ((State.raiseIf_stored s.lc.load.2 255 hu).trans hs)
  unfold State.startedBy
  rw [he, h1, h2, State.raiseIf_jrn]
  exact ⟨rfl, ha, hb⟩

/-! ### The wipe of RMA -/

theorem exec_rmaWipeDone {s : State} (hr : s.lc.rma = true) (hd : s.resettable = true) : exec .rmaWipeDone s =
    .next (({ s with lc := { s.lc.program 3 with rma := false } } : State).wipeAll.reboot 4 .rom) :=
  (if_pos ⟨hr, hd⟩).trans (congrArg _ (if_pos hd))

/-- What a reset leaves of a state whose NVM was erased with no command of a background operation in progress. -/
theorem State.reboot_of_erased {s : State} (cause : BitVec 3) (ph : BootPhase) (hj : s.jrn.a = [] ∧ s.jrn.b = [] ∧ s.jrn.com = [])
    (hb : s.bgFree = true) (hr : s.lc.rma = false) :
    (s.reboot cause ph).jrn.a = [] ∧ (s.reboot cause ph).jrn.b = [] ∧ (s.reboot cause ph).moulds.cust = s.moulds.cust ∧
      (s.reboot cause ph).lc = s.lc.cold := by
  obtain ⟨ha, hb', hc⟩ := hj
  obtain ⟨ka, kb, -⟩ := State.reboot_nvmKept cause ph hc
  have hbg : s.mgmt.bg = none := by simpa [State.bgFree] using hb
  refine ⟨ka.trans ha, kb.trans hb', ?_, State.coldLc_of_free hb hr⟩
  change s.coldSlots = _
  simp only [State.coldSlots, hbg]

/-! ### The replay leaves what step 9 reads -/

/-- What the end of the boot reads: supplies, MON's side, the tick and the records of the journal. -/
def State.replayView (s : State) : Power × Mon × Tick × List (Nat × JRec) := (s.pwr, s.mon, s.tick, s.jrn.recs)

theorem foldl_replayView {α : Type} {f : State → α → State} (hf : ∀ s x, (f s x).replayView = s.replayView) (l : List α)
    (s : State) : (l.foldl f s).replayView = s.replayView :=
  List.foldlRecOn (motive := fun t : State => t.replayView = s.replayView) l f rfl fun t ht x _ => (hf t x).trans ht

theorem State.applyPar_replayView (s : State) (persist : Bool) (e : Nat × Word) :
    (s.applyPar persist e).replayView = s.replayView := by
  have hpar (t : State) : (t.setPar persist e).replayView = t.replayView := by
    unfold State.setPar
    dsimp only
    split <;> rfl
  unfold State.applyPar
  split
  · split
    · rfl
    · exact hpar s
  · exact hpar _
  · exact hpar s

theorem State.applyConfig_replayView (s : State) (r : JRec) : (s.applyConfig r).replayView = s.replayView :=
  foldl_replayView (fun t e => t.applyPar_replayView true e) (cfgEntries 5 r.param) s

theorem State.replayConfig_replayView (s : State) : s.replayConfig.replayView = s.replayView :=
  foldl_replayView (f := fun (t : State) (x : Nat × JRec) => t.applyConfig x.2)
    (fun t x => t.applyConfig_replayView x.2) _ s

theorem State.transition_replayView (s : State) (q : Job) (st : Nat) (cause : Word) (replay : Bool) :
    (s.transition q st cause replay).replayView = s.replayView := by
  unfold State.transition
  split <;> rfl

theorem State.replayEnd_replayView (s : State) (q : Job) (disp : Nat) : (s.replayEnd q disp).replayView = s.replayView :=
  s.transition_replayView q disp 0 true

theorem State.replayEndAll_replayView (s : State) (l : List Job) (disp : Nat) :
    (s.replayEndAll l disp).replayView = s.replayView :=
  foldl_replayView (fun t q => t.replayEnd_replayView q disp) l s

theorem State.replayImmediate_replayView (s : State) (n : Fin 4) (q : Job) :
    (s.replayImmediate n q).replayView = s.replayView := by
  unfold State.replayImmediate
  dsimp only
  rw [State.replayEnd_replayView]
  split
  · exact State.replayEndAll_replayView ..
  · split
    · exact State.replayEndAll_replayView ..
    · rfl

theorem State.replayAxis_replayView (started : List Word) (s : State) (n : Fin 4) :
    (State.replayAxis started s n).replayView = s.replayView := by
  have hj (t : State) (f : JobAx → JobAx) : (t.updJax n f).replayView = t.replayView := rfl
  have hi (t : State) (l : List Job) : (l.foldl (fun t q => t.replayImmediate n q) t).replayView = t.replayView :=
    foldl_replayView (fun t q => t.replayImmediate_replayView n q) l t
  unfold State.replayAxis
  dsimp only
  split
  · rw [State.replayEndAll_replayView]
    (repeat' split) <;> simp only [State.replayEnd_replayView, State.replayEndAll_replayView, hi]
  · split
    · rw [hj]
      (repeat' split) <;> simp only [State.replayEnd_replayView, State.replayEndAll_replayView, hi]
    · (repeat' split) <;> simp only [State.replayEnd_replayView, State.replayEndAll_replayView, hi]

theorem State.replayJobs_replayView (s : State) : s.replayJobs.replayView = s.replayView := by
  unfold State.replayJobs
  dsimp only
  rw [foldl_replayView (State.replayAxis_replayView _)]
  rfl

theorem State.replay_replayView (s : State) : s.replay.replayView = (s.pwr, s.mon, s.tick, s.jrn.replayed.recs) := by
  have hc := State.replayConfig_replayView { s with jrn := s.jrn.replayed }
  unfold State.replay
  rw [State.replayJobs_replayView, hc]
  rfl

/-! ### The entry to SAFE, by the state it finds -/

theorem State.enterSafe_of_ready {s : State} (c : BitVec 4) (h : s.dev = .ready) :
    (s.enterSafe c).dev = .safe ∧ (s.enterSafe c).safecause = c := by
  simp [State.enterSafe, h, State.clrCause, State.setDev]

theorem State.enterSafe_of_safe {s : State} (c : BitVec 4) (h : s.dev = .safe) : (s.enterSafe c).dev = .safe := by
  simp [State.enterSafe, h, State.clrCause]

theorem State.enterSafe_of_thermalLatch {s : State} (c : BitVec 4) (h : s.dev = .thermalLatch) : s.enterSafe c = s := by
  simp [State.enterSafe, h]

/-- The tick runs on through the entry to SAFE. -/
theorem State.enterSafe_tick (s : State) (c : BitVec 4) : (s.enterSafe c).tick.on = s.tick.on ∧
    (s.enterSafe c).tick.hidx = s.tick.hidx ∧ (s.enterSafe c).tick.heat = s.tick.heat := by
  have hp (t : State) : t.cancelPend.tick.on = t.tick.on ∧ t.cancelPend.tick.hidx = t.tick.hidx ∧
      t.cancelPend.tick.heat = t.tick.heat := by
    unfold State.cancelPend
    split
    · exact ⟨rfl, rfl, rfl⟩
    · split
      · exact ⟨rfl, rfl, rfl⟩
      · dsimp only
        split <;> exact ⟨rfl, rfl, rfl⟩
  unfold State.enterSafe
  split
  case h_4 => exact ⟨rfl, rfl, rfl⟩
  all_goals simp [State.clrCause, State.cancelActivation, hp]

/-- The entry to SAFE where `b` asks for it. -/
def State.safeIf (b : Prop) [Decidable b] (c : BitVec 4) (s : State) : State := if b then s.enterSafe c else s

section
variable (b : Prop) [Decidable b] (c : BitVec 4) (s : State)

@[simp] theorem State.safeIf_qext : (s.safeIf b c).mon.qext = s.mon.qext := by
  unfold State.safeIf
  split
  · rw [State.enterSafe_mon]
  · rfl

@[simp] theorem State.safeIf_req : (s.safeIf b c).mon.req = s.mon.req := by
  unfold State.safeIf
  split
  · rw [State.enterSafe_mon]
  · rfl

@[simp] theorem State.safeIf_pwr : (s.safeIf b c).pwr = s.pwr := by
  unfold State.safeIf
  split <;> simp

@[simp] theorem State.safeIf_evm : (s.safeIf b c).evm = s.evm := by
  unfold State.safeIf
  split <;> simp

theorem State.safeIf_tick : (s.safeIf b c).tick.on = s.tick.on ∧ (s.safeIf b c).tick.hidx = s.tick.hidx ∧
    (s.safeIf b c).tick.heat = s.tick.heat := by
  unfold State.safeIf
  split
  · exact s.enterSafe_tick c
  · exact ⟨rfl, rfl, rfl⟩

theorem State.safeIf_of_safe {s : State} (h : s.dev = .safe) : (s.safeIf b c).dev = .safe := by
  unfold State.safeIf
  split
  · exact State.enterSafe_of_safe c h
  · exact h

theorem State.safeIf_of_thermalLatch {s : State} (h : s.dev = .thermalLatch) : s.safeIf b c = s := by
  unfold State.safeIf
  split
  · exact State.enterSafe_of_thermalLatch c h
  · rfl

end

theorem State.safeIf_neg {b : Prop} [Decidable b] {c : BitVec 4} {s : State} (h : ¬b) : s.safeIf b c = s := if_neg h
theorem State.safeIf_pos {b : Prop} [Decidable b] {c : BitVec 4} {s : State} (h : b) : s.safeIf b c = s.enterSafe c :=
  if_pos h

/-! ### The end of the boot -/

/-- Step 9 before the entries to SAFE: the tick runs, and the latch decides the state. -/
def State.bootTick (s : State) : State :=
  let l := s.pwr.kept && (s.pwr.therm || decide (s.mon.fault ≠ 0))
  let t := ({ s with pwr := { s.pwr with phase := .done, latchb := l }, evm := { s.evm with qlock := true } } : State).startTick
  { t with dev := if t.pwr.therm then .thermalLatch else .ready }

/-- The three reasons for SAFE, in their order (R542, log entry 45). -/
def State.bootSafe (s : State) : State :=
  let v := s.bootTick.safeIf (s.bootTick.mon.fault ≠ 0) 1
  let w := v.safeIf (v.mon.qext = true) 2
  w.safeIf (w.mon.req = true) 3

theorem State.bootState_eq (s : State) :
    s.bootState = { s.bootSafe with mon := { s.bootSafe.mon with xDev := { hold := some s.bootSafe.dev } } } := rfl

theorem State.bootSafe_eq (s : State) : s.bootSafe =
    ((s.bootTick.safeIf (s.mon.fault ≠ 0) 1).safeIf (s.mon.qext = true) 2).safeIf (s.mon.req = true) 3 := by
  simp only [State.bootSafe, State.safeIf_qext, State.safeIf_req]
  rfl

theorem State.bootSafe_kept (s : State) : s.bootSafe.pwr.phase = .done ∧ s.bootSafe.evm.qlock = true ∧
    s.bootSafe.tick.on = true ∧ s.bootSafe.tick.hidx = 0 ∧ s.bootSafe.tick.heat = s.resumeHeat := by
  rw [State.bootSafe_eq]
  simp only [State.safeIf_tick, State.safeIf_pwr, State.safeIf_evm]
  exact ⟨rfl, rfl, rfl, rfl, rfl⟩

theorem State.bootSafe_of_therm {s : State} (h : s.pwr.therm = true) : s.bootSafe.dev = .thermalLatch := by
  have hb : s.bootTick.dev = .thermalLatch := if_pos h
  simp only [State.bootSafe_eq, State.safeIf_of_thermalLatch _ _ hb, hb]

section
variable {s : State} (ht : s.pwr.therm = false)
include ht

theorem State.bootTick_ready : s.bootTick.dev = .ready := if_neg (ht ▸ Bool.false_ne_true)

theorem State.bootSafe_ready (hf : s.mon.fault = 0) (hq : s.mon.qext = false) (hr : s.mon.req = false) :
    s.bootSafe.dev = .ready := by
  simp [State.bootSafe_eq, State.safeIf, hf, hq, hr, State.bootTick_ready ht]

theorem State.bootSafe_of_fault (hf : s.mon.fault ≠ 0) : s.bootSafe.dev = .safe := by
  rw [State.bootSafe_eq, State.safeIf_pos hf]
  exact State.safeIf_of_safe _ _ (State.safeIf_of_safe _ _ (State.enterSafe_of_ready 1 (State.bootTick_ready ht)).1)

theorem State.bootSafe_of_fault_only (hf : s.mon.fault ≠ 0) (hq : s.mon.qext = false) (hr : s.mon.req = false) :
    s.bootSafe.safecause = 1 := by
  rw [State.bootSafe_eq, State.safeIf_pos hf, hq, hr]
  exact (State.enterSafe_of_ready 1 (State.bootTick_ready ht)).2

theorem State.bootSafe_of_quench_held (hf : s.mon.fault = 0) (hq : s.mon.qext = true) (hr : s.mon.req = false) :
    s.bootSafe.dev = .safe ∧ s.bootSafe.safecause = 2 := by
  rw [State.bootSafe_eq, State.safeIf_neg (not_not_intro hf), hq, hr]
  exact State.enterSafe_of_ready 2 (State.bootTick_ready ht)

theorem State.bootSafe_of_quench_requested (hf : s.mon.fault = 0) (hq : s.mon.qext = false) (hr : s.mon.req = true) :
    s.bootSafe.dev = .safe ∧ s.bootSafe.safecause = 3 := by
  rw [State.bootSafe_eq, State.safeIf_neg (not_not_intro hf), hq, hr]
  exact State.enterSafe_of_ready 3 (State.bootTick_ready ht)

end

/-- R19: the tick resumes at no less than what the journal's records say. -/
theorem State.nextHeat_le_resumeHeat (s : State) (h : s.tick.reserved < 2 ^ 64) :
    s.jrn.nextHeat.toNat ≤ s.resumeHeat.toNat := by
  have hj : s.jrn.nextHeat.toNat < 2 ^ 64 := s.jrn.nextHeat.isLt
  have hm : Nat.max s.jrn.nextHeat.toNat s.tick.reserved < 2 ^ 64 := Nat.max_lt.2 ⟨hj, h⟩
  rw [State.resumeHeat, BitVec.toNat_ofNat, Nat.mod_eq_of_lt hm]
  exact Nat.le_max_left ..

theorem Tick.reserved_lt (t : Tick) : t.reserved < 2 ^ 64 :=
  List.foldlRecOn (motive := fun m => m < 2 ^ 64) t.ring _ (by decide) fun m hm x _ => Nat.max_lt.2 ⟨hm, x.2.isLt⟩

theorem exec_bootComplete {s : State} (h : s.pwr.phase = .mgmt) :
    exec .bootComplete s = .next s.replay.bootState.bootMould := if_pos h

/-- Step 10 begins a background copy at most. -/
theorem State.bootMould_eq (s : State) : s.bootMould = { s with mgmt := s.bootMould.mgmt } := by
  unfold State.bootMould
  dsimp only
  split <;> rfl

/-- Settles O56: steps 4 to 7 by what no register write moves, step 9 by the reasons for SAFE in their order. -/
theorem bootDecidesTheState : Obligations.BootDecidesTheState := by
  unfold Obligations.BootDecidesTheState
  intro s imgA imgB
  refine ⟨fun hp hd => ⟨fun hi => ?_, ?_⟩, fun hp => ?_, fun hr hd => ?_⟩
  · obtain ⟨h1, h2, h3, h4⟩ := State.startedBy_fields (!imgA) hd
    have hst : (s.startedBy !imgA).lc.st = s.lc.load.1.st := by rw [h4, Lc.booted_st]
    refine ⟨_, exec_firmwareVerified_good hp hd hi, h2, h3, h1, hst, ?_, ?_, ?_, ?_⟩
    · rw [h4, Lc.booted_dbg]
    · exact fun x y hx hy => hst.trans (Lc.load_st_of_both hx hy)
    · exact fun hx hy => hst.trans (Lc.load_st_of_none hx hy)
    · intro hw hl
      have hl' := hst.symm.trans hl
      obtain ⟨k1, k2, k3⟩ := State.startedBy_wiped (!imgA) hd hw hl'
      have hb : s.lc.booted = { s.lc.load.1 with mkey := none, rkey := none, wipe := false } :=
        if_pos (by simp [Lc.load_wipe, hw, hl'])
      rw [h4, hb]
      exact ⟨k1, k2, k3, rfl, rfl, rfl⟩
  · rintro rfl rfl
    exact exec_firmwareVerified_bad hp hd
  · have hv := s.replay_replayView
    simp only [State.replayView, Prod.mk.injEq] at hv
    obtain ⟨hpwr, hmon, -, hrecs⟩ := hv
    obtain ⟨b1, b2, b3, b4, b5⟩ := s.replay.bootSafe_kept
    have hn : s.replay.jrn.nextHeat = s.jrn.replayed.nextHeat := by simp only [Journal.nextHeat, hrecs]
    have hh := s.replay.nextHeat_le_resumeHeat (Tick.reserved_lt _)
    rw [hn] at hh
    refine ⟨_, exec_bootComplete hp, ?_⟩
    rw [State.bootMould_eq, State.bootState_eq, ← hpwr, ← hmon]
    dsimp only
    exact ⟨b1, b2, State.bootSafe_of_therm, State.bootSafe_ready, State.bootSafe_of_fault, State.bootSafe_of_fault_only,
      State.bootSafe_of_quench_held, State.bootSafe_of_quench_requested, b3, b4, b5 ▸ hh⟩
  · obtain ⟨ha, hb, hc, hl⟩ := State.reboot_of_erased
      (s := ({ s with lc := { s.lc.program 3 with rma := false } } : State).wipeAll) 4 .rom ⟨rfl, rfl, rfl⟩ rfl rfl
    refine ⟨_, exec_rmaWipeDone hr (State.resettable_of_dev hd), rfl, rfl, rfl, hc, ha, hb, rfl, ?_⟩
    rw [hl]
    exact ⟨rfl, rfl, rfl, rfl, rfl⟩

end Sys2Proof.Machine
end

section
/-! SUPPORT. The exchange buffers at XP and at a publication (01 R25 to R28, R590; O16). -/

namespace Sys2Proof.Machine

/-! ### The position reaches XP -/

/-- Reaching a position moves the pour and the tick alone. -/
theorem State.reach_frame (s : State) (c : Nat) : Frame [.tick, .pour] s (s.reach c) := by
  unfold State.reach
  split
  · exact .refl _ s
  · intro p hp
    cases p with
    | tick | pour => simp at hp
    | _ => rfl

/-- It does not look at the exchange buffers nor at MGMT's part. -/
theorem State.reach_withExch (s : State) (e : Exch) (g : Mgmt) (c : Nat) :
    ({ s with exch := e, mgmt := g } : State).reach c = { s.reach c with exch := e, mgmt := g } := by
  have hb : ({ s with exch := e, mgmt := g } : State).bundlesCount = s.bundlesCount := rfl
  unfold State.reach
  rw [hb]
  split <;> rfl

theorem exec_exchangeSwap_idle {s : State} {m : MouldInfo} (hm : s.moulds.active = some m)
    (h : s.exch.xpPast = true ∨ (s.bundlesCount = true ∧ s.pour.nextCy < m.xp)) : exec .exchangeSwap s = .next s := by
  have hc : (s.tick.on && !s.exch.xpPast && s.atXp m) = false := by
    obtain hx | ⟨hb, hn⟩ := h
    · simp [hx]
    · simp [State.atXp, hb, Nat.not_le.2 hn]
  change execExchangeSwap s = _
  simp only [execExchangeSwap, hm, hc, Bool.false_eq_true, if_false]

section
variable {s : State} {m : MouldInfo} (hm : s.moulds.active = some m) (hon : s.tick.on = true) (hx : s.exch.xpPast = false)
  (hat : s.bundlesCount = false ∨ m.xp ≤ s.pour.nextCy)
include hm hon hx hat

theorem exec_exchangeSwap_atXp : exec .exchangeSwap s = .next (s.passXp.reach m.xp) := by
  have ha : s.atXp m = true := by simpa [State.atXp] using hat
  change execExchangeSwap s = _
  simp [execExchangeSwap, hm, hon, hx, ha]

end

/-! ### What XP does -/

/-- An ordinary publication stands and the buffers have not been swapped in the tick (02 R57). -/
def State.swapDue (s : State) : Bool := decide (s.exch.pub = .ordinary) && !s.exch.swapped

/-- The exchange part after XP, but for the snapshot. -/
def State.exchSwapped (s : State) : Exch :=
  if s.swapDue then { s.exch with act := !s.exch.act, pub := .none, swapped := true, xpPast := true }
  else { s.exch with xpPast := true }

/-- MGMT's part after XP: a swap streams a block of the travel store. -/
def State.mgmtSwapped (s : State) : Mgmt :=
  if s.swapDue then { s.mgmt with travel := ({ s with exch := s.exchSwapped } : State).travelSent } else s.mgmt

theorem State.swapAtXp_eq (s : State) : ({ s with exch := { s.exch with xpPast := true } } : State).swapAtXp =
    { s with exch := s.exchSwapped, mgmt := s.mgmtSwapped } := by
  by_cases h : s.exch.pub = .ordinary ∧ s.exch.swapped = false
  · have hd : s.swapDue = true := by simp [State.swapDue, h]
    simp only [State.swapAtXp, State.exchSwapped, State.mgmtSwapped, h, hd]
    rfl
  · have hd : s.swapDue = false := by simpa [State.swapDue] using h
    simp only [State.swapAtXp, State.exchSwapped, State.mgmtSwapped, h, hd]
    rfl

theorem State.passXp_eq {s : State} (hx : s.exch.xpPast = false) (hh : s.tick.hidx ≠ 15) :
    s.passXp = { s with exch := s.exchSwapped, mgmt := s.mgmtSwapped } := by
  simp only [State.passXp, hx, hh, Bool.false_eq_true, if_false]
  exact s.swapAtXp_eq

/-- In tick 15 the snapshot of the heat follows the swap (13 R412). -/
theorem State.passXp_tick15 {s : State} (hx : s.exch.xpPast = false) (hh : s.tick.hidx = 15) :
    s.passXp = { s with
      exch := { s.exchSwapped with
        telem := ({ s with exch := s.exchSwapped } : State).xInact.outb, telemHeat := s.tick.heat }
      mgmt := s.mgmtSwapped } := by
  simp only [State.passXp, hx, hh, Bool.false_eq_true, if_false, if_true]
  rw [s.swapAtXp_eq]
  rfl

theorem State.mgmtSwapped_kept (s : State) : s.mgmtSwapped.outlet = s.mgmt.outlet ∧ s.mgmtSwapped.jobs = s.mgmt.jobs := by
  unfold State.mgmtSwapped
  split <;> exact ⟨rfl, rfl⟩

theorem State.exchSwapped_act (s : State) : s.exchSwapped.act = (s.exch.act != s.swapDue) := by
  unfold State.exchSwapped
  cases s.swapDue <;> simp

theorem State.exchSwapped_bufs (s : State) : s.exchSwapped.buf0 = s.exch.buf0 ∧ s.exchSwapped.buf1 = s.exch.buf1 := by
  unfold State.exchSwapped
  split <;> exact ⟨rfl, rfl⟩

theorem Frame.of_exch_mgmt (s : State) (e : Exch) (g : Mgmt) : Frame [.exch, .mgmt] s { s with exch := e, mgmt := g } := by
  intro p hp
  cases p with
  | exch | mgmt => simp at hp
  | _ => rfl

theorem State.reach_swap_frame (s : State) (e : Exch) (g : Mgmt) (c : Nat) :
    Frame [.exch, .tick, .mgmt, .pour] s { s.reach c with exch := e, mgmt := g } :=
  ((s.reach_frame c).mono (by decide)).trans ((Frame.of_exch_mgmt _ e g).mono (by decide))

/-! ### Publications (R590) -/

theorem State.filled_outb (s : State) (m : MouldInfo) (x : XBuf) : (s.filled m x).outb = x.outb := by
  unfold State.filled
  split <;> rfl

theorem State.setXInact_bufs (s : State) (x : XBuf) : (s.setXInact x).exch.act = s.exch.act ∧
    (s.setXInact x).xAct = s.xAct ∧ (s.setXInact x).xInact = x := by
  unfold State.setXInact State.xAct State.xInact
  split <;> simp [*]

theorem State.setXInact_frame (s : State) (x : XBuf) : Frame [.exch, .mgmt] s (s.setXInact x) := by
  unfold State.setXInact
  split <;> exact .of_exch_mgmt s _ s.mgmt

theorem State.imageTaken_exch (s : State) (m : MouldInfo) : (s.imageTaken m).exch = s.exch := by
  unfold State.imageTaken
  split <;> rfl

theorem State.imageTaken_frame (s : State) (m : MouldInfo) : Frame [.evm] s (s.imageTaken m) := by
  unfold State.imageTaken
  split
  · exact .of_evm s _
  · exact .refl _ s

/-- The buffers of two states whose exchange parts agree in them. -/
theorem State.bufs_of_exch {s t : State} (ha : t.exch.act = s.exch.act) (h0 : t.exch.buf0 = s.exch.buf0)
    (h1 : t.exch.buf1 = s.exch.buf1) : t.xAct = s.xAct ∧ t.xInact = s.xInact := by
  unfold State.xAct State.xInact
  rw [ha, h0, h1]
  exact ⟨rfl, rfl⟩

/-- A publication fills the inactive buffer and stands; the outbound half stays (R26). -/
theorem State.publishFor_spec (s : State) (m : MouldInfo) (k : Pub) : (s.publishFor m k).exch.pub = k ∧
    (s.publishFor m k).exch.act = s.exch.act ∧ (s.publishFor m k).xAct = s.xAct ∧
    (s.publishFor m k).xInact = s.filled m s.xInact ∧ (s.publishFor m k).xInact.outb = s.xInact.outb ∧
    (s.publishFor m k).mgmt.pubWanted = false ∧ Frame [.exch, .mgmt, .evm] s (s.publishFor m k) := by
  obtain ⟨ha, hx, hi⟩ := s.setXInact_bufs (s.filled m s.xInact)
  have he := (s.setXInact (s.filled m s.xInact)).imageTaken_exch m
  have hf : Frame [.exch, .mgmt, .evm] s (s.publishFor m k) :=
    (((s.setXInact_frame _).mono (by decide)).trans ((State.imageTaken_frame _ m).mono (by decide))).trans
      ((Frame.of_exch_mgmt _ _ _).mono (by decide))
  obtain ⟨ea, ei⟩ := State.bufs_of_exch (s := s.setXInact (s.filled m s.xInact)) (t := s.publishFor m k)
    ((congrArg Exch.act he).trans rfl :) ((congrArg Exch.buf0 he).trans rfl :) ((congrArg Exch.buf1 he).trans rfl :)
  have hi' := ei.trans hi
  refine ⟨rfl, (congrArg Exch.act he).trans ha, ea.trans hx, hi', ?_, rfl, hf⟩
  rw [hi', State.filled_outb]

theorem exec_publish_active {s : State} {m : MouldInfo} (hm : s.moulds.active = some m) (hp : s.exch.pub = .none) :
    exec .publish s = .next (s.publishFor m .ordinary) := by
  change execPublish s = _
  simp only [execPublish, hm, hp, if_true]

theorem exec_publish_standing {s : State} (hp : s.exch.pub ≠ .none) : exec .publish s = .next s := by
  change execPublish s = _
  unfold execPublish
  split
  · rfl
  · exact if_neg hp

section
variable {s : State} {m : MouldInfo} {q : Word} {u k : Nat} {h : BitVec 64} {b : Bool}
  (hp : s.moulds.pend = some ⟨.live, some m, 1, q, u, h, k, b⟩)
include hp

theorem exec_boundaryPublish_waits (hc : s.exch.pub = .boundary ∨ (s.tick.hidx = 15 ∧ 0 < s.tick.cy)) :
    exec .boundaryPublish s = .next s := by
  change execBoundaryPublish s = _
  simp only [execBoundaryPublish, hp]
  exact if_pos hc

theorem exec_boundaryPublish_armed (hc : s.tick.hidx ≠ 15 ∨ s.tick.cy = 0) (hb : s.exch.pub ≠ .boundary) :
    exec .boundaryPublish s = .next (s.publishFor m .boundary) := by
  have hn : ¬(s.exch.pub = .boundary ∨ (s.tick.hidx = 15 ∧ 0 < s.tick.cy)) := by
    rintro (h1 | ⟨h1, h2⟩)
    · exact hb h1
    · exact hc.elim (fun c => c h1) fun c => absurd h2 (by omega)
  change execBoundaryPublish s = _
  simp only [execBoundaryPublish, hp]
  exact if_neg hn

end

/-- Settles O16: a swap and a snapshot by what XP does, a publication by what it writes. -/
theorem exchangeBuffersSwap : Obligations.ExchangeBuffersSwap := by
  unfold Obligations.ExchangeBuffersSwap
  refine ⟨fun s m hm hon hh => ⟨fun hx hat => ⟨fun hp hsw => ?_, fun hn => ?_⟩, exec_exchangeSwap_idle hm⟩,
    fun s m hm hon hh hx hat => ?_, fun s => ⟨fun hm => ?_, exec_publish_standing, fun hp => ?_⟩, fun s m hm hp => ?_,
    fun s m q u k h b hp => ⟨exec_boundaryPublish_waits hp, fun hc hb => ?_⟩⟩
  · have hd : s.swapDue = true := by simp [State.swapDue, hp, hsw]
    refine ⟨_, exec_exchangeSwap_atXp hm hon hx hat, ?_⟩
    rw [State.passXp_eq hx hh, State.reach_withExch]
    exact ⟨if_pos hd, rfl, rfl, s.mgmtSwapped_kept.1, s.mgmtSwapped_kept.2, s.reach_swap_frame _ _ _⟩
  · have hd : ¬s.swapDue = true := by
      obtain h | h := hn <;> simp [State.swapDue, h]
    have he : s.exchSwapped = { s.exch with xpPast := true } := if_neg hd
    have hg : s.mgmtSwapped = s.mgmt := if_neg hd
    rw [exec_exchangeSwap_atXp hm hon hx hat, State.passXp_eq hx hh, he, hg]
  · refine ⟨_, exec_exchangeSwap_atXp hm hon hx hat, ?_⟩
    rw [State.passXp_tick15 hx hh, State.reach_withExch]
    exact ⟨rfl, rfl, s.exchSwapped_act, s.exchSwapped_bufs.1, s.exchSwapped_bufs.2, s.reach_swap_frame _ _ _⟩
  · constructor
    · change execExchangeSwap s = _
      simp only [execExchangeSwap, hm]
    · change execPublish s = _
      simp only [execPublish, hm]
  · change execBoundaryPublish s = _
    simp only [execBoundaryPublish, hp]
  · obtain ⟨h1, h2, h3, h4, h5, h6, h7⟩ := s.publishFor_spec m .ordinary
    exact ⟨_, exec_publish_active hm hp, h1, h2, h3, h4, h5, h6, h7⟩
  · obtain ⟨h1, h2, h3, h4, h5, -, h7⟩ := s.publishFor_spec m .boundary
    exact ⟨_, exec_boundaryPublish_armed hp hc hb, h1, h2, h3, h4, h5, h7⟩

end Sys2Proof.Machine
end

section
/-! SUPPORT. The parts of the tick boundary (01 R20, R36): what closes, what the axes do in between, what begins. -/

namespace Sys2Proof.Machine

/-! ### Frames of single parts -/

/-- What a change of the parts listed leaves: a frame is read off part by part. -/
theorem Frame.dev_eq {ps : List Part} {s t : State} (h : Frame ps s t) (hp : Part.dev ∉ ps) : t.dev = s.dev := (h _ hp).symm
theorem Frame.safecause_eq {ps : List Part} {s t : State} (h : Frame ps s t) (hp : Part.safecause ∉ ps) :
    t.safecause = s.safecause := (h _ hp).symm
theorem Frame.tick_eq {ps : List Part} {s t : State} (h : Frame ps s t) (hp : Part.tick ∉ ps) : t.tick = s.tick := (h _ hp).symm
theorem Frame.pour_eq {ps : List Part} {s t : State} (h : Frame ps s t) (hp : Part.pour ∉ ps) : t.pour = s.pour := (h _ hp).symm
theorem Frame.exch_eq {ps : List Part} {s t : State} (h : Frame ps s t) (hp : Part.exch ∉ ps) : t.exch = s.exch := (h _ hp).symm
theorem Frame.moulds_eq {ps : List Part} {s t : State} (h : Frame ps s t) (hp : Part.moulds ∉ ps) : t.moulds = s.moulds :=
  (h _ hp).symm
theorem Frame.mgmt_eq {ps : List Part} {s t : State} (h : Frame ps s t) (hp : Part.mgmt ∉ ps) : t.mgmt = s.mgmt := (h _ hp).symm
theorem Frame.jrn_eq {ps : List Part} {s t : State} (h : Frame ps s t) (hp : Part.jrn ∉ ps) : t.jrn = s.jrn := (h _ hp).symm
theorem Frame.evm_eq {ps : List Part} {s t : State} (h : Frame ps s t) (hp : Part.evm ∉ ps) : t.evm = s.evm := (h _ hp).symm
theorem Frame.axis_eq {ps : List Part} {s t : State} (h : Frame ps s t) (hp : Part.ax ∉ ps) (n : Fin 4) : t.axis n = s.axis n :=
  congrArg (fun x : Four Axis => x.get n) (h _ hp).symm
theorem Frame.std_eq {ps : List Part} {s t : State} (h : Frame ps s t) (hp : Part.std ∉ ps) : t.std = s.std := (h _ hp).symm
theorem Frame.conv_eq {ps : List Part} {s t : State} (h : Frame ps s t) (hp : Part.conv ∉ ps) : t.conv = s.conv := (h _ hp).symm
theorem Frame.th_eq {ps : List Part} {s t : State} (h : Frame ps s t) (hp : Part.th ∉ ps) : t.th = s.th := (h _ hp).symm
theorem Frame.mon_eq {ps : List Part} {s t : State} (h : Frame ps s t) (hp : Part.mon ∉ ps) : t.mon = s.mon := (h _ hp).symm
theorem Frame.pwr_eq {ps : List Part} {s t : State} (h : Frame ps s t) (hp : Part.pwr ∉ ps) : t.pwr = s.pwr := (h _ hp).symm
theorem Frame.sync_eq {ps : List Part} {s t : State} (h : Frame ps s t) (hp : Part.sync ∉ ps) : t.sync = s.sync := (h _ hp).symm

/-! ### Before the axes: the last pour closes and the tick counts on -/

/-- The last pour is closed, the tick has counted on and the ports are fresh; the axes have not changed yet. -/
def State.atBoundary (s : State) : State := s.closePour.nextTick.freshPorts.runAgain

theorem State.runAgain_frame (s : State) : Frame [.run] s s.runAgain := by
  unfold State.runAgain
  split
  · exact .refl _ s
  · dsimp only
    split
    · intro p hp
      cases p with
      | run => simp at hp
      | _ => rfl
    · exact .refl _ s

/-- No axis step of a standard mould is left to do. -/
theorem State.stdFinish_of_done {s : State} (h : s.std.todo = 0) : s.stdFinish = s := by
  have hstep (n : Fin 4) : s.stdStep n = s := by
    unfold State.stdStep
    split
    · split
      · simp [h]
      · rfl
    · rfl
  simp only [State.stdFinish, axes, List.foldl_cons, List.foldl_nil, hstep]

theorem State.stdFinish_of_noMould {s : State} (h : s.moulds.active = none) : s.stdFinish = s := by
  have hstep (n : Fin 4) : s.stdStep n = s := by simp only [State.stdStep, h]
  simp only [State.stdFinish, axes, List.foldl_cons, List.foldl_nil, hstep]

section
variable {s : State} (h : s.stdFinish = s)
include h

theorem State.closePour_frame : Frame [.pour, .mon] s s.closePour := by
  unfold State.closePour
  split
  · rw [h]
    intro p hp
    cases p with
    | pour | mon => simp at hp
    | _ => rfl
  · exact .refl _ s

/-- Of MON the close of a pour moves the crossing of the signature pair alone. -/
theorem State.closePour_mon : s.closePour.mon = { s.mon with
    xSig := if s.pour.poured then s.mon.xSig.write (s.pourSig, s.moulds.psigx) else s.mon.xSig } := by
  unfold State.closePour
  split
  · rw [h]
  · rfl

theorem State.atBoundary_frame : Frame [.run, .exch, .pour, .tick, .sync, .mon, .mgmt] s s.atBoundary := by
  have hn (t : State) : Frame [.tick, .sync, .run, .mon, .mgmt] t t.nextTick := by
    intro p hp
    cases p with
    | tick | sync | run | mon | mgmt => simp at hp
    | _ => rfl
  have hf (t : State) : Frame [.pour, .exch] t t.freshPorts := by
    intro p hp
    cases p with
    | pour | exch => simp at hp
    | _ => rfl
  exact ((((State.closePour_frame h).mono (by decide)).trans ((hn _).mono (by decide))).trans ((hf _).mono (by decide))).trans
    ((State.runAgain_frame _).mono (by decide))

theorem State.atBoundary_mgmt : s.atBoundary.mgmt = { s.mgmt with tickCause := 0 } := by
  have hc := (State.closePour_frame h).mgmt_eq (by decide)
  rw [State.atBoundary, (State.runAgain_frame _).mgmt_eq (by decide)]
  change { s.closePour.mgmt with tickCause := 0 } = _
  rw [hc]

theorem State.atBoundary_tick : s.atBoundary.tick = s.tick.next := by
  have hc := (State.closePour_frame h).tick_eq (by decide)
  rw [State.atBoundary, (State.runAgain_frame _).tick_eq (by decide)]
  change s.closePour.tick.next = _
  rw [hc]

end

theorem State.atBoundary_mon (s : State) :
    s.atBoundary.mon = { s.closePour.mon with ackMiss := Nat.min 8 (s.closePour.mon.ackMiss + 1) } :=
  (State.runAgain_frame _).mon_eq (by decide)

/-! ### After the axes: the pour of the tick begins -/

theorem State.devFromAxes_frame (s : State) : Frame [.dev, .mon] s s.devFromAxes := by
  have hd (d : DevState) : Frame [.dev, .mon] s (s.setDev d) := by
    intro p hp
    cases p with
    | dev | mon => simp at hp
    | _ => rfl
  unfold State.devFromAxes
  split
  · split
    · exact .refl _ s
    · exact hd _
  · split
    · exact hd _
    · exact .refl _ s
  · exact .refl _ s

theorem State.activationTick_none {s : State} (h : s.moulds.pend = none) : s.activationTick = s := by
  simp only [State.activationTick, h]

theorem State.idleSnapshot_frame (s : State) : Frame [.exch] s s.idleSnapshot := by
  unfold State.idleSnapshot
  split
  · intro p hp
    cases p with
    | exch => simp at hp
    | _ => rfl
  · exact .refl _ s

theorem State.fiUpdate_frame (s : State) : Frame [.fi, .evm] s s.fiUpdate := by
  have hr (t : State) (k : Nat) : Frame [.fi, .evm] t (t.raiseSns k) := (Frame.of_evm t _).mono (by decide)
  have hfold (f : State → Nat → State) (hf : ∀ t k, Frame [.fi, .evm] t (f t k)) (t : State) (l : List Nat) :
      Frame [.fi, .evm] t (l.foldl f t) :=
    List.foldlRecOn (motive := fun u : State => Frame [.fi, .evm] t u) l f (.refl _ t) fun u hu k _ => hu.trans (hf u k)
  have h1 : Frame [.fi, .evm] s { s with fi := { s.fi with state := s.fi.stateWord, cls := s.fi.classWord } } := by
    intro p hp
    cases p with
    | fi | evm => simp at hp
    | _ => rfl
  have h2 : Frame [.fi, .evm] s ((List.range 8).foldl (fun t k =>
      if ((s.fi.stateWord ^^^ s.fi.state) &&& 0xFFFF).getLsbD k then t.raiseSns (176 + k) else t)
      { s with fi := { s.fi with state := s.fi.stateWord, cls := s.fi.classWord } }) := by
    refine h1.trans (hfold _ (fun t k => ?_) _ _)
    split
    · exact hr t _
    · exact .refl _ t
  unfold State.fiUpdate
  dsimp only
  split
  · exact h2
  · exact h2.trans (hr _ 169)

/-- The boundary of a tick on which no activation waits: what closes, the axes, and the pour that begins. -/
theorem exec_tickBoundary {s : State} (hon : s.tick.on = true) (hh : s.tick.hidx ≠ 15 ∨ s.tick.atZero = true)
    (hp : s.atBoundary.axesBoundary.moulds.pend = none) :
    exec .tickBoundary s = endOfCy0 (s.atBoundary.axesBoundary.devFromAxes.idleSnapshot).startPour := by
  have hc : (s.tick.on && (!decide (s.tick.hidx = 15) || s.tick.atZero || s.tick.acqBase.isSome)) = true := by
    obtain h | h := hh
    · rw [hon, decide_eq_false h]
      rfl
    · rw [hon, h]
      simp
  have hp' : s.atBoundary.axesBoundary.devFromAxes.moulds.pend = none := by
    rw [(State.devFromAxes_frame _).moulds_eq (by decide)]
    exact hp
  refine (if_pos hc).trans ?_
  change endOfCy0 (s.atBoundary.axesBoundary.devFromAxes.activationTick.idleSnapshot).startPour = _
  rw [State.activationTick_none hp']

/-- With no mould the pour that begins is empty (02 R79). -/
def State.emptyPour (s : State) : State :=
  { s with pour := { s.pour with
    poured := true, sig := 0xFFFFFFFF, boff := 0, nextCy := 0, cutNow := false, ended := true } }

theorem State.startPour_noMould {s : State} (h : s.moulds.active = none) : s.startPour = .next s.emptyPour := by
  simp only [State.startPour, h]
  rfl

/-- What follows the axes with no mould active: the boundary's last state. -/
def State.idleTick (s : State) : State := s.idleSnapshot.emptyPour.fiUpdate

theorem State.idleTick_frame (s : State) : Frame [.exch, .pour, .fi, .evm] s s.idleTick := by
  have he (t : State) : Frame [.pour] t t.emptyPour := by
    intro p hp
    cases p with
    | pour => simp at hp
    | _ => rfl
  exact ((s.idleSnapshot_frame.mono (by decide)).trans ((he _).mono (by decide))).trans
    ((State.fiUpdate_frame _).mono (by decide))

theorem exec_tickBoundary_noMould {s : State} (hon : s.tick.on = true) (hh : s.tick.hidx ≠ 15 ∨ s.tick.atZero = true)
    (hp : s.atBoundary.axesBoundary.moulds.pend = none) (hm : s.atBoundary.axesBoundary.moulds.active = none) :
    exec .tickBoundary s = .next s.atBoundary.axesBoundary.devFromAxes.idleTick := by
  have hm' : s.atBoundary.axesBoundary.devFromAxes.idleSnapshot.moulds.active = none := by
    rw [(State.idleSnapshot_frame _).moulds_eq (by decide), (State.devFromAxes_frame _).moulds_eq (by decide)]
    exact hm
  rw [exec_tickBoundary hon hh hp, State.startPour_noMould hm']
  rfl

end Sys2Proof.Machine
end

section
/-! SUPPORT. CLEAR_FAULT at the tick boundary (01 R33, R38; 18 R508; O58). -/

namespace Sys2Proof.Machine

/-! ### The flags of an axis, written 1 -/

/-- The flags of an axis that clear, step by step: REFFLT, the trips, SHOOT, HSTO. -/
def Axis.unref (a : Axis) : Axis := { a with drv := { a.drv with refflt := false } }

def Axis.clrTrips (a : Axis) : Axis :=
  let want := 0x1FFF &&& a.drv.tflag
  let clr := want &&& ~~~(want &&& a.drv.tsrc)
  { a with wrapOff := a.wrapOff ||| a.masksOf clr, drv := { a.drv with tflag := a.drv.tflag &&& ~~~clr } }

def Axis.clrShoot (a : Axis) : Axis :=
  let clr := 7 &&& a.drv.shoot
  { a with wrapPh := a.wrapPh ||| clr, drv := { a.drv with shoot := a.drv.shoot &&& ~~~clr } }

def Axis.clrHsto (a : Axis) : Axis :=
  let want := 7 &&& a.drv.hsto
  let clr := want &&& ~~~(want &&& a.lateOn)
  { a with wrapPh := a.wrapPh ||| clr, drv := { a.drv with hsto := a.drv.hsto &&& ~~~clr } }

/-- An axis whose flags were all written 1, with its gates held as `q` says; but for the messages it sends. -/
def Axis.cleared (q : Bool) (a : Axis) : Axis := (((a.unref.clrTrips.settle q).clrShoot).settle q).clrHsto.settle q

/-- The same axis but for what it has still to send. -/
def Axis.SentAs (a b : Axis) : Prop := b = { a with evq := b.evq, upOn := b.upOn, regq := b.regq }

theorem Axis.SentAs.refl (a : Axis) : a.SentAs a := rfl

theorem Axis.SentAs.trans {a b c : Axis} (h : a.SentAs b) (k : b.SentAs c) : a.SentAs c := by
  unfold Axis.SentAs at *
  rw [k, h]

theorem Axis.upSend_sentAs (l : List UpWord) (a : Axis) : a.SentAs (Axis.upSend l a) := by
  induction l generalizing a with
  | nil => rfl
  | cons x t ih =>
    cases x with
    | ack => exact Axis.SentAs.trans (b := { a with regq := a.regq.drop 1 }) rfl (ih _)
    | event j => rfl

theorem State.upNext_sentAs (s : State) (n : Fin 4) : (s.axis n).SentAs ((s.upNext n).axis n) := by
  unfold State.upNext
  split
  · exact .refl _
  · rw [State.axis_updAxis_same]
    exact Axis.upSend_sentAs _ _

theorem State.raiseDrvIf_sentAs (s : State) (b : Bool) (n : Fin 4) (j : Nat) :
    (s.axis n).SentAs ((s.raiseDrvIf b n j).axis n) := by
  unfold State.raiseDrvIf State.raiseDrv
  split
  · split
    · refine Axis.SentAs.trans ?_ (State.upNext_sentAs _ n)
      rw [State.axis_updAxis_same]
      rfl
    · exact .refl _
  · exact .refl _

theorem Axis.SentAs.settle {a b : Axis} (q : Bool) (h : a.SentAs b) : (a.settle q).SentAs (b.settle q) := by
  unfold Axis.SentAs at h ⊢
  rw [h]
  rfl

theorem Axis.SentAs.clrShoot {a b : Axis} (h : a.SentAs b) : a.clrShoot.SentAs b.clrShoot := by
  unfold Axis.SentAs at h ⊢
  rw [h]
  rfl

theorem Axis.SentAs.clrHsto {a b : Axis} (h : a.SentAs b) : a.clrHsto.SentAs b.clrHsto := by
  unfold Axis.SentAs at h ⊢
  rw [h]
  rfl

theorem State.tflagWrite_sentAs (s : State) (n : Fin 4) :
    ((s.axis n).clrTrips.settle (s.gateHold n)).SentAs ((s.tflagWrite n 0x1FFF).axis n) := by
  refine Axis.SentAs.trans ?_ (State.raiseDrvIf_sentAs _ _ n 3)
  unfold State.updChain
  rw [State.axis_updAxis_same]
  exact .refl _

theorem State.shootWrite_axis (s : State) (n : Fin 4) :
    (s.shootWrite n 7).axis n = (s.axis n).clrShoot.settle (s.gateHold n) := by
  unfold State.shootWrite State.updChain
  rw [State.axis_updAxis_same]
  rfl

theorem State.hstoWrite_sentAs (s : State) (n : Fin 4) :
    ((s.axis n).clrHsto.settle (s.gateHold n)).SentAs ((s.hstoWrite n 7).axis n) := by
  refine Axis.SentAs.trans ?_ (State.raiseDrvIf_sentAs _ _ n 3)
  unfold State.updChain
  rw [State.axis_updAxis_same]
  exact .refl _

theorem State.gateHold_of_mon_pwr {s t : State} (hm : t.mon.quench = s.mon.quench) (hp : t.pwr = s.pwr) (n : Fin 4) :
    t.gateHold n = s.gateHold n := by
  simp only [State.gateHold, hm, hp]

@[simp] theorem State.updDrv_gateHold (s : State) (n k : Fin 4) (f : Drv → Drv) : (s.updDrv n f).gateHold k = s.gateHold k := rfl

@[simp] theorem State.tflagWrite_gateHold (s : State) (n k : Fin 4) (m : BitVec 13) :
    (s.tflagWrite n m).gateHold k = s.gateHold k := by
  apply State.gateHold_of_mon_pwr <;> simp [State.tflagWrite, State.updChain]

@[simp] theorem State.shootWrite_gateHold (s : State) (n k : Fin 4) (m : BitVec 3) :
    (s.shootWrite n m).gateHold k = s.gateHold k := rfl

@[simp] theorem State.hstoWrite_gateHold (s : State) (n k : Fin 4) (m : BitVec 3) :
    (s.hstoWrite n m).gateHold k = s.gateHold k := by
  apply State.gateHold_of_mon_pwr <;> simp [State.hstoWrite, State.updChain]

@[simp] theorem State.clearFlags_gateHold (s : State) (n k : Fin 4) : (s.clearFlags n).gateHold k = s.gateHold k := by
  simp [State.clearFlags]

/-- What writing every flag of an axis makes of it. -/
theorem State.clearFlags_sentAs (s : State) (n : Fin 4) :
    ((s.axis n).cleared (s.gateHold n)).SentAs ((s.clearFlags n).axis n) := by
  have hu : (s.updDrv n fun d => { d with refflt := false }).axis n = (s.axis n).unref := State.axis_updAxis_same ..
  have ht := (s.updDrv n fun d => { d with refflt := false }).tflagWrite_sentAs n
  have hs := ((s.updDrv n fun d => { d with refflt := false }).tflagWrite n 0x1FFF).shootWrite_axis n
  have hh := (((s.updDrv n fun d => { d with refflt := false }).tflagWrite n 0x1FFF).shootWrite n 7).hstoWrite_sentAs n
  rw [hu, State.updDrv_gateHold] at ht
  rw [State.tflagWrite_gateHold, State.updDrv_gateHold] at hs
  rw [hs, State.shootWrite_gateHold, State.tflagWrite_gateHold, State.updDrv_gateHold] at hh
  exact (((ht.clrShoot.settle _).clrHsto).settle _).trans hh

/-! ### One axis at a time -/

/-- A step on axis n leaves every other axis, and what holds the gates. -/
theorem State.clearFlags_axis_ne (s : State) {n k : Fin 4} (h : k ≠ n) : (s.clearFlags n).axis k = s.axis k := by
  have hu (t : State) (f : Axis → Axis) : (t.updChain n f).axis k = t.axis k := State.axis_updAxis_ne _ _ h
  have hn (t : State) : (t.upNext n).axis k = t.axis k := by
    unfold State.upNext
    split
    · rfl
    · exact State.axis_updAxis_ne _ _ h
  have hr (t : State) (b : Bool) : (t.raiseDrvIf b n 3).axis k = t.axis k := by
    unfold State.raiseDrvIf State.raiseDrv
    split
    · split
      · rw [hn]
        exact State.axis_updAxis_ne _ _ h
      · rfl
    · rfl
  unfold State.clearFlags State.hstoWrite State.shootWrite State.tflagWrite
  rw [hr, hu, hu, hr, hu]
  exact State.axis_updAxis_ne _ _ h

/-- A fold of steps, each on an axis of its own: what one step makes of its axis holds of every axis of the list, and the
others are as before. -/
theorem foldl_axis {f : State → Fin 4 → State} {I : State → Prop} {R : Fin 4 → Axis → Axis → Prop}
    (hI : ∀ t n, I t → I (f t n)) (hne : ∀ t n k, I t → k ≠ n → (f t n).axis k = t.axis k)
    (hR : ∀ t n, I t → R n (t.axis n) ((f t n).axis n)) (l : List (Fin 4)) (hl : l.Nodup) {s : State} (hs : I s) :
    I (l.foldl f s) ∧ (∀ k ∈ l, R k (s.axis k) ((l.foldl f s).axis k)) ∧ ∀ k ∉ l, (l.foldl f s).axis k = s.axis k := by
  induction l generalizing s with
  | nil => exact ⟨hs, fun _ h => absurd h (List.not_mem_nil), fun _ _ => rfl⟩
  | cons n t ih =>
    obtain ⟨hn, ht⟩ := List.nodup_cons.1 hl
    obtain ⟨h1, h2, h3⟩ := ih ht (hI s n hs)
    refine ⟨h1, fun k hk => ?_, fun k hk => ?_⟩
    · obtain rfl | hk := List.mem_cons.1 hk
      · rw [List.foldl_cons, h3 k hn]
        exact hR s k hs
      · have hne' : k ≠ n := fun h => hn (h ▸ hk)
        rw [← hne s n k hs hne']
        exact h2 k hk
    · rw [List.mem_cons, not_or] at hk
      exact (h3 k hk.2).trans (hne s n k hs hk.1)

/-! ### The outcome at the boundary -/

theorem State.raiseDrvIf_frame (s : State) (b : Bool) (n : Fin 4) (j : Nat) : Frame [.ax, .evm] s (s.raiseDrvIf b n j) := by
  intro p hp
  cases p with
  | ax | evm => simp at hp
  | _ => simp [Part.same]

theorem State.updAxis_frame (s : State) (n : Fin 4) (f : Axis → Axis) : Frame [.ax] s (s.updAxis n f) := by
  intro p hp
  cases p with
  | ax => simp at hp
  | _ => rfl

theorem State.updChain_frame (s : State) (n : Fin 4) (f : Axis → Axis) : Frame [.ax] s (s.updChain n f) := by
  unfold State.updChain
  exact s.updAxis_frame n _

theorem State.clearFlags_frame (s : State) (n : Fin 4) : Frame [.ax, .evm] s (s.clearFlags n) := by
  have hu (t : State) (f : Axis → Axis) : Frame [.ax, .evm] t (t.updAxis n f) := (t.updAxis_frame n f).mono (by decide)
  have ht (t : State) : Frame [.ax, .evm] t (t.tflagWrite n 0x1FFF) := (hu t _).trans (State.raiseDrvIf_frame _ _ n 3)
  have hh (t : State) : Frame [.ax, .evm] t (t.hstoWrite n 7) := (hu t _).trans (State.raiseDrvIf_frame _ _ n 3)
  exact (((hu s _).trans (ht _)).trans (hu _ _)).trans (hh _)

/-- The axis is in FAULT and nothing keeps it there once its flags were written (18 R508). -/
def State.leaves (s : State) (n : Fin 4) : Bool :=
  decide ((s.axis n).st = .fault) && !((s.clearFlags n).axis n).faultActive

/-- The axis is in FAULT and a source keeps it there. -/
def State.stays (s : State) (n : Fin 4) : Bool :=
  decide ((s.axis n).st = .fault) && ((s.clearFlags n).axis n).faultActive

theorem Axis.SentAs.faultActive_eq {a b : Axis} (h : a.SentAs b) : b.faultActive = a.faultActive := by
  unfold Axis.SentAs at h
  rw [h]
  rfl

theorem Axis.SentAs.st_eq {a b : Axis} (h : a.SentAs b) : b.st = a.st := by
  unfold Axis.SentAs at h
  rw [h]

theorem Axis.SentAs.nxt_eq {a b : Axis} (h : a.SentAs b) : b.nxt = a.nxt := by
  unfold Axis.SentAs at h
  rw [h]

theorem Axis.settle_st (q : Bool) (a : Axis) : (a.settle q).st = a.st ∧ (a.settle q).nxt = a.nxt := ⟨rfl, rfl⟩
theorem Axis.clrTrips_st (a : Axis) : a.clrTrips.st = a.st ∧ a.clrTrips.nxt = a.nxt := ⟨rfl, rfl⟩
theorem Axis.clrShoot_st (a : Axis) : a.clrShoot.st = a.st ∧ a.clrShoot.nxt = a.nxt := ⟨rfl, rfl⟩
theorem Axis.clrHsto_st (a : Axis) : a.clrHsto.st = a.st ∧ a.clrHsto.nxt = a.nxt := ⟨rfl, rfl⟩

theorem Axis.cleared_st (q : Bool) (a : Axis) : (a.cleared q).st = a.st ∧ (a.cleared q).nxt = a.nxt := by
  simp only [Axis.cleared, Axis.settle_st, Axis.clrTrips_st, Axis.clrShoot_st, Axis.clrHsto_st]
  exact ⟨rfl, rfl⟩

theorem namedAxes_nodup (m : BitVec 4) : (namedAxes m).Nodup := List.Nodup.filter _ (by decide)

theorem mem_namedAxes {m : BitVec 4} {n : Fin 4} : n ∈ namedAxes m ↔ m.getLsbD n.val = true := by
  have ha : n ∈ axes := by
    revert n
    decide
  simp [namedAxes, ha]

/-- The state with the flags of every named axis written. -/
def State.flagsCleared (s : State) (m : BitVec 4) : State := (namedAxes m).foldl State.clearFlags s

theorem State.flagsCleared_spec (s : State) (m : BitVec 4) : Frame [.ax, .evm] s (s.flagsCleared m) ∧
    (∀ n ∈ namedAxes m, ((s.axis n).cleared (s.gateHold n)).SentAs ((s.flagsCleared m).axis n)) ∧
    ∀ n ∉ namedAxes m, (s.flagsCleared m).axis n = s.axis n := by
  refine foldl_axis (I := fun t => Frame [.ax, .evm] s t) (R := fun n a b => (a.cleared (s.gateHold n)).SentAs b)
    (fun t n ht => ht.trans (t.clearFlags_frame n)) (fun t n k _ hk => t.clearFlags_axis_ne hk) (fun t n ht => ?_)
    (namedAxes m) (namedAxes_nodup m) (.refl _ s)
  have hg : t.gateHold n = s.gateHold n :=
    State.gateHold_of_mon_pwr (congrArg Mon.quench (ht.mon_eq (by decide))) (ht.pwr_eq (by decide)) n
  rw [← hg]
  exact t.clearFlags_sentAs n

section
variable {s : State} {m : BitVec 4} {n : Fin 4}

theorem State.flagsCleared_axis : ((s.flagsCleared m).axis n).st = (s.axis n).st ∧
    ((s.flagsCleared m).axis n).nxt = (s.axis n).nxt := by
  obtain ⟨-, h1, h2⟩ := s.flagsCleared_spec m
  by_cases hn : n ∈ namedAxes m
  · rw [(h1 n hn).st_eq, (h1 n hn).nxt_eq]
    exact Axis.cleared_st _ _
  · rw [h2 n hn]
    exact ⟨rfl, rfl⟩

theorem State.flagsCleared_faultActive (hn : n ∈ namedAxes m) :
    ((s.flagsCleared m).axis n).faultActive = ((s.clearFlags n).axis n).faultActive := by
  obtain ⟨-, h1, -⟩ := s.flagsCleared_spec m
  rw [(h1 n hn).faultActive_eq, (s.clearFlags_sentAs n).faultActive_eq]

theorem State.flagsCleared_leaving (s : State) (m : BitVec 4) :
    (s.flagsCleared m).leaving m = (namedAxes m).filter fun n => s.leaves n := by
  unfold State.leaving
  refine List.filter_congr fun n hn => ?_
  rw [State.flagsCleared_axis.1, State.flagsCleared_faultActive hn]
  rfl

theorem State.flagsCleared_keepsFault (s : State) (m : BitVec 4) :
    (s.flagsCleared m).keepsFault m = (namedAxes m).any fun n => s.stays n := by
  unfold State.keepsFault
  rw [Bool.eq_iff_iff, List.any_eq_true, List.any_eq_true]
  refine exists_congr fun n => and_congr_right fun hn => ?_
  rw [State.flagsCleared_axis.1, State.flagsCleared_faultActive hn]
  rfl

end

/-- The named axes that leave FAULT. -/
def State.leavers (s : State) (m : BitVec 4) : List (Fin 4) := (namedAxes m).filter fun n => s.leaves n

theorem State.clearNow_barred {s : State} (m cause : BitVec 4) (h : s.clearBarred = true) : s.clearNow m cause = (s, none) :=
  if_pos h

section
variable {s : State} {m cause : BitVec 4} (hb : s.clearBarred = false)
include hb

theorem State.clearNow_refused (hd : s.dev ≠ .safe) (hl : s.leavers m = []) (hk : ((namedAxes m).any fun n => s.stays n) = true) :
    s.clearNow m cause = (s.flagsCleared m, none) := by
  unfold State.clearNow
  rw [if_neg (hb ▸ Bool.false_ne_true)]
  refine if_pos ⟨hd, ?_, ?_⟩
  · exact (s.flagsCleared_leaving m).trans hl
  · exact (s.flagsCleared_keepsFault m).trans hk

section
variable (hg : s.dev = .safe ∨ s.leavers m ≠ [] ∨ ((namedAxes m).any fun n => s.stays n) = false)
include hg

theorem State.clearNow_ok : s.clearNow m cause = if cause ≠ 0 then ({ s.flagsCleared m with safecause := cause }, some [])
    else ((s.leavers m).foldl (fun t n => t.axNext n .disabled) (s.flagsCleared m).leaveSafe, some (s.leavers m)) := by
  have hn : ¬(s.dev ≠ .safe ∧ (s.flagsCleared m).leaving m = [] ∧ (s.flagsCleared m).keepsFault m = true) := by
    rw [s.flagsCleared_leaving m, s.flagsCleared_keepsFault m]
    rintro ⟨h1, h2, h3⟩
    obtain h | h | h := hg
    · exact h1 h
    · exact h h2
    · exact absurd h3 (h ▸ Bool.false_ne_true)
  have hc : s.clearNow m cause = if cause ≠ 0 then ({ s.flagsCleared m with safecause := cause }, some [])
      else (((s.flagsCleared m).leaving m).foldl (fun t n => t.axNext n .disabled) (s.flagsCleared m).leaveSafe,
        some ((s.flagsCleared m).leaving m)) := (if_neg (hb ▸ Bool.false_ne_true)).trans (if_neg hn)
  rw [s.flagsCleared_leaving m] at hc
  exact hc

end

end

/-! ### The axes at a boundary with no mould and no job -/

theorem State.axisBoundary_noMould {s : State} (n : Fin 4) (hm : s.moulds.active = none) :
    s.axisBoundary n = s.axisChange n := by
  have hk : s.stdK = none := by simp [State.stdK, hm]
  have hp : s.profStore n = s := by simp [State.profStore, hk]
  have hf : s.mouldFault n = false := by simp [State.mouldFault, hk]
  have hr : s.readMould n = s := by simp [State.readMould, hf, hm]
  rw [State.axisBoundary, hp, hr]

theorem State.applyReq_none {s : State} {n : Fin 4} (h : (s.mgmt.jax.get n).req = 0) : s.applyReq n = s := if_pos h

theorem State.startChosen_none {s : State} (n : Fin 4) (h : s.mgmt.jobs = []) : s.startChosen n = s := by
  simp [State.startChosen, State.jobsOf, h]

/-- An axis that asks for nothing stays as it is. -/
theorem State.axisChange_idle {s : State} {n : Fin 4} (hr : (s.mgmt.jax.get n).req = 0) (hj : s.mgmt.jobs = [])
    (hn : (s.axis n).nxt = none) : s.axisChange n = s := by
  simp only [State.axisChange, hn, State.applyReq_none hr, State.startChosen_none n hj]

/-- An axis in FAULT that goes to DISABLED is held (11 R359). -/
theorem State.axisChange_cleared {s : State} {n : Fin 4} (hr : (s.mgmt.jax.get n).req = 0)
    (hn : (s.axis n).nxt = some .disabled) (hs : (s.axis n).st = .fault) : s.axisChange n = s.enterAx n .disabled := by
  simp [State.axisChange, hn, hs, State.applyReq_none hr]

/-- EN is off once it was cleared. -/
theorem Axis.enOff_drv (a : Axis) : a.enOff.drv = { a.drv with ctrl := a.drv.ctrl &&& ~~~1, ena := false, refact := 0 } ∧
    a.enOff.st = a.st ∧ a.enOff.nxt = a.nxt := by
  have hd (b : Axis) (p : Phase) : (b.drivePhase p).drv = b.drv ∧ (b.drivePhase p).st = b.st ∧ (b.drivePhase p).nxt = b.nxt := by
    unfold Axis.drivePhase
    dsimp only
    split <;> exact ⟨rfl, rfl, rfl⟩
  simp [Axis.enOff, phases, hd]

theorem State.enClear_axis (s : State) (n : Fin 4) : ((s.enClear n).axis n).st = (s.axis n).st ∧
    ((s.enClear n).axis n).nxt = (s.axis n).nxt ∧ ((s.enClear n).axis n).drv.ena = false ∧
    ((s.enClear n).axis n).drv.ctrl.getLsbD 0 = false := by
  have he : (s.enClear n).axis n = (s.axis n).enOff.settle (s.gateHold n) := State.axis_updAxis_same ..
  obtain ⟨h1, h2, h3⟩ := (s.axis n).enOff_drv
  rw [he]
  refine ⟨h2, h3, congrArg Drv.ena h1, ?_⟩
  have hc : ((s.axis n).enOff.settle (s.gateHold n)).drv.ctrl = (s.axis n).drv.ctrl &&& ~~~1 := congrArg Drv.ctrl h1
  rw [hc]
  simp

/-- The axis is where the boundary takes it: as it was, or in DISABLED with EN off where it left FAULT. -/
def Axis.Settles (a b : Axis) : Prop :=
  (a.nxt = none → b = a) ∧ (a.nxt ≠ none → b.st = .disabled ∧ b.nxt = none ∧ b.drv.ena = false)

/-- What the axes leave alone at a boundary at which some of them leave FAULT. -/
structure State.Clearing (u t : State) : Prop where
  frame : Frame [.ax, .mgmt] u t
  jobs : t.mgmt.jobs = []
  req : ∀ n, (t.mgmt.jax.get n).req = 0
  outlet : t.mgmt.outlet = u.mgmt.outlet
  clr : t.mgmt.clr = u.mgmt.clr
  nxt : ∀ n, (t.axis n).nxt = none ∨ ((t.axis n).nxt = some .disabled ∧ (t.axis n).st = .fault)

theorem State.enterAx_axis_ne (s : State) {n k : Fin 4} (t : AxState) (h : k ≠ n) : (s.enterAx n t).axis k = s.axis k := by
  have he (u : State) : (u.enClear n).axis k = u.axis k := State.axis_updAxis_ne _ _ h
  have hu : (s.updAxis n fun a => { a with st := t, nxt := none }).axis k = s.axis k := State.axis_updAxis_ne _ _ h
  unfold State.enterAx
  dsimp only
  split <;> split
  · exact (he _).trans hu
  · exact (he _).trans hu
  · exact hu
  · exact hu

theorem State.enterAx_frame (s : State) (n : Fin 4) (t : AxState) : Frame [.ax, .mgmt] s (s.enterAx n t) := by
  have hu (u : State) (f : Axis → Axis) : Frame [.ax, .mgmt] u (u.updAxis n f) := (u.updAxis_frame n f).mono (by decide)
  have hj (u : State) (f : JobAx → JobAx) : Frame [.ax, .mgmt] u (u.updJax n f) :=
    (Frame.of_mgmt u _).mono (by decide)
  have he (u : State) : Frame [.ax, .mgmt] u (u.enClear n) := (u.updChain_frame n _).mono (by decide)
  unfold State.enterAx
  dsimp only
  split <;> split
  · exact ((hu s _).trans (hj _ _)).trans (he _)
  · exact (hu s _).trans (he _)
  · exact (hu s _).trans (hj _ _)
  · exact hu s _

/-- The state taken: FAULT, RECOVERY and DISABLED drop EN (R40). -/
theorem State.enterAx_axis (s : State) (n : Fin 4) (t : AxState) : ((s.enterAx n t).axis n).st = t ∧
    ((s.enterAx n t).axis n).nxt = none ∧ (t = .fault ∨ t = .recovery ∨ t = .disabled →
      ((s.enterAx n t).axis n).drv.ena = false ∧ ((s.enterAx n t).axis n).drv.ctrl.getLsbD 0 = false) := by
  have hv : (s.updAxis n fun a => { a with st := t, nxt := none }).axis n = { s.axis n with st := t, nxt := none } :=
    State.axis_updAxis_same ..
  have hu (f : JobAx → JobAx) : (((s.updAxis n fun a => { a with st := t, nxt := none }).updJax n f).axis n) =
      { s.axis n with st := t, nxt := none } := hv
  have he (u : State) (h : u.axis n = { s.axis n with st := t, nxt := none }) : ((u.enClear n).axis n).st = t ∧
      ((u.enClear n).axis n).nxt = none ∧ (t = .fault ∨ t = .recovery ∨ t = .disabled →
        ((u.enClear n).axis n).drv.ena = false ∧ ((u.enClear n).axis n).drv.ctrl.getLsbD 0 = false) := by
    obtain ⟨h1, h2, h3, h4⟩ := u.enClear_axis n
    rw [h] at h1 h2
    exact ⟨h1, h2, fun _ => ⟨h3, h4⟩⟩
  have hn (u : State) (h : u.axis n = { s.axis n with st := t, nxt := none })
      (hc : ¬(t = .fault ∨ t = .recovery ∨ t = .disabled)) : (u.axis n).st = t ∧ (u.axis n).nxt = none ∧
      (t = .fault ∨ t = .recovery ∨ t = .disabled → (u.axis n).drv.ena = false ∧ (u.axis n).drv.ctrl.getLsbD 0 = false) := by
    rw [h]
    exact ⟨rfl, rfl, fun h => absurd h hc⟩
  unfold State.enterAx
  dsimp only
  split <;> split
  · exact he _ (hu _)
  · exact he _ hv
  · exact hn _ (hu _) ‹_›
  · exact hn _ hv ‹_›

/-- Entering a state from FAULT or RECOVERY changes of MGMT's part the hold of the axis alone. -/
theorem State.enterAx_mgmt (s : State) (n : Fin 4) (t : AxState) : (s.enterAx n t).mgmt = { s.mgmt with
    jax := if (s.axis n).st = .fault ∨ (s.axis n).st = .recovery then
      s.mgmt.jax.set n { s.mgmt.jax.get n with held := true } else s.mgmt.jax } := by
  unfold State.enterAx
  dsimp only
  split <;> split <;> rfl

theorem State.jobsOf_nil {s : State} (h : s.mgmt.jobs = []) (n : Fin 4) : s.jobsOf n = [] := by simp [State.jobsOf, h]

/-- One axis of a boundary without mould and job. -/
theorem State.Clearing.step {u t : State} (h : u.Clearing t) (hm : u.moulds.active = none) (n : Fin 4) :
    u.Clearing (t.axisBoundary n) ∧ (∀ k, k ≠ n → (t.axisBoundary n).axis k = t.axis k) ∧
      (t.axis n).Settles ((t.axisBoundary n).axis n) := by
  have hm' : t.moulds.active = none := by rw [h.frame.moulds_eq (by decide), hm]
  rw [State.axisBoundary_noMould n hm']
  obtain hn | ⟨hn, hs⟩ := h.nxt n
  · rw [State.axisChange_idle (h.req n) h.jobs hn]
    exact ⟨h, fun _ _ => rfl, fun _ => rfl, fun hc => absurd hn hc⟩
  · rw [State.axisChange_cleared (h.req n) hn hs]
    obtain ⟨e1, e2, e3⟩ := t.enterAx_axis n .disabled
    have hg := t.enterAx_mgmt n .disabled
    rw [if_pos (.inl hs)] at hg
    refine ⟨⟨h.frame.trans (t.enterAx_frame n _), ?_, fun k => ?_, ?_, ?_, fun k => ?_⟩,
      fun k hk => t.enterAx_axis_ne _ hk, fun hc => absurd hc (by simp [hn]), fun _ => ⟨e1, e2, (e3 (.inr (.inr rfl))).1⟩⟩
    · rw [hg]
      exact h.jobs
    · rw [hg]
      by_cases hk : k = n
      · rw [hk, Four.get_set_same]
        exact h.req n
      · rw [Four.get_set_ne _ _ hk]
        exact h.req k
    · rw [hg]
      exact h.outlet
    · rw [hg]
      exact h.clr
    · by_cases hk : k = n
      · rw [hk]
        exact .inl e2
      · rw [t.enterAx_axis_ne _ hk]
        exact h.nxt k

theorem mem_axes (n : Fin 4) : n ∈ axes := by
  revert n
  decide

/-- All four axes of such a boundary. -/
theorem State.Clearing.allAxes {u : State} (h : u.Clearing u) (hm : u.moulds.active = none) :
    u.Clearing (axes.foldl State.axisBoundary u) ∧
      ∀ n, (u.axis n).Settles ((axes.foldl State.axisBoundary u).axis n) := by
  obtain ⟨h1, h2, -⟩ := foldl_axis (f := State.axisBoundary) (I := u.Clearing) (R := fun _ => Axis.Settles)
    (fun t n ht => (ht.step hm n).1) (fun t n k ht hk => (ht.step hm n).2.1 k hk) (fun t n ht => (ht.step hm n).2.2)
    axes (by decide) h
  exact ⟨h1, fun n => h2 n (mem_axes n)⟩

/-! ### The reply -/

/-- A mask made of the axes that `f` names. -/
theorem axesMask_getLsbD (f : Fin 4 → Bool) (n : Fin 4) :
    (BitVec.ofNat 8 ((axes.filter f).foldl (fun k n => k + 2 ^ n.val) 0)).getLsbD n.val = f n := by
  revert n f
  decide

theorem State.clearReply_frame (s : State) (q : Word) (r : Option (List (Fin 4))) : Frame [.mgmt] s (s.clearReply q r) := by
  unfold State.clearReply
  split <;> exact .of_mgmt s _

theorem State.clearReply_clr (s : State) (q : Word) (r : Option (List (Fin 4))) : (s.clearReply q r).mgmt.clr = s.mgmt.clr := by
  unfold State.clearReply
  split <;> rfl

/-- The reply data: the axes that left FAULT and are in DISABLED. -/
def State.leftMask (s : State) (l : List (Fin 4)) : BitVec 8 :=
  BitVec.ofNat 8 ((l.filter fun n => decide ((s.axis n).st = .disabled)).foldl (fun k n => k + 2 ^ n.val) 0)

theorem State.clearReply_ok (s : State) (q : Word) (l : List (Fin 4)) :
    (s.clearReply q (some l)).mgmt.outlet = s.mgmt.outlet ++ [okReply 0x0604 q [s.leftMask l, 0, 0, 0]] := rfl

/-! ### The boundary with a CLEAR_FAULT -/

/-- The state in which the outcome of CLEAR_FAULT is decided. -/
def State.clearing (s : State) : State := { s.atBoundary with mgmt := { s.atBoundary.mgmt with clr := none } }

/-- A device with no mould and no job, at whose boundary a CLEAR_FAULT is decided (O58). -/
structure State.ClearDue (s : State) (m : BitVec 4) (q : Word) (cause : BitVec 4) : Prop where
  on : s.tick.on = true
  notLast : s.tick.hidx ≠ 15
  active : s.moulds.active = none
  pend : s.moulds.pend = none
  jobs : s.mgmt.jobs = []
  idle : ∀ n : Fin 4, (s.axis n).nxt = none ∧ (s.mgmt.jax.get n).req = 0
  clr : s.mgmt.clr = some (m, q, cause)

section
variable {s : State} {m cause : BitVec 4} {q : Word} (h : s.ClearDue m q cause)
include h

theorem State.ClearDue.frame : Frame [.run, .exch, .pour, .tick, .sync, .mon, .mgmt] s s.clearing :=
  (State.atBoundary_frame (State.stdFinish_of_noMould h.active)).trans ((Frame.of_mgmt _ _).mono (by decide))

theorem State.ClearDue.mgmt : s.clearing.mgmt = { s.mgmt with tickCause := 0, clr := none } := by
  have hg := State.atBoundary_mgmt (State.stdFinish_of_noMould h.active)
  change { s.atBoundary.mgmt with clr := none } = _
  rw [hg]

theorem State.ClearDue.mon : s.clearing.mon.fault = s.mon.fault ∧ s.clearing.mon.qext = s.mon.qext ∧
    s.clearing.mon.quench = s.mon.quench := by
  have hm : s.clearing.mon = { s.closePour.mon with ackMiss := Nat.min 8 (s.closePour.mon.ackMiss + 1) } := s.atBoundary_mon
  rw [hm, State.closePour_mon (State.stdFinish_of_noMould h.active)]
  exact ⟨rfl, rfl, rfl⟩

theorem State.ClearDue.barred : s.clearing.clearBarred = s.clearBarred := by
  obtain ⟨h1, h2, -⟩ := h.mon
  unfold State.clearBarred
  rw [h1, h2, h.mgmt]

theorem State.ClearDue.axis (n : Fin 4) : s.clearing.axis n = s.axis n := h.frame.axis_eq (by decide) n

theorem State.ClearDue.faultActive (n : Fin 4) :
    ((s.clearing.clearFlags n).axis n).faultActive = ((s.clearFlags n).axis n).faultActive := by
  have hg : s.clearing.gateHold n = s.gateHold n := State.gateHold_of_mon_pwr h.mon.2.2 (h.frame.pwr_eq (by decide)) n
  rw [(s.clearing.clearFlags_sentAs n).faultActive_eq, (s.clearFlags_sentAs n).faultActive_eq, hg, h.axis n]

theorem State.ClearDue.leaves (n : Fin 4) : s.clearing.leaves n = s.leaves n := by
  unfold State.leaves
  rw [h.axis n, h.faultActive n]

theorem State.ClearDue.stays (n : Fin 4) : s.clearing.stays n = s.stays n := by
  unfold State.stays
  rw [h.axis n, h.faultActive n]

theorem State.ClearDue.leavers : s.clearing.leavers m = s.leavers m := by
  unfold State.leavers
  exact List.filter_congr fun n _ => h.leaves n

theorem State.ClearDue.anyStays : ((namedAxes m).any fun n => s.clearing.stays n) = (namedAxes m).any fun n => s.stays n := by
  simp only [h.stays]

/-- The state in which it is decided is one whose axes ask for nothing. -/
theorem State.ClearDue.settled {u : State} (hf : Frame [.ax, .evm, .mon, .dev, .safecause] s.clearing u)
    (hn : ∀ n, (u.axis n).nxt = none ∨ ((u.axis n).nxt = some .disabled ∧ (u.axis n).st = .fault)) : u.Clearing u := by
  have hg : u.mgmt = { s.mgmt with tickCause := 0, clr := none } := (hf.mgmt_eq (by decide)).trans h.mgmt
  refine ⟨.refl _ u, ?_, fun n => ?_, rfl, rfl, hn⟩
  · rw [hg]
    exact h.jobs
  · rw [hg]
    exact (h.idle n).2

/-- The boundary, once the outcome is known: `u` is the state it leaves to the axes. -/
theorem State.ClearDue.boundary {u : State} {o : Option (List (Fin 4))} (hr : s.clearing.clearNow m cause = (u, o))
    (hf : Frame [.ax, .evm, .mon, .dev, .safecause] s.clearing u)
    (hn : ∀ n, (u.axis n).nxt = none ∨ ((u.axis n).nxt = some .disabled ∧ (u.axis n).st = .fault)) :
    ∃ v t, exec .tickBoundary s = .next t ∧ u.Clearing v ∧ (∀ n, (u.axis n).Settles (v.axis n)) ∧
      Frame [.exch, .pour, .fi, .evm] (v.clearReply q o).devFromAxes t := by
  have hm : u.moulds = s.moulds := (hf.moulds_eq (by decide)).trans (h.frame.moulds_eq (by decide))
  obtain ⟨h1, h2⟩ := (h.settled hf hn).allAxes (by rw [hm, h.active])
  have he : s.atBoundary.axesBoundary = (axes.foldl State.axisBoundary u).clearReply q o := by
    have hc : s.atBoundary.mgmt.clr = some (m, q, cause) := by
      rw [State.atBoundary_mgmt (State.stdFinish_of_noMould h.active)]
      exact h.clr
    simp only [State.axesBoundary, hc]
    change (axes.foldl State.axisBoundary (s.clearing.clearNow m cause).1).clearReply q (s.clearing.clearNow m cause).2 = _
    rw [hr]
  have hmv : s.atBoundary.axesBoundary.moulds = s.moulds := by
    rw [he, (State.clearReply_frame _ q o).moulds_eq (by decide), h1.frame.moulds_eq (by decide), hm]
  refine ⟨_, _, exec_tickBoundary_noMould h.on (.inl h.notLast) (by rw [hmv, h.pend]) (by rw [hmv, h.active]), h1, h2, ?_⟩
  rw [he]
  exact State.idleTick_frame _

end

end Sys2Proof.Machine
end
section
/-! SUPPORT. What a decided CLEAR_FAULT leaves once the boundary is over (O58). -/

namespace Sys2Proof.Machine

/-! ### The device state that follows the axes -/

theorem State.allDisabled_congr {s t : State} (h : ∀ n, (t.axis n).st = (s.axis n).st) : t.allDisabled = s.allDisabled := by
  simp only [State.allDisabled, h]

theorem State.devFromAxes_dev (s : State) :
    (s.dev = .safe → s.devFromAxes.dev = .safe) ∧
    (s.dev = .ready ∨ s.dev = .run → s.devFromAxes.dev = if s.allDisabled then .ready else .run) := by
  refine ⟨fun h => ?_, ?_⟩
  · simp only [State.devFromAxes, h]
  · rintro (h | h) <;> simp only [State.devFromAxes, h] <;> cases s.allDisabled <;> simp [h]

theorem State.devFromAxes_req (s : State) : s.devFromAxes.mon.req = s.mon.req := by
  unfold State.devFromAxes
  split
  · split <;> rfl
  · split <;> rfl
  · rfl

/-- The reply of a CLEAR_FAULT that is decided, read off the state the axes are left in. -/
def State.clearAnswer (s : State) (q : Word) : Option (List (Fin 4)) → Reply
  | none => refusal 0x0604 q stNotPermitted 0 0xFFFF
  | some l => okReply 0x0604 q [s.leftMask l, 0, 0, 0]

theorem State.clearReply_outlet (s : State) (q : Word) (o : Option (List (Fin 4))) :
    (s.clearReply q o).mgmt.outlet = s.mgmt.outlet ++ [s.clearAnswer q o] := by
  cases o with
  | none => rfl
  | some l => exact s.clearReply_ok q l

/-- What the boundary leaves in `t` of the state `u` in which the outcome `o` was taken. -/
structure State.Decided (s u t : State) (q : Word) (o : Option (List (Fin 4))) : Prop where
  axes : ∀ n, (u.axis n).Settles (t.axis n)
  safecause : t.safecause = u.safecause
  req : t.mon.req = u.mon.req
  clr : t.mgmt.clr = none
  outlet : t.mgmt.outlet = s.mgmt.outlet ++ [t.clearAnswer q o]
  safe : u.dev = .safe → t.dev = .safe
  follow : u.dev = .ready ∨ u.dev = .run → t.dev = if t.allDisabled then .ready else .run

theorem State.clearAnswer_congr {s t : State} (q : Word) (o : Option (List (Fin 4)))
    (h : ∀ n, (t.axis n).st = (s.axis n).st) : t.clearAnswer q o = s.clearAnswer q o := by
  cases o with
  | none => rfl
  | some l => simp only [State.clearAnswer, State.leftMask, h]

section
variable {s : State} {m cause : BitVec 4} {q : Word} (h : s.ClearDue m q cause)
include h

theorem State.ClearDue.decided {u : State} {o : Option (List (Fin 4))} (hr : s.clearing.clearNow m cause = (u, o))
    (hf : Frame [.ax, .evm, .mon, .dev, .safecause] s.clearing u)
    (hn : ∀ n, (u.axis n).nxt = none ∨ ((u.axis n).nxt = some .disabled ∧ (u.axis n).st = .fault)) :
    ∃ t, exec .tickBoundary s = .next t ∧ s.Decided u t q o := by
  obtain ⟨v, t, he, hc, hs, ht⟩ := h.boundary hr hf hn
  have hv : Frame [.mgmt] v (v.clearReply q o) := v.clearReply_frame q o
  have hd : Frame [.dev, .mon] (v.clearReply q o) (v.clearReply q o).devFromAxes := State.devFromAxes_frame _
  have hg : t.mgmt = (v.clearReply q o).mgmt := (ht.mgmt_eq (by decide)).trans (hd.mgmt_eq (by decide))
  have hug : u.mgmt = { s.mgmt with tickCause := 0, clr := none } := (hf.mgmt_eq (by decide)).trans h.mgmt
  have ha (n : Fin 4) : t.axis n = v.axis n :=
    (ht.axis_eq (by decide) n).trans ((hd.axis_eq (by decide) n).trans (hv.axis_eq (by decide) n))
  have hdev : t.dev = (v.clearReply q o).devFromAxes.dev := ht.dev_eq (by decide)
  have hud : (v.clearReply q o).dev = u.dev := (hv.dev_eq (by decide)).trans (hc.frame.dev_eq (by decide))
  have hall : (v.clearReply q o).allDisabled = t.allDisabled :=
    State.allDisabled_congr fun n => congrArg Axis.st ((hv.axis_eq (by decide) n).trans (ha n).symm)
  obtain ⟨d1, d2⟩ := (v.clearReply q o).devFromAxes_dev
  refine ⟨t, he, fun n => ?_, ?_, ?_, ?_, ?_, fun hu => ?_, fun hu => ?_⟩
  · rw [ha n]
    exact hs n
  · rw [ht.safecause_eq (by decide), hd.safecause_eq (by decide), hv.safecause_eq (by decide),
      hc.frame.safecause_eq (by decide)]
  · rw [ht.mon_eq (by decide), State.devFromAxes_req, hv.mon_eq (by decide), hc.frame.mon_eq (by decide)]
  · rw [hg, State.clearReply_clr, hc.clr, hug]
  · rw [hg, State.clearReply_outlet, hc.outlet, hug, State.clearAnswer_congr q o fun n => congrArg Axis.st (ha n)]
  · rw [hdev]
    exact d1 (hud.trans hu)
  · rw [hdev, ← hall]
    exact d2 (by rwa [hud])

/-! ### The three outcomes -/

theorem State.ClearDue.idle_flagsCleared (n : Fin 4) : ((s.clearing.flagsCleared m).axis n).nxt = none := by
  rw [State.flagsCleared_axis.2, h.axis n]
  exact (h.idle n).1

theorem State.ClearDue.flagsCleared_st (n : Fin 4) : ((s.clearing.flagsCleared m).axis n).st = (s.axis n).st := by
  rw [State.flagsCleared_axis.1, h.axis n]

theorem State.ClearDue.dev : s.clearing.dev = s.dev := h.frame.dev_eq (by decide)

theorem State.ClearDue.safecause : s.clearing.safecause = s.safecause := h.frame.safecause_eq (by decide)

end

/-- An axis that asked for nothing keeps its state. -/
theorem Axis.Settles.st_eq {a b : Axis} (h : a.Settles b) (hn : a.nxt = none) : b.st = a.st := congrArg Axis.st (h.1 hn)

theorem State.axNext_axis_of_idle {s : State} {n : Fin 4} (t : AxState) (h : (s.axis n).nxt = none) :
    (s.axNext n t).axis n = { s.axis n with nxt := some t } := by
  unfold State.axNext
  rw [State.axis_updAxis_same, h]

/-- The axes of a list all ask for DISABLED, and the others ask for what they did. -/
theorem State.foldl_axNext_disabled (s : State) (l : List (Fin 4)) (hl : l.Nodup) (hn : ∀ n, (s.axis n).nxt = none) :
    Frame [.ax] s (l.foldl (fun t n => t.axNext n .disabled) s) ∧
    (∀ n ∈ l, (l.foldl (fun t n => t.axNext n .disabled) s).axis n = { s.axis n with nxt := some .disabled }) ∧
    ∀ n ∉ l, (l.foldl (fun t n => t.axNext n .disabled) s).axis n = s.axis n := by
  obtain ⟨h1, h2, h3⟩ := foldl_axis (I := fun t => Frame [.ax] s t)
    (f := fun t n => t.axNext n .disabled) (R := fun _ a b => a.nxt = none → b = { a with nxt := some .disabled })
    (fun t n ht => ht.trans (t.updAxis_frame n _)) (fun t n k _ hk => t.axNext_axis_ne _ hk)
    (fun t n _ => State.axNext_axis_of_idle _) l hl (.refl _ s)
  exact ⟨h1, fun n hm => h2 n hm (hn n), h3⟩

theorem mem_leavers {s : State} {m : BitVec 4} {n : Fin 4} :
    n ∈ s.leavers m ↔ m.getLsbD n.val = true ∧ s.leaves n = true := by
  simp only [State.leavers, List.mem_filter, mem_namedAxes]

/-- When every axis that left FAULT is in DISABLED, the reply data name just these axes. -/
theorem State.leftMask_leavers {s t : State} {m : BitVec 4} (h : ∀ n ∈ s.leavers m, (t.axis n).st = .disabled) (n : Fin 4) :
    (t.leftMask (s.leavers m)).getLsbD n.val = true ↔ m.getLsbD n.val = true ∧ s.leaves n = true := by
  have hf : (s.leavers m).filter (fun n => decide ((t.axis n).st = .disabled)) =
      axes.filter fun n => m.getLsbD n.val && s.leaves n := by
    rw [List.filter_eq_self.2 fun n hn => decide_eq_true (h n hn)]
    simp only [State.leavers, namedAxes, List.filter_filter, Bool.and_comm]
  rw [State.leftMask, hf, axesMask_getLsbD, Bool.and_eq_true]

theorem State.leaveSafe_spec (s : State) : Frame [.dev, .mon] s s.leaveSafe ∧ s.leaveSafe.mon.req = false ∧
    s.leaveSafe.dev = if s.dev = .safe then .ready else s.dev := by
  refine ⟨?_, rfl, ?_⟩
  · intro p hp
    unfold State.leaveSafe
    dsimp only
    cases p with
    | dev | mon => simp at hp
    | _ => split <;> rfl
  · unfold State.leaveSafe
    dsimp only
    split <;> rfl

section
variable {s : State} {m cause : BitVec 4} {q : Word} (h : s.ClearDue m q cause)
include h

/-- A refusal: no axis asks for anything, whatever became of its flags. -/
theorem State.ClearDue.refused {u : State} (hr : s.clearing.clearNow m cause = (u, none))
    (hu : u = s.clearing ∨ u = s.clearing.flagsCleared m) :
    ∃ t, exec .tickBoundary s = .next t ∧ t.safecause = s.safecause ∧ t.mgmt.clr = none ∧
      t.mgmt.outlet = s.mgmt.outlet ++ [refusal 0x0604 q stNotPermitted 0 0xFFFF] ∧
      (∀ n : Fin 4, (t.axis n).st = (s.axis n).st) ∧ (s.dev = .safe → t.dev = .safe) ∧
      (s.dev = .ready ∨ s.dev = .run → t.dev = if t.allDisabled then .ready else .run) := by
  have hf : Frame [.ax, .evm] s.clearing u ∧ ∀ n, (u.axis n).nxt = none ∧ (u.axis n).st = (s.axis n).st := by
    obtain rfl | rfl := hu
    · refine ⟨.refl _ _, fun n => ?_⟩
      rw [h.axis n]
      exact ⟨(h.idle n).1, rfl⟩
    · exact ⟨(s.clearing.flagsCleared_spec m).1, fun n => ⟨h.idle_flagsCleared n, h.flagsCleared_st n⟩⟩
  obtain ⟨hf, hn⟩ := hf
  obtain ⟨t, he, d⟩ := h.decided hr (hf.mono (by decide)) fun n => .inl (hn n).1
  have hdev : u.dev = s.dev := (hf.dev_eq (by decide)).trans h.dev
  refine ⟨t, he, ?_, d.clr, d.outlet, fun n => ?_, fun hd => d.safe (hdev.trans hd), fun hd => d.follow (by rwa [hdev])⟩
  · rw [d.safecause, hf.safecause_eq (by decide), h.safecause]
  · rw [(d.axes n).st_eq (hn n).1, (hn n).2]

/-- A new cause of the same tick: the device stays in SAFE, with that cause, and no axis leaves FAULT. -/
theorem State.ClearDue.newCause (hb : s.clearBarred = false) (hc : cause ≠ 0) (hd : s.dev = .safe) :
    ∃ t, exec .tickBoundary s = .next t ∧ t.dev = .safe ∧ t.safecause = cause ∧
      t.mgmt.outlet = s.mgmt.outlet ++ [okReply 0x0604 q [0, 0, 0, 0]] ∧
      (∀ n : Fin 4, (t.axis n).st = (s.axis n).st) := by
  have hr := State.clearNow_ok (m := m) (cause := cause) (h.barred.trans hb) (.inl (h.dev.trans hd))
  rw [if_pos hc] at hr
  have hf := (s.clearing.flagsCleared_spec m).1
  have hu : Frame [.ax, .evm, .mon, .dev, .safecause] s.clearing { s.clearing.flagsCleared m with safecause := cause } := by
    refine (hf.mono (by decide)).trans fun p hp => ?_
    cases p with
    | safecause => simp at hp
    | _ => rfl
  obtain ⟨t, he, d⟩ := h.decided hr hu fun n => .inl (h.idle_flagsCleared n)
  refine ⟨t, he, d.safe ((hf.dev_eq (by decide)).trans (h.dev.trans hd)), d.safecause, d.outlet, fun n => ?_⟩
  rw [(d.axes n).st_eq (h.idle_flagsCleared n)]
  exact h.flagsCleared_st n

/-- CLEAR_FAULT is granted: the named axes without an active source go to DISABLED, and SAFE, where it stood, ends. -/
theorem State.ClearDue.granted (hb : s.clearBarred = false) (hc : cause = 0)
    (hd : s.dev = .safe ∨ s.dev = .ready ∨ s.dev = .run)
    (hg : s.dev = .safe ∨ s.leavers m ≠ [] ∨ ((namedAxes m).any fun n => s.stays n) = false) :
    ∃ (t : State) (c : BitVec 8), exec .tickBoundary s = .next t ∧ (t.dev = .ready ∨ t.dev = .run) ∧
      t.safecause = s.safecause ∧ t.mon.req = false ∧ t.mgmt.outlet = s.mgmt.outlet ++ [okReply 0x0604 q [c, 0, 0, 0]] ∧
      (∀ n : Fin 4, c.getLsbD n.val = true ↔ m.getLsbD n.val = true ∧ s.leaves n = true) ∧
      (∀ n ∈ s.leavers m, (t.axis n).st = .disabled ∧ (t.axis n).drv.ena = false) ∧
      (∀ n ∉ s.leavers m, (t.axis n).st = (s.axis n).st) := by
  have hr := State.clearNow_ok (m := m) (cause := cause) (h.barred.trans hb) (by rw [h.dev, h.leavers, h.anyStays]; exact hg)
  rw [if_neg (not_not.2 hc), h.leavers] at hr
  have hf := (s.clearing.flagsCleared_spec m).1
  obtain ⟨hl, hreq, hdev⟩ := (s.clearing.flagsCleared m).leaveSafe_spec
  have hla (n : Fin 4) : (s.clearing.flagsCleared m).leaveSafe.axis n = (s.clearing.flagsCleared m).axis n :=
    hl.axis_eq (by decide) n
  obtain ⟨hx, hin, hout⟩ := (s.clearing.flagsCleared m).leaveSafe.foldl_axNext_disabled (s.leavers m)
    (List.Nodup.filter _ (namedAxes_nodup m)) (fun n => by rw [hla n, h.idle_flagsCleared n])
  generalize hu : (s.leavers m).foldl (fun t n => t.axNext n .disabled) (s.clearing.flagsCleared m).leaveSafe = u
    at hr hx hin hout
  have hst (n : Fin 4) : (u.axis n).st = (s.axis n).st ∧ (n ∈ s.leavers m → (u.axis n).nxt = some .disabled) ∧
      (n ∉ s.leavers m → (u.axis n).nxt = none) := by
    by_cases hn : n ∈ s.leavers m
    · rw [hin n hn, hla n]
      exact ⟨h.flagsCleared_st n, fun _ => rfl, fun hc => absurd hn hc⟩
    · rw [hout n hn, hla n]
      exact ⟨h.flagsCleared_st n, fun hc => absurd hc hn, fun _ => h.idle_flagsCleared n⟩
  have hfr : Frame [.ax, .evm, .mon, .dev, .safecause] s.clearing u :=
    ((hf.mono (by decide)).trans (hl.mono (by decide))).trans (hx.mono (by decide))
  obtain ⟨t, he, d⟩ := h.decided hr hfr fun n => by
    obtain ⟨hs, hi, ho⟩ := hst n
    by_cases hn : n ∈ s.leavers m
    · have hfault : (s.axis n).st = .fault := of_decide_eq_true (Bool.and_eq_true_iff.1 (mem_leavers.1 hn).2).1
      exact .inr ⟨hi hn, hs.trans hfault⟩
    · exact .inl (ho hn)
  have hdis (n : Fin 4) (hn : n ∈ s.leavers m) : (t.axis n).st = .disabled ∧ (t.axis n).drv.ena = false := by
    obtain ⟨e1, -, e2⟩ := (d.axes n).2 (by simp [(hst n).2.1 hn])
    exact ⟨e1, e2⟩
  have hud : u.dev = .ready ∨ u.dev = .run := by
    rw [hx.dev_eq (by decide), hdev, hf.dev_eq (by decide), h.dev]
    obtain hd | hd | hd := hd <;> simp [hd]
  refine ⟨t, _, he, ?_, ?_, ?_, d.outlet, State.leftMask_leavers fun n hn => (hdis n hn).1, hdis, fun n hn => ?_⟩
  · rw [d.follow hud]
    split <;> simp
  · rw [d.safecause, hx.safecause_eq (by decide), hl.safecause_eq (by decide), hf.safecause_eq (by decide), h.safecause]
  · rw [d.req, hx.mon_eq (by decide), hreq]
  · rw [(d.axes n).st_eq ((hst n).2.2 hn), (hst n).1]

end

theorem State.leaves_iff {s : State} {n : Fin 4} :
    s.leaves n = true ↔ (s.axis n).st = .fault ∧ ((s.clearFlags n).axis n).faultActive = false := by
  simp [State.leaves]

theorem State.stays_iff {s : State} {n : Fin 4} :
    s.stays n = true ↔ (s.axis n).st = .fault ∧ ((s.clearFlags n).axis n).faultActive = true := by
  simp [State.stays]

/-- An axis that stays in FAULT keeps the device out of READY. -/
theorem State.allDisabled_of_fault {s : State} {n : Fin 4} (h : (s.axis n).st = .fault) : s.allDisabled = false := by
  rw [State.allDisabled, List.all_eq_false]
  exact ⟨n, mem_axes n, by simp [h]⟩

/-- Settles O58, by the outcomes of CLEAR_FAULT at the boundary: refused, granted, or overtaken by a new cause. -/
theorem clearFaultDecidesAtTheBoundary : Obligations.ClearFaultDecidesAtTheBoundary := by
  unfold Obligations.ClearFaultDecidesAtTheBoundary
  intro s m cause q hon hh hm hp hj hi hc keeps leaves refused granted
  have h : s.ClearDue m q cause := ⟨hon, hh, hm, hp, hj, hi, hc⟩
  have hgrant (hb : s.clearBarred = false) (h0 : cause = 0) (hd : s.dev = .safe ∨ s.dev = .ready ∨ s.dev = .run)
      (hg : s.dev = .safe ∨ s.leavers m ≠ [] ∨ ((namedAxes m).any fun n => s.stays n) = false) : granted := by
    obtain ⟨t, c, he, h1, h2, h3, h4, h5, h6, h7⟩ := h.granted hb h0 hd hg
    refine ⟨t, c, he, h1, h2, h3, h4, fun n => ?_, fun n hn hl => h6 n (mem_leavers.2 ⟨hn, State.leaves_iff.2 hl⟩),
      fun n hn => h7 n fun hl => ?_⟩
    · rw [h5 n, State.leaves_iff]
    · obtain ⟨h8, h9⟩ := mem_leavers.1 hl
      obtain hn | hn := hn
      · rw [hn] at h8
        exact Bool.false_ne_true h8
      · exact hn (State.leaves_iff.1 h9)
  refine ⟨fun hb hd => ?_, fun hb h0 hd => hgrant hb h0 (.inl hd) (.inl hd), fun hb h0 hd => h.newCause hb h0 hd,
    fun hb hd hk hl => ?_, fun hb h0 hd hx => hgrant hb h0 (.inr hd) (.inr ?_)⟩
  · obtain ⟨t, he, h1, h2, h3, h4, h5, -⟩ := h.refused (State.clearNow_barred m cause (h.barred.trans hb)) (.inl rfl)
    exact ⟨t, he, h5 hd, h1, h2, h3, h4⟩
  · obtain ⟨n, hn, hkn⟩ := hk
    have hne : s.clearing.dev ≠ .safe := by
      rw [h.dev]
      obtain hd | hd := hd <;> simp [hd]
    have hnil : s.clearing.leavers m = [] := by
      rw [h.leavers]
      exact List.eq_nil_iff_forall_not_mem.2 fun k hm =>
        hl k (mem_leavers.1 hm).1 (State.leaves_iff.1 (mem_leavers.1 hm).2)
    have hany : ((namedAxes m).any fun n => s.clearing.stays n) = true := by
      rw [h.anyStays, List.any_eq_true]
      exact ⟨n, mem_namedAxes.2 hn, State.stays_iff.2 hkn⟩
    obtain ⟨t, he, h1, h2, h3, h4, -, h6⟩ := h.refused (State.clearNow_refused (h.barred.trans hb) hne hnil hany) (.inr rfl)
    refine ⟨t, he, ?_, h1, h2, h3, h4⟩
    rw [h6 hd, State.allDisabled_of_fault ((h4 n).trans hkn.1)]
    rfl
  · obtain ⟨n, hn, hln⟩ | hno := hx
    · exact .inl (List.ne_nil_of_mem (mem_leavers.2 ⟨hn, State.leaves_iff.2 hln⟩))
    · refine .inr (List.any_eq_false.2 fun n hn hs => hno n (mem_namedAxes.1 hn) (State.stays_iff.1 hs))

end Sys2Proof.Machine
end
section
/-! SUPPORT. What the operations of a bundle leave (02 R42 to R51): the tick, the active mould, the cursor and the signatures
of the pour, and MON's crossings (O13). -/

namespace Sys2Proof.Machine

/-! ### Raising an event -/

theorem State.raise_frame (s : State) (k : Nat) : Frame raiseParts s (s.raise k) := by
  intro p hp
  cases p with
  | evm | mgmt | dev | safecause | tick | exch | moulds | ax | mon => simp [raiseParts] at hp
  | _ => simp [Part.same]

theorem State.cancelCopy_spec (s : State) : Frame [.mgmt, .moulds] s s.cancelCopy ∧
    s.cancelCopy.moulds.active = s.moulds.active ∧ s.cancelCopy.moulds.pend = s.moulds.pend := by
  have hf (t u : State) (h : t = { s with mgmt := t.mgmt, moulds := t.moulds }) (hu : Frame [.mgmt] t u) :
      Frame [.mgmt, .moulds] s u := by
    refine Frame.trans (t := t) (fun p hp => ?_) (hu.mono (by decide))
    rw [h]
    cases p with
    | mgmt | moulds => simp at hp
    | _ => rfl
  unfold State.cancelCopy
  split
  · dsimp only
    split
    · exact ⟨hf _ _ rfl (.refl _ _), rfl, rfl⟩
    · exact ⟨hf { s with mgmt := { s.mgmt with bg := none }, moulds := { s.moulds with inactok := false } } _ rfl
        (.of_mgmt _ _), rfl, rfl⟩
  · exact ⟨.refl _ s, rfl, rfl⟩

/-- With no activation pending SAFE leaves the tick, the buffers and the active mould. -/
theorem State.enterSafe_noPend {s : State} (c : BitVec 4) (h : s.moulds.pend = none) :
    (s.enterSafe c).tick = s.tick ∧ (s.enterSafe c).exch = s.exch ∧ (s.enterSafe c).moulds.active = s.moulds.active ∧
      (s.enterSafe c).moulds.pend = none ∧ (s.enterSafe c).mon.xSig = s.mon.xSig := by
  have hf (t : State) : t.moulds.pend = none → t.cancelActivation = t.cancelCopy := by
    intro ht
    simp only [State.cancelActivation, State.cancelPend, t.cancelCopy_spec.2.2, ht]
  have hs (t : State) (ht : t.moulds = s.moulds ∧ t.tick = s.tick ∧ t.exch = s.exch ∧ t.mon.xSig = s.mon.xSig) :
      let u := ((axes.foldl State.axFault t).cancelActivation.abortTest fun _ => true).clrCause c
      u.tick = s.tick ∧ u.exch = s.exch ∧ u.moulds.active = s.moulds.active ∧ u.moulds.pend = none ∧
        u.mon.xSig = s.mon.xSig := by
    obtain ⟨h1, h2, h3, h4⟩ := ht
    obtain ⟨k1, k2, k3⟩ := (axes.foldl State.axFault t).cancelCopy_spec
    have hc := hf (axes.foldl State.axFault t) (by simp [h1, h])
    simp only [State.clrCause, hc, State.abortTest_tick, State.abortTest_exch, State.abortTest_moulds, State.abortTest_mon,
      k1.tick_eq (by decide), k1.exch_eq (by decide), k1.mon_eq (by decide), k2, k3, State.faults_tick, State.faults_exch,
      State.faults_moulds, State.faults_mon, h1, h2, h3, h4, h]
    exact ⟨trivial, trivial, trivial, trivial, trivial⟩
  unfold State.enterSafe
  split
  · exact hs _ ⟨rfl, rfl, rfl, rfl⟩
  · exact hs _ ⟨rfl, rfl, rfl, rfl⟩
  · exact ⟨rfl, rfl, rfl, h, rfl⟩
  · exact ⟨rfl, rfl, rfl, h, rfl⟩

theorem State.raise_noPend {s : State} (k : Nat) (h : s.moulds.pend = none) : (s.raise k).tick = s.tick ∧
    (s.raise k).exch = s.exch ∧ (s.raise k).moulds.active = s.moulds.active ∧ (s.raise k).moulds.pend = none ∧
    (s.raise k).mon.xSig = s.mon.xSig := by
  unfold State.raise State.quenchFor
  dsimp only
  split
  · exact State.enterSafe_noPend (s := { s with
      evm := s.evm.route k, mgmt := { s.mgmt with ev203 := s.mgmt.ev203 || decide (k = 203) } }) 3 h
  · exact ⟨rfl, rfl, rfl, h, rfl⟩

/-! ### What an operation keeps -/

/-- The part of the pour that no operation writes: its cursor, its count and the signatures. -/
def Pour.course (p : Pour) : Bool × Word × Nat × Nat × Word × Word × Bool × Word :=
  (p.poured, p.pcnt, p.boff, p.nextCy, p.sig, p.psig, p.psok, p.psigOld)

/-- What the operations of a bundle keep, with no activation pending. -/
structure State.Issues (s t : State) : Prop where
  frame : Frame ([.pour, .conv] ++ raiseParts) s t
  tick : t.tick = s.tick
  active : t.moulds.active = s.moulds.active
  pend : t.moulds.pend = none
  xSig : t.mon.xSig = s.mon.xSig
  course : t.pour.course = s.pour.course

theorem State.Issues.refl {s : State} (h : s.moulds.pend = none) : s.Issues s := ⟨.refl _ s, rfl, rfl, h, rfl, rfl⟩

theorem State.Issues.trans {s t u : State} (h : s.Issues t) (k : t.Issues u) : s.Issues u :=
  ⟨h.frame.trans k.frame, k.tick.trans h.tick, k.active.trans h.active, k.pend, k.xSig.trans h.xSig, k.course.trans h.course⟩

/-- A change of the pour alone that leaves its course. -/
theorem State.issues_of_pour {s t : State} (hs : s.moulds.pend = none) (h : t = { s with pour := t.pour })
    (hc : t.pour.course = s.pour.course) : s.Issues t := by
  have ht (p : Part) (hp : p ∉ [Part.pour]) : p.same s t := by
    rw [h]
    cases p with
    | pour => simp at hp
    | _ => rfl
  have hm : Frame [.pour] s t := ht
  exact ⟨hm.mono (by decide), hm.tick_eq (by decide), congrArg Moulds.active (hm.moulds_eq (by decide)),
    (congrArg Moulds.pend (hm.moulds_eq (by decide))).trans hs, congrArg (fun m : Mon => m.xSig) (hm.mon_eq (by decide)), hc⟩

section
variable {s t : State} (h : s.Issues t)
include h

theorem State.Issues.raise (k : Nat) : s.Issues (t.raise k) := by
  obtain ⟨h1, -, h3, h4, h5⟩ := State.raise_noPend k h.pend
  exact h.trans ⟨(t.raise_frame k).mono (by decide), h1, h3, h4, h5, congrArg Pour.course (t.raise_pour k)⟩

theorem State.Issues.raiseIf (b : Bool) (k : Nat) : s.Issues (t.raiseIf b k) := by
  unfold State.raiseIf
  split
  · exact h.raise k
  · exact h

theorem State.Issues.pourFlag (k : Nat) : s.Issues (t.pourFlag k) := h.trans (State.issues_of_pour h.pend rfl rfl)

theorem State.Issues.setSat (b : Bool) : s.Issues (t.setSat b) := by
  unfold State.setSat
  split
  · exact (h.pourFlag 0).raiseIf _ _
  · exact h

theorem State.Issues.setClamped (b : Bool) : s.Issues (t.setClamped b) := by
  unfold State.setClamped
  split
  · exact (h.pourFlag 1).raise _
  · exact h

theorem State.Issues.later (lat unit : Nat) (a : WbAct) : s.Issues (t.later lat unit a) :=
  h.trans (State.issues_of_pour h.pend rfl rfl)

theorem State.Issues.setAcc (u : Bool) (k : BitVec 2) (x : BitVec 64) : s.Issues (t.setAcc u k x) :=
  h.trans (State.issues_of_pour h.pend rfl rfl)

theorem State.Issues.accResult (u : Bool) (k : BitVec 2) (x : Int × Bool) : s.Issues (accResult u k x t) :=
  (h.setAcc _ _ _).setSat _

theorem State.Issues.vResult (lat unit : Nat) (d : BitVec 6) (sh : Nat) (x : Word × Bool) :
    s.Issues (vResult lat unit d sh x t) := (h.later _ _ _).setSat _

theorem State.Issues.eccCorrected : s.Issues t.eccCorrected :=
  State.Issues.raise (t := { t with pour := { t.pour with eccc := sat8 t.pour.eccc } })
    (h.trans (State.issues_of_pour h.pend rfl rfl)) 202

theorem State.Issues.pdmRead (a : Nat) : s.Issues (t.pdmRead a).2 := by
  unfold State.pdmRead State.eccRead
  split
  · exact h
  · exact h.eccCorrected
  · exact (h.pourFlag 2).raise 203

theorem State.Issues.pdmWrite (a : Nat) (w : Word) : s.Issues (t.pdmWrite a w) :=
  h.trans (State.issues_of_pour h.pend rfl rfl)

theorem State.Issues.xStore (a : Nat) (w : Word) : s.Issues (t.xStore a w) := by
  unfold State.xStore
  have hx (e : Exch) : t.Issues { t with exch := e } := by
    have hf : Frame [.exch] t { t with exch := e } := fun p hp => by
      cases p with
      | exch => simp at hp
      | _ => rfl
    exact ⟨hf.mono (by decide), rfl, rfl, h.pend, rfl, rfl⟩
  unfold State.setXAct
  split
  · exact h.trans (hx _)
  · exact h.trans (hx _)

theorem State.Issues.markRead (pa : Nat) : s.Issues (t.markRead pa) := by
  unfold State.markRead
  split
  · have hf : Frame [.conv] t { t with conv := { t.conv with adrt := t.conv.adrt &&& 0x7F } } := fun p hp => by
      cases p with
      | conv => simp at hp
      | _ => rfl
    exact h.trans ⟨hf.mono (by decide), rfl, rfl, h.pend, rfl, rfl⟩
  · exact h

/-! ### Ports -/

theorem State.Issues.updPort (n : Fin 4) (f : PortAx → PortAx) : s.Issues (t.updPort n f) :=
  h.trans (State.issues_of_pour h.pend rfl rfl)

theorem State.Issues.raiseDrv (n : Fin 4) (j : Nat) : s.Issues (t.raiseDrv n j) := by
  have hf : Frame [.ax, .evm] t (t.raiseDrv n j) := t.raiseDrvIf_frame true n j
  exact h.trans ⟨hf.mono (by decide), hf.tick_eq (by decide), congrArg Moulds.active (hf.moulds_eq (by decide)),
    (congrArg Moulds.pend (hf.moulds_eq (by decide))).trans h.pend, congrArg (fun m : Mon => m.xSig) (hf.mon_eq (by decide)),
    congrArg Pour.course (hf.pour_eq (by decide))⟩

theorem State.Issues.cmpShadow (n : Fin 4) (p : Nat) (x : BitVec 20) : s.Issues (t.cmpShadow n p x) := by
  unfold State.cmpShadow
  split
  · exact h.updPort _ _
  · exact h.updPort _ _

theorem State.Issues.cmpWrite (n p : Fin 4) (w : Word) : s.Issues (t.cmpWrite n p w) := by
  unfold State.cmpWrite
  dsimp only
  split
  · split
    · exact h.updPort _ _
    · exact (h.cmpShadow _ _ _).raiseDrv _ _
  · exact h.cmpShadow _ _ _

theorem State.Issues.evset (w : Word) : s.Issues (t.evset w) :=
  List.foldlRecOn (motive := fun u : State => s.Issues u) _ _ h fun _ hu b _ => hu.raiseIf (w.getLsbD b) (208 + b)

theorem State.Issues.traceWrite (w : Word) : s.Issues (t.traceWrite w) := by
  unfold State.traceWrite
  split
  · exact h
  · exact h.trans (State.issues_of_pour h.pend rfl rfl)

theorem State.Issues.portWrite (pa : Nat) (w : Word) : s.Issues (t.portWrite pa w) := by
  unfold State.portWrite
  dsimp only
  split
  · split
    · exact h.updPort _ _
    · exact h.cmpWrite _ _ _
  · split
    · split
      · exact h.updPort _ _
      · exact h
    · split
      · exact h.evset w
      · split
        · exact h.traceWrite w
        · exact h

end

/-! ### One operation -/

/-- The operation goes on, and keeps what operations keep. -/
def State.Goes (s : State) (r : Res) : Prop := ∃ t, r = .next t ∧ s.Issues t

section
variable {s : State} (h : s.moulds.pend = none)
include h

theorem goes_guarded (g : Guard) {f : State → State} (hf : s.Issues (f s)) : s.Goes (guarded g f s) := by
  refine ⟨_, rfl, ?_⟩
  split
  · exact hf
  · exact .refl h

theorem goes_xu3 (g : Guard) (d : BitVec 6) (f : State → Word × Bool) : s.Goes (xu3 g d f s) :=
  goes_guarded h g ((State.Issues.refl h).vResult ..)

theorem goes_xu3p (g : Guard) (pd : BitVec 3) (f : State → Bool) : s.Goes (xu3p g pd f s) :=
  goes_guarded h g ((State.Issues.refl h).later ..)

theorem goes_xu2 (g : Guard) (d : BitVec 6) (f : State → Word × Bool) : s.Goes (xu2 g d f s) :=
  goes_guarded h g ((State.Issues.refl h).vResult ..)

omit h in
theorem goes_needReg {d : BitVec 6} {n : Nat} {r : Res} (hn : regsFit d n = true) (hr : s.Goes r) : s.Goes (needReg d n r) := by
  rw [needReg, if_pos (of_decide_eq_true hn)]
  exact hr

theorem goes_opProd (u : Bool) (g : Guard) (k : BitVec 2) (a b : BitVec 6) {sc : BitVec 2} (rm : Bool)
    (f : Int → Int → Int) (hc : sc ≠ 3) : s.Goes (opProd u g k a b sc rm f s) := by
  rw [opProd, if_neg hc]
  exact goes_guarded h g ((State.Issues.refl h).accResult ..)

/-- What is read under a guard, or left. -/
theorem goes_ite (c : Bool) {t : State} (ht : s.Issues t) : s.Goes (if c = true then .next t else .next s) := by
  split
  · exact ⟨t, rfl, ht⟩
  · exact ⟨s, rfl, .refl h⟩

omit h in
theorem goes_withRd {k : BitVec 4} {n : Nat} {f : Rng → State → Res}
    (hd : (match s.rdesc k with | some r => decide (n ≤ r.len) | none => false) = true)
    (hf : ∀ r : Rng, n ≤ r.len → s.Goes (f r s)) : s.Goes (withRd k f s) := by
  unfold withRd
  cases hk : s.rdesc k with
  | none =>
    rw [hk] at hd
    exact absurd hd Bool.false_ne_true
  | some r =>
    rw [hk] at hd
    exact hf r (of_decide_eq_true hd)

theorem goes_storeRd (g : Guard) (c : Bool) (a i : BitVec 6) {k : BitVec 4}
    (hd : (match s.rdesc k with | some r => decide (1 ≤ r.len) | none => false) = true) : s.Goes (storeRd g c a i k s) :=
  goes_withRd hd fun _ _ => goes_ite h _ (((State.Issues.refl h).setClamped _).pdmWrite _ _)

theorem goes_opTint (g : Guard) (d x : BitVec 6) {k : BitVec 4} (rm : Bool)
    (hd : (match s.rdesc k with | some r => decide (2 ≤ r.len) | none => false) = true) : s.Goes (opTint g d x k rm s) := by
  refine goes_withRd hd fun r hr => ?_
  have hc := (State.Issues.refl h).setClamped (tintIdx r (s.vreg x).toInt).2.2
  dsimp only
  rw [if_neg (by omega)]
  split
  · split
    · exact ⟨_, rfl, (hc.pdmRead _).later ..⟩
    · exact ⟨_, rfl, ((hc.pdmRead _).pdmRead _).later ..⟩
  · exact ⟨s, rfl, .refl h⟩

theorem goes_opPrd (g : Guard) (d : BitVec 6) {pa : BitVec 12} (hp : portReadable pa.toNat = true) :
    s.Goes (opPrd g d pa s) := by
  rw [opPrd, if_pos hp]
  exact goes_guarded h g (((State.Issues.refl h).later ..).markRead _)

theorem goes_portOut (g : Guard) {pa : BitVec 12} (f : State → Word) (hp : portWritable pa.toNat = true) :
    s.Goes (portOut g pa f s) := by
  rw [portOut, if_pos hp]
  refine ⟨_, rfl, ?_⟩
  split
  · exact (State.Issues.refl h).portWrite _ _
  · exact .refl h

/-- Every well-formed operation goes on, whose descriptor the mould declares (03 R90). -/
theorem issueOp_goes {i : Instr} (hi : isSlotOp i = true) (hw : i.wf = true) (hd : s.declares i = true) :
    s.Goes (issueOp i s) := by
  have hr := State.Issues.refl h
  cases i with
  | mul | mac | msu =>
    simp only [issueOp, opMul, opMac, opMsu]
    exact goes_opProd h _ _ _ _ _ _ _ (of_decide_eq_true hw)
  | madv | adda => simp only [issueOp]; exact goes_guarded h _ (hr.accResult ..)
  | lda | clra => simp only [issueOp]; exact goes_guarded h _ (hr.setAcc ..)
  | mulv => simp only [issueOp]; exact goes_guarded h _ (hr.vResult ..)
  | clamp => simp only [issueOp]; exact goes_guarded h _ ((hr.later ..).later ..)
  | mova | push | subh => simp only [issueOp]; exact goes_needReg hw (goes_guarded h _ (hr.vResult ..))
  | movac => simp only [issueOp]; exact goes_needReg hw (goes_guarded h _ (((hr.later ..).later ..).setSat _))
  | sincos => simp only [issueOp]; exact goes_needReg hw (goes_guarded h _ (hr.later ..))
  | atan2 | sqrt | recip | mag => simp only [issueOp]; exact goes_xu2 h _ _ _
  | add | sub | addw | subw | neg | abs | min | max | sel | mov | and | or | xor | andn | shl | shr | shll | shrl | shrr
  | ldi | lui => simp only [issueOp]; exact goes_xu3 h _ _ _
  | cmplt | cmple | cmpeq | cmpne | cmpltu | tstb | pand | por | pxor => simp only [issueOp]; exact goes_xu3p h _ _ _
  | ld => simp only [issueOp]; exact goes_ite h _ ((hr.pdmRead _).later ..)
  | st => simp only [issueOp]; exact goes_ite h _ (hr.pdmWrite ..)
  | ldx => simp only [issueOp]; exact goes_ite h _ (hr.later ..)
  | stx g a xofs =>
    have hx : ¬xofs.toNat < 2048 := Nat.not_lt.2 (of_decide_eq_true hw)
    simp only [issueOp, opStx, if_neg hx]
    exact goes_ite h _ (hr.xStore ..)
  | ldr => simp only [issueOp]; exact goes_withRd hd fun _ _ => goes_ite h _ (((hr.setClamped _).pdmRead _).later ..)
  | str | strc => simp only [issueOp]; exact goes_storeRd h _ _ _ _ hd
  | tint => simp only [issueOp]; exact goes_opTint h _ _ _ _ hd
  | prd => simp only [issueOp]; exact goes_opPrd h _ _ hw
  | pwr | pwri => simp only [issueOp]; exact goes_portOut h _ _ hw
  | _ => exact absurd hi Bool.false_ne_true

end

/-- What a unit decodes is an operation of a slot. -/
theorem isSlotOp_of_decodeSlot {u : Nat} {w : Word} {i : Instr} (h : decodeSlot u w = some i) : isSlotOp i = true := by
  have hm (b : Bool) : decodeMac b w = some i → isSlotOp i = true := by
    unfold decodeMac
    dsimp only
    split <;> intro h <;> cases h <;> rfl
  unfold decodeSlot at h
  split at h
  · exact hm _ h
  · exact hm _ h
  · unfold decodeTrig at h
    dsimp only at h
    split at h <;> cases h <;> rfl
  · unfold decodeLogic at h
    dsimp only at h
    split at h <;> cases h <;> rfl
  · unfold decodeMem at h
    dsimp only at h
    split at h <;> cases h <;> rfl
  · unfold decodePort at h
    dsimp only at h
    split at h <;> cases h <;> rfl
  · cases h

/-! ### A bundle -/

/-- The descriptors are the active mould's. -/
theorem State.declares_congr {s t : State} (h : t.moulds.active = s.moulds.active) (i : Instr) :
    t.declares i = s.declares i := by
  have hr (k : BitVec 4) : t.rdesc k = s.rdesc k := by simp only [State.rdesc, h]
  simp only [State.declares, hr]

theorem State.Issues.declares {s t : State} (h : s.Issues t) (i : Instr) : t.declares i = s.declares i :=
  State.declares_congr h.active i

theorem issueSlots_goes (l : List (Nat × Word)) {s : State} (h : s.moulds.pend = none)
    (hl : ∀ x ∈ l, ∃ i, decodeSlot x.1 x.2 = some i ∧ i.wf = true ∧ s.declares i = true) : s.Goes (issueSlots l s) := by
  induction l generalizing s with
  | nil => exact ⟨s, rfl, .refl h⟩
  | cons x r ih =>
    obtain ⟨u, w⟩ := x
    obtain ⟨i, hi, hw, hd⟩ := hl (u, w) (List.mem_cons_self ..)
    obtain ⟨t, ht, hst⟩ := issueOp_goes h (isSlotOp_of_decodeSlot hi) hw hd
    obtain ⟨v, hv, htv⟩ := ih hst.pend fun x hx => by
      obtain ⟨j, hj, hjw, hjd⟩ := hl x (List.mem_cons_of_mem _ hx)
      exact ⟨j, hj, hjw, (hst.declares j).trans hjd⟩
    refine ⟨v, ?_, hst.trans htv⟩
    change (match decodeSlot u w with
      | none => _
      | some i => match issueOp i s with
        | .next s1 => issueSlots r s1
        | r => r) = _
    rw [hi]
    change (match issueOp i s with
      | .next s1 => issueSlots r s1
      | r => r) = _
    rw [ht]
    exact hv

theorem State.Issues.fetchCorrect {s t : State} (h : s.Issues t) (n : Nat) : s.Issues (t.fetchCorrect n) :=
  List.foldlRecOn (motive := fun u : State => s.Issues u) _ _ h fun _ hu _ _ => hu.eccCorrected

end Sys2Proof.Machine
end
section
/-! SUPPORT. The pour that closes and the one that begins at a tick boundary (01 R18, R20; 02 R77 to R80; O13). -/

namespace Sys2Proof.Machine

/-! ### Writing results back -/

/-- Writing results back changes registers, predicates and what is in flight. -/
theorem retire_eq (c : Nat) (q : Pour) : retire c q =
    { q with v := (retire c q).v, p := (retire c q).p, inflight := (retire c q).inflight } := by
  have hw (q : Pour) (w : WbAct) : applyWB q w = { q with v := (applyWB q w).v, p := (applyWB q w).p } := by
    cases w with
    | v | pair | p => rfl
  have hf (l : List WB) : ∀ q : Pour, ∃ v p, l.foldl (fun q w => applyWB q w.act) q = { q with v, p } := by
    induction l with
    | nil => exact fun q => ⟨q.v, q.p, rfl⟩
    | cons w l ih =>
      intro q
      obtain ⟨v, p, h⟩ := ih (applyWB q w.act)
      refine ⟨v, p, ?_⟩
      rw [List.foldl_cons, h, hw]
  obtain ⟨v, p, h⟩ := hf (q.inflight.filter fun w => decide (w.due ≤ c)) q
  simp only [retire, h]

theorem retire_course (c : Nat) (q : Pour) : (retire c q).course = q.course ∧ (retire c q).ax = q.ax := by
  rw [retire_eq]
  exact ⟨rfl, rfl⟩

/-! ### The boundary up to the axes -/

theorem Four.get_map {α β : Type} (x : Four α) (f : α → β) (n : Fin 4) : (x.map f).get n = f (x.get n) := by
  unfold Four.get Four.map
  split <;> rfl

/-- The ports of an axis as a tick finds them. -/
def PortAx.fresh (p : PortAx) : Prop := p.linkctl = 0 ∧ p.imm = false ∧ p.sent = false

/-- What a tick boundary has done to tick, pour and signatures before the axes change. -/
structure State.AtBoundary (s t : State) : Prop where
  tick : t.tick = s.tick.next
  sync : t.sync = { s.sync with pulse := s.sync.pulseAt (s.tick.atZero || s.tick.acqBase.isSome) }
  exch : t.exch = { s.exch with swapped := false, xpPast := false }
  fresh : ∀ n, (t.pour.ax.get n).fresh
  pcnt : t.pour.pcnt = s.pour.pcnt
  upsets : t.pour.upsets = s.pour.upsets
  closed : s.pour.poured = true → t.pour.psig = s.pourSig ∧ t.pour.psok = decide (s.pourSig = s.moulds.psigx) ∧
    t.pour.psigOld = s.pour.psig ∧ t.mon.xSig = s.mon.xSig.write (s.pourSig, s.moulds.psigx)

section
variable {s : State} (h : s.stdFinish = s)
include h

theorem State.closePour_pour : s.closePour.pour.pcnt = s.pour.pcnt ∧ s.closePour.pour.upsets = s.pour.upsets ∧
    (s.pour.poured = true → s.closePour.pour.psig = s.pourSig ∧
      s.closePour.pour.psok = decide (s.pourSig = s.moulds.psigx) ∧ s.closePour.pour.psigOld = s.pour.psig) := by
  have hr := retire_eq (2 ^ 32) s.pour
  have hsig : ({ s with pour := retire (2 ^ 32) s.pour } : State).pourSig = s.pourSig := by
    rw [hr]
    rfl
  unfold State.closePour
  split
  · rw [h]
    dsimp only
    rw [hr]
    exact ⟨rfl, rfl, fun _ => ⟨rfl, rfl, rfl⟩⟩
  · exact ⟨rfl, rfl, fun hp => absurd hp ‹_›⟩

theorem State.atBoundary_spec : s.AtBoundary s.atBoundary := by
  obtain ⟨h1, h2, h3⟩ := State.closePour_pour h
  have hp : s.atBoundary.pour = { s.closePour.pour with
      ax := s.closePour.pour.ax.map fun p => { p with imm := false, linkctl := 0, sent := false } } :=
    (State.runAgain_frame _).pour_eq (by decide)
  have hs : s.atBoundary.sync = { s.closePour.sync with
      pulse := s.closePour.sync.pulseAt (s.closePour.tick.atZero || s.closePour.tick.acqBase.isSome) } :=
    (State.runAgain_frame _).sync_eq (by decide)
  have he : s.atBoundary.exch = { s.closePour.exch with swapped := false, xpPast := false } :=
    (State.runAgain_frame _).exch_eq (by decide)
  have hc := State.closePour_frame h
  rw [hc.sync_eq (by decide), hc.tick_eq (by decide)] at hs
  rw [hc.exch_eq (by decide)] at he
  refine ⟨State.atBoundary_tick h, hs, he, fun n => ?_, ?_, ?_, fun hpo => ?_⟩
  · rw [hp]
    rw [Four.get_map]
    exact ⟨rfl, rfl, rfl⟩
  · rw [hp]
    exact h1
  · rw [hp]
    exact h2
  · obtain ⟨k1, k2, k3⟩ := h3 hpo
    refine ⟨?_, ?_, ?_, ?_⟩
    · rw [hp]
      exact k1
    · rw [hp]
      exact k2
    · rw [hp]
      exact k3
    · rw [State.atBoundary_mon, State.closePour_mon h]
      exact if_pos hpo

end

/-! ### Axes that are disabled -/

theorem State.axFault_disabled {s : State} {n : Fin 4} (hs : (s.axis n).st = .disabled) (hn : (s.axis n).nxt = none) :
    s.axFault n = s := if_pos ⟨hs, hn⟩

/-- To a disabled axis that asks for nothing the mould's report does nothing, where it brings no new reaction. -/
theorem State.readMould_disabled {s : State} {n : Fin 4} (hs : (s.axis n).st = .disabled) (hn : (s.axis n).nxt = none)
    (hr : (s.report n).reacts ≤ (s.mgmt.jax.get n).seen) : s.readMould n = s := by
  have hf := State.axFault_disabled hs hn
  have hre : s.readReaction n (s.report n) = s := if_pos hr
  unfold State.readMould
  simp only [hs, hf, hre]
  split
  · rfl
  · split
    · rfl
    · split <;> rfl

/-- A custom mould's report names no reaction of a disabled axis. -/
theorem State.report_disabled {s : State} {n : Fin 4} {m : MouldInfo} (hm : s.moulds.active = some m) (hc : m.std = none)
    (hs : (s.axis n).st = .disabled) : (s.report n).reacts = 0 := by
  simp [State.report, hm, hc, hs]

/-- A report is read off the mould, the inactive buffer, the axis and its job. -/
theorem State.report_congr {s t : State} {n : Fin 4} (hm : t.moulds.active = s.moulds.active) (hx : t.xInact = s.xInact)
    (ha : (t.axis n).st = (s.axis n).st) (hj : t.mgmt.jax.get n = s.mgmt.jax.get n) : t.report n = s.report n := by
  unfold State.report
  rw [hm, hx, ha, hj]

theorem State.profStore_custom {s : State} (n : Fin 4) (h : s.stdK = none) : s.profStore n = s := by
  simp [State.profStore, h]

/-- A profile block only moves the travel store. -/
theorem State.profStore_spec (s : State) (n : Fin 4) : Frame [.mgmt] s (s.profStore n) ∧
    (s.profStore n).mgmt = { s.mgmt with travel := (s.profStore n).mgmt.travel } := by
  unfold State.profStore
  split
  · exact ⟨.refl _ s, rfl⟩
  · exact ⟨.of_mgmt s _, rfl⟩

theorem foldl_axes_self {f : State → Fin 4 → State} {s : State} (h : ∀ n, f s n = s) : axes.foldl f s = s := by
  simp only [axes, List.foldl_cons, List.foldl_nil, h]

/-- The axes have nothing to do at the boundary (O13). -/
structure State.AxesIdle (s : State) : Prop where
  jobs : s.mgmt.jobs = []
  clr : s.mgmt.clr = none
  idle : ∀ n : Fin 4, (s.axis n).nxt = none ∧ (s.mgmt.jax.get n).req = 0

section
variable {s : State} (h : s.AxesIdle)
include h

theorem State.AxesIdle.axisChange (n : Fin 4) : s.axisChange n = s :=
  State.axisChange_idle (h.idle n).2 h.jobs (h.idle n).1

theorem State.AxesIdle.axesBoundary : s.axesBoundary = axes.foldl State.axisBoundary s := by
  simp only [State.axesBoundary, h.clr]

theorem State.AxesIdle.axesBoundary_noMould (hm : s.moulds.active = none) : s.axesBoundary = s := by
  rw [h.axesBoundary]
  refine foldl_axes_self fun n => ?_
  rw [State.axisBoundary_noMould n hm, h.axisChange n]

theorem State.AxesIdle.axesBoundary_custom {m : MouldInfo} (hm : s.moulds.active = some m) (hc : m.std = none)
    (hs : ∀ n : Fin 4, (s.axis n).st = .disabled) : s.axesBoundary = s := by
  rw [h.axesBoundary]
  refine foldl_axes_self fun n => ?_
  have hr : s.readMould n = s := State.readMould_disabled (hs n) (h.idle n).1 (by simp [State.report_disabled hm hc (hs n)])
  rw [State.axisBoundary, State.profStore_custom n (by simp [State.stdK, hm, hc]), hr, h.axisChange n]

/-- A standard mould's reports bring nothing new to disabled axes; their profiles are stored. -/
theorem State.AxesIdle.axesBoundary_std
    (hs : ∀ n : Fin 4, (s.axis n).st = .disabled ∧ (s.report n).reacts ≤ (s.mgmt.jax.get n).seen) :
    Frame [.mgmt] s s.axesBoundary := by
  rw [h.axesBoundary]
  suffices hI : Frame [.mgmt] s (axes.foldl State.axisBoundary s) ∧
      (axes.foldl State.axisBoundary s).mgmt = { s.mgmt with travel := (axes.foldl State.axisBoundary s).mgmt.travel } from hI.1
  refine List.foldlRecOn (motive := fun t : State => Frame [.mgmt] s t ∧ t.mgmt = { s.mgmt with travel := t.mgmt.travel })
    axes State.axisBoundary ⟨.refl _ s, rfl⟩ fun t ⟨hf, hg⟩ n _ => ?_
  obtain ⟨pf, pg⟩ := t.profStore_spec n
  have hfp : Frame [.mgmt] s (t.profStore n) := hf.trans pf
  have hgp : (t.profStore n).mgmt = { s.mgmt with travel := (t.profStore n).mgmt.travel } :=
    pg.trans (congrArg (fun g : Mgmt => { g with travel := (t.profStore n).mgmt.travel }) hg)
  have ha (k : Fin 4) : (t.profStore n).axis k = s.axis k := hfp.axis_eq (by decide) k
  have hj : (t.profStore n).mgmt.jax = s.mgmt.jax := by rw [hgp]
  have hrep : (t.profStore n).report n = s.report n := by
    have h1 : (t.profStore n).mgmt.jax.get n = s.mgmt.jax.get n := by rw [hj]
    have hx : (t.profStore n).xInact = s.xInact := by rw [State.xInact, State.xInact, hfp.exch_eq (by decide)]
    exact State.report_congr (congrArg Moulds.active (hfp.moulds_eq (by decide))) hx (congrArg Axis.st (ha n)) h1
  have hrm : (t.profStore n).readMould n = t.profStore n := by
    refine State.readMould_disabled ?_ ?_ ?_
    · rw [ha n]
      exact (hs n).1
    · rw [ha n]
      exact (h.idle n).1
    · rw [hrep, hj]
      exact (hs n).2
  have hac : (t.profStore n).axisChange n = t.profStore n := by
    refine State.axisChange_idle ?_ ?_ ?_
    · rw [hj]
      exact (h.idle n).2
    · rw [hgp]
      exact h.jobs
    · rw [ha n]
      exact (h.idle n).1
  rw [State.axisBoundary, hrm, hac]
  exact ⟨hfp, hgp⟩

end

/-! ### The pour that begins -/

theorem State.idleSnapshot_of_mould {s : State} {m : MouldInfo} (h : s.moulds.active = some m) : s.idleSnapshot = s := by
  simp [State.idleSnapshot, h]

/-- The pour of a mould at its begin: counted, and at its first bundle. -/
def State.pourBegun (s : State) (m : MouldInfo) : State :=
  { s with pour := { s.pour with
    poured := true, sig := 0xFFFFFFFF, boff := 0, nextCy := 0, cutNow := false, pcnt := s.pour.pcnt + 1
    ended := m.std.isSome } }

theorem State.startPour_std {s : State} {m : MouldInfo} {k : Nat} (hm : s.moulds.active = some m) (hk : m.std = some k) :
    s.startPour = .next ((s.pourBegun m).stdBegin m) := by
  unfold State.startPour
  rw [hm]
  exact if_pos (hk ▸ rfl)

theorem State.startPour_custom {s : State} {m : MouldInfo} (hm : s.moulds.active = some m) (hk : m.std = none) :
    s.startPour = issueBundle m (s.pourBegun m) := by
  unfold State.startPour
  rw [hm]
  exact if_neg (hk ▸ Bool.false_ne_true)

/-- The bundle has issued: its bytes are in the signature, and the cursor is past it. -/
def State.pastBundle (s : State) (m : MouldInfo) (b : Bundle) (cy : Nat) : State :=
  { s with pour := { s.pour with
    sig := crcRun s.pour.sig b.stream
    boff := s.pour.boff + b.size
    nextCy := cy + 1 + hdrIdle b.hdr
    ended := decide (m.code.length ≤ s.pour.boff + b.size) } }

theorem State.fetchCorrect_ax (s : State) (n : Nat) : (s.fetchCorrect n).pour.ax = s.pour.ax := by
  refine List.foldlRecOn (motive := fun t : State => t.pour.ax = s.pour.ax) _ _ rfl fun t ht k _ => ?_
  unfold State.eccCorrected
  rw [State.raise_pour]
  exact ht

/-- Bundle 0 of a pour issues at position 0. -/
theorem issueBundle_first {s : State} {m : MouldInfo} {b : Bundle} (hb : takeBundle m.code = some b)
    (ho : s.pour.boff = 0) (hc : s.pour.nextCy = 0) (hx : 0 < m.xp) (hp : s.moulds.pend = none)
    (hu : ∀ j, j ≤ b.slots.length → Sparse.get 0 j s.pour.upsets ≤ 1)
    (hl : ∀ x ∈ b.slots, ∃ i, decodeSlot x.1 x.2 = some i ∧ i.wf = true ∧ s.declares i = true) :
    ∃ t, issueBundle m s = .next (t.pastBundle m b 0).endCycle ∧ s.Issues t ∧
      (b.slots = [] → t = s.fetchCorrect ((s.fetchUpsets b).filter fun n => decide (n = 1)).length) := by
  have hany : (s.fetchUpsets b).any (fun n => decide (2 ≤ n)) = false := by
    rw [List.any_eq_false]
    intro n hn
    obtain ⟨j, hj, rfl⟩ := List.mem_map.1 hn
    have hle := hu j (by rw [List.mem_range] at hj; omega)
    rw [ho, Nat.zero_div, Nat.zero_add]
    simp only [decide_eq_true_eq]
    omega
  have hf := (State.Issues.refl hp).fetchCorrect ((s.fetchUpsets b).filter fun n => decide (n = 1)).length
  obtain ⟨t, ht, hst⟩ := issueSlots_goes b.slots hf.pend fun x hx => by
    obtain ⟨i, hi, hw, hd⟩ := hl x hx
    exact ⟨i, hi, hw, (hf.declares i).trans hd⟩
  refine ⟨t, ?_, hf.trans hst, fun hs => ?_⟩
  · unfold issueBundle
    rw [ho, List.drop_zero, hb]
    dsimp only
    rw [hc, if_neg (by omega : ¬m.xp ≤ 0), if_pos rfl, if_neg (hany ▸ Bool.false_ne_true), ht]
    rfl
  · rw [hs] at ht
    cases ht
    rfl

end Sys2Proof.Machine
end
section
/-! SUPPORT. The tick boundary and the pour it begins (O13). -/

namespace Sys2Proof.Machine

/-! ### What the boundary has done once the pour begins -/

theorem Tick.next_fields {t : Tick} (h : t.acqBase = none) :
    t.next.hidx = (if t.atZero then t.hidx else t.hidx + 1) ∧ t.next.atZero = false ∧
      t.next.start = (if t.atZero then 0 else t.start) ∧ t.next.heat = t.heat ∧
      t.next.base = (if t.atZero then t.base else t.base + t.tper) ∧ t.next.cy = if t.atZero then t.start else 0 := by
  unfold Tick.next
  rw [h]
  cases t.atZero <;> simp

/-- The next tick and its pour have begun (01 R18, R20; 07 R234). -/
def State.Began (s t : State) : Prop :=
  t.tick.hidx = (if s.tick.atZero then s.tick.hidx else s.tick.hidx + 1) ∧ t.tick.atZero = false ∧
    t.tick.start = (if s.tick.atZero then 0 else s.tick.start) ∧ t.tick.heat = s.tick.heat ∧
    t.tick.base = (if s.tick.atZero then s.tick.base else s.tick.base + s.tick.tper) ∧ t.pour.poured = true ∧
    t.sync = { s.sync with pulse := if s.sync.mode = 0 then 0 else if s.tick.atZero then 48 else 16 }

theorem State.began_of {s t : State} {c : Nat} (hq : s.tick.acqBase = none) (ht : t.tick = { s.tick.next with cy := c })
    (hs : t.sync = { s.sync with pulse := s.sync.pulseAt (s.tick.atZero || s.tick.acqBase.isSome) })
    (hp : t.pour.poured = true) : s.Began t := by
  obtain ⟨h1, h2, h3, h4, h5, -⟩ := Tick.next_fields hq
  refine ⟨?_, ?_, ?_, ?_, ?_, hp, ?_⟩
  · rw [ht]
    exact h1
  · rw [ht]
    exact h2
  · rw [ht]
    exact h3
  · rw [ht]
    exact h4
  · rw [ht]
    exact h5
  · rw [hs, hq, Option.isSome_none, Bool.or_false]
    rfl

theorem State.AtBoundary.trans {s t u : State} (h : s.AtBoundary t) (hf : Frame [.dev, .mon, .mgmt] t u)
    (hx : u.mon.xSig = t.mon.xSig) : s.AtBoundary u := by
  have hp : u.pour = t.pour := hf.pour_eq (by decide)
  refine ⟨(hf.tick_eq (by decide)).trans h.tick, (hf.sync_eq (by decide)).trans h.sync, (hf.exch_eq (by decide)).trans h.exch,
    ?_, ?_, ?_, ?_⟩ <;> rw [hp]
  · exact h.fresh
  · exact h.pcnt
  · exact h.upsets
  · rw [hx]
    exact h.closed

theorem State.devFromAxes_xSig (s : State) : s.devFromAxes.mon.xSig = s.mon.xSig := by
  unfold State.devFromAxes
  split
  · split <;> rfl
  · split <;> rfl
  · rfl

/-- The state in which the pour of the tick begins, with a mould active. -/
def State.pourDue (s : State) : State := s.atBoundary.axesBoundary.devFromAxes

theorem State.pourDue_spec {s : State} (h : s.stdFinish = s) (ha : Frame [.mgmt] s.atBoundary s.atBoundary.axesBoundary) :
    s.AtBoundary s.pourDue ∧ Frame [.run, .exch, .pour, .tick, .sync, .mon, .mgmt, .dev] s s.pourDue := by
  have hd : Frame [.dev, .mon] s.atBoundary.axesBoundary s.pourDue := State.devFromAxes_frame _
  refine ⟨(State.atBoundary_spec h).trans ((ha.mono (by decide)).trans (hd.mono (by decide))) ?_,
    (((State.atBoundary_frame h).mono (by decide)).trans (ha.mono (by decide))).trans (hd.mono (by decide))⟩
  rw [State.pourDue, State.devFromAxes_xSig, ha.mon_eq (by decide)]

theorem exec_tickBoundary_mould {s : State} {m : MouldInfo} (hon : s.tick.on = true)
    (hh : s.tick.hidx ≠ 15 ∨ s.tick.atZero = true) (h : s.stdFinish = s)
    (ha : Frame [.mgmt] s.atBoundary s.atBoundary.axesBoundary) (hp : s.moulds.pend = none)
    (hm : s.moulds.active = some m) : exec .tickBoundary s = endOfCy0 s.pourDue.startPour := by
  obtain ⟨-, hf⟩ := State.pourDue_spec h ha
  have hmo : s.atBoundary.axesBoundary.moulds = s.moulds :=
    (ha.moulds_eq (by decide)).trans ((State.atBoundary_frame h).moulds_eq (by decide))
  have hi : s.pourDue.idleSnapshot = s.pourDue :=
    State.idleSnapshot_of_mould ((congrArg Moulds.active (hf.moulds_eq (by decide))).trans hm)
  rw [exec_tickBoundary hon hh (by rw [hmo, hp])]
  change endOfCy0 s.pourDue.idleSnapshot.startPour = _
  rw [hi]

/-! ### The edge a standard mould reads, and the words it loads -/

theorem and_low7_of_bit7 : ∀ x : BitVec 8, x.getLsbD 7 = false → x &&& 0x7F = x := by decide

theorem State.stdFetch_sound {s : State} (m : MouldInfo) (hu : s.pour.upsets = []) : s.stdFetch m = s := by
  simp only [State.stdFetch, Pour.firstBad, hu, List.find?_nil, Option.map_none, List.filter_nil]
  rfl

/-- A standard mould begins its pour on words without flipped bits (06 R199, 05 R146). -/
theorem State.stdBegin_sound {s : State} (m : MouldInfo) (hu : s.pour.upsets = []) :
    Frame [.std, .conv] s (s.stdBegin m) ∧
    (s.stdBegin m).conv = { s.conv with adrt := s.conv.adrt &&& 0x7F } ∧ (s.stdBegin m).std.todo = 0xF ∧
    (s.stdBegin m).std.lat = s.xAct.inId ∧ (s.stdBegin m).std.latStep = s.xAct.step ∧
    (s.conv.adrt.getLsbD 7 = true → s.conv.adrt.getLsbD 6 = true → (s.stdBegin m).std.edge = some s.conv.adrv.toInt) ∧
    (s.conv.adrt.getLsbD 7 = false → (s.stdBegin m).std.edgeAge = s.std.edgeAge + 1) := by
  have hpe : s.stdEdge.pour = s.pour := by
    unfold State.stdEdge
    dsimp only
    split <;> rfl
  have hfetch : s.stdBegin m = { s.stdEdge.stdLoad with std := { s.stdEdge.stdLoad.std with todo := 0xF } } :=
    State.stdFetch_sound m ((congrArg Pour.upsets hpe).trans hu)
  rw [hfetch]
  have hframe (t : State) (h : t = { s with std := t.std, conv := t.conv }) : Frame [.std, .conv] s t := by
    rw [h]
    intro p hp
    cases p with
    | std | conv => simp at hp
    | _ => rfl
  cases h7 : s.conv.adrt.getLsbD 7 with
  | false =>
    have he : s.stdEdge = { s with std := { s.std with edgeAge := s.std.edgeAge + 1 } } :=
      if_neg (h7 ▸ Bool.false_ne_true)
    rw [he]
    refine ⟨hframe _ rfl, ?_, rfl, rfl, rfl, fun h => absurd h Bool.false_ne_true, fun _ => rfl⟩
    change s.conv = { s.conv with adrt := s.conv.adrt &&& 0x7F }
    rw [and_low7_of_bit7 _ h7]
  | true =>
    have he : s.stdEdge = ({ s with std := if s.conv.adrt.getLsbD 6 then
        { s.std with edge := some s.conv.adrv.toInt, edgeAge := 0, edgeNoRef := false }
        else { s.std with edgeNoRef := true, edgeAge := 0 } } : State).markRead 0x100 := if_pos h7
    rw [he]
    refine ⟨hframe _ rfl, rfl, rfl, rfl, rfl, fun _ h6 => ?_, fun h => absurd h.symm Bool.false_ne_true⟩
    change (if s.conv.adrt.getLsbD 6 = true then _ else _ : StdSt).edge = _
    rw [if_pos h6]

/-! ### A custom mould's first bundle -/

theorem State.Issues.course_fields {s t : State} (h : s.Issues t) : t.pour.poured = s.pour.poured ∧
    t.pour.pcnt = s.pour.pcnt ∧ t.pour.boff = s.pour.boff ∧ t.pour.sig = s.pour.sig ∧ t.pour.psig = s.pour.psig ∧
    t.pour.psok = s.pour.psok ∧ t.pour.psigOld = s.pour.psigOld := by
  have hc := h.course
  simp only [Pour.course, Prod.mk.injEq] at hc
  obtain ⟨h1, h2, h3, -, h4, h5, h6, h7⟩ := hc
  exact ⟨h1, h2, h3, h4, h5, h6, h7⟩

/-- The tick boundary with a custom mould whose pour starts on readable words: bundle 0 issues (O13). -/
theorem exec_tickBoundary_custom {s : State} {m : MouldInfo} {b : Bundle} (hon : s.tick.on = true)
    (hh : s.tick.hidx ≠ 15 ∨ s.tick.atZero = true) (h : s.stdFinish = s)
    (ha : Frame [.mgmt] s.atBoundary s.atBoundary.axesBoundary) (hp : s.moulds.pend = none)
    (hm : s.moulds.active = some m) (hc : m.std = none) (hx : 0 < m.xp) (hb : takeBundle m.code = some b)
    (hu : ∀ j, j ≤ b.slots.length → Sparse.get 0 j s.pour.upsets ≤ 1)
    (hl : ∀ x ∈ b.slots, ∃ i, decodeSlot x.1 x.2 = some i ∧ i.wf = true ∧ s.declares i = true) :
    ∃ t, exec .tickBoundary s = .next (t.pastBundle m b 0).endCycle.fiUpdate ∧ (s.pourDue.pourBegun m).Issues t ∧
      (b.slots = [] → t = (s.pourDue.pourBegun m).fetchCorrect
        (((s.pourDue.pourBegun m).fetchUpsets b).filter fun n => decide (n = 1)).length) := by
  obtain ⟨hat, hf⟩ := State.pourDue_spec h ha
  have hmo : s.pourDue.moulds = s.moulds := hf.moulds_eq (by decide)
  have hup : (s.pourDue.pourBegun m).pour.upsets = s.pour.upsets := hat.upsets
  obtain ⟨t, ht, hi, hs⟩ := issueBundle_first (s := s.pourDue.pourBegun m) hb rfl rfl hx
    ((congrArg Moulds.pend hmo).trans hp) (hup ▸ hu) fun x hx => by
      obtain ⟨i, hi, hw, hd⟩ := hl x hx
      exact ⟨i, hi, hw, (State.declares_congr (congrArg Moulds.active hmo) i).trans hd⟩
  refine ⟨t, ?_, hi, hs⟩
  rw [exec_tickBoundary_mould hon hh h ha hp hm, State.startPour_custom ((congrArg Moulds.active hmo).trans hm) hc, ht]
  rfl

/-- What stands in the state after that boundary. -/
theorem State.pastBundle_spec (t : State) (m : MouldInfo) (b : Bundle) :
    let v := (t.pastBundle m b 0).endCycle.fiUpdate
    Frame [.pour, .tick, .fi, .evm] t v ∧ v.tick = { t.tick with cy := t.tick.cy + 1 } ∧
      v.pour.course = (t.pastBundle m b 0).pour.course ∧ v.pour.ax = t.pour.ax := by
  intro v
  have hf : Frame [.fi, .evm] (t.pastBundle m b 0).endCycle v := State.fiUpdate_frame _
  have he : Frame [.pour, .tick] t (t.pastBundle m b 0).endCycle := by
    intro p hp
    cases p with
    | pour | tick => simp at hp
    | _ => rfl
  obtain ⟨h1, h2⟩ := retire_course t.tick.cy (t.pastBundle m b 0).pour
  exact ⟨(he.mono (by decide)).trans (hf.mono (by decide)), hf.tick_eq (by decide),
    (congrArg Pour.course (hf.pour_eq (by decide))).trans h1, (congrArg Pour.ax (hf.pour_eq (by decide))).trans h2⟩

/-! ### The three pours -/

theorem State.AxesIdle.atBoundary {s : State} (h : s.AxesIdle) (hd : s.stdFinish = s) : s.atBoundary.AxesIdle := by
  have hg := State.atBoundary_mgmt hd
  have ha (n : Fin 4) := (State.atBoundary_frame hd).axis_eq (by decide) n
  refine ⟨?_, ?_, fun n => ?_⟩
  · rw [hg]
    exact h.jobs
  · rw [hg]
    exact h.clr
  · rw [hg, ha n]
    exact h.idle n

section
variable {s : State} (h : s.AxesIdle) (hon : s.tick.on = true) (hh : s.tick.hidx ≠ 15 ∨ s.tick.atZero = true)
  (hq : s.tick.acqBase = none) (hp : s.moulds.pend = none) (hd : s.stdFinish = s)
include h hon hh hq hp hd

/-- With no mould no bundle issues (02 R79). -/
theorem tickBoundary_noMould (hm : s.moulds.active = none) : ∃ t, exec .tickBoundary s = .next t ∧ s.Began t ∧
    (∀ n, (t.pour.ax.get n).fresh) ∧ t.tick.cy = (if s.tick.atZero then s.tick.start else 0) ∧ t.pour.ended = true ∧
    t.pour.pcnt = s.pour.pcnt ∧ (s.pour.poured = true → t.pour.psig = 0) ∧ t.mgmt = { s.mgmt with tickCause := 0 } ∧
    Frame [.fi, .run, .dev, .tick, .pour, .exch, .mgmt, .mon, .evm, .sync] s t := by
  have hf := State.atBoundary_frame hd
  have ha : s.atBoundary.axesBoundary = s.atBoundary :=
    (h.atBoundary hd).axesBoundary_noMould ((congrArg Moulds.active (hf.moulds_eq (by decide))).trans hm)
  obtain ⟨hat, hfd⟩ := State.pourDue_spec hd (by rw [ha]; exact .refl _ _)
  have hit : Frame [.exch, .pour, .fi, .evm] s.pourDue s.pourDue.idleTick := s.pourDue.idleTick_frame
  have hmo : s.atBoundary.axesBoundary.moulds = s.moulds := by
    rw [ha, hf.moulds_eq (by decide)]
  have hpo : s.pourDue.idleTick.pour = s.pourDue.emptyPour.pour := by
    change s.pourDue.idleSnapshot.emptyPour.fiUpdate.pour = _
    rw [(State.fiUpdate_frame _).pour_eq (by decide)]
    simp only [State.emptyPour, (State.idleSnapshot_frame _).pour_eq (by decide)]
  have htk : s.pourDue.idleTick.tick = s.tick.next := (hit.tick_eq (by decide)).trans hat.tick
  have hsig : s.pourSig = 0 := by simp only [State.pourSig, hm]
  refine ⟨s.pourDue.idleTick, exec_tickBoundary_noMould hon hh (by rw [hmo, hp]) (by rw [hmo, hm]),
    State.began_of hq htk ((hit.sync_eq (by decide)).trans hat.sync) (congrArg Pour.poured hpo), fun n => ?_, ?_,
    congrArg Pour.ended hpo, (congrArg Pour.pcnt hpo).trans hat.pcnt, fun hc => ?_, ?_,
    (hfd.mono (by decide)).trans (hit.mono (by decide))⟩
  · rw [hpo]
    exact hat.fresh n
  · rw [htk]
    exact (Tick.next_fields hq).2.2.2.2.2
  · exact (congrArg Pour.psig hpo).trans ((hat.closed hc).1.trans hsig)
  · rw [hit.mgmt_eq (by decide), State.pourDue, (State.devFromAxes_frame _).mgmt_eq (by decide), ha,
      State.atBoundary_mgmt hd]

/-- With a custom mould bundle 0 issues (02 R77, R78). -/
theorem tickBoundary_custom {m : MouldInfo} {b : Bundle} (hm : s.moulds.active = some m) (hc : m.std = none)
    (hx : 0 < m.xp) (hb : takeBundle m.code = some b) (hs : ∀ n : Fin 4, (s.axis n).st = .disabled)
    (hu : ∀ j, j ≤ b.slots.length → Sparse.get 0 j s.pour.upsets ≤ 1)
    (hl : ∀ x ∈ b.slots, ∃ i, decodeSlot x.1 x.2 = some i ∧ i.wf = true ∧ s.declares i = true) :
    ∃ t, exec .tickBoundary s = .next t ∧ s.Began t ∧ t.tick.cy = (if s.tick.atZero then s.tick.start else 0) + 1 ∧
      t.pour.pcnt = s.pour.pcnt + 1 ∧ t.pour.boff = b.size ∧ t.pour.nextCy = 1 + hdrIdle b.hdr ∧
      t.pour.sig = crcRun 0xFFFFFFFF b.stream ∧
      (s.pour.poured = true → t.pour.psig = s.pour.sig ^^^ 0xFFFFFFFF ∧
        t.pour.psok = decide (s.pour.sig ^^^ 0xFFFFFFFF = m.psigx) ∧ t.pour.psigOld = s.pour.psig ∧
        t.mon.xSig = s.mon.xSig.write (s.pour.sig ^^^ 0xFFFFFFFF, m.psigx)) ∧
      (b.slots = [] → ∀ n, (t.pour.ax.get n).fresh) ∧ Frame ([.fi, .run, .pour, .conv, .sync] ++ raiseParts) s t := by
  have hf := State.atBoundary_frame hd
  have ha : s.atBoundary.axesBoundary = s.atBoundary := (h.atBoundary hd).axesBoundary_custom
    ((congrArg Moulds.active (hf.moulds_eq (by decide))).trans hm) hc fun n => (congrArg Axis.st (hf.axis_eq (by decide) n)).trans (hs n)
  have haf : Frame [.mgmt] s.atBoundary s.atBoundary.axesBoundary := by rw [ha]; exact .refl _ _
  obtain ⟨hat, hfd⟩ := State.pourDue_spec hd haf
  obtain ⟨u, he, hi, hfr⟩ := exec_tickBoundary_custom hon hh hd haf hp hm hc hx hb hu hl
  obtain ⟨h1, h2, h3, h4⟩ := u.pastBundle_spec m b
  obtain ⟨c1, c2, c3, c4, c5, c6, c7⟩ := hi.course_fields
  generalize (u.pastBundle m b 0).endCycle.fiUpdate = t at he h1 h2 h3 h4
  simp only [Pour.course, Prod.mk.injEq] at h3
  obtain ⟨k1, k2, k3, k4, k5, k6, k7, k8⟩ := h3
  have htk : u.tick = s.tick.next := hi.tick.trans hat.tick
  have hsig : s.pourSig = s.pour.sig ^^^ 0xFFFFFFFF := by simp [State.pourSig, hm, hc]
  have hpx : s.moulds.psigx = m.psigx := by simp only [Moulds.psigx, hm]
  have hbeg : Frame [.pour] s.pourDue (s.pourDue.pourBegun m) := fun p hp => by
    cases p with
    | pour => simp at hp
    | _ => rfl
  refine ⟨t, he, State.began_of (c := u.tick.cy + 1) hq ?_ ?_ (k1.trans c1), ?_, ?_, ?_, ?_, ?_, fun hpo => ?_, fun hsl n => ?_, ?_⟩
  · rw [h2, htk]
  · rw [h1.sync_eq (by decide), hi.frame.sync_eq (by decide)]
    exact hat.sync
  · rw [h2, htk]
    exact congrArg (· + 1) (Tick.next_fields hq).2.2.2.2.2
  · rw [k2]
    change u.pour.pcnt = _
    rw [c2]
    exact congrArg (· + 1) hat.pcnt
  · rw [k3]
    change u.pour.boff + b.size = _
    rw [c3]
    exact Nat.zero_add _
  · rw [k4]
    change 0 + 1 + hdrIdle b.hdr = _
    rw [Nat.zero_add]
  · rw [k5]
    change crcRun u.pour.sig b.stream = _
    rw [c4]
    rfl
  · obtain ⟨e1, e2, e3, e4⟩ := hat.closed hpo
    rw [hsig, hpx] at e2 e4
    refine ⟨(k6.trans c5).trans (e1.trans hsig), (k7.trans c6).trans e2, (k8.trans c7).trans e3, ?_⟩
    rw [h1.mon_eq (by decide), hi.xSig]
    exact e4
  · rw [h4, hfr hsl, State.fetchCorrect_ax]
    exact hat.fresh n
  · exact (((hfd.mono (by decide)).trans (hbeg.mono (by decide))).trans (hi.frame.mono (by decide))).trans (h1.mono (by decide))

/-- A standard mould reads the safety edge and loads its words (06 R199, 05 R146). -/
theorem tickBoundary_std {m : MouldInfo} {k : Nat} (hm : s.moulds.active = some m) (hk : m.std = some k)
    (hu : s.pour.upsets = [])
    (hs : ∀ n : Fin 4, (s.axis n).st = .disabled ∧ (s.report n).reacts ≤ (s.mgmt.jax.get n).seen) :
    ∃ t, exec .tickBoundary s = .next t ∧ s.Began t ∧ (∀ n, (t.pour.ax.get n).fresh) ∧
      t.tick.cy = (if s.tick.atZero then s.tick.start else 0) ∧ t.pour.ended = true ∧ t.pour.pcnt = s.pour.pcnt + 1 ∧
      (s.pour.poured = true → t.pour.psig = m.psigx ∧ t.pour.psok = decide (m.psigx = m.psigx) ∧
        t.pour.psigOld = s.pour.psig ∧ t.mon.xSig = s.mon.xSig.write (m.psigx, m.psigx)) ∧ t.std.todo = 0xF ∧
      t.std.lat = s.xAct.inId ∧ t.std.latStep = s.xAct.step ∧ t.conv = { s.conv with adrt := s.conv.adrt &&& 0x7F } ∧
      (s.conv.adrt.getLsbD 7 = true → s.conv.adrt.getLsbD 6 = true → t.std.edge = some s.conv.adrv.toInt) ∧
      (s.conv.adrt.getLsbD 7 = false → t.std.edgeAge = s.std.edgeAge + 1) := by
  have hf := State.atBoundary_frame hd
  have hab := State.atBoundary_spec hd
  have hmo := hf.moulds_eq (by decide)
  have hjax : s.atBoundary.mgmt.jax = s.mgmt.jax := by rw [State.atBoundary_mgmt hd]
  have ha : Frame [.mgmt] s.atBoundary s.atBoundary.axesBoundary := (h.atBoundary hd).axesBoundary_std fun n => by
    have hax := hf.axis_eq (by decide) n
    have hx : s.atBoundary.xInact = s.xInact := by
      unfold State.xInact
      rw [hab.exch]
    have hrep : s.atBoundary.report n = s.report n := by
      simp only [State.report, hmo, hm, hk, Option.isSome_some, if_true, hx]
    rw [hax, hrep, hjax]
    exact hs n
  obtain ⟨hat, hfd⟩ := State.pourDue_spec hd ha
  have hma : s.pourDue.moulds.active = some m := (congrArg Moulds.active (hfd.moulds_eq (by decide))).trans hm
  have hx : (s.pourDue.pourBegun m).xAct = s.xAct := by
    change (if s.pourDue.exch.act = true then s.pourDue.exch.buf1 else s.pourDue.exch.buf0) = _
    rw [hat.exch]
    rfl
  have hcv : (s.pourDue.pourBegun m).conv = s.conv := hfd.conv_eq (by decide)
  have hst : (s.pourDue.pourBegun m).std = s.std := hfd.std_eq (by decide)
  obtain ⟨b1, b2, b3, b4, b5, b6, b7⟩ := State.stdBegin_sound (s := s.pourDue.pourBegun m) m (hat.upsets.trans hu)
  have hfi := State.fiUpdate_frame ((s.pourDue.pourBegun m).stdBegin m)
  have hpo : ((s.pourDue.pourBegun m).stdBegin m).fiUpdate.pour = (s.pourDue.pourBegun m).pour :=
    (hfi.pour_eq (by decide)).trans (b1.pour_eq (by decide))
  have htk : ((s.pourDue.pourBegun m).stdBegin m).fiUpdate.tick = s.tick.next :=
    (hfi.tick_eq (by decide)).trans ((b1.tick_eq (by decide)).trans hat.tick)
  have hsd := hfi.std_eq (by decide)
  have hsig : s.pourSig = m.psigx := by simp [State.pourSig, hm, hk, Pour.firstBad, hu]
  have hpx : s.moulds.psigx = m.psigx := by simp only [Moulds.psigx, hm]
  rw [hcv] at b2 b6 b7
  rw [hst] at b7
  rw [hx] at b4 b5
  refine ⟨((s.pourDue.pourBegun m).stdBegin m).fiUpdate, ?_, State.began_of hq htk ?_ ?_, fun n => ?_, ?_, ?_, ?_,
    fun hc => ?_, ?_, ?_, ?_, (hfi.conv_eq (by decide)).trans b2, ?_, ?_⟩
  · rw [exec_tickBoundary_mould hon hh hd ha hp hm, State.startPour_std hma hk]
    rfl
  · rw [hfi.sync_eq (by decide), b1.sync_eq (by decide)]
    exact hat.sync
  · rw [hpo]
    rfl
  · rw [hpo]
    exact hat.fresh n
  · rw [htk]
    exact (Tick.next_fields hq).2.2.2.2.2
  · rw [hpo]
    change m.std.isSome = true
    rw [hk]
    rfl
  · rw [hpo]
    exact congrArg (· + 1) hat.pcnt
  · obtain ⟨e1, e2, e3, e4⟩ := hat.closed hc
    rw [hsig, hpx] at e2 e4
    rw [hpo, hfi.mon_eq (by decide), b1.mon_eq (by decide)]
    exact ⟨e1.trans hsig, e2, e3, e4⟩
  · rw [hsd]
    exact b3
  · rw [hsd]
    exact b4
  · rw [hsd]
    exact b5
  · rw [hsd]
    exact b6
  · rw [hsd]
    exact b7

end

/-- Settles O13, by the three pours that can begin: of no mould, of a custom one and of a standard one. -/
theorem tickBoundaryBeginsPour : Obligations.TickBoundaryBeginsPour := by
  unfold Obligations.TickBoundaryBeginsPour
  intro s hon hh hq hj hc hp hs hi c0 began fresh closed
  have h : s.AxesIdle := ⟨hj, hc, hi⟩
  have hd := State.stdFinish_of_done hs
  exact ⟨tickBoundary_noMould h hon hh hq hp hd,
    fun m b hm hk hx hb hdis hu hl => tickBoundary_custom h hon hh hq hp hd hm hk hx hb hdis hu hl,
    fun m k hm hk hu hr => tickBoundary_std h hon hh hq hp hd hm hk hu hr⟩

end Sys2Proof.Machine
end
section
/-! SUPPORT. The heat boundary counts on, whatever mould goes or comes (01 R18; O15). -/

namespace Sys2Proof.Machine

/-! ### The clock: the tick but for the rate that waits and the sync offsets -/

/-- The tick but for the rate that waits and the sync offsets. -/
def State.clock (s : State) : Tick := { s.tick with nextRate := none, ofs := ⟨0, 0, 0, 0⟩ }

theorem State.clock_of_tick {s t : State} (h : t.tick = s.tick) : t.clock = s.clock := by rw [State.clock, State.clock, h]

theorem State.clock_of_frame {ps : List Part} {s t : State} (h : Frame ps s t) (hp : Part.tick ∉ ps) : t.clock = s.clock :=
  State.clock_of_tick (h.tick_eq hp)

/-- A fold of steps none of which moves the clock. -/
theorem foldl_clock {α : Type} {f : State → α → State} (hf : ∀ t x, (f t x).clock = t.clock) (l : List α) (s : State) :
    (l.foldl f s).clock = s.clock :=
  List.foldlRecOn (motive := fun t : State => t.clock = s.clock) l f rfl fun t ht x _ => (hf t x).trans ht

@[simp] theorem State.cancelPend_clock (s : State) : s.cancelPend.clock = s.clock := by
  unfold State.cancelPend
  split
  · rfl
  · split
    · rfl
    · dsimp only
      split <;> rfl

@[simp] theorem State.cancelActivation_clock (s : State) : s.cancelActivation.clock = s.clock :=
  (State.cancelPend_clock _).trans (State.clock_of_frame s.cancelCopy_spec.1 (by decide))

theorem State.clrCause_clock (s : State) (c : BitVec 4) : (s.clrCause c).clock = s.clock := rfl

theorem State.abortTest_clock (s : State) (sel : BgOp → Bool) : (s.abortTest sel).clock = s.clock :=
  State.clock_of_tick (s.abortTest_tick sel)

@[simp] theorem State.enterSafe_clock (s : State) (c : BitVec 4) : (s.enterSafe c).clock = s.clock := by
  have h (t : State) (ht : t.tick = s.tick) :
      (((axes.foldl State.axFault t).cancelActivation.abortTest fun _ => true).clrCause c).clock = s.clock := by
    rw [State.clrCause_clock, State.abortTest_clock, State.cancelActivation_clock]
    exact State.clock_of_tick ((State.faults_tick t).trans ht)
  unfold State.enterSafe
  split
  · exact h _ rfl
  · exact h _ rfl
  · rfl
  · rfl

@[simp] theorem State.raise_clock (s : State) (k : Nat) : (s.raise k).clock = s.clock := by
  unfold State.raise State.quenchFor
  dsimp only
  split
  · exact State.enterSafe_clock _ 3
  · rfl

@[simp] theorem State.raiseIf_clock (s : State) (b : Bool) (k : Nat) : (s.raiseIf b k).clock = s.clock := by
  unfold State.raiseIf
  split
  · exact s.raise_clock k
  · rfl

@[simp] theorem State.pourFlag_clock (s : State) (k : Nat) : (s.pourFlag k).clock = s.clock := rfl

@[simp] theorem State.setSat_clock (s : State) (b : Bool) : (s.setSat b).clock = s.clock := by
  unfold State.setSat
  split <;> simp

@[simp] theorem State.setClamped_clock (s : State) (b : Bool) : (s.setClamped b).clock = s.clock := by
  unfold State.setClamped
  split <;> simp

@[simp] theorem State.pdmRead_clock (s : State) (a : Nat) : (s.pdmRead a).2.clock = s.clock := by
  unfold State.pdmRead State.eccRead
  split
  · rfl
  · exact State.raise_clock _ 202
  · exact (State.raise_clock _ 203).trans (s.pourFlag_clock 2)

@[simp] theorem State.pdmWrite_clock (s : State) (a : Nat) (w : Word) : (s.pdmWrite a w).clock = s.clock := rfl

@[simp] theorem State.setXAct_clock (s : State) (x : XBuf) : (s.setXAct x).clock = s.clock := by
  unfold State.setXAct
  split <;> rfl

/-! ### The last pour closes -/

@[simp] theorem State.motFlags_clock (s : State) (m : Mot) : (s.motFlags m).clock = s.clock := by
  rw [State.motFlags, State.setSat_clock, State.setClamped_clock]
  exact foldl_clock (fun t a => t.pdmRead_clock a) _ s

@[simp] theorem State.profileFormed_clock (s : State) (n : Fin 4) (m : Mot) : (s.profileFormed n m).clock = s.clock := by
  unfold State.profileFormed
  split
  · exact foldl_clock (fun t i => t.pdmWrite_clock _ _) _ s
  · rfl

@[simp] theorem State.profileIn_clock (s : State) (n : Fin 4) (m : Mot) : (s.profileIn n m).1.clock = s.clock := by
  unfold State.profileIn
  dsimp only
  split
  · rfl
  · exact foldl_clock (fun t i => t.pdmWrite_clock _ _) _ s

@[simp] theorem State.pointOut_clock (n : Fin 4) (s : State) (i : Nat) : (State.pointOut n s i).clock = s.clock := by
  unfold State.pointOut
  dsimp only
  rw [State.setXAct_clock, State.pdmRead_clock]

@[simp] theorem State.profileOut_clock (s : State) (n : Fin 4) (m : Mot) : (s.profileOut n m).1.clock = s.clock := by
  unfold State.profileOut
  split
  · rfl
  · dsimp only
    rw [State.setXAct_clock]
    exact foldl_clock (fun t i => t.pointOut_clock n _) _ s

@[simp] theorem State.raiseMev_clock (s : State) (ev : BitVec 8) : (s.raiseMev ev).clock = s.clock :=
  foldl_clock (fun t _ => t.raiseIf_clock _ _) _ s

/-- The end of an axis step: the learned profile, the profile blocks, the status words, the mould's events. -/
theorem State.stdAxisStep_end_clock (s : State) (n : Fin 4) (m : Mot) (f : State → Mot → StdSt) :
    let r := (s.profileFormed n m).profileIn n m
    let q := r.1.profileOut n r.2
    ((({ q.1 with std := f q.1 q.2 } : State).stdStatus n q.2).raiseMev q.2.ev).clock = s.clock := by
  intro r q
  have hq : q.1.clock = s.clock := by
    rw [State.profileOut_clock, State.profileIn_clock, State.profileFormed_clock]
  rw [State.raiseMev_clock, State.stdStatus, State.setXAct_clock]
  exact hq

@[simp] theorem State.stdAxisStep_clock (s : State) (k : Nat) (n : Fin 4) : (s.stdAxisStep k n).clock = s.clock := by
  unfold State.stdAxisStep
  refine (State.stdAxisStep_end_clock _ n _
    (fun u q => { u.std with ax := u.std.ax.set n q, todo := u.std.todo &&& ~~~(bitB 4 n.val) })).trans ?_
  rw [State.motFlags_clock]
  rfl

@[simp] theorem State.stdFinish_clock (s : State) : s.stdFinish.clock = s.clock := by
  refine foldl_clock (fun t n => ?_) axes s
  unfold State.stdStep
  split
  · split
    · split
      · exact t.stdAxisStep_clock _ n
      · rfl
    · rfl
  · rfl

@[simp] theorem State.closePour_clock (s : State) : s.closePour.clock = s.clock := by
  unfold State.closePour
  split
  · exact s.stdFinish_clock
  · rfl

/-! ### Moulds go and come -/

theorem State.axFault_frame (s : State) (n : Fin 4) : Frame [.ax, .mgmt] s (s.axFault n) := by
  intro p hp
  cases p with
  | ax | mgmt => simp at hp
  | _ => simp [Part.same]

theorem State.settleFaults_frame (s : State) : Frame [.ax, .mgmt] s s.settleFaults := by
  refine List.foldlRecOn (motive := fun t : State => Frame [.ax, .mgmt] s t) axes _ (.refl _ s) fun t ht n _ => ?_
  split
  · exact ht.trans (t.axFault_frame n)
  · exact ht

@[simp] theorem State.toNoMould_clock (s : State) : s.toNoMould.clock = s.clock := by
  have h : s.settleFaults.clock = s.clock := State.clock_of_frame s.settleFaults_frame (by decide)
  exact h

theorem State.endRunning_frame (s : State) (n : Fin 4) (d : Nat) : Frame [.mgmt, .jrn] s (s.endRunning n d) := by
  have hj (q : Job) (st : Nat) (c : Word) (r : Bool) : Frame [.mgmt, .jrn] s (s.transition q st c r) := by
    unfold State.transition
    split
    · exact .refl _ s
    · intro p hp
      cases p with
      | mgmt | jrn => simp at hp
      | _ => rfl
  unfold State.endRunning
  split
  · exact .refl _ s
  · exact (hj _ _ _ _).trans ((Frame.of_mgmt _ _).mono (by decide))

theorem Frame.of_std (s : State) (e : StdSt) : Frame [.std] s { s with std := e } := by
  intro p hp
  cases p with
  | std => simp at hp
  | _ => rfl

theorem State.motLost_frame (s : State) (n : Fin 4) : Frame [.std, .mgmt, .jrn] s (s.motLost n) := by
  unfold State.motLost
  dsimp only
  exact (((Frame.of_std s _).mono (by decide)).trans ((State.endRunning_frame _ n 5).mono (by decide))).trans
    ((Frame.of_mgmt _ _).mono (by decide))

theorem State.startMot_frame (s : State) (m : MouldInfo) (old : Option MouldInfo) (k : Nat) (live : Bool) (n : Fin 4) :
    Frame [.std, .mgmt, .jrn] s (s.startMot m old k live n) := by
  have hs (t : State) (e : StdSt) : Frame [.std, .mgmt, .jrn] t { t with std := e } := (Frame.of_std t e).mono (by decide)
  have hg (t : State) : Frame [.std, .mgmt, .jrn] t (t.streamAgain n) := (Frame.of_mgmt t _).mono (by decide)
  have hm (t : State) : Frame [.std, .mgmt, .jrn] t (t.freshMot k n) := hs t _
  have hr (t : State) : Frame [.std, .mgmt, .jrn] t (t.reseedMot k n) := hs t _
  have h2 (c : Bool) (e : StdSt) : Frame [.std, .mgmt, .jrn] s
      (if c = true then { s with std := e } else ({ s with std := e } : State).streamAgain n) := by
    split
    · exact hs s e
    · exact (hs s e).trans (hg _)
  unfold State.startMot
  dsimp only
  split
  · split
    · exact h2 _ _
    · exact (h2 _ _).trans (hr _)
  · split
    · exact ((h2 _ _).trans (hm _)).trans (State.motLost_frame _ n)
    · exact (h2 _ _).trans (hm _)

theorem State.startStd_frame (s : State) (m : MouldInfo) (old : Option MouldInfo) (live : Bool) :
    Frame [.std, .mgmt, .jrn] s (s.startStd m old live) := by
  unfold State.startStd
  split
  · exact .refl _ s
  · have h1 : Frame [.std, .mgmt, .jrn] s ({ s with
        std := { s.std with todo := 0, edgeAge := 0, edge := none, edgeNoRef := false } } : State).stdLoad :=
      (Frame.of_std s _).mono (by decide)
    exact List.foldlRecOn (motive := fun t : State => Frame [.std, .mgmt, .jrn] s t) axes _ h1
      fun t ht n _ => ht.trans (t.startMot_frame m old _ live n)

/-- The sync offsets go to the axes, whose compares they leave. -/
theorem State.loadOffsets_frame (s : State) (o : Four Nat) : Frame [.tick, .ax] s (s.loadOffsets o) := by
  unfold State.loadOffsets
  refine List.foldlRecOn (motive := fun t : State => Frame [.tick, .ax] s t) axes _ ?_ fun t ht n _ =>
    ht.trans ((t.updAxis_frame n _).mono (by decide))
  intro p hp
  cases p with
  | tick | ax => simp at hp
  | _ => rfl

theorem State.loadOffsets_tick (s : State) (o : Four Nat) : (s.loadOffsets o).tick = { s.tick with ofs := o } :=
  List.foldlRecOn (motive := fun t : State => t.tick = { s.tick with ofs := o }) axes _ rfl fun _ ht _ _ => ht

theorem State.loadSequences_frame (s : State) (m : MouldInfo) (live : Bool) : Frame [.conv] s (s.loadSequences m live) := by
  unfold State.loadSequences
  split
  · exact .refl _ s
  · intro p hp
    cases p with
    | conv => simp at hp
    | _ => rfl

@[simp] theorem State.takeMould_clock (s : State) (m : MouldInfo) (old : Option MouldInfo) (live : Bool) :
    (s.takeMould m old live).clock = s.clock := by
  unfold State.takeMould
  dsimp only
  rw [State.clock_of_frame (State.startStd_frame _ m old live) (by decide), State.clock, State.loadOffsets_tick,
    (State.loadSequences_frame _ m live).tick_eq (by decide)]
  have h : s.settleFaults.clock = s.clock := State.clock_of_frame s.settleFaults_frame (by decide)
  exact h

theorem State.kthUpdate_frame (s : State) : Frame [.mgmt] s s.kthUpdate := by
  unfold State.kthUpdate
  split
  · exact .refl _ s
  · split
    · exact .refl _ s
    · exact .of_mgmt s _

@[simp] theorem State.kthUpdate_clock (s : State) : s.kthUpdate.clock = s.clock :=
  State.clock_of_frame s.kthUpdate_frame (by decide)

@[simp] theorem State.fillBoth_clock (s : State) (m : MouldInfo) : (s.fillBoth m).clock = s.clock :=
  State.clock_of_frame (s := (s.fillBuffers m).streamed) (State.imageTaken_frame _ m) (by decide)

@[simp] theorem State.selectReply_clock (s : State) (a : Activation) : (s.selectReply a).clock = s.clock := by
  unfold State.selectReply
  dsimp only
  split <;> rfl

@[simp] theorem State.activationBoundary_clock (s : State) : s.activationBoundary.clock = s.clock := by
  unfold State.activationBoundary
  split
  · exact s.kthUpdate_clock
  · split
    · unfold State.stoppedBoundary
      split
      · exact s.toNoMould_clock
      · split
        · dsimp only
          rw [State.fillBoth_clock, State.kthUpdate_clock]
          exact State.takeMould_clock _ _ _ _
        · rfl
    · unfold State.liveBoundary
      split
      · dsimp only
        rw [State.kthUpdate_clock]
        exact State.takeMould_clock _ _ _ _
      · exact s.kthUpdate_clock
    · unfold State.deactBoundary
      split
      · dsimp only
        rw [State.selectReply_clock]
        exact s.toNoMould_clock
      · rfl
    · rfl

/-! ### The publication due, and the neighbours -/

theorem State.imageDue_frame (s : State) : Frame [.exch, .mgmt, .evm] s s.imageDue := by
  unfold State.imageDue
  split
  · exact .refl _ s
  · dsimp only
    refine Frame.trans ?_ ((Frame.of_mgmt _ _).mono (by decide))
    split
    · obtain ⟨-, -, -, -, -, -, hf⟩ := s.publishFor_spec ‹_› .ordinary
      exact hf
    · exact .refl _ s

@[simp] theorem State.neighbour_clock (s : State) (n : Fin 4) : (s.neighbour n).clock = s.clock := by
  unfold State.neighbour
  dsimp only
  rw [State.raiseIf_clock]
  rfl

theorem exec_heatBoundary {s : State} (hon : s.tick.on = true) (hh : s.tick.hidx = 15) (hz : s.tick.atZero = false)
    (hq : s.tick.acqBase = none) : exec .heatBoundary s =
      .next (axes.foldl State.neighbour s.closePour.nextHeat.activationBoundary.imageDue) := by
  change execHeatBoundary s = _
  simp [execHeatBoundary, hon, hh, hz, hq]

/-- The boundary puts the heat index to 0 and counts the heat, whatever mould runs or is to become active (R18). -/
theorem heatBoundary_clock (s : State) :
    (axes.foldl State.neighbour s.closePour.nextHeat.activationBoundary.imageDue).clock = s.closePour.nextHeat.clock := by
  rw [foldl_clock State.neighbour_clock, State.clock_of_frame (State.imageDue_frame _) (by decide),
    State.activationBoundary_clock]

theorem Tick.takeRate_fields (t : Tick) : t.takeRate.heat = t.heat ∧ t.takeRate.hidx = t.hidx ∧ t.takeRate.cy = t.cy ∧
    t.takeRate.atZero = t.atZero ∧ t.takeRate.base = t.base := by
  unfold Tick.takeRate
  split <;> exact ⟨rfl, rfl, rfl, rfl, rfl⟩

theorem State.nextHeat_clock (s : State) : s.nextHeat.clock.heat = s.clock.heat + 1 ∧ s.nextHeat.clock.hidx = 0 ∧
    s.nextHeat.clock.cy = 0 ∧ s.nextHeat.clock.atZero = true ∧ s.nextHeat.clock.base = s.clock.base + s.clock.tper := by
  obtain ⟨h1, h2, h3, h4, h5⟩ := Tick.takeRate_fields { s.tick with
    base := s.tick.base + s.tick.tper, hidx := 0, atZero := true, start := 0, cy := 0, heat := s.tick.heat + 1 }
  exact ⟨h1, h2, h3, h4, h5⟩

theorem heatBoundary_counts {s : State} (hon : s.tick.on = true) (hh : s.tick.hidx = 15) (hz : s.tick.atZero = false)
    (hq : s.tick.acqBase = none) : ∃ t, exec .heatBoundary s = .next t ∧ t.tick.heat = s.tick.heat + 1 ∧ t.tick.hidx = 0 ∧
      t.tick.cy = 0 ∧ t.tick.atZero = true ∧ t.tick.base = s.tick.base + s.tick.tper := by
  have hc := heatBoundary_clock s
  have he := exec_heatBoundary hon hh hz hq
  generalize axes.foldl State.neighbour s.closePour.nextHeat.activationBoundary.imageDue = t at hc he
  obtain ⟨h1, h2, h3, h4, h5⟩ := s.closePour.nextHeat_clock
  rw [← hc] at h1 h2 h3 h4 h5
  rw [s.closePour_clock] at h1 h5
  exact ⟨t, he, h1, h2, h3, h4, h5⟩

/-! ### The reservation -/

theorem le_foldl_max {α : Type} (f : α → Nat) (l : List α) (a : Nat) :
    a ≤ l.foldl (fun m x => Nat.max m (f x)) a ∧ ∀ x ∈ l, f x ≤ l.foldl (fun m x => Nat.max m (f x)) a := by
  induction l generalizing a with
  | nil => exact ⟨Nat.le_refl a, fun _ h => absurd h List.not_mem_nil⟩
  | cons y l ih =>
    obtain ⟨h1, h2⟩ := ih (Nat.max a (f y))
    refine ⟨Nat.le_trans (Nat.le_max_left a (f y)) h1, fun x hx => ?_⟩
    obtain rfl | hx := List.mem_cons.1 hx
    · exact Nat.le_trans (Nat.le_max_right a (f x)) h1
    · exact h2 x hx

/-- What is read off a sparse list and is not the default stands in it. -/
theorem Sparse.mem_of_get {α : Type} {d x : α} {k : Nat} {m : Sparse α} (h : Sparse.get d k m = x) (hx : x ≠ d) : (k, x) ∈ m := by
  induction m with
  | nil => exact absurd h.symm hx
  | cons y l ih =>
    obtain ⟨j, v⟩ := y
    unfold Sparse.get at h
    split at h
    · rename_i hj
      rw [← h, ← hj]
      exact List.mem_cons_self ..
    · split at h
      · exact absurd h.symm hx
      · exact List.mem_cons_of_mem _ (ih h)

/-- The next ring entry takes the counter plus 2^24 (R19). -/
theorem exec_heatReservation {s : State} (hon : s.tick.on = true) (hr : s.tick.reserved ≤ s.tick.heat.toNat + 2 ^ 23)
    (hb : s.tick.heat.toNat + 2 ^ 24 < 2 ^ 64) (hw : Sparse.wf 0 s.tick.ring = true) :
    ∃ t, exec .heatReservation s = .next t ∧ Sparse.get 0 s.tick.ringNext t.tick.ring = s.tick.heat + 0x1000000 ∧
      s.tick.heat.toNat + 2 ^ 24 ≤ t.tick.reserved ∧ t.tick.ringNext = (s.tick.ringNext + 1) % 64 ∧
      t.tick.heat = s.tick.heat ∧ Frame [.tick] s t := by
  have he : exec .heatReservation s = .next { s with tick := s.tick.reserveHeat s.tick.heat } := by
    change execHeatReservation s = _
    exact if_pos (by rw [hon, decide_eq_true hr]; rfl)
  have hn : (s.tick.heat + 0x1000000).toNat = s.tick.heat.toNat + 2 ^ 24 := by
    rw [BitVec.toNat_add]
    exact Nat.mod_eq_of_lt hb
  have hg : Sparse.get 0 s.tick.ringNext (s.tick.reserveHeat s.tick.heat).ring = s.tick.heat + 0x1000000 :=
    (Sparse.get_put hw).trans (if_pos rfl)
  have hmem : (s.tick.ringNext, s.tick.heat + 0x1000000) ∈ (s.tick.reserveHeat s.tick.heat).ring := by
    refine Sparse.mem_of_get hg fun h0 => ?_
    rw [h0] at hn
    simp at hn
  refine ⟨_, he, hg, ?_, rfl, rfl, fun p hp => ?_⟩
  · have hle := (le_foldl_max (fun x : Nat × BitVec 64 => x.2.toNat) (s.tick.reserveHeat s.tick.heat).ring 0).2 _ hmem
    dsimp only at hle
    rw [hn] at hle
    exact hle
  · cases p with
    | tick => simp at hp
    | _ => rfl

end Sys2Proof.Machine
end
section
/-! SUPPORT. What a heat boundary does to a pending activation (04 R125 to R131; O15). -/

namespace Sys2Proof.Machine

/-! ### After the activation: the publication due and the neighbours -/

theorem Evm.route_qmap (k : Nat) (e : Evm) : (e.route k).qmap = e.qmap := by
  have hg (e : Evm) (i : Nat) : (Evm.gpio1 k e i).qmap = e.qmap := by
    simp only [Evm.gpio1]
    split
    · split
      · rfl
      · split <;> rfl
    · rfl
  have hq (e : Evm) : (Evm.queue k k e).qmap = e.qmap := by
    unfold Evm.queue
    dsimp only
    split <;> rfl
  simp only [Evm.route, Evm.gpioAll, List.foldl, hg]
  split
  · exact hq _
  · rfl

/-- The excursion of a neighbour is mapped to quench on no axis. -/
def State.nbrCalm (s : State) : Prop := ∀ n : Fin 4, s.evm.qmap.getLsbD (axEv n 26) = false

theorem State.neighbour_calm {s : State} (h : s.nbrCalm) (n : Fin 4) : Frame [.ax, .evm] s (s.neighbour n) ∧
    (s.neighbour n).evm.qmap = s.evm.qmap ∧ ∀ k, ((s.neighbour n).axis k).drv = (s.axis k).drv := by
  have hr (t : State) (b : Bool) (ht : t.evm.qmap = s.evm.qmap) : Frame [.ax, .evm] t (t.raiseIf b (axEv n 26)) ∧
      (t.raiseIf b (axEv n 26)).evm.qmap = t.evm.qmap ∧ (t.raiseIf b (axEv n 26)).ax = t.ax := by
    have hne : decide (axEv n 26 = 203) = false := by
      revert n
      decide
    unfold State.raiseIf
    split
    · rw [t.raise_calm _ (by rw [ht]; exact h n), hne, Bool.or_false]
      exact ⟨(Frame.of_evm t _).mono (by decide), Evm.route_qmap _ _, rfl⟩
    · exact ⟨.refl _ t, rfl, rfl⟩
  have hu (f : Axis → Axis) (hf : ∀ a, (f a).drv = a.drv) (k : Fin 4) : ((s.updAxis n f).axis k).drv = (s.axis k).drv := by
    by_cases hk : k = n
    · rw [hk, State.axis_updAxis_same, hf]
    · rw [State.axis_updAxis_ne _ _ hk]
  unfold State.neighbour
  dsimp only
  generalize hl : (fun a : Axis => _ : Axis → Axis) = f
  obtain ⟨h1, h2, h3⟩ := hr (s.updAxis n f) _ rfl
  refine ⟨((s.updAxis_frame n f).mono (by decide)).trans h1, h2, fun k => ?_⟩
  have ha : ((s.updAxis n f).raiseIf _ (axEv n 26)).axis k = (s.updAxis n f).axis k :=
    congrArg (fun x : Four Axis => x.get k) h3
  rw [ha]
  exact hu f (fun a => by rw [← hl]) k

theorem State.neighbours_calm {s : State} (h : s.nbrCalm) : Frame [.ax, .evm] s (axes.foldl State.neighbour s) ∧
    ∀ k, ((axes.foldl State.neighbour s).axis k).drv = (s.axis k).drv := by
  have hf : Frame [.ax, .evm] s (axes.foldl State.neighbour s) ∧ (axes.foldl State.neighbour s).evm.qmap = s.evm.qmap ∧
      ∀ k, ((axes.foldl State.neighbour s).axis k).drv = (s.axis k).drv := by
    refine List.foldlRecOn (motive := fun t : State => Frame [.ax, .evm] s t ∧ t.evm.qmap = s.evm.qmap ∧
      ∀ k, (t.axis k).drv = (s.axis k).drv) axes _ ⟨.refl _ s, rfl, fun _ => rfl⟩ fun t ⟨h1, h2, h3⟩ n _ => ?_
    obtain ⟨k1, k2, k3⟩ := State.neighbour_calm (s := t) (fun n => by rw [h2]; exact h n) n
    exact ⟨h1.trans k1, k2.trans h2, fun k => (k3 k).trans (h3 k)⟩
  exact ⟨hf.1, hf.2.2⟩

theorem State.imageTaken_qmap (s : State) (m : MouldInfo) : (s.imageTaken m).evm.qmap = s.evm.qmap := by
  unfold State.imageTaken
  split <;> rfl

theorem State.publishFor_kept (s : State) (m : MouldInfo) (k : Pub) : (s.publishFor m k).evm.qmap = s.evm.qmap ∧
    (s.publishFor m k).mgmt = { s.mgmt with pubWanted := false, pubDone := true } := by
  have hx : (s.setXInact (s.filled m s.xInact)).evm = s.evm ∧ (s.setXInact (s.filled m s.xInact)).mgmt = s.mgmt := by
    unfold State.setXInact
    split <;> exact ⟨rfl, rfl⟩
  refine ⟨(State.imageTaken_qmap _ m).trans (congrArg Evm.qmap hx.1), ?_⟩
  change { ((s.setXInact (s.filled m s.xInact)).imageTaken m).mgmt with pubWanted := false, pubDone := true } = _
  rw [(State.imageTaken_frame _ m).mgmt_eq (by decide), hx.2]

/-- What stands after the boundary's last two steps of what stood before them. -/
structure State.HeatTail (a t : State) : Prop where
  frame : Frame [.exch, .mgmt, .evm, .ax] a t
  act : t.exch.act = a.exch.act
  xAct : t.xAct = a.xAct
  xInact : t.xInact = a.xInact ∨ ∃ m, a.moulds.active = some m ∧ t.xInact = a.filled m a.xInact
  idle : a.moulds.active = none → t.exch = a.exch
  drv : ∀ n, (t.axis n).drv = (a.axis n).drv
  outlet : t.mgmt.outlet = a.mgmt.outlet

theorem State.imageDue_spec (a : State) : a.HeatTail a.imageDue ∧ a.imageDue.evm.qmap = a.evm.qmap := by
  have hf := a.imageDue_frame
  have hax (n : Fin 4) : (a.imageDue.axis n).drv = (a.axis n).drv := congrArg Axis.drv (hf.axis_eq (by decide) n)
  cases hm : a.moulds.active with
  | none =>
    have he : a.imageDue = a := by simp only [State.imageDue, hm]
    rw [he]
    exact ⟨⟨.refl _ a, rfl, rfl, .inl rfl, fun _ => rfl, fun _ => rfl, rfl⟩, rfl⟩
  | some m =>
    obtain ⟨-, p1, p2, p3, -, -, -⟩ := a.publishFor_spec m .ordinary
    obtain ⟨k1, k2⟩ := a.publishFor_kept m .ordinary
    have hor (c : Bool) :
        let u : State := if c = true then a.publishFor m .ordinary else a
        u.exch.act = a.exch.act ∧ u.xAct = a.xAct ∧ (u.xInact = a.xInact ∨ u.xInact = a.filled m a.xInact) ∧
          u.mgmt.outlet = a.mgmt.outlet ∧ u.evm.qmap = a.evm.qmap := by
      intro u
      cases c with
      | true => exact ⟨p1, p2, .inr p3, (congrArg Mgmt.outlet k2).trans rfl, k1⟩
      | false => exact ⟨rfl, rfl, .inl rfl, rfl, rfl⟩
    obtain ⟨h1, h2, h3, h4, h5⟩ := hor
      (((m.par.any fun e => isEvpour e.id) && !a.mgmt.pubDone || a.mgmt.pubWanted) && decide (a.exch.pub = .none))
    generalize hu : (if (((m.par.any fun e => isEvpour e.id) && !a.mgmt.pubDone || a.mgmt.pubWanted) &&
      decide (a.exch.pub = .none)) = true then a.publishFor m .ordinary else a : State) = u at h1 h2 h3 h4 h5
    have he : a.imageDue = { u with mgmt := { u.mgmt with pubDone := false } } := by
      rw [← hu]
      simp only [State.imageDue, hm]
    rw [he]
    refine ⟨⟨?_, h1, h2, ?_, fun hc => absurd (hm.symm.trans hc) (by simp), ?_, h4⟩, h5⟩
    · exact he ▸ hf.mono (by decide)
    · obtain h3 | h3 := h3
      · exact .inl h3
      · exact .inr ⟨m, hm, h3⟩
    · exact he ▸ hax

theorem State.heatTail {a : State} (h : a.nbrCalm) : a.HeatTail (axes.foldl State.neighbour a.imageDue) := by
  obtain ⟨hi, hq⟩ := a.imageDue_spec
  obtain ⟨hf, hd⟩ := State.neighbours_calm (s := a.imageDue) fun n => by
    rw [hq]
    exact h n
  have he : (axes.foldl State.neighbour a.imageDue).exch = a.imageDue.exch := hf.exch_eq (by decide)
  obtain ⟨x1, x2⟩ := State.bufs_of_exch (congrArg Exch.act he) (congrArg Exch.buf0 he) (congrArg Exch.buf1 he)
  refine ⟨hi.frame.trans (hf.mono (by decide)), (congrArg Exch.act he).trans hi.act, x1.trans hi.xAct, ?_,
    fun hm => he.trans (hi.idle hm), fun n => (hd n).trans (hi.drv n),
    (congrArg Mgmt.outlet (hf.mgmt_eq (by decide))).trans hi.outlet⟩
  rw [x2]
  exact hi.xInact

/-! ### Before the activation: the pour that is over, and the new heat -/

/-- The registers a mould may hand on. -/
def Pour.regs (p : Pour) : Vector Word 64 × Vector (BitVec 64) 8 × BitVec 8 := (p.v, p.acc, p.p)

/-- The state in which a heat boundary carries out an activation. -/
def State.heatBegun (s : State) : State := s.closePour.nextHeat

/-- A pour that is over leaves at the boundary its registers, memory and slot; the heat has counted. -/
structure State.HeatBegun (s c : State) : Prop where
  frame : Frame [.pour, .mon, .tick, .run, .mgmt] s c
  regs : c.pour.regs = s.pour.regs
  pdm : c.pour.pdm = s.pour.pdm
  slot : c.pour.slot = s.pour.slot
  heat : c.tick.heat = s.tick.heat + 1
  par : c.mgmt.par = s.mgmt.par
  outlet : c.mgmt.outlet = s.mgmt.outlet
  bootRate : c.mgmt.bootRate = s.mgmt.bootRate

theorem State.heatBegun_spec {s : State} (hd : s.stdFinish = s) (hi : s.pour.inflight = []) : s.HeatBegun s.heatBegun := by
  have hf := State.closePour_frame hd
  have hn : Frame [.tick, .run, .mon, .mgmt] s.closePour s.heatBegun := by
    intro p hp
    cases p with
    | tick | run | mon | mgmt => simp at hp
    | _ => rfl
  have hp : s.closePour.pour.regs = s.pour.regs ∧ s.closePour.pour.pdm = s.pour.pdm ∧
      s.closePour.pour.slot = s.pour.slot := by
    unfold State.closePour
    split
    · rw [hd]
      dsimp only
      rw [retire_none _ _ hi]
      exact ⟨rfl, rfl, rfl⟩
    · exact ⟨rfl, rfl, rfl⟩
  have hm : s.closePour.mgmt = s.mgmt := hf.mgmt_eq (by decide)
  obtain ⟨h1, -, -, -, -⟩ := s.closePour.nextHeat_clock
  rw [State.closePour_clock] at h1
  exact ⟨(hf.mono (by decide)).trans (hn.mono (by decide)), hp.1, hp.2.1, hp.2.2, h1, (congrArg Mgmt.par hm :),
    (congrArg Mgmt.outlet hm :), (congrArg Mgmt.bootRate hm :)⟩

/-! ### A new mould's registers and words -/

/-- What is carried is read off the registers of the old pour alone (04 R131). -/
theorem Pour.carryRegs_regs {p q : Pour} (h : p.regs = q.regs) (m : MouldInfo) (o : Option MouldInfo) :
    (p.carryRegs m o).regs = (q.carryRegs m o).regs := by
  simp only [Pour.regs, Prod.mk.injEq] at h
  obtain ⟨hv, ha, hp⟩ := h
  unfold Pour.carryRegs
  rw [hv, ha, hp]
  refine List.foldl_rel (r := fun a b : Pour => a.regs = b.regs) rfl fun e _ a b hab => ?_
  split
  · exact hab
  · refine List.foldl_rel (r := fun a b : Pour => a.regs = b.regs) hab fun i _ a b hab => ?_
    simp only [Pour.regs, Prod.mk.injEq] at hab ⊢
    obtain ⟨h1, h2, h3⟩ := hab
    split
    · exact ⟨by rw [h1], h2, h3⟩
    · exact ⟨h1, by rw [h2], h3⟩
    · exact ⟨h1, h2, by rw [h3]⟩
    · exact ⟨h1, h2, h3⟩

theorem Pour.carryRegs_kept (p : Pour) (m : MouldInfo) (o : Option MouldInfo) :
    (p.carryRegs m o).slot = p.slot ∧ (p.carryRegs m o).pdm = p.pdm := by
  unfold Pour.carryRegs
  refine List.foldlRecOn (motive := fun q : Pour => q.slot = p.slot ∧ q.pdm = p.pdm) _ _ ⟨rfl, rfl⟩ fun q hq e _ => ?_
  split
  · exact hq
  · refine List.foldlRecOn (motive := fun q : Pour => q.slot = p.slot ∧ q.pdm = p.pdm) _ _ hq fun q hq i _ => ?_
    split <;> exact hq

theorem Pour.load_pdm {p q : Pour} (h : p.pdm = q.pdm) (m : MouldInfo) (o : Option MouldInfo) (b : Bool) :
    (p.load m o b).pdm = (q.load m o b).pdm := by simp only [Pour.load, Pour.loadBut, h]

/-! ### A mould that goes -/

theorem State.axFault_mgmt (s : State) (n : Fin 4) : (s.axFault n).mgmt = { s.mgmt with bg := (s.axFault n).mgmt.bg } := by
  unfold State.axFault
  split <;> rfl

theorem Axis.lockBack_drv (a : Axis) : a.lockBack.drv = a.drv := rfl

theorem State.axFault_drv (s : State) (n k : Fin 4) : ((s.axFault n).axis k).drv = (s.axis k).drv := by
  have hx : ((s.axNext n .fault).axis k).drv = (s.axis k).drv := by
    by_cases hk : k = n
    · rw [hk, State.axNext, State.axis_updAxis_same]
      split
      · rfl
      · split <;> rfl
    · rw [State.axNext_axis_ne _ _ hk]
  have ht (t : State) (sel : BgOp → Bool) : ((t.abortTest sel).axis k).drv = (t.axis k).drv := by
    change ((t.abortTest sel).ax.get k).drv = _
    rw [State.abortTest_ax]
    split
    · rename_i j _
      by_cases hk : k = j
      · rw [hk, Four.get_set_same]
        rfl
      · rw [Four.get_set_ne _ _ hk]
        rfl
    · rfl
  unfold State.axFault
  split
  · rfl
  · exact (ht _ _).trans hx

theorem State.settleFaults_spec (s : State) : s.settleFaults.mgmt = { s.mgmt with bg := s.settleFaults.mgmt.bg } ∧
    ∀ k, (s.settleFaults.axis k).drv = (s.axis k).drv := by
  refine List.foldlRecOn (motive := fun t : State => t.mgmt = { s.mgmt with bg := t.mgmt.bg } ∧
    ∀ k, (t.axis k).drv = (s.axis k).drv) axes _ ⟨rfl, fun _ => rfl⟩ fun t ⟨h1, h2⟩ n _ => ?_
  split
  · refine ⟨(t.axFault_mgmt n).trans ?_, fun k => (t.axFault_drv n k).trans (h2 k)⟩
    exact congrArg (fun g : Mgmt => { g with bg := (t.axFault n).mgmt.bg }) h1
  · exact ⟨h1, h2⟩

/-- No compare is left of the mould, and no publication. -/
structure State.Off (s t : State) : Prop where
  active : t.moulds.active = none
  ended : t.pour.ended = true
  pub : t.exch.pub = .none
  pdm : t.pour.pdm = s.pour.pdm
  drv : ∀ n, (t.axis n).drv.scmp = ⟨0, 0, 0, 0⟩ ∧ (t.axis n).drv.acmp = ⟨0, 0, 0, 0⟩

theorem State.toNoMould_spec (s : State) : s.Off s.toNoMould ∧
    s.toNoMould.mgmt = { s.mgmt with bg := s.settleFaults.mgmt.bg } ∧ s.toNoMould.evm = s.evm ∧
    s.toNoMould.moulds.pend = s.moulds.pend := by
  have hf := s.settleFaults_frame
  have hp : s.settleFaults.pour.pdm = s.pour.pdm := congrArg Pour.pdm (hf.pour_eq (by decide))
  have hm : s.settleFaults.moulds.pend = s.moulds.pend := congrArg Moulds.pend (hf.moulds_eq (by decide))
  have he : s.settleFaults.evm = s.evm := hf.evm_eq (by decide)
  refine ⟨⟨rfl, rfl, rfl, hp, fun n => ?_⟩, s.settleFaults_spec.1, he, hm⟩
  change ((s.settleFaults.ax.map Axis.noCompares).get n).drv.scmp = _ ∧ ((s.settleFaults.ax.map Axis.noCompares).get n).drv.acmp = _
  rw [Four.get_map]
  exact ⟨rfl, rfl⟩

theorem State.Off.tail {s a t : State} (h : s.Off a) (ht : a.HeatTail t) : s.Off t := by
  have hp := ht.frame.pour_eq (by decide)
  refine ⟨(congrArg Moulds.active (ht.frame.moulds_eq (by decide))).trans h.active, (congrArg Pour.ended hp).trans h.ended,
    (congrArg Exch.pub (ht.idle h.active)).trans h.pub, (congrArg Pour.pdm hp).trans h.pdm, fun n => ?_⟩
  rw [ht.drv n]
  exact h.drv n

/-! ### A mould that comes -/

/-- The new mould has been taken (Table 4-6 step 4), from the state `s`. -/
structure State.Taken (s t : State) (m : MouldInfo) (old : Option MouldInfo) : Prop where
  active : t.moulds.active = some m
  slot : t.pour.slot = !s.pour.slot
  pcnt : t.pour.pcnt = 0
  regs : t.pour.regs = (s.pour.carryRegs m old).regs
  pdm : t.pour.pdm = s.pour.pdm
  ofs : t.tick.ofs = m.ofs
  heat : t.tick.heat = s.tick.heat
  seqr : t.conv.seqr = m.seqreg
  seqi : t.conv.seqi = m.seqinj
  drv : ∀ n, (t.axis n).drv.scmp = (s.axis n).drv.scmp ∧ (t.axis n).drv.acmp = (s.axis n).drv.acmp

theorem State.loadSequences_spec (s : State) (m : MouldInfo) (live : Bool) :
    (s.loadSequences m live).conv.seqr = m.seqreg ∧ (s.loadSequences m live).conv.seqi = m.seqinj := by
  unfold State.loadSequences
  split
  · rename_i h
    simp only [Bool.and_eq_true, decide_eq_true_eq] at h
    exact ⟨h.1.2, h.2⟩
  · exact ⟨rfl, rfl⟩

theorem State.loadOffsets_drv (s : State) (o : Four Nat) (n : Fin 4) :
    ((s.loadOffsets o).axis n).drv.scmp = (s.axis n).drv.scmp ∧ ((s.loadOffsets o).axis n).drv.acmp = (s.axis n).drv.acmp := by
  unfold State.loadOffsets
  refine List.foldlRecOn (motive := fun t : State => (t.axis n).drv.scmp = (s.axis n).drv.scmp ∧
    (t.axis n).drv.acmp = (s.axis n).drv.acmp) axes _ ⟨rfl, rfl⟩ fun t ht k _ => ?_
  by_cases hk : n = k
  · rw [hk] at ht ⊢
    rw [State.updDrv, State.axis_updAxis_same]
    exact ht
  · rw [State.updDrv, State.axis_updAxis_ne _ _ hk]
    exact ht

/-- The state before a standard mould starts. -/
def State.mouldIn (s : State) (m : MouldInfo) (old : Option MouldInfo) (live : Bool) : State :=
  ((({ s.settleFaults with
    pour := { s.settleFaults.pour.carryRegs m old with
      pcnt := 0, ops := BitVec.ofNat 17 m.ops, runres := Vector.replicate 128 0 }
    moulds := { s.settleFaults.moulds with active := some m } } : State).toggleSlot.loadSequences m live).loadOffsets m.ofs)

theorem State.takeMould_eq (s : State) (m : MouldInfo) (old : Option MouldInfo) (live : Bool) :
    s.takeMould m old live = (s.mouldIn m old live).startStd m old live := rfl

theorem State.mouldIn_spec (s : State) (m : MouldInfo) (old : Option MouldInfo) (live : Bool) :
    s.Taken (s.mouldIn m old live) m old ∧ Frame [.pour, .moulds, .conv, .tick, .ax, .mgmt] s (s.mouldIn m old live) ∧
      (s.mouldIn m old live).mgmt.par = s.mgmt.par := by
  have hf := s.settleFaults_frame
  have hpo : s.settleFaults.pour = s.pour := hf.pour_eq (by decide)
  obtain ⟨hg, hdr⟩ := s.settleFaults_spec
  obtain ⟨c1, c2⟩ := s.pour.carryRegs_kept m old
  generalize hu : ({ s.settleFaults with
    pour := { s.settleFaults.pour.carryRegs m old with
      pcnt := 0, ops := BitVec.ofNat 17 m.ops, runres := Vector.replicate 128 0 }
    moulds := { s.settleFaults.moulds with active := some m } } : State).toggleSlot = u
  have hfu : Frame [.pour, .moulds] s.settleFaults u := by
    rw [← hu]
    intro p hp
    cases p with
    | pour | moulds => simp at hp
    | _ => rfl
  have hup : u.pour.slot = (!s.pour.slot) ∧ u.pour.pcnt = 0 ∧ u.pour.regs = (s.pour.carryRegs m old).regs ∧
      u.pour.pdm = s.pour.pdm ∧ u.moulds.active = some m := by
    rw [← hu, ← c1, ← hpo]
    exact ⟨rfl, rfl, rfl, (congrArg (fun p : Pour => (p.carryRegs m old).pdm) hpo).trans (c2.trans (congrArg Pour.pdm hpo.symm)), rfl⟩
  obtain ⟨p1, p2, p3, p4, p5⟩ := hup
  have hls := u.loadSequences_frame m live
  have hlo := (u.loadSequences m live).loadOffsets_frame m.ofs
  have hall : Frame [.conv, .tick, .ax] u ((u.loadSequences m live).loadOffsets m.ofs) :=
    (hls.mono (by decide)).trans (hlo.mono (by decide))
  obtain ⟨q1, q2⟩ := u.loadSequences_spec m live
  have hp := hall.pour_eq (by decide)
  have htk := (u.loadSequences m live).loadOffsets_tick m.ofs
  have hcv := hlo.conv_eq (by decide)
  have hax (n : Fin 4) : (u.loadSequences m live).axis n = s.settleFaults.axis n :=
    (hls.axis_eq (by decide) n).trans (hfu.axis_eq (by decide) n)
  have he : s.mouldIn m old live = (u.loadSequences m live).loadOffsets m.ofs := by
    rw [← hu]
    rfl
  rw [he]
  refine ⟨⟨?_, ?_, ?_, ?_, ?_, ?_, ?_, ?_, ?_, fun n => ?_⟩,
    ((hf.mono (by decide)).trans (hfu.mono (by decide))).trans (hall.mono (by decide)), ?_⟩
  · rw [hall.moulds_eq (by decide), p5]
  · rw [hp, p1]
  · rw [hp, p2]
  · rw [hp, p3]
  · rw [hp, p4]
  · rw [htk]
  · rw [htk, hls.tick_eq (by decide), hfu.tick_eq (by decide), hf.tick_eq (by decide)]
  · rw [hcv, q1]
  · rw [hcv, q2]
  · obtain ⟨d1, d2⟩ := (u.loadSequences m live).loadOffsets_drv m.ofs n
    rw [d1, d2, hax n, hdr n]
    exact ⟨rfl, rfl⟩
  · rw [hall.mgmt_eq (by decide), hfu.mgmt_eq (by decide), hg]

/-- Only parts that do not matter to it change once a mould was taken. -/
theorem State.Taken.kept {s t u : State} {m : MouldInfo} {old : Option MouldInfo} (h : s.Taken t m old)
    (hf : Frame [.std, .mgmt, .jrn, .exch, .evm] t u) : s.Taken u m old := by
  have hp := hf.pour_eq (by decide)
  have ht := hf.tick_eq (by decide)
  have hc := hf.conv_eq (by decide)
  refine ⟨(congrArg Moulds.active (hf.moulds_eq (by decide))).trans h.active, hp ▸ h.slot, hp ▸ h.pcnt, hp ▸ h.regs,
    hp ▸ h.pdm, ht ▸ h.ofs, ht ▸ h.heat, hc ▸ h.seqr, hc ▸ h.seqi, fun n => ?_⟩
  rw [hf.axis_eq (by decide) n]
  exact h.drv n

theorem State.takeMould_spec (s : State) (m : MouldInfo) (old : Option MouldInfo) (live : Bool) :
    s.Taken (s.takeMould m old live) m old ∧
    Frame [.pour, .moulds, .conv, .tick, .ax, .mgmt, .std, .jrn] s (s.takeMould m old live) ∧
    (m.std = none → (s.takeMould m old live).mgmt.par = s.mgmt.par) := by
  obtain ⟨h1, h2, h3⟩ := s.mouldIn_spec m old live
  have hf := (s.mouldIn m old live).startStd_frame m old live
  rw [State.takeMould_eq]
  refine ⟨h1.kept (hf.mono (by decide)), (h2.mono (by decide)).trans (hf.mono (by decide)), fun hs => ?_⟩
  have he : (s.mouldIn m old live).startStd m old live = s.mouldIn m old live := by
    simp only [State.startStd, hs]
  rw [he]
  exact h3

end Sys2Proof.Machine
end
section
/-! SUPPORT. The activations at a heat boundary, each from the pour that is over to the mould that runs next (O15). -/

namespace Sys2Proof.Machine

/-! ### The record of an activation -/

/-- The mould is active, with what it starts with, and its record says so (04 R131; 11 R365). -/
structure State.Activates (s t : State) (m : MouldInfo) (q : Word) (o : Option MouldInfo) : Prop where
  active : t.moulds.active = some m
  record : t.moulds.pend.map (fun a => (a.phase, a.unmatched, a.heat, a.seq)) = some (3, m.unmatched o, s.tick.heat + 1, q)
  slot : t.pour.slot = !s.pour.slot
  pcnt : t.pour.pcnt = 0
  ofs : t.tick.ofs = m.ofs
  seqr : t.conv.seqr = m.seqreg
  seqi : t.conv.seqi = m.seqinj
  regs : t.pour.regs = (s.pour.carryRegs m o).regs

/-- From the mould just taken in `u` to the end of the boundary. -/
theorem State.activates_of {s b u t : State} {m : MouldInfo} {o : Option MouldInfo} {a : Activation}
    (hu : b.Taken u m o) (hr : b.pour.regs = s.pour.regs) (hs : b.pour.slot = s.pour.slot)
    (hh : b.tick.heat = s.tick.heat + 1) (hf : Frame [.std, .mgmt, .jrn, .exch, .evm, .ax] (u.activated a m o) t) :
    s.Activates t m a.seq o := by
  have hm := hf.moulds_eq (by decide)
  have hp : t.pour = u.pour := hf.pour_eq (by decide)
  have ht : t.tick = u.tick := hf.tick_eq (by decide)
  have hc : t.conv = u.conv := hf.conv_eq (by decide)
  refine ⟨?_, ?_, ?_, ?_, ?_, ?_, ?_, ?_⟩
  · rw [hm]
    exact hu.active
  · rw [hm, ← hh, ← hu.heat]
    rfl
  · rw [hp, hu.slot, hs]
  · rw [hp, hu.pcnt]
  · rw [ht, hu.ofs]
  · rw [hc, hu.seqr]
  · rw [hc, hu.seqi]
  · rw [hp, hu.regs]
    exact Pour.carryRegs_regs hr m o

/-! ### The buffers of a custom mould -/

/-- The words of a custom mould with no image of events are its parameters' (01 R589). -/
theorem fillCustom_congr {s t : State} {m : MouldInfo} (hp : t.mgmt.par = s.mgmt.par)
    (he : (m.par.any fun e => isEvpour e.id) = false) : fillCustom t m = fillCustom s m := by
  unfold fillCustom
  refine List.foldl_ext _ _ _ fun b e hm => ?_
  have hi : isEvpour e.id = false := by
    have := List.any_eq_false.1 he e hm
    simpa using this
  simp only [hi, hp, Bool.false_eq_true, if_false]

theorem State.filled_custom_inb {s : State} {m : MouldInfo} (x : XBuf) (h : m.std = none) :
    (s.filled m x).inb = fillCustom s m := by simp only [State.filled, h]

theorem State.fillBoth_spec (s : State) (m : MouldInfo) : Frame [.exch, .mgmt, .evm] s (s.fillBoth m) ∧
    (s.fillBoth m).evm.qmap = s.evm.qmap ∧ (s.fillBoth m).mgmt.par = s.mgmt.par ∧
    (s.fillBoth m).xAct = s.filled m s.xAct ∧ (s.fillBoth m).xInact = s.filled m s.xInact := by
  have hb : Frame [.exch, .mgmt] s (s.fillBuffers m).streamed := .of_exch_mgmt s _ _
  have hi := State.imageTaken_frame (s.fillBuffers m).streamed m
  have hx : (s.fillBoth m).exch = (s.fillBuffers m).exch := hi.exch_eq (by decide)
  have hm : (s.fillBoth m).mgmt = (s.fillBuffers m).streamed.mgmt := hi.mgmt_eq (by decide)
  refine ⟨(hb.mono (by decide)).trans (hi.mono (by decide)), State.imageTaken_qmap (s.fillBuffers m).streamed m, ?_, ?_, ?_⟩
  · rw [hm]
    rfl
  · simp only [State.xAct, hx]
    cases ha : s.exch.act <;> simp [State.fillBuffers, ha]
  · simp only [State.xInact, hx]
    cases ha : s.exch.act <;> simp [State.fillBuffers, ha]

theorem State.kthUpdate_par (s : State) : s.kthUpdate.mgmt.par = s.mgmt.par := by
  unfold State.kthUpdate
  split
  · rfl
  · split <;> rfl

/-! ### The boundary of each activation -/

theorem State.activationBoundary_stopped {s : State} {a : Activation} {m : MouldInfo} (hp : s.moulds.pend = some a)
    (hk : a.kind = .stopped) (hi : a.info = some m) : s.activationBoundary = s.stoppedBoundary a m := by
  simp only [State.activationBoundary, hp, hk, hi]

theorem State.activationBoundary_live {s : State} {a : Activation} {m : MouldInfo} (hp : s.moulds.pend = some a)
    (hk : a.kind = .live) (hi : a.info = some m) : s.activationBoundary = s.liveBoundary a m := by
  simp only [State.activationBoundary, hp, hk, hi]

theorem State.activationBoundary_deact {s : State} {a : Activation} (hp : s.moulds.pend = some a)
    (hk : a.kind = .deact) : s.activationBoundary = s.deactBoundary a := by
  simp only [State.activationBoundary, hp, hk]

theorem selectData_noMould (e : BitVec 64) : selectData e 0 = leBytes 8 e.toNat ++ [0, 0, 0, 0] :=
  List.append_assoc ..

/-- A heat boundary at which the last pour is over and no event is mapped to quench but EV203. -/
structure State.HeatDue (s : State) : Prop where
  on : s.tick.on = true
  last : s.tick.hidx = 15
  zero : s.tick.atZero = false
  acq : s.tick.acqBase = none
  done : s.std.todo = 0
  flight : s.pour.inflight = []
  calm : ∀ k, k < 256 → s.evm.qmap.getLsbD k = true → k = 203

section
variable {s : State} (h : s.HeatDue)
include h

theorem State.HeatDue.begun : s.HeatBegun s.heatBegun := State.heatBegun_spec (State.stdFinish_of_done h.done) h.flight

theorem State.HeatDue.nbrCalm {a : State} (ha : a.evm.qmap = s.evm.qmap) : a.nbrCalm := by
  intro n
  rw [ha]
  have hn : axEv n 26 < 256 ∧ axEv n 26 ≠ 203 := by
    revert n
    decide
  exact Bool.eq_false_iff.2 fun hc => hn.2 (h.calm _ hn.1 hc)

/-- The boundary, once the activation has made `a` of the state in which the heat has begun. -/
theorem State.HeatDue.boundary {a : State} (he : s.heatBegun.activationBoundary = a) (ha : a.evm.qmap = s.evm.qmap) :
    ∃ t, exec .heatBoundary s = .next t ∧ a.HeatTail t := by
  refine ⟨_, exec_heatBoundary h.on h.last h.zero h.acq, ?_⟩
  change a.HeatTail (axes.foldl State.neighbour s.heatBegun.activationBoundary.imageDue)
  rw [he]
  exact State.heatTail (h.nbrCalm ha)

theorem State.HeatDue.moulds : s.heatBegun.moulds = s.moulds := h.begun.frame.moulds_eq (by decide)
theorem State.HeatDue.exch : s.heatBegun.exch = s.exch := h.begun.frame.exch_eq (by decide)
theorem State.HeatDue.evm : s.heatBegun.evm = s.evm := h.begun.frame.evm_eq (by decide)
theorem State.HeatDue.axis (n : Fin 4) : s.heatBegun.axis n = s.axis n := h.begun.frame.axis_eq (by decide) n

theorem State.HeatDue.off {a : State} (ha : s.heatBegun.Off a) : s.Off a :=
  ⟨ha.active, ha.ended, ha.pub, ha.pdm.trans h.begun.pdm, ha.drv⟩

/-- A stopped activation takes the old mould off (R127). -/
theorem heatBoundary_stops {m : MouldInfo} {q : Word} {u k : Nat} {e : BitVec 64} {b : Bool}
    (hp : s.moulds.pend = some ⟨.stopped, some m, 0, q, u, e, k, b⟩) :
    ∃ t, exec .heatBoundary s = .next t ∧ s.Off t ∧ t.tick.nextRate = some m.rate ∧
      t.moulds.pend = some ⟨.stopped, some m, 2, q, u, e, 0, b⟩ := by
  obtain ⟨ho, -, hv, -⟩ := s.heatBegun.toNoMould_spec
  have ha : s.heatBegun.activationBoundary = { s.heatBegun.toNoMould with
      tick := { s.heatBegun.toNoMould.tick with nextRate := some m.rate }
      moulds := { s.heatBegun.toNoMould.moulds with
        pend := some ⟨.stopped, some m, 2, q, u, e, 0, b⟩
        loadleft := (m.stopWords s.heatBegun.toNoMould.moulds.outgoing).length } } := by
    rw [State.activationBoundary_stopped (h.moulds ▸ hp) rfl rfl]
    exact if_pos rfl
  generalize hw : ({ s.heatBegun.toNoMould with
      tick := { s.heatBegun.toNoMould.tick with nextRate := some m.rate }
      moulds := { s.heatBegun.toNoMould.moulds with
        pend := some ⟨.stopped, some m, 2, q, u, e, 0, b⟩
        loadleft := (m.stopWords s.heatBegun.toNoMould.moulds.outgoing).length } } : State) = w at ha
  have how : s.heatBegun.Off w := by
    rw [← hw]
    exact ⟨ho.active, ho.ended, ho.pub, ho.pdm, ho.drv⟩
  have hev : w.evm.qmap = s.evm.qmap := by
    rw [← hw, ← h.evm]
    exact congrArg Evm.qmap hv
  obtain ⟨t, he, ht⟩ := h.boundary ha hev
  refine ⟨t, he, (h.off how).tail ht, ?_, ?_⟩
  · rw [ht.frame.tick_eq (by decide), ← hw]
  · rw [ht.frame.moulds_eq (by decide), ← hw]

/-- A deactivation leaves no mould and is answered (R128). -/
theorem heatBoundary_deactivates {o : Option MouldInfo} {q : Word} {u k : Nat} {e : BitVec 64}
    (hp : s.moulds.pend = some ⟨.deact, o, 0, q, u, e, k, false⟩) :
    ∃ t, exec .heatBoundary s = .next t ∧ s.Off t ∧ t.moulds.pend = none ∧ t.tick.nextRate = some s.mgmt.bootRate ∧
      t.mgmt.outlet = s.mgmt.outlet ++ [okReply 0x0405 q (leBytes 8 (s.tick.heat + 1).toNat ++ [0, 0, 0, 0])] := by
  obtain ⟨ho, hg, hv, -⟩ := s.heatBegun.toNoMould_spec
  generalize hn : s.heatBegun.toNoMould = n at ho hg hv
  have ha : s.heatBegun.activationBoundary = ({ n with tick := { n.tick with nextRate := some s.heatBegun.mgmt.bootRate } } :
      State).selectReply ⟨.deact, o, 0, q, 0, s.heatBegun.tick.heat, k, false⟩ := by
    rw [State.activationBoundary_deact (h.moulds ▸ hp) rfl, ← hn]
    exact if_pos rfl
  generalize hw : ({ n with tick := { n.tick with nextRate := some s.heatBegun.mgmt.bootRate } } :
      State).selectReply ⟨.deact, o, 0, q, 0, s.heatBegun.tick.heat, k, false⟩ = w at ha
  have how : s.heatBegun.Off w := by
    rw [← hw]
    exact ⟨ho.active, ho.ended, ho.pub, ho.pdm, ho.drv⟩
  have hev : w.evm.qmap = s.evm.qmap := by
    rw [← hw, ← h.evm]
    exact congrArg Evm.qmap hv
  obtain ⟨t, he, ht⟩ := h.boundary ha hev
  refine ⟨t, he, (h.off how).tail ht, ?_, ?_, ?_⟩
  · rw [ht.frame.moulds_eq (by decide), ← hw]
    rfl
  · rw [ht.frame.tick_eq (by decide), ← hw, ← h.begun.bootRate]
    rfl
  · rw [ht.outlet, ← hw, ← h.begun.heat, ← h.begun.outlet]
    change n.mgmt.outlet ++ [okReply 0x0405 q (selectData s.heatBegun.tick.heat 0)] = _
    rw [hg, selectData_noMould]

/-- A live swap that is not armed with its boundary publication waits (R129). -/
theorem heatBoundary_waits {m : MouldInfo} {ph : Nat} {q : Word} {u k : Nat} {e : BitVec 64} {b : Bool}
    (hp : s.moulds.pend = some ⟨.live, some m, ph, q, u, e, k, b⟩) (hw : ph ≠ 1 ∨ s.exch.pub ≠ .boundary) :
    ∃ t, exec .heatBoundary s = .next t ∧ t.moulds.active = s.moulds.active ∧ t.moulds.pend = s.moulds.pend ∧
      t.exch.act = s.exch.act := by
  have hn : ¬(ph = 1 ∧ s.heatBegun.exch.pub = .boundary) := by
    rw [h.exch]
    rintro ⟨h1, h2⟩
    obtain hw | hw := hw
    · exact hw h1
    · exact hw h2
  have ha : s.heatBegun.activationBoundary = s.heatBegun.kthUpdate := by
    rw [State.activationBoundary_live (h.moulds ▸ hp) rfl rfl]
    exact if_neg hn
  have hf := s.heatBegun.kthUpdate_frame
  obtain ⟨t, he, ht⟩ := h.boundary ha ((congrArg Evm.qmap (hf.evm_eq (by decide))).trans (congrArg Evm.qmap h.evm))
  have hm : t.moulds = s.moulds := (ht.frame.moulds_eq (by decide)).trans ((hf.moulds_eq (by decide)).trans h.moulds)
  refine ⟨t, he, congrArg Moulds.active hm, congrArg Moulds.pend hm, ?_⟩
  rw [ht.act, hf.exch_eq (by decide), h.exch]

/-- An armed live swap with its boundary publication: slot, buffers and mould change (Table 4-6). -/
theorem heatBoundary_swaps {m : MouldInfo} {q : Word} {u k : Nat} {e : BitVec 64} {b : Bool}
    (hp : s.moulds.pend = some ⟨.live, some m, 1, q, u, e, k, b⟩) (hb : s.exch.pub = .boundary) :
    ∃ t, exec .heatBoundary s = .next t ∧ s.Activates t m q s.moulds.active ∧ t.exch.act = (!s.exch.act) ∧
      t.xAct = s.xInact ∧ t.pour.pdm = s.pour.pdm ∧
      (∀ n : Fin 4, (t.axis n).drv.scmp = (s.axis n).drv.scmp ∧ (t.axis n).drv.acmp = (s.axis n).drv.acmp) := by
  have hph : (1 : Nat) = 1 ∧ s.heatBegun.exch.pub = .boundary := ⟨rfl, by rw [h.exch, hb]⟩
  generalize hv : ({ s.heatBegun with exch := { s.heatBegun.exch with act := !s.heatBegun.exch.act, pub := .none } } :
    State).streamed = v
  have ha : s.heatBegun.activationBoundary = ((v.takeMould m s.moulds.active true).activated
      ⟨.live, some m, 1, q, u, e, k, b⟩ m s.moulds.active).kthUpdate := by
    rw [State.activationBoundary_live (h.moulds ▸ hp) rfl rfl, ← hv, ← h.moulds]
    exact if_pos hph
  have hvf : Frame [.exch, .mgmt] s.heatBegun v := hv ▸ .of_exch_mgmt _ _ _
  have hvx : v.exch = { s.exch with act := !s.exch.act, pub := .none } := by
    rw [← hv, ← h.exch]
    rfl
  obtain ⟨hk, hkf, -⟩ := v.takeMould_spec m s.moulds.active true
  generalize hw : v.takeMould m s.moulds.active true = w at ha hk hkf
  have haf : Frame [.moulds] w (w.activated ⟨.live, some m, 1, q, u, e, k, b⟩ m s.moulds.active) := by
    intro p hp
    cases p with
    | moulds => simp at hp
    | _ => rfl
  have hku := State.kthUpdate_frame (w.activated ⟨.live, some m, 1, q, u, e, k, b⟩ m s.moulds.active)
  have hvp : v.pour = s.heatBegun.pour := hvf.pour_eq (by decide)
  generalize hx : (w.activated ⟨.live, some m, 1, q, u, e, k, b⟩ m s.moulds.active).kthUpdate = x at ha hku
  have hwx : Frame [.moulds, .mgmt] w x := (haf.mono (by decide)).trans (hku.mono (by decide))
  have hxe : x.exch = v.exch := (hwx.exch_eq (by decide)).trans (hkf.exch_eq (by decide))
  have hxv : x.evm = s.evm := by
    rw [hwx.evm_eq (by decide), hkf.evm_eq (by decide), hvf.evm_eq (by decide), h.evm]
  obtain ⟨t, he, ht⟩ := h.boundary ha (congrArg Evm.qmap hxv)
  refine ⟨t, he, State.activates_of hk ?_ ?_ ?_ ((hku.mono (by decide)).trans (ht.frame.mono (by decide))), ?_, ?_, ?_,
    fun n => ?_⟩
  · rw [hvp, h.begun.regs]
  · rw [hvp, h.begun.slot]
  · rw [hvf.tick_eq (by decide), h.begun.heat]
  · rw [ht.act, hxe, hvx]
  · rw [ht.xAct]
    simp only [State.xAct, State.xInact, hxe, hvx]
    cases s.exch.act <;> rfl
  · rw [ht.frame.pour_eq (by decide), hwx.pour_eq (by decide), hk.pdm, hvp, h.begun.pdm]
  · obtain ⟨d1, d2⟩ := hk.drv n
    rw [ht.drv n, hwx.axis_eq (by decide) n, d1, d2, hvf.axis_eq (by decide) n, h.axis n]
    exact ⟨rfl, rfl⟩

/-- After the heat with no mould a stopped activation makes its own active (R127). -/
theorem heatBoundary_starts {m : MouldInfo} {q : Word} {u k : Nat} {e : BitVec 64} {b : Bool}
    (hp : s.moulds.pend = some ⟨.stopped, some m, 2, q, u, e, k, b⟩) :
    ∃ t, exec .heatBoundary s = .next t ∧ s.Activates t m q s.moulds.outgoing ∧
      t.pour.pdm = (s.pour.load m s.moulds.outgoing true).pdm ∧
      (m.std = none → (m.par.any fun e => isEvpour e.id) = false →
        t.xAct.inb = fillCustom s m ∧ t.xInact.inb = fillCustom s m) := by
  generalize hv : ({ s.heatBegun with
    pour := s.heatBegun.pour.load m s.moulds.outgoing true, ax := s.heatBegun.ax.map Axis.noCompares } : State).fillBuffers m = v
  have ha : s.heatBegun.activationBoundary = (((v.takeMould m s.moulds.outgoing false).activated
      ⟨.stopped, some m, 2, q, u, e, k, b⟩ m s.moulds.outgoing).kthUpdate).fillBoth m := by
    rw [State.activationBoundary_stopped (h.moulds ▸ hp) rfl rfl, ← hv, ← h.moulds]
    exact (if_neg (Nat.succ_ne_zero 1)).trans (if_pos rfl)
  have hvf : Frame [.exch, .pour, .ax] s.heatBegun v := by
    rw [← hv]
    intro p hp
    cases p with
    | exch | pour | ax => simp at hp
    | _ => rfl
  have hvp : v.pour = s.heatBegun.pour.load m s.moulds.outgoing true := by
    rw [← hv]
    rfl
  obtain ⟨hk, hkf, hkp⟩ := v.takeMould_spec m s.moulds.outgoing false
  generalize hw : v.takeMould m s.moulds.outgoing false = w at ha hk hkf hkp
  have haf : Frame [.moulds] w (w.activated ⟨.stopped, some m, 2, q, u, e, k, b⟩ m s.moulds.outgoing) := by
    intro p hp
    cases p with
    | moulds => simp at hp
    | _ => rfl
  have hact : (w.activated ⟨.stopped, some m, 2, q, u, e, k, b⟩ m s.moulds.outgoing).moulds.active = some m := hk.active
  have hku := State.kthUpdate_frame (w.activated ⟨.stopped, some m, 2, q, u, e, k, b⟩ m s.moulds.outgoing)
  have hkpar := State.kthUpdate_par (w.activated ⟨.stopped, some m, 2, q, u, e, k, b⟩ m s.moulds.outgoing)
  generalize hx : (w.activated ⟨.stopped, some m, 2, q, u, e, k, b⟩ m s.moulds.outgoing).kthUpdate = x at ha hku hkpar
  obtain ⟨hbf, hbq, hbp, hba, hbi⟩ := x.fillBoth_spec m
  have hxv : x.evm = s.evm := by
    rw [hku.evm_eq (by decide), haf.evm_eq (by decide), hkf.evm_eq (by decide), hvf.evm_eq (by decide), h.evm]
  obtain ⟨t, he, ht⟩ := h.boundary ha (hbq.trans (congrArg Evm.qmap hxv))
  refine ⟨t, he, State.activates_of hk ?_ ?_ ?_
    ((hku.mono (by decide)).trans ((hbf.mono (by decide)).trans (ht.frame.mono (by decide)))), ?_, fun hs hev => ?_⟩
  · rw [hvp, ← h.begun.regs]
    rfl
  · rw [hvp, ← h.begun.slot]
    rfl
  · rw [hvf.tick_eq (by decide), h.begun.heat]
  · rw [ht.frame.pour_eq (by decide), hbf.pour_eq (by decide), hku.pour_eq (by decide), haf.pour_eq (by decide), hk.pdm, hvp]
    exact Pour.load_pdm h.begun.pdm m _ true
  · have hpar : x.mgmt.par = s.mgmt.par := by
      rw [hkpar, haf.mgmt_eq (by decide), hkp hs, hvf.mgmt_eq (by decide), h.begun.par]
    have hin (y : State) (hy : y.mgmt.par = s.mgmt.par) (z : XBuf) : (y.filled m z).inb = fillCustom s m :=
      (State.filled_custom_inb z hs).trans (fillCustom_congr hy hev)
    have hbm : (x.fillBoth m).moulds.active = some m := by
      rw [hbf.moulds_eq (by decide), hku.moulds_eq (by decide), hact]
    refine ⟨?_, ?_⟩
    · rw [ht.xAct, hba]
      exact hin x hpar _
    · obtain hi | ⟨m', hm', hi⟩ := ht.xInact
      · rw [hi, hbi]
        exact hin x hpar _
      · rw [hbm] at hm'
        cases hm'
        rw [hi]
        exact hin _ (hbp.trans hpar) _

end

/-! ### O15 -/

theorem Pour.regs_iff {p q : Pour} : p.regs = q.regs ↔ p.v = q.v ∧ p.acc = q.acc ∧ p.p = q.p := by
  simp only [Pour.regs, Prod.mk.injEq]

/-- Settles O15: the clock of the boundary, the five ways of an activation, and the reservation. -/
theorem heatAdvancesActivatesAndIsReserved : Obligations.HeatAdvancesActivatesAndIsReserved := by
  unfold Obligations.HeatAdvancesActivatesAndIsReserved
  refine ⟨fun s hon hh hz hq => heatBoundary_counts hon hh hz hq, ?_, fun s hon hr hb hw => exec_heatReservation hon hr hb hw⟩
  intro s hon hh hz ha hd hi hc m q u k e b old taken off
  have h : s.HeatDue := ⟨hon, hh, hz, ha, hd, hi, hc⟩
  have htaken {o : Option MouldInfo} {t : State} (hx : s.Activates t m q o) : taken o t := by
    obtain ⟨hv, hacc, hp⟩ := Pour.regs_iff.1 hx.regs
    exact ⟨hx.active, hx.record, hx.slot, hx.pcnt, hx.ofs, hx.seqr, hx.seqi, hv, hacc, hp⟩
  have hoff {t : State} (hx : s.Off t) : off t := ⟨hx.active, hx.ended, hx.pub, hx.pdm, hx.drv⟩
  refine ⟨fun hp => ?_, fun hp => ?_, fun hp hb => ?_, fun ph hp hw => heatBoundary_waits h hp hw, fun o hp => ?_⟩
  · obtain ⟨t, he, ho, hr⟩ := heatBoundary_stops h hp
    exact ⟨t, he, hoff ho, hr⟩
  · obtain ⟨t, he, hx, hr⟩ := heatBoundary_starts h hp
    exact ⟨t, he, htaken hx, hr⟩
  · obtain ⟨t, he, hx, h1, h2, hr⟩ := heatBoundary_swaps h hp hb
    exact ⟨t, he, htaken hx, h1, congrArg XBuf.inb h2, congrArg XBuf.inId h2, hr⟩
  · obtain ⟨t, he, ho, hr⟩ := heatBoundary_deactivates h hp
    exact ⟨t, he, hoff ho, hr⟩

end Sys2Proof.Machine
end
section
/-! SUPPORT. One axis at a tick boundary: what its own change keeps, and what the change of another axis leaves of it (01 R36;
O14). -/

namespace Sys2Proof.Machine

/-! ### Jobs and axes -/

theorem State.transition_frame (s : State) (q : Job) (st : Nat) (c : Word) (r : Bool) : Frame [.jrn] s (s.transition q st c r) := by
  unfold State.transition
  split
  · exact .refl _ s
  · intro p hp
    cases p with
    | jrn => simp at hp
    | _ => rfl

/-- What the end of a job writes of its axis. -/
def JobAx.ended (q : Job) (disp : Nat) (j : JobAx) : JobAx :=
  { j with
    lastSeq := q.seq, lastOut := disp
    held := j.held || decide (disp = 5) || decide (disp = 6)
    waited := if !isImmediate q.opc && decide (q.st = .started) then 0 else j.waited }

theorem State.endJob_mgmt (s : State) (q : Job) (disp : Nat) (c : Word) : (s.endJob q disp c).mgmt = { s.mgmt with
    jobs := s.mgmt.jobs.filter fun x => !decide (x.seq = q.seq)
    jax := s.mgmt.jax.set q.ax ((s.mgmt.jax.get q.ax).ended q disp) } := by
  have h : (s.transition q disp c false).mgmt = s.mgmt := (s.transition_frame q disp c false).mgmt_eq (by decide)
  rw [← h]
  rfl

theorem State.endJob_frame (s : State) (q : Job) (disp : Nat) (c : Word) : Frame [.mgmt, .jrn] s (s.endJob q disp c) :=
  ((s.transition_frame q disp c false).mono (by decide)).trans ((Frame.of_mgmt _ _).mono (by decide))

/-! ### What every axis change keeps -/

/-- What a change of an axis keeps: the moulds but for the copy, every job's axis, and the parts it does not touch. -/
structure State.Keeps (s t : State) : Prop where
  frame : Frame [.ax, .mgmt, .moulds, .jrn] s t
  active : t.moulds.active = s.moulds.active
  pend : t.moulds.pend = s.moulds.pend
  jobs : ∀ y ∈ t.mgmt.jobs, ∃ z ∈ s.mgmt.jobs, z.ax = y.ax

theorem State.Keeps.refl (s : State) : s.Keeps s := ⟨.refl _ s, rfl, rfl, fun y hy => ⟨y, hy, rfl⟩⟩

theorem State.Keeps.trans {s t u : State} (h : s.Keeps t) (k : t.Keeps u) : s.Keeps u := by
  refine ⟨h.frame.trans k.frame, k.active.trans h.active, k.pend.trans h.pend, fun y hy => ?_⟩
  obtain ⟨z, hz, hzy⟩ := k.jobs y hy
  obtain ⟨w, hw, hwz⟩ := h.jobs z hz
  exact ⟨w, hw, hwz.trans hzy⟩

theorem State.keeps_of_frame {s t : State} (h : Frame [.ax, .mgmt, .jrn] s t)
    (hj : ∀ y ∈ t.mgmt.jobs, ∃ z ∈ s.mgmt.jobs, z.ax = y.ax) : s.Keeps t :=
  ⟨h.mono (by decide), congrArg Moulds.active (h.moulds_eq (by decide)), congrArg Moulds.pend (h.moulds_eq (by decide)), hj⟩

theorem State.keeps_of_jobs {s t : State} (h : Frame [.ax, .mgmt, .jrn] s t) (hj : t.mgmt.jobs = s.mgmt.jobs) : s.Keeps t :=
  State.keeps_of_frame h fun y hy => ⟨y, hj ▸ hy, rfl⟩

theorem State.endJob_keeps (s : State) (q : Job) (disp : Nat) (c : Word) : s.Keeps (s.endJob q disp c) := by
  refine State.keeps_of_frame ((s.endJob_frame q disp c).mono (by decide)) fun y hy => ?_
  rw [State.endJob_mgmt] at hy
  exact ⟨y, (List.mem_filter.1 hy).1, rfl⟩

theorem State.endRunning_keeps (s : State) (n : Fin 4) (disp : Nat) : s.Keeps (s.endRunning n disp) := by
  unfold State.endRunning
  split
  · exact .refl s
  · exact s.endJob_keeps _ _ _

theorem State.updJax_keeps (s : State) (n : Fin 4) (f : JobAx → JobAx) : s.Keeps (s.updJax n f) :=
  State.keeps_of_jobs ((Frame.of_mgmt s _).mono (by decide)) rfl

theorem State.updAxis_keeps (s : State) (n : Fin 4) (f : Axis → Axis) : s.Keeps (s.updAxis n f) :=
  State.keeps_of_jobs ((s.updAxis_frame n f).mono (by decide)) rfl

theorem State.axNext_keeps (s : State) (n : Fin 4) (x : AxState) : s.Keeps (s.axNext n x) := s.updAxis_keeps n _

theorem State.abortTest_keeps (s : State) (sel : BgOp → Bool) : s.Keeps (s.abortTest sel) := by
  refine State.keeps_of_jobs (fun p hp => ?_) rfl
  cases p with
  | ax | mgmt | jrn => simp at hp
  | _ => rfl

theorem State.axFault_keeps (s : State) (n : Fin 4) : s.Keeps (s.axFault n) := by
  unfold State.axFault
  split
  · exact .refl s
  · exact (s.axNext_keeps n _).trans (State.abortTest_keeps _ _)

theorem State.unstart_keeps (s : State) (n : Fin 4) : s.Keeps (s.unstart n) := by
  refine State.keeps_of_frame ((Frame.of_mgmt s _).mono (by decide)) fun y hy => ?_
  obtain ⟨z, hz, rfl⟩ := List.mem_map.1 hy
  refine ⟨z, hz, ?_⟩
  split <;> rfl

theorem State.setJobSt_keeps (s : State) (q : Word) (st : JobSt) : s.Keeps (s.setJobSt q st) := by
  refine State.keeps_of_frame ((Frame.of_mgmt s _).mono (by decide)) fun y hy => ?_
  obtain ⟨z, hz, rfl⟩ := List.mem_map.1 hy
  refine ⟨z, hz, ?_⟩
  split <;> rfl

theorem State.giveStep_keeps (s : State) (n : Fin 4) (f : JobStep → JobStep) : s.Keeps (s.giveStep n f) :=
  State.keeps_of_jobs ((Frame.of_mgmt s _).mono (by decide)) rfl

theorem State.transition_keeps (s : State) (q : Job) (st : Nat) (c : Word) (r : Bool) : s.Keeps (s.transition q st c r) :=
  State.keeps_of_jobs ((s.transition_frame q st c r).mono (by decide))
    (congrArg Mgmt.jobs ((s.transition_frame q st c r).mgmt_eq (by decide)))

/-- What the end of a copy writes of MGMT: the operation goes, and the reply enters the outlet. -/
theorem State.cancelCopy_mgmt (s : State) : s.cancelCopy.mgmt = { s.mgmt with
    bg := s.cancelCopy.mgmt.bg, outlet := s.cancelCopy.mgmt.outlet, reserved := s.cancelCopy.mgmt.reserved } := by
  unfold State.cancelCopy
  split
  · dsimp only
    split <;> rfl
  · rfl

theorem State.cancelActivation_noPend {s : State} (h : s.moulds.pend = none) : s.cancelActivation = s.cancelCopy := by
  simp only [State.cancelActivation, State.cancelPend, s.cancelCopy_spec.2.2, h]

theorem State.cancelActivation_keeps {s : State} (h : s.moulds.pend = none) : s.Keeps s.cancelActivation := by
  obtain ⟨hf, ha, hp⟩ := s.cancelCopy_spec
  rw [State.cancelActivation_noPend h]
  refine ⟨hf.mono (by decide), ha, hp, fun y hy => ⟨y, ?_, rfl⟩⟩
  rw [State.cancelCopy_mgmt] at hy
  exact hy

theorem State.applyReq_keeps (s : State) (n : Fin 4) : s.Keeps (s.applyReq n) := by
  unfold State.applyReq
  dsimp only
  split
  · exact .refl s
  · exact (s.giveStep_keeps n _).trans (State.updJax_keeps _ n _)

theorem State.axisLost_keeps {s : State} (n : Fin 4) (h : s.moulds.pend = none) : s.Keeps (s.axisLost n) := by
  have hk := ((s.unstart_keeps n).trans (State.endRunning_keeps _ n 5)).trans (State.updJax_keeps _ n fun j => { j with req := 0 })
  exact hk.trans (State.cancelActivation_keeps (hk.pend.trans h))

theorem State.enterAx_keeps (s : State) (n : Fin 4) (x : AxState) : s.Keeps (s.enterAx n x) :=
  State.keeps_of_jobs ((s.enterAx_frame n x).mono (by decide)) ((congrArg Mgmt.jobs (s.enterAx_mgmt n x)).trans rfl)

theorem State.clearTheWay_keeps (s : State) (n : Fin 4) (q : Job) : s.Keeps (s.clearTheWay n q) := by
  have hc (l : List Job) : s.Keeps (s.cancelJobs l) :=
    List.foldlRecOn (motive := fun t : State => s.Keeps t) l _ (.refl s) fun t ht q _ => ht.trans (t.endJob_keeps q 7 0)
  unfold State.clearTheWay
  split
  · exact ((hc _).trans (State.endRunning_keeps _ n 7)).trans (State.updJax_keeps _ n _)
  · exact s.endRunning_keeps n 4

theorem State.startNow_keeps (s : State) (n : Fin 4) (q : Job) : s.Keeps (s.startNow n q) := by
  have h2 := ((s.setJobSt_keeps q.seq .started).trans (State.giveStep_keeps _ n fun p => q.step s.tick.tper (p.no + 1))).trans
    (State.transition_keeps _ { q with st := JobSt.started } 3 0 false)
  have h3 (x y : AxState) := h2.trans (t := ((s.setJobSt q.seq .started).giveStep n fun p =>
    q.step s.tick.tper (p.no + 1)).transition { q with st := JobSt.started } 3 0 false)
    (u := if x = y then _ else _) (by split; exacts [.refl _, State.axNext_keeps _ n x])
  unfold State.startNow
  dsimp only
  split
  · exact (h3 _ _).trans (State.endJob_keeps _ _ _ _)
  · split
    · exact (h3 _ _).trans (State.endJob_keeps _ _ _ _)
    · exact h3 _ _

theorem State.startChosen_keeps (s : State) (n : Fin 4) : s.Keeps (s.startChosen n) := by
  unfold State.startChosen
  split
  · exact .refl s
  · split
    · exact s.unstart_keeps n
    · dsimp only
      split
      · exact (s.clearTheWay_keeps n _).trans (State.startNow_keeps _ n _)
      · exact (s.clearTheWay_keeps n _).trans (State.endJob_keeps _ _ _ _)

theorem State.readReaction_keeps (s : State) (n : Fin 4) (r : Report) : s.Keeps (s.readReaction n r) := by
  have h2 (c : Bool) (t : State) : t.Keeps (if c = true then t else t.endRunning n 6) := by
    split
    · exact .refl t
    · exact t.endRunning_keeps n 6
  unfold State.readReaction
  split
  · exact .refl s
  · dsimp only
    split
    · exact ((s.updJax_keeps n _).trans (h2 _ _)).trans (State.axNext_keeps _ n _)
    · split
      · exact ((s.updJax_keeps n _).trans (h2 _ _)).trans (State.axNext_keeps _ n _)
      · exact (s.updJax_keeps n _).trans (h2 _ _)

theorem State.readStop_keeps (s : State) (n : Fin 4) : s.Keeps (s.readStop n) := by
  have h (q : Job) (d : Nat) (c : Word) (x : AxState) : s.Keeps ((s.endJob q d c).axNext n x) :=
    (s.endJob_keeps q d c).trans (State.axNext_keeps _ n x)
  unfold State.readStop
  split
  · exact s.axNext_keeps n _
  · split
    · exact h _ _ _ _
    · split
      · exact h _ _ _ _
      · split <;> exact h _ _ _ _

theorem State.readMould_keeps (s : State) (n : Fin 4) : s.Keeps (s.readMould n) := by
  have hr := s.readReaction_keeps n (s.report n)
  unfold State.readMould
  dsimp only
  split
  · exact s.axFault_keeps n
  · split
    · exact .refl s
    · split
      · exact s.axFault_keeps n
      · split
        · split
          · exact hr.trans (State.axNext_keeps _ n _)
          · exact hr
        · split
          · exact hr.trans ((State.endRunning_keeps _ n _).trans (State.axNext_keeps _ n _))
          · exact hr
        · split
          · exact hr.trans (State.readStop_keeps _ n)
          · exact hr
        · exact hr

theorem State.axisChange_keeps {s : State} (n : Fin 4) (h : s.moulds.pend = none) : s.Keeps (s.axisChange n) := by
  unfold State.axisChange
  split
  · split
    · exact (s.applyReq_keeps n).trans (State.updAxis_keeps _ n _)
    · refine State.Keeps.trans ?_ (State.enterAx_keeps _ n _)
      split
      · exact State.axisLost_keeps n h
      · split
        · exact s.unstart_keeps n
        · exact s.applyReq_keeps n
  · dsimp only
    have hs := (s.applyReq_keeps n).trans (State.startChosen_keeps _ n)
    split
    · exact hs.trans (State.enterAx_keeps _ n _)
    · exact hs

theorem State.profStore_keeps (s : State) (n : Fin 4) : s.Keeps (s.profStore n) := by
  obtain ⟨hf, hg⟩ := s.profStore_spec n
  exact State.keeps_of_jobs (hf.mono (by decide)) ((congrArg Mgmt.jobs hg).trans rfl)

theorem State.axisBoundary_keeps {s : State} (n : Fin 4) (h : s.moulds.pend = none) : s.Keeps (s.axisBoundary n) := by
  have hr := (s.profStore_keeps n).trans (State.readMould_keeps _ n)
  exact hr.trans (State.axisChange_keeps n (hr.pend.trans h))

/-! ### What the change of another axis leaves -/

/-- The axis as its own change sees it: its state, what it asks for, its registers. -/
def Axis.Alike (a b : Axis) : Prop := b.st = a.st ∧ b.nxt = a.nxt ∧ b.drv = a.drv

theorem Axis.Alike.refl (a : Axis) : a.Alike a := ⟨rfl, rfl, rfl⟩

theorem Axis.Alike.trans {a b c : Axis} (h : a.Alike b) (k : b.Alike c) : a.Alike c :=
  ⟨k.1.trans h.1, k.2.1.trans h.2.1, k.2.2.trans h.2.2⟩

/-- What the change of another axis leaves of axis n. -/
structure State.Apart (n : Fin 4) (s t : State) : Prop where
  frame : Frame [.ax, .mgmt, .moulds] s t
  alike : (s.axis n).Alike (t.axis n)
  jobs : t.mgmt.jobs = s.mgmt.jobs
  jax : t.mgmt.jax.get n = s.mgmt.jax.get n
  rfunc : t.mgmt.rfunc = s.mgmt.rfunc
  active : t.moulds.active = s.moulds.active
  pend : t.moulds.pend = s.moulds.pend

section
variable {n : Fin 4}

theorem State.Apart.refl (s : State) : State.Apart n s s := ⟨.refl _ s, .refl _, rfl, rfl, rfl, rfl, rfl⟩

theorem State.Apart.trans {s t u : State} (h : State.Apart n s t) (k : State.Apart n t u) : State.Apart n s u :=
  ⟨h.frame.trans k.frame, h.alike.trans k.alike, k.jobs.trans h.jobs, k.jax.trans h.jax, k.rfunc.trans h.rfunc,
    k.active.trans h.active, k.pend.trans h.pend⟩

theorem State.apart_of_ax {s t : State} (h : Frame [.ax] s t) (ha : (s.axis n).Alike (t.axis n)) : State.Apart n s t := by
  have hg := h.mgmt_eq (by decide)
  have hm := h.moulds_eq (by decide)
  exact ⟨h.mono (by decide), ha, congrArg Mgmt.jobs hg, congrArg (fun g : Mgmt => g.jax.get n) hg, congrArg Mgmt.rfunc hg,
    congrArg Moulds.active hm, congrArg Moulds.pend hm⟩

theorem State.apart_of_mgmt {s : State} (g : Mgmt) (hj : g.jobs = s.mgmt.jobs) (hx : g.jax.get n = s.mgmt.jax.get n)
    (hr : g.rfunc = s.mgmt.rfunc) : State.Apart n s { s with mgmt := g } :=
  ⟨(Frame.of_mgmt s g).mono (by decide), .refl _, hj, hx, hr, rfl, rfl⟩

theorem State.abortTest_apart (s : State) (sel : BgOp → Bool) : State.Apart n s (s.abortTest sel) := by
  have ha : (s.axis n).Alike ((s.abortTest sel).axis n) := by
    change (s.axis n).Alike ((s.abortTest sel).ax.get n)
    rw [State.abortTest_ax]
    split
    · rename_i j _
      by_cases hk : n = j
      · rw [hk, Four.get_set_same]
        exact ⟨rfl, rfl, rfl⟩
      · rw [Four.get_set_ne _ _ hk]
        exact .refl _
    · exact .refl _
  refine ⟨fun p hp => ?_, ha, rfl, rfl, rfl, rfl, rfl⟩
  cases p with
  | ax | mgmt | moulds => simp at hp
  | _ => rfl

theorem State.cancelActivation_apart {s : State} (h : s.moulds.pend = none) : State.Apart n s s.cancelActivation := by
  obtain ⟨hf, ha, hp⟩ := s.cancelCopy_spec
  rw [State.cancelActivation_noPend h]
  have ht : (s.axis n).Alike (s.cancelCopy.axis n) := by
    rw [hf.axis_eq (by decide) n]
    exact .refl _
  refine ⟨hf.mono (by decide), ht, ?_, ?_, ?_, ha, hp⟩ <;> rw [State.cancelCopy_mgmt]

section
variable {k : Fin 4} (hk : n ≠ k)
include hk

theorem State.updAxis_apart (s : State) (f : Axis → Axis) : State.Apart n s (s.updAxis k f) := by
  refine State.apart_of_ax (s.updAxis_frame k f) ?_
  rw [State.axis_updAxis_ne _ _ hk]
  exact .refl _

theorem State.updJax_apart (s : State) (f : JobAx → JobAx) : State.Apart n s (s.updJax k f) :=
  State.apart_of_mgmt _ rfl (Four.get_set_ne _ _ hk) rfl

theorem State.axNext_apart (s : State) (x : AxState) : State.Apart n s (s.axNext k x) := State.updAxis_apart hk s _

theorem State.axFault_apart (s : State) : State.Apart n s (s.axFault k) := by
  unfold State.axFault
  split
  · exact .refl s
  · exact (State.axNext_apart hk s _).trans (State.abortTest_apart _ _)

theorem State.giveStep_apart (s : State) (f : JobStep → JobStep) : State.Apart n s (s.giveStep k f) :=
  State.apart_of_mgmt _ rfl (Four.get_set_ne _ _ hk) rfl

theorem State.applyReq_apart (s : State) : State.Apart n s (s.applyReq k) := by
  unfold State.applyReq
  dsimp only
  split
  · exact .refl s
  · exact (State.giveStep_apart hk s _).trans (State.updJax_apart hk _ _)

theorem State.enterAx_apart (s : State) (x : AxState) : State.Apart n s (s.enterAx k x) := by
  have he (t : State) : State.Apart n t (t.enClear k) := by
    unfold State.enClear State.updChain
    exact State.updAxis_apart hk t _
  have h1 := State.updAxis_apart hk s fun a => { a with st := x, nxt := none }
  have h2 := h1.trans (State.updJax_apart hk _ fun j => { j with held := true })
  unfold State.enterAx
  dsimp only
  split <;> split
  · exact h2.trans (he _)
  · exact h1.trans (he _)
  · exact h2
  · exact h1

omit hk in
theorem State.profStore_apart (s : State) : State.Apart n s (s.profStore k) := by
  unfold State.profStore
  split
  · exact .refl s
  · exact State.apart_of_mgmt _ rfl rfl rfl

section
variable {s : State} (hj : ∀ y ∈ s.mgmt.jobs, y.ax = n)
include hj

theorem State.running_apart : s.running k = none := by
  rw [State.running, List.find?_eq_none]
  intro y hy
  have hne : decide (y.ax = k) = false := decide_eq_false fun h => hk ((hj y hy).symm.trans h)
  simp [hne]

theorem State.endRunning_apart (disp : Nat) : s.endRunning k disp = s := by
  simp only [State.endRunning, State.running_apart hk hj]

theorem State.unstart_apart : s.unstart k = s := by
  have hm : (s.mgmt.jobs.map fun q => if q.ax = k ∧ q.st = .starting then { q with st := JobSt.accepted } else q) =
      s.mgmt.jobs := by
    refine (List.map_congr_left fun y hy => if_neg fun h => ?_).trans (List.map_id _)
    exact hk ((hj y hy).symm.trans h.1)
  exact congrArg (fun l => ({ s with mgmt := { s.mgmt with jobs := l } } : State)) hm

theorem State.startChosen_apart : s.startChosen k = s := by
  have hl : s.jobsOf k = [] := by
    rw [State.jobsOf, List.filter_eq_nil_iff]
    intro y hy
    rw [decide_eq_true_eq]
    exact fun h => hk ((hj y hy).symm.trans h)
  simp only [State.startChosen, hl, List.find?_nil]

theorem State.readReaction_apart (r : Report) : State.Apart n s (s.readReaction k r) := by
  have h1 := State.updJax_apart hk s fun j => { j with seen := r.reacts }
  have h2 (c : Bool) (t : State) (ht : State.Apart n s t) :
      (if c = true then t else t.endRunning k 6) = t := by
    split
    · rfl
    · exact State.endRunning_apart hk (fun y hy => hj y (ht.jobs ▸ hy)) 6
  unfold State.readReaction
  split
  · exact .refl s
  · dsimp only
    rw [h2 _ _ h1]
    split
    · exact h1.trans (State.axNext_apart hk _ _)
    · split
      · exact h1.trans (State.axNext_apart hk _ _)
      · exact h1

theorem State.readMould_apart : State.Apart n s (s.readMould k) := by
  have hr := State.readReaction_apart hk hj (s.report k)
  have hjr : ∀ y ∈ (s.readReaction k (s.report k)).mgmt.jobs, y.ax = n := fun y hy => hj y (hr.jobs ▸ hy)
  unfold State.readMould
  dsimp only
  split
  · exact State.axFault_apart hk s
  · split
    · exact .refl s
    · split
      · exact State.axFault_apart hk s
      · split
        · split
          · exact hr.trans (State.axNext_apart hk _ _)
          · exact hr
        · split
          · rw [State.readRun, State.endRunning_apart hk hjr]
            exact hr.trans (State.axNext_apart hk _ _)
          · exact hr
        · split
          · simp only [State.readStop, State.running_apart hk hjr]
            exact hr.trans (State.axNext_apart hk _ _)
          · exact hr
        · exact hr

theorem State.axisChange_apart (hp : s.moulds.pend = none) : State.Apart n s (s.axisChange k) := by
  have ha := State.applyReq_apart hk s
  unfold State.axisChange
  split
  · split
    · exact ha.trans (State.updAxis_apart hk _ _)
    · refine State.Apart.trans ?_ (State.enterAx_apart hk _ _)
      split
      · rw [State.axisLost, State.unstart_apart hk hj, State.endRunning_apart hk hj]
        exact (State.updJax_apart hk s _).trans (State.cancelActivation_apart hp)
      · split
        · rw [State.unstart_apart hk hj]
          exact .refl s
        · exact ha
  · dsimp only
    rw [State.startChosen_apart hk fun y hy => hj y (ha.jobs ▸ hy)]
    split
    · exact ha.trans (State.enterAx_apart hk _ _)
    · exact ha

/-- The boundary of another axis. -/
theorem State.axisBoundary_apart (hp : s.moulds.pend = none) : State.Apart n s (s.axisBoundary k) := by
  have h1 : State.Apart n s (s.profStore k) := State.profStore_apart s
  have h2 := h1.trans (State.readMould_apart hk fun y hy => hj y (h1.jobs ▸ hy))
  exact h2.trans (State.axisChange_apart hk (fun y hy => hj y (h2.jobs ▸ hy)) (h2.pend.trans hp))

end

end

end

/-- The boundaries of other axes. -/
theorem State.others_apart {n : Fin 4} (l : List (Fin 4)) (hl : n ∉ l) {s : State} (hj : ∀ y ∈ s.mgmt.jobs, y.ax = n)
    (hp : s.moulds.pend = none) : State.Apart n s (l.foldl State.axisBoundary s) := by
  induction l generalizing s with
  | nil => exact .refl s
  | cons k l ih =>
    rw [List.mem_cons, not_or] at hl
    have h1 := State.axisBoundary_apart hl.1 hj hp
    exact h1.trans (ih hl.2 (fun y hy => hj y (h1.jobs ▸ hy)) (h1.pend.trans hp))

/-- All four axes: the axis' own change stands between those of the others. -/
theorem State.axes_split (n : Fin 4) {s : State} (hj : ∀ y ∈ s.mgmt.jobs, y.ax = n) (hp : s.moulds.pend = none) :
    ∃ u, State.Apart n s u ∧ State.Apart n (u.axisBoundary n) (axes.foldl State.axisBoundary s) ∧
      u.Keeps (u.axisBoundary n) := by
  obtain ⟨l, r, hlr⟩ := List.append_of_mem (mem_axes n)
  have hd : (l ++ n :: r).Nodup := hlr ▸ by decide
  obtain ⟨-, hr, hdis⟩ := List.nodup_append.1 hd
  have hnl : n ∉ l := fun h => hdis n h n (List.mem_cons_self ..) rfl
  have h1 := State.others_apart l hnl hj hp
  have hk := State.axisBoundary_keeps (s := l.foldl State.axisBoundary s) n (h1.pend.trans hp)
  refine ⟨l.foldl State.axisBoundary s, h1, ?_, hk⟩
  rw [hlr, List.foldl_append, List.foldl_cons]
  refine State.others_apart r (List.nodup_cons.1 hr).1 (fun y hy => ?_) (hk.pend.trans (h1.pend.trans hp))
  obtain ⟨z, hz, hzy⟩ := hk.jobs y hy
  exact hzy.symm.trans (hj z (h1.jobs ▸ hz))

end Sys2Proof.Machine
end
section
/-! SUPPORT. The tick boundary as one axis sees it: what stands before its change, and what is left of it in the next tick
(O14). -/

namespace Sys2Proof.Machine

/-! ### The pour that begins, on readable words and with no operation -/

/-- What the begin of a pour keeps: jobs, axes and the device state. -/
structure State.PourBegins (d t : State) : Prop where
  frame : Frame [.pour, .std, .conv, .tick, .exch, .mgmt, .fi, .evm] d t
  jobs : t.mgmt.jobs = d.mgmt.jobs
  jax : t.mgmt.jax = d.mgmt.jax

theorem State.pourBegins_of_frame {d t : State} (h : Frame [.pour, .std, .conv, .tick, .exch, .fi, .evm] d t) :
    d.PourBegins t :=
  ⟨h.mono (by decide), congrArg Mgmt.jobs (h.mgmt_eq (by decide)), congrArg Mgmt.jax (h.mgmt_eq (by decide))⟩

theorem State.PourBegins.trans {d t u : State} (h : d.PourBegins t) (k : t.PourBegins u) : d.PourBegins u :=
  ⟨h.frame.trans k.frame, k.jobs.trans h.jobs, k.jax.trans h.jax⟩

theorem State.pourBegun_frame (s : State) (m : MouldInfo) : Frame [.pour] s (s.pourBegun m) := fun p hp => by
  cases p with
  | pour => simp at hp
  | _ => rfl

theorem State.passXp_begins (s : State) : s.PourBegins s.passXp ∧ s.passXp.pour = s.pour := by
  have hw (t : State) : t.PourBegins t.swapAtXp ∧ t.swapAtXp.pour = t.pour := by
    unfold State.swapAtXp
    split
    · exact ⟨⟨(Frame.of_exch_mgmt t _ _).mono (by decide), rfl, rfl⟩, rfl⟩
    · exact ⟨State.pourBegins_of_frame (.refl _ t), rfl⟩
  have he (t : State) (e : Exch) : t.PourBegins { t with exch := e } := by
    refine State.pourBegins_of_frame fun p hp => ?_
    cases p with
    | exch => simp at hp
    | _ => rfl
  obtain ⟨h1, h2⟩ := hw { s with exch := { s.exch with xpPast := true } }
  have h3 := (he s _).trans h1
  unfold State.passXp
  split
  · exact ⟨State.pourBegins_of_frame (.refl _ s), rfl⟩
  · dsimp only
    split
    · exact ⟨h3.trans (he _ _), h2⟩
    · exact ⟨h3, h2⟩

/-- A first bundle without operations, from a readable word. -/
theorem issueBundle_empty {s : State} {m : MouldInfo} {b : Bundle} (hb : takeBundle m.code = some b) (hs : b.slots = [])
    (ho : s.pour.boff = 0) (hc : s.pour.nextCy = 0) (hu : Sparse.get 0 0 s.pour.upsets = 0) :
    ∃ t, issueBundle m s = .next (t.pastBundle m b 0).endCycle ∧ s.PourBegins t := by
  have hx (t : State) (ht : t.pour = s.pour) : t.fetchUpsets b = [0] := by
    simp [State.fetchUpsets, hs, ht, ho, hu, List.range_succ]
  have hp : s.PourBegins (if m.xp ≤ 0 then s.passXp else s) ∧ (if m.xp ≤ 0 then s.passXp else s).pour = s.pour := by
    split
    · exact s.passXp_begins
    · exact ⟨State.pourBegins_of_frame (.refl _ s), rfl⟩
  refine ⟨if m.xp ≤ 0 then s.passXp else s, ?_, hp.1⟩
  unfold issueBundle
  rw [ho, List.drop_zero, hb]
  dsimp only
  rw [hc, if_pos rfl, hx _ hp.2, hs]
  rfl

/-- The mould of O14 begins its pour: none, a standard one, or a custom one whose first bundle holds no operation. -/
def State.quietMould (s : State) : Prop :=
  s.moulds.active = none ∨
    (∃ m, s.moulds.active = some m ∧ m.std.isSome = true ∧ s.pour.upsets = []) ∨
    (∃ m b, s.moulds.active = some m ∧ m.std = none ∧ takeBundle m.code = some b ∧ b.slots = [] ∧
      Sparse.get 0 0 s.pour.upsets = 0)

theorem State.startPour_quiet {d : State} (h : d.quietMould) :
    ∃ t, endOfCy0 d.idleSnapshot.startPour = .next t ∧ d.PourBegins t := by
  have hfi (t : State) : t.PourBegins t.fiUpdate := State.pourBegins_of_frame ((State.fiUpdate_frame t).mono (by decide))
  obtain hm | ⟨m, hm, hk, hu⟩ | ⟨m, b, hm, hk, hb, hs, hu⟩ := h
  · have hi : d.idleSnapshot.moulds.active = none :=
      (congrArg Moulds.active ((State.idleSnapshot_frame d).moulds_eq (by decide))).trans hm
    rw [State.startPour_noMould hi]
    exact ⟨d.idleTick, rfl, State.pourBegins_of_frame (d.idleTick_frame.mono (by decide))⟩
  · obtain ⟨k, hk⟩ := Option.isSome_iff_exists.1 hk
    have hf := (State.stdBegin_sound (s := d.pourBegun m) m hu).1
    rw [State.idleSnapshot_of_mould hm, State.startPour_std hm hk]
    exact ⟨_, rfl, (State.pourBegins_of_frame (((d.pourBegun_frame m).mono (by decide)).trans (hf.mono (by decide)))).trans
      (hfi _)⟩
  · obtain ⟨t, ht, hp⟩ := issueBundle_empty (s := d.pourBegun m) hb hs rfl rfl hu
    obtain ⟨hf, -, -, -⟩ := t.pastBundle_spec m b
    rw [State.idleSnapshot_of_mould hm, State.startPour_custom hm hk, ht]
    exact ⟨_, rfl, ((State.pourBegins_of_frame ((d.pourBegun_frame m).mono (by decide))).trans hp).trans
      (State.pourBegins_of_frame (hf.mono (by decide)))⟩

/-! ### The boundary around one axis -/

/-- What the axis' own change finds, of the state before the boundary. -/
structure State.Before (n : Fin 4) (s u : State) : Prop where
  frame : Frame [.run, .exch, .pour, .tick, .sync, .mon, .mgmt, .ax, .moulds] s u
  alike : (s.axis n).Alike (u.axis n)
  jobs : u.mgmt.jobs = s.mgmt.jobs
  jax : u.mgmt.jax.get n = s.mgmt.jax.get n
  rfunc : u.mgmt.rfunc = s.mgmt.rfunc
  active : u.moulds.active = s.moulds.active
  pend : u.moulds.pend = s.moulds.pend
  xInact : u.xInact = s.xInact

/-- What is left of the axis' own change `v` in the next tick. -/
structure State.After (n : Fin 4) (v t : State) : Prop where
  alike : (v.axis n).Alike (t.axis n)
  jobs : t.mgmt.jobs = v.mgmt.jobs
  jax : t.mgmt.jax.get n = v.mgmt.jax.get n

/-- A tick boundary as O14 takes it for axis n: no CLEAR_FAULT, no activation, jobs on no other axis. -/
structure State.AxisDue (s : State) (n : Fin 4) : Prop where
  on : s.tick.on = true
  notLast : s.tick.hidx ≠ 15 ∨ s.tick.atZero = true
  clr : s.mgmt.clr = none
  pend : s.moulds.pend = none
  done : s.std.todo = 0
  quiet : s.quietMould
  jobs : ∀ y ∈ s.mgmt.jobs, y.ax = n

section
variable {s : State} {n : Fin 4} (h : s.AxisDue n)
include h

theorem State.AxisDue.atBoundary : State.Before n s s.atBoundary := by
  have hd := State.stdFinish_of_done h.done
  have hf := State.atBoundary_frame hd
  have hg := State.atBoundary_mgmt hd
  have hx : s.atBoundary.xInact = s.xInact := by
    unfold State.xInact
    rw [(State.atBoundary_spec hd).exch]
  refine ⟨hf.mono (by decide), ?_, ?_, ?_, ?_, congrArg Moulds.active (hf.moulds_eq (by decide)),
    congrArg Moulds.pend (hf.moulds_eq (by decide)), hx⟩
  · rw [hf.axis_eq (by decide) n]
    exact .refl _
  all_goals rw [hg]

/-- The boundary: the axis' own change, and around it what leaves it alone. -/
theorem State.AxisDue.boundary : ∃ u t, exec .tickBoundary s = .next t ∧ State.Before n s u ∧
    State.After n (u.axisBoundary n) t ∧ (s.dev = .ready ∨ s.dev = .run → t.dev = if t.allDisabled then .ready else .run) := by
  have hd := State.stdFinish_of_done h.done
  have hb := h.atBoundary
  have hpend : s.atBoundary.moulds.pend = none :=
    (congrArg Moulds.pend ((State.atBoundary_frame hd).moulds_eq (by decide))).trans h.pend
  have hclr : s.atBoundary.mgmt.clr = none := by
    rw [State.atBoundary_mgmt hd]
    exact h.clr
  obtain ⟨u, hu, hv, hk⟩ := State.axes_split n (s := s.atBoundary) (fun y hy => h.jobs y (hb.jobs ▸ hy)) hpend
  have hax : s.atBoundary.axesBoundary = axes.foldl State.axisBoundary s.atBoundary := by
    simp only [State.axesBoundary, hclr]
  rw [← hax] at hv
  have hdf := State.devFromAxes_frame s.atBoundary.axesBoundary
  have hall : Frame [.ax, .mgmt, .moulds, .jrn] s.atBoundary s.atBoundary.axesBoundary :=
    ((hu.frame.mono (by decide)).trans hk.frame).trans (hv.frame.mono (by decide))
  have hpe : s.atBoundary.axesBoundary.moulds.pend = none := hv.pend.trans (hk.pend.trans (hu.pend.trans hpend))
  have hact : s.atBoundary.axesBoundary.devFromAxes.moulds.active = s.moulds.active :=
    (congrArg Moulds.active (hdf.moulds_eq (by decide))).trans (hv.active.trans (hk.active.trans (hu.active.trans hb.active)))
  have hups : s.atBoundary.axesBoundary.devFromAxes.pour.upsets = s.pour.upsets := by
    rw [hdf.pour_eq (by decide), hall.pour_eq (by decide), (State.atBoundary_spec hd).upsets]
  have hq : s.atBoundary.axesBoundary.devFromAxes.quietMould := by
    unfold State.quietMould
    rw [hact, hups]
    exact h.quiet
  obtain ⟨t, ht, hpb⟩ := State.startPour_quiet hq
  have hta (k : Fin 4) : t.axis k = s.atBoundary.axesBoundary.axis k :=
    (hpb.frame.axis_eq (by decide) k).trans (hdf.axis_eq (by decide) k)
  have hdg := hdf.mgmt_eq (by decide)
  refine ⟨u, t, (exec_tickBoundary h.on h.notLast hpe).trans ht,
    ⟨hb.frame.trans (hu.frame.mono (by decide)) |>.mono (by decide), hb.alike.trans hu.alike, hu.jobs.trans hb.jobs,
      hu.jax.trans hb.jax, hu.rfunc.trans hb.rfunc, hu.active.trans hb.active,
      hu.pend.trans hb.pend, ?_⟩, ⟨?_, ?_, ?_⟩, fun hdev => ?_⟩
  · rw [← hb.xInact, State.xInact, State.xInact, hu.frame.exch_eq (by decide)]
  · rw [hta n]
    exact hv.alike
  · rw [hpb.jobs, hdg, hv.jobs]
  · rw [hpb.jax, hdg, hv.jax]
  · have hsd : s.atBoundary.axesBoundary.dev = s.dev :=
      (hall.dev_eq (by decide)).trans ((State.atBoundary_frame hd).dev_eq (by decide))
    have hal : s.atBoundary.axesBoundary.allDisabled = t.allDisabled :=
      State.allDisabled_congr fun k => congrArg Axis.st (hta k).symm
    rw [hpb.frame.dev_eq (by decide), ← hal]
    exact (State.devFromAxes_dev _).2 (by rwa [hsd])

end

end Sys2Proof.Machine
end
section
/-! SUPPORT. An axis' own change at a tick boundary: what the mould's report asks for, and the state that is taken (R36, R40,
Table 1-8; O14). -/

namespace Sys2Proof.Machine

/-! ### The report -/

/-- The report is one MGMT reads: it answers the job step given last. -/
def State.reads (s : State) (n : Fin 4) : Bool :=
  s.moulds.active.isSome && decide ((s.report n).no = (s.mgmt.jax.get n).step.no)

/-- It brings a reaction not seen before. -/
def State.reacts (s : State) (n : Fin 4) : Bool := decide ((s.mgmt.jax.get n).seen < (s.report n).reacts)

/-- It brings the end of the motion. -/
def State.ends (s : State) (n : Fin 4) : Bool :=
  s.reads n && (s.report n).still && decide ((s.report n).st = (s.axis n).st.code) && !s.reacts n

/-- It brings the end of START. -/
def State.endsStart (s : State) (n : Fin 4) : Bool :=
  s.reads n && (s.report n).startDone && decide ((s.axis n).st = .start)

section
variable {s : State} {n : Fin 4} (hm : s.mouldFault n = false)
include hm

theorem State.readMould_skip (hr : s.reads n = false) : s.readMould n = s := by
  have hc : s.moulds.active.isNone = true ∨ (s.report n).no ≠ (s.mgmt.jax.get n).step.no := by
    unfold State.reads at hr
    cases ha : s.moulds.active with
    | none => exact .inl rfl
    | some m =>
      rw [ha, Option.isSome_some, Bool.true_and, decide_eq_false_iff_not] at hr
      exact .inr hr
  unfold State.readMould
  dsimp only
  rw [if_neg (hm ▸ Bool.false_ne_true), if_pos hc]

section
variable (hr : s.reads n = true)
include hr

theorem State.readMould_fault (hf : (s.report n).fault = true) : s.readMould n = s.axFault n := by
  unfold State.reads at hr
  rw [Bool.and_eq_true, decide_eq_true_eq, Option.isSome_iff_ne_none] at hr
  unfold State.readMould
  dsimp only
  rw [if_neg (hm ▸ Bool.false_ne_true), if_neg (by simp [hr.1, hr.2, Option.isNone_iff_eq_none]), if_pos hf]

/-- A report without a FAULT cause acts by the state of the axis. -/
theorem State.readMould_read (hf : (s.report n).fault = false) : s.readMould n =
    (match (s.axis n).st with
    | .start => if ((s.report n).startDone && !s.reacts n) = true then (s.readReaction n (s.report n)).axNext n .run
        else s.readReaction n (s.report n)
    | .run => if s.ends n = true then (s.readReaction n (s.report n)).readRun n (s.report n) else s.readReaction n (s.report n)
    | .stopping => if s.ends n = true then (s.readReaction n (s.report n)).readStop n else s.readReaction n (s.report n)
    | _ => s.readReaction n (s.report n)) := by
  have he : s.ends n = ((s.report n).still && decide ((s.report n).st = (s.axis n).st.code) && !s.reacts n) := by
    rw [State.ends, hr, Bool.true_and]
  unfold State.reads at hr
  rw [Bool.and_eq_true, decide_eq_true_eq, Option.isSome_iff_ne_none] at hr
  unfold State.readMould
  dsimp only
  rw [if_neg (hm ▸ Bool.false_ne_true), if_neg (by simp [hr.1, hr.2, Option.isNone_iff_eq_none]),
    if_neg (hf ▸ Bool.false_ne_true), he]
  rfl

end

omit hm in
theorem State.readReaction_seen (h : s.reacts n = false) : s.readReaction n (s.report n) = s :=
  if_pos (Nat.not_lt.1 (of_decide_eq_false h))

/-- A report that asks for nothing leaves everything. -/
theorem State.readMould_quiet (h1 : (s.reads n && ((s.report n).fault || s.reacts n)) = false) (h2 : s.ends n = false)
    (h3 : s.endsStart n = false) : s.readMould n = s := by
  cases hr : s.reads n with
  | false => exact State.readMould_skip hm hr
  | true =>
    rw [hr, Bool.true_and, Bool.or_eq_false_iff] at h1
    obtain ⟨hf, hn⟩ := h1
    rw [State.readMould_read hm hr hf, State.readReaction_seen hn, h2]
    rw [State.endsStart, hr, Bool.true_and] at h3
    cases hs : (s.axis n).st with
    | start =>
      rw [hs, decide_eq_true rfl, Bool.and_true] at h3
      rw [h3]
      rfl
    | _ => rfl

end

/-! ### What the report asks for -/

/-- The report has the axis ask for a state, and nothing else of it is changed. -/
def State.Asks (n : Fin 4) (s w : State) (x : AxState) : Prop := (w.axis n).st = (s.axis n).st ∧ (w.axis n).nxt = some x

theorem State.asks_axNext {n : Fin 4} {s t : State} {x : AxState} (ht : t.axis n = s.axis n) (hn : (s.axis n).nxt = none) :
    State.Asks n s (t.axNext n x) x := by
  have h : (t.axNext n x).axis n = { t.axis n with nxt := some x } := State.axNext_axis_of_idle x (by rw [ht, hn])
  refine ⟨?_, ?_⟩ <;> rw [h]
  exact (congrArg Axis.st ht :)

theorem State.endJob_axis (s : State) (q : Job) (d : Nat) (c : Word) (n : Fin 4) : (s.endJob q d c).axis n = s.axis n :=
  (s.endJob_frame q d c).axis_eq (by decide) n

theorem State.endRunning_axis (s : State) (n k : Fin 4) (d : Nat) : (s.endRunning n d).axis k = s.axis k :=
  (s.endRunning_frame n d).axis_eq (by decide) k

section
variable {s : State} {n : Fin 4} (hn : (s.axis n).nxt = none)
include hn

theorem State.axFault_asks (hs : (s.axis n).st ≠ .disabled) : State.Asks n s (s.axFault n) .fault := by
  obtain ⟨h1, h2⟩ := State.asks_axNext (t := s) (x := .fault) rfl hn
  obtain ⟨k1, k2, -⟩ := (State.abortTest_apart (n := n) (s.axNext n .fault) (BgOp.testsAxis n)).alike
  rw [State.axFault, if_neg fun h => hs h.1]
  exact ⟨k1.trans h1, k2.trans h2⟩

/-- A stop reaction (06 Table 6-8). -/
theorem State.readReaction_stops (h : s.reacts n = true) (hr : (s.report n).repStop = true) :
    State.Asks n s (s.readReaction n (s.report n)) .stopping := by
  have hc (c : Bool) (t : State) : (if c = true then t else t.endRunning n 6).axis n = t.axis n := by
    split
    · rfl
    · exact t.endRunning_axis n n 6
  unfold State.readReaction
  rw [if_neg (Nat.not_le.2 (of_decide_eq_true h))]
  dsimp only
  rw [if_pos hr]
  exact State.asks_axNext (hc _ _) hn

theorem State.readRun_holds (r : Report) : State.Asks n s (s.readRun n r) .hold :=
  State.asks_axNext (s.endRunning_axis n n _) hn

/-- The state in which a stop ends (Table 1-8). -/
def State.stopTarget (s : State) (n : Fin 4) : AxState :=
  match s.running n with
  | some q => if q.opc = 0x0305 then .disabled else .hold
  | none => .hold

theorem State.readStop_asks (hs : (s.mgmt.jax.get n).step.stop ≠ 10) :
    State.Asks n s (s.readStop n) (s.stopTarget n) := by
  cases hr : s.running n with
  | none =>
    simp only [State.readStop, State.stopTarget, hr]
    exact State.asks_axNext rfl hn
  | some q =>
    simp only [State.readStop, State.stopTarget, hr, if_neg hs]
    split
    · exact State.asks_axNext (s.endJob_axis _ _ _ n) hn
    · split <;> exact State.asks_axNext (s.endJob_axis _ _ _ n) hn

end

/-! ### The state asked for is taken -/

/-- The axis is in state `x`; entering FAULT, RECOVERY or DISABLED dropped EN (R40), leaving FAULT or RECOVERY held it (R359). -/
structure State.Took (n : Fin 4) (old x : AxState) (t : State) : Prop where
  st : (t.axis n).st = x
  nxt : (t.axis n).nxt = none
  off : x ≠ old → x = .fault ∨ x = .recovery ∨ x = .disabled →
    (t.axis n).drv.ena = false ∧ (t.axis n).drv.ctrl.getLsbD 0 = false
  held : x ≠ old → old = .fault ∨ old = .recovery → (t.mgmt.jax.get n).held = true

theorem State.applyReq_frame (s : State) (n : Fin 4) : Frame [.mgmt] s (s.applyReq n) := by
  unfold State.applyReq
  dsimp only
  split
  · exact .refl _ s
  · exact .of_mgmt s _

theorem State.axisLost_axis {s : State} (n : Fin 4) (hp : s.moulds.pend = none) : (s.axisLost n).axis n = s.axis n := by
  have h1 : ((s.unstart n).endRunning n 5).axis n = s.axis n := State.endRunning_axis (s.unstart n) n n 5
  have hk := ((s.unstart_keeps n).trans (State.endRunning_keeps _ n 5)).trans (State.updJax_keeps _ n fun j => { j with req := 0 })
  rw [State.axisLost, State.cancelActivation_noPend (hk.pend.trans hp)]
  exact ((State.cancelCopy_spec _).1.axis_eq (by decide) n).trans h1

/-- The state an axis asks for is taken. -/
theorem State.axisChange_took {s : State} {n : Fin 4} {x : AxState} (hx : (s.axis n).nxt = some x)
    (hp : s.moulds.pend = none) : State.Took n (s.axis n).st x (s.axisChange n) := by
  have hent (t : State) (ht : t.axis n = s.axis n) : State.Took n (s.axis n).st x (t.enterAx n x) := by
    obtain ⟨e1, e2, e3⟩ := t.enterAx_axis n x
    refine ⟨e1, e2, fun _ => e3, fun _ ho => ?_⟩
    rw [← ht] at ho
    rw [t.enterAx_mgmt n x, if_pos ho, Four.get_set_same]
  have hreq : (s.applyReq n).axis n = s.axis n := (s.applyReq_frame n).axis_eq (by decide) n
  unfold State.axisChange
  rw [hx]
  dsimp only
  split
  · rename_i he
    refine ⟨?_, ?_, fun h => absurd he h, fun h => absurd he h⟩ <;> rw [State.axis_updAxis_same]
    exact (congrArg Axis.st hreq).trans he.symm
  · split
    · exact hent _ (State.axisLost_axis n hp)
    · split
      · exact hent _ rfl
      · exact hent _ hreq

/-- An axis that asks for nothing, with no job to start and no stop of MGMT's, stays as it is. -/
theorem State.axisChange_stays {s : State} {n : Fin 4} (hn : (s.axis n).nxt = none) (hr : (s.mgmt.jax.get n).req = 0)
    (hj : ∀ y ∈ s.jobsOf n, y.st ≠ .starting) : s.axisChange n = s := by
  have hf : (s.jobsOf n).find? (fun q => decide (q.st = .starting)) = none := by
    rw [List.find?_eq_none]
    intro y hy
    rw [decide_eq_true_eq]
    exact hj y hy
  have hc : s.startChosen n = s := by simp only [State.startChosen, hf]
  simp only [State.axisChange, hn, State.applyReq_none hr, hc]

/-! ### The job that starts -/

theorem State.applyReq_spec (s : State) (n : Fin 4) : (s.applyReq n).mgmt.jobs = s.mgmt.jobs ∧
    (s.applyReq n).mgmt.rfunc = s.mgmt.rfunc ∧
    ((s.applyReq n).mgmt.jax.get n).step.no = (s.mgmt.jax.get n).step.no ∧
    ((s.applyReq n).mgmt.jax.get n).held = (s.mgmt.jax.get n).held ∧
    ((s.applyReq n).mgmt.jax.get n).waited = (s.mgmt.jax.get n).waited := by
  unfold State.applyReq
  dsimp only
  split
  · exact ⟨rfl, rfl, rfl, rfl, rfl⟩
  · simp [State.updJax, State.giveStep]

theorem State.jobsBarred_congr {s t : State} {n : Fin 4} (hj : t.jrn = s.jrn) (hp : t.pwr = s.pwr) (hd : t.dev = s.dev)
    (hr : t.mgmt.rfunc = s.mgmt.rfunc) (ha : (t.axis n).st = (s.axis n).st) : t.jobsBarred n = s.jobsBarred n := by
  simp only [State.jobsBarred, State.linkDown, State.powered, State.appOn, hj, hp, hd, hr, ha]

theorem State.unthrottled_congr {s t : State} {n : Fin 4} (q : Job) (hth : t.th = s.th)
    (hw : (t.mgmt.jax.get n).waited = (s.mgmt.jax.get n).waited) (ha : (t.axis n).st = (s.axis n).st) :
    t.unthrottled n q = s.unthrottled n q := by
  simp only [State.unthrottled, State.throttleFree, hth, hw, ha]

/-- Jobs end before another starts: the step of the axis stays. -/
def State.StepKept (n : Fin 4) (s t : State) : Prop :=
  Frame [.mgmt, .jrn] s t ∧ (t.mgmt.jax.get n).step = (s.mgmt.jax.get n).step

theorem State.StepKept.refl (n : Fin 4) (s : State) : State.StepKept n s s := ⟨.refl _ s, rfl⟩

theorem State.StepKept.trans {n : Fin 4} {s t u : State} (h : State.StepKept n s t) (k : State.StepKept n t u) :
    State.StepKept n s u := ⟨h.1.trans k.1, k.2.trans h.2⟩

theorem State.endJob_stepKept (n : Fin 4) (s : State) (q : Job) (d : Nat) (c : Word) : State.StepKept n s (s.endJob q d c) := by
  refine ⟨s.endJob_frame q d c, ?_⟩
  rw [State.endJob_mgmt]
  dsimp only
  by_cases hk : n = q.ax
  · rw [← hk, Four.get_set_same]
    rfl
  · rw [Four.get_set_ne _ _ hk]

theorem State.clearTheWay_stepKept (s : State) (n : Fin 4) (q : Job) : State.StepKept n s (s.clearTheWay n q) := by
  have hr (t : State) (d : Nat) : State.StepKept n t (t.endRunning n d) := by
    unfold State.endRunning
    split
    · exact .refl n t
    · exact t.endJob_stepKept n _ _ _
  have hc (l : List Job) : State.StepKept n s (s.cancelJobs l) :=
    List.foldlRecOn (motive := fun t : State => State.StepKept n s t) l _ (.refl n s)
      fun t ht q _ => ht.trans (t.endJob_stepKept n q 7 0)
  unfold State.clearTheWay
  split
  · refine ((hc _).trans (hr _ 7)).trans ⟨(Frame.of_mgmt _ _).mono (by decide), ?_⟩
    simp only [State.updJax, Four.get_set_same]
  · exact hr s 4

theorem Job.step_fields (q : Job) (per no : Nat) : (q.step per no).no = no ∧ (q.step per no).opc = q.opc := by
  unfold Job.step
  dsimp only
  split <;> exact ⟨rfl, rfl⟩

/-- What the start of a job ends at once: RELEASE at rest, HOLD in HOLD. -/
def Job.endsAtOnce (q : Job) (st x : AxState) : Prop :=
  (q.opc = 0x0305 ∧ (st = .disabled ∨ st = .hold)) ∨ (q.opc = 0x0303 ∧ x = .hold)

/-- A job has started on the axis: it is STARTED or over, and its step is given to the mould. -/
structure State.JobStarted (n : Fin 4) (q : Job) (no : Nat) (t : State) : Prop where
  jobs : ∀ y ∈ t.mgmt.jobs, y.seq = q.seq → y.st = .started
  no : (t.mgmt.jax.get n).step.no = no
  opc : (t.mgmt.jax.get n).step.opc = q.opc

/-- A job ended at once, DONE. -/
structure State.JobOver (n : Fin 4) (q : Job) (t : State) : Prop where
  jobs : ∀ y ∈ t.mgmt.jobs, y.seq ≠ q.seq
  lastSeq : (t.mgmt.jax.get n).lastSeq = q.seq
  lastOut : (t.mgmt.jax.get n).lastOut = 4

/-- The state in which a job has its step and its record, and the axis asks for its state. -/
def State.begun (s : State) (n : Fin 4) (q : Job) : State :=
  ((s.setJobSt q.seq .started).giveStep n fun p => q.step s.tick.tper (p.no + 1)).transition { q with st := .started } 3 0 false

theorem State.begun_spec (s : State) (n : Fin 4) (q : Job) : Frame [.mgmt, .jrn] s (s.begun n q) ∧
    State.JobStarted n q ((s.mgmt.jax.get n).step.no + 1) (s.begun n q) := by
  have ht := State.transition_frame ((s.setJobSt q.seq .started).giveStep n fun p => q.step s.tick.tper (p.no + 1))
    { q with st := .started } 3 0 false
  obtain ⟨h1, h2⟩ := q.step_fields s.tick.tper ((s.mgmt.jax.get n).step.no + 1)
  have hg : (s.begun n q).mgmt = ((s.setJobSt q.seq .started).giveStep n fun p => q.step s.tick.tper (p.no + 1)).mgmt :=
    ht.mgmt_eq (by decide)
  have hx : ((s.begun n q).mgmt.jax.get n).step = q.step s.tick.tper ((s.mgmt.jax.get n).step.no + 1) := by
    rw [hg]
    simp only [State.giveStep, State.updJax, State.setJobSt, Four.get_set_same]
  refine ⟨Frame.trans (t := (s.setJobSt q.seq .started).giveStep n fun p => q.step s.tick.tper (p.no + 1))
    ((Frame.of_mgmt s _).mono (by decide)) (ht.mono (by decide)), fun y hy hq => ?_, ?_, ?_⟩
  · rw [hg] at hy
    obtain ⟨z, hz, rfl⟩ := List.mem_map.1 hy
    by_cases hs : z.seq = q.seq
    · rw [if_pos hs]
    · rw [if_neg hs] at hq
      exact absurd hq hs
  · rw [hx, h1]
  · rw [hx, h2]

/-- The start of a job on an axis that asks for nothing. -/
theorem State.startNow_spec {s : State} {n : Fin 4} {q : Job} (hq : q.ax = n) (hn : (s.axis n).nxt = none) :
    ∃ b, let x := startTarget q.opc b (s.axis n).st
      ((s.startNow n q).axis n = if x = (s.axis n).st then s.axis n else { s.axis n with nxt := some x }) ∧
      State.JobStarted n q ((s.mgmt.jax.get n).step.no + 1) (s.startNow n q) ∧
      (q.endsAtOnce (s.axis n).st x → State.JobOver n q (s.startNow n q)) := by
  refine ⟨!((s.report n).still && decide ((s.report n).no = (s.mgmt.jax.get n).step.no)), ?_⟩
  generalize hm : (!((s.report n).still && decide ((s.report n).no = (s.mgmt.jax.get n).step.no))) = b
  obtain ⟨hf, hs⟩ := s.begun_spec n q
  intro x
  have h3a : ∃ t : State, t = (if x = (s.axis n).st then s.begun n q else (s.begun n q).axNext n x) := ⟨_, rfl⟩
  obtain ⟨t, ht⟩ := h3a
  have hta : t.axis n = if x = (s.axis n).st then s.axis n else { s.axis n with nxt := some x } := by
    have ha := hf.axis_eq (by decide) n
    rw [ht]
    split
    · exact ha
    · rw [State.axNext_axis_of_idle x (by rw [ha, hn]), ha]
  have htg : t.mgmt = (s.begun n q).mgmt := by
    rw [ht]
    split <;> rfl
  have hts : State.JobStarted n q ((s.mgmt.jax.get n).step.no + 1) t := by
    refine ⟨?_, ?_, ?_⟩ <;> rw [htg]
    exacts [hs.jobs, hs.no, hs.opc]
  have he : s.startNow n q = if q.opc = 0x0305 ∧ ((s.axis n).st = .disabled ∨ (s.axis n).st = .hold) then
      t.endJob { q with st := .started } 4 0
      else if q.opc = 0x0303 ∧ x = .hold then t.endJob { q with st := .started } 4 0 else t := by
    rw [ht]
    unfold State.startNow
    dsimp only
    rw [hm]
    rfl
  have hend : (t.endJob { q with st := .started } 4 0).axis n = t.axis n ∧
      State.JobStarted n q ((s.mgmt.jax.get n).step.no + 1) (t.endJob { q with st := .started } 4 0) ∧
      State.JobOver n q (t.endJob { q with st := .started } 4 0) := by
    have hk := (t.endJob_stepKept n { q with st := .started } 4 0).2
    have hg := t.endJob_mgmt { q with st := .started } 4 0
    refine ⟨t.endJob_axis _ _ _ n, ⟨fun y hy => ?_, hk ▸ hts.no, hk ▸ hts.opc⟩, fun y hy => ?_, ?_, ?_⟩
    · rw [hg] at hy
      exact hts.jobs y (List.mem_filter.1 hy).1
    · rw [hg] at hy
      simpa using (List.mem_filter.1 hy).2
    · rw [hg]
      dsimp only
      rw [hq, Four.get_set_same]
      rfl
    · rw [hg]
      dsimp only
      rw [hq, Four.get_set_same]
      rfl
  rw [he]
  split
  · exact ⟨hend.1.trans hta, hend.2.1, fun _ => hend.2.2⟩
  · rename_i hno
    split
    · exact ⟨hend.1.trans hta, hend.2.1, fun _ => hend.2.2⟩
    · rename_i hnh
      exact ⟨hta, hts, fun h => (h.elim hno hnh).elim⟩

/-- A job chosen for the boundary starts, where nothing holds it back. -/
structure State.Chosen (s : State) (n : Fin 4) (q : Job) : Prop where
  find : (s.jobsOf n).find? (fun y => decide (y.st = .starting)) = some q
  free : s.jobsBarred n = false
  held : q.preempts = true ∨ (s.mgmt.jax.get n).held = false
  throttle : s.unthrottled n q = true
  declared : s.axisDeclared n = true

theorem State.axisDeclared_congr {s t : State} {n : Fin 4} (h : t.moulds.active = s.moulds.active) :
    t.axisDeclared n = s.axisDeclared n := by
  unfold State.axisDeclared
  rw [h]

/-- An axis that asks for nothing and whose job asks for nothing rests in its state. -/
theorem State.axisChange_rests {s : State} {n : Fin 4} (hn : (s.axis n).nxt = none)
    (hx : (((s.applyReq n).startChosen n).axis n).nxt = none) : s.axisChange n = (s.applyReq n).startChosen n := by
  simp only [State.axisChange, hn, hx]

/-- The state that the job chosen asks for is taken in the same boundary. -/
theorem State.axisChange_enters {s : State} {n : Fin 4} {x : AxState} (hn : (s.axis n).nxt = none)
    (hx : (((s.applyReq n).startChosen n).axis n).nxt = some x) :
    s.axisChange n = ((s.applyReq n).startChosen n).enterAx n x := by
  simp only [State.axisChange, hn, hx]

theorem State.axisChange_starts {s : State} {n : Fin 4} {q : Job} (h : s.Chosen n q) (hn : (s.axis n).nxt = none) :
    ∃ b, let x := startTarget q.opc b (s.axis n).st
      ((s.axisChange n).axis n).st = x ∧ State.JobStarted n q ((s.mgmt.jax.get n).step.no + 1) (s.axisChange n) ∧
      (q.endsAtOnce (s.axis n).st x → State.JobOver n q (s.axisChange n)) := by
  have hqn : q.ax = n := of_decide_eq_true (List.mem_filter.1 (List.mem_of_find?_eq_some h.find)).2
  have hf := s.applyReq_frame n
  obtain ⟨a1, a2, a3, a4, a5⟩ := s.applyReq_spec n
  have hax : (s.applyReq n).axis n = s.axis n := hf.axis_eq (by decide) n
  obtain ⟨hcf, hcs⟩ := (s.applyReq n).clearTheWay_stepKept n q
  have hst : (s.applyReq n).startChosen n = ((s.applyReq n).clearTheWay n q).startNow n q := by
    have hfind : ((s.applyReq n).jobsOf n).find? (fun y => decide (y.st = .starting)) = some q := by
      rw [State.jobsOf, a1]
      exact h.find
    have hb : (s.applyReq n).jobsBarred n = false := (State.jobsBarred_congr (hf.jrn_eq (by decide)) (hf.pwr_eq (by decide))
      (hf.dev_eq (by decide)) a2 (congrArg Axis.st hax)).trans h.free
    have hu : (s.applyReq n).unthrottled n q = true :=
      (State.unthrottled_congr q (hf.th_eq (by decide)) a5 (congrArg Axis.st hax)).trans h.throttle
    have hh : (((s.applyReq n).mgmt.jax.get n).held && !q.preempts) = false := by
      rw [a4]
      obtain hp | hp := h.held <;> simp [hp]
    have hd : ((s.applyReq n).clearTheWay n q).axisDeclared n = true :=
      (State.axisDeclared_congr (congrArg Moulds.active
        ((hcf.moulds_eq (by decide)).trans (hf.moulds_eq (by decide))))).trans h.declared
    simp only [State.startChosen, hfind, hb, hu, hh, hd, Bool.not_true, Bool.or_self, Bool.false_eq_true, if_false, if_true]
  have hca : ((s.applyReq n).clearTheWay n q).axis n = s.axis n := (hcf.axis_eq (by decide) n).trans hax
  obtain ⟨b, w1, w2, w3⟩ := State.startNow_spec (s := (s.applyReq n).clearTheWay n q) hqn (by rw [hca, hn])
  rw [← hst] at w1 w2 w3
  rw [hca] at w1 w3
  rw [hcs, a3] at w2
  refine ⟨b, ?_⟩
  intro x
  have hrests := State.axisChange_rests hn
  have henters := State.axisChange_enters (x := x) hn
  generalize (s.applyReq n).startChosen n = w at w1 w2 w3 hrests henters
  by_cases hx : x = (s.axis n).st
  · have hw : w.axis n = s.axis n := w1.trans (if_pos hx)
    have hcw : s.axisChange n = w := hrests (by rw [hw, hn])
    rw [hcw]
    exact ⟨(congrArg Axis.st hw).trans hx.symm, w2, w3⟩
  · have hw : (w.axis n).nxt = some x := (congrArg Axis.nxt w1).trans (by rw [if_neg hx])
    have hcw : s.axisChange n = w.enterAx n x := henters hw
    obtain ⟨e1, -, -⟩ := w.enterAx_axis n x
    have hg := w.enterAx_mgmt n x
    have hjx : ((w.enterAx n x).mgmt.jax.get n).step = (w.mgmt.jax.get n).step ∧
        ((w.enterAx n x).mgmt.jax.get n).lastSeq = (w.mgmt.jax.get n).lastSeq ∧
        ((w.enterAx n x).mgmt.jax.get n).lastOut = (w.mgmt.jax.get n).lastOut := by
      rw [hg]
      dsimp only
      split
      · rw [Four.get_set_same]
        exact ⟨rfl, rfl, rfl⟩
      · exact ⟨rfl, rfl, rfl⟩
    have hjobs : (w.enterAx n x).mgmt.jobs = w.mgmt.jobs := (congrArg Mgmt.jobs hg).trans rfl
    obtain ⟨j1, j2, j3⟩ := hjx
    rw [hcw]
    refine ⟨e1, ⟨?_, ?_, ?_⟩, fun he => ⟨?_, ?_, ?_⟩⟩
    · rw [hjobs]
      exact w2.jobs
    · rw [j1]
      exact w2.no
    · rw [j1]
      exact w2.opc
    · rw [hjobs]
      exact (w3 he).jobs
    · rw [j2]
      exact (w3 he).lastSeq
    · rw [j3]
      exact (w3 he).lastOut

end Sys2Proof.Machine
end
section
/-! O14: the axis states at a tick boundary (R36, R40, R359; Tables 1-6 and 1-8). -/

namespace Sys2Proof.Machine

/-! ### What the axis' own change finds -/

section
variable {n : Fin 4} {s p : State} (h : State.Before n s p)
include h

theorem State.Before.profStore : State.Before n s (p.profStore n) := by
  obtain ⟨hf, hg⟩ := p.profStore_spec n
  have ha : (p.profStore n).axis n = p.axis n := hf.axis_eq (by decide) n
  have hm : (p.profStore n).moulds = p.moulds := hf.moulds_eq (by decide)
  have hx : (p.profStore n).xInact = p.xInact := by rw [State.xInact, State.xInact, hf.exch_eq (by decide)]
  refine ⟨h.frame.trans (hf.mono (by decide)), ha ▸ h.alike, ?_, ?_, ?_, hm ▸ h.active, hm ▸ h.pend, hx.trans h.xInact⟩
  · exact (congrArg Mgmt.jobs hg).trans h.jobs
  · exact (congrArg (fun g : Mgmt => g.jax.get n) hg).trans h.jax
  · exact (congrArg Mgmt.rfunc hg).trans h.rfunc

theorem State.Before.st : (p.axis n).st = (s.axis n).st := h.alike.1

theorem State.Before.nxt : (p.axis n).nxt = (s.axis n).nxt := h.alike.2.1

theorem State.Before.report : p.report n = s.report n := State.report_congr h.active h.xInact h.st h.jax

theorem State.Before.reads : p.reads n = s.reads n := by rw [State.reads, State.reads, h.active, h.report, h.jax]

theorem State.Before.reacts : p.reacts n = s.reacts n := by rw [State.reacts, State.reacts, h.report, h.jax]

theorem State.Before.ends : p.ends n = s.ends n := by
  rw [State.ends, State.ends, h.reads, h.report, h.st, h.reacts]

theorem State.Before.endsStart : p.endsStart n = s.endsStart n := by
  rw [State.endsStart, State.endsStart, h.reads, h.report, h.st]

theorem State.Before.mouldFault (hm : s.mouldFault n = false) : p.mouldFault n = false := by
  rw [← hm, State.mouldFault, State.mouldFault, State.stdK, State.stdK, h.active, h.frame.std_eq (by decide)]

theorem State.Before.jobsOf : p.jobsOf n = s.jobsOf n := by rw [State.jobsOf, State.jobsOf, h.jobs]

theorem State.Before.stopTarget : p.stopTarget n = s.stopTarget n := by
  rw [State.stopTarget, State.stopTarget, State.running, State.running, h.jobs]

theorem State.Before.chosen {q : Job} (hq : s.Chosen n q) : p.Chosen n q where
  find := by
    rw [h.jobsOf]
    exact hq.find
  free := (State.jobsBarred_congr (h.frame.jrn_eq (by decide)) (h.frame.pwr_eq (by decide)) (h.frame.dev_eq (by decide))
    h.rfunc h.st).trans hq.free
  held := by
    rw [h.jax]
    exact hq.held
  throttle := (State.unthrottled_congr q (h.frame.th_eq (by decide)) (congrArg JobAx.waited h.jax) h.st).trans hq.throttle
  declared := (State.axisDeclared_congr h.active).trans hq.declared

end

/-! ### What a report without a FAULT cause asks for -/

section
variable {s : State} {n : Fin 4} (hm : s.mouldFault n = false) (hn : (s.axis n).nxt = none) (hr : s.reads n = true)
  (hf : (s.report n).fault = false)
include hm hn hr hf

theorem State.readMould_stops (hx : s.reacts n = true) (hp : (s.report n).repStop = true)
    (hs : (s.axis n).st = .start ∨ (s.axis n).st = .run) : State.Asks n s (s.readMould n) .stopping := by
  have he : s.ends n = false := by rw [State.ends, hx, Bool.not_true, Bool.and_false]
  have hb : s.readMould n = s.readReaction n (s.report n) := by
    rw [State.readMould_read hm hr hf, he, hx, Bool.not_true, Bool.and_false]
    obtain hs | hs := hs <;> rw [hs] <;> rfl
  rw [hb]
  exact State.readReaction_stops hn hx hp

section
variable (hx : s.reacts n = false)
include hx

theorem State.readMould_runs (hd : (s.report n).startDone = true) (hs : (s.axis n).st = .start) :
    State.Asks n s (s.readMould n) .run := by
  rw [State.readMould_read hm hr hf, State.readReaction_seen hx, hs, hx, hd]
  exact State.asks_axNext rfl hn

theorem State.readMould_holds (he : s.ends n = true) (hs : (s.axis n).st = .run) :
    State.Asks n s (s.readMould n) .hold := by
  rw [State.readMould_read hm hr hf, State.readReaction_seen hx, hs, he]
  exact State.readRun_holds hn _

theorem State.readMould_stopEnds (he : s.ends n = true) (hs : (s.axis n).st = .stopping)
    (h10 : (s.mgmt.jax.get n).step.stop ≠ 10) : State.Asks n s (s.readMould n) (s.stopTarget n) := by
  rw [State.readMould_read hm hr hf, State.readReaction_seen hx, hs, he]
  exact State.readStop_asks hn h10

end
end

/-! ### The boundary -/

theorem State.After.took {n : Fin 4} {v t : State} {old x : AxState} (h : State.After n v t) (k : State.Took n old x v) :
    State.Took n old x t := by
  obtain ⟨a1, a2, a3⟩ := h.alike
  exact ⟨a1.trans k.st, a2.trans k.nxt, fun ho hx => a3 ▸ k.off ho hx, fun ho hx => h.jax ▸ k.held ho hx⟩

section
variable {s : State} {n : Fin 4} (h : s.AxisDue n) (hm : s.mouldFault n = false)
include h hm

/-- The change of the axis decides the boundary, whatever else it does. -/
theorem State.AxisDue.exec : ∃ p t, exec .tickBoundary s = .next t ∧ State.Before n s p ∧ p.mouldFault n = false ∧
    State.After n ((p.readMould n).axisChange n) t := by
  obtain ⟨u, t, ht, hb, ha, -⟩ := h.boundary
  exact ⟨_, t, ht, hb.profStore, hb.profStore.mouldFault hm, ha⟩

theorem State.AxisDue.takes {x : AxState} (hw : ∀ p, State.Before n s p → p.mouldFault n = false →
      (((p.readMould n).axis n).st = (s.axis n).st ∧ ((p.readMould n).axis n).nxt = some x)) :
    ∃ t, Machine.exec .tickBoundary s = .next t ∧ State.Took n (s.axis n).st x t := by
  obtain ⟨p, t, ht, hp, hpm, ha⟩ := h.exec hm
  obtain ⟨h1, h2⟩ := hw p hp hpm
  have hpe : (p.readMould n).moulds.pend = none := (State.readMould_keeps p n).pend.trans (hp.pend.trans h.pend)
  exact ⟨t, ht, ha.took (h1 ▸ State.axisChange_took h2 hpe)⟩

theorem State.AxisDue.takes_of_asks {x : AxState} (hw : ∀ p, State.Before n s p → p.mouldFault n = false →
      State.Asks n p (p.readMould n) x) :
    ∃ t, Machine.exec .tickBoundary s = .next t ∧ State.Took n (s.axis n).st x t :=
  h.takes hm fun p hp hpm => ⟨(hw p hp hpm).1.trans hp.st, (hw p hp hpm).2⟩

section
variable (hq : (s.reads n && ((s.report n).fault || s.reacts n)) = false) (he : s.ends n = false)
  (hd : s.endsStart n = false)
include hq he hd

omit h hm in
theorem State.Before.quiet {p : State} (hp : State.Before n s p) (hpm : p.mouldFault n = false) : p.readMould n = p :=
  State.readMould_quiet hpm (by rw [hp.reads, hp.report, hp.reacts, hq]) (hp.ends.trans he) (hp.endsStart.trans hd)

theorem State.AxisDue.takes_asked {x : AxState} (hx : (s.axis n).nxt = some x) :
    ∃ t, Machine.exec .tickBoundary s = .next t ∧ State.Took n (s.axis n).st x t :=
  h.takes hm fun p hp hpm => by
    rw [hp.quiet hq he hd hpm]
    exact ⟨hp.st, hp.nxt.trans hx⟩

theorem State.AxisDue.stays (hn : (s.axis n).nxt = none) (hr : (s.mgmt.jax.get n).req = 0)
    (hj : ∀ y ∈ s.jobsOf n, y.st ≠ .starting) :
    ∃ t, Machine.exec .tickBoundary s = .next t ∧ State.Took n (s.axis n).st (s.axis n).st t := by
  obtain ⟨p, t, ht, hp, hpm, ha⟩ := h.exec hm
  rw [hp.quiet hq he hd hpm, State.axisChange_stays (hp.nxt.trans hn) ((congrArg JobAx.req hp.jax).trans hr)
    fun y hy => hj y (hp.jobsOf ▸ hy)] at ha
  exact ⟨t, ht, ha.took ⟨hp.st, hp.nxt.trans hn, fun hx => absurd rfl hx, fun hx => absurd rfl hx⟩⟩

/-- A job chosen for the boundary starts; `b`: the axis moves under the step before. -/
theorem State.AxisDue.starts {q : Job} (hn : (s.axis n).nxt = none) (hc : s.Chosen n q) :
    ∃ b t, Machine.exec .tickBoundary s = .next t ∧ (t.axis n).st = startTarget q.opc b (s.axis n).st ∧
      State.JobStarted n q ((s.mgmt.jax.get n).step.no + 1) t ∧
      (q.endsAtOnce (s.axis n).st (startTarget q.opc b (s.axis n).st) → State.JobOver n q t) := by
  obtain ⟨p, t, ht, hp, hpm, ha⟩ := h.exec hm
  obtain ⟨b, hx, hs, ho⟩ := State.axisChange_starts (hp.chosen hc) (hp.nxt.trans hn)
  rw [hp.quiet hq he hd hpm] at ha
  rw [hp.st] at hx ho
  rw [hp.jax] at hs
  obtain ⟨s1, s2, s3⟩ := hs
  refine ⟨b, t, ht, ha.alike.1.trans hx, ⟨ha.jobs ▸ s1, ha.jax ▸ s2, ha.jax ▸ s3⟩, fun hq => ?_⟩
  obtain ⟨o1, o2, o3⟩ := ho hq
  exact ⟨ha.jobs ▸ o1, ha.jax ▸ o2, ha.jax ▸ o3⟩

end
end

/-- No FAULT cause waits for MGMT where the mould of the obligation runs. -/
theorem State.mouldFault_eq_false {s : State} {n : Fin 4} (h : s.moulds.active = none ∨
      (∃ m, s.moulds.active = some m ∧ m.std.isSome = true ∧ (s.std.ax.get n).faultT < 2 ∧ s.pour.upsets = []) ∨
      (∃ m b, s.moulds.active = some m ∧ m.std = none ∧ takeBundle m.code = some b ∧ b.slots = [] ∧
        Sparse.get 0 0 s.pour.upsets = 0)) : s.mouldFault n = false := by
  obtain h | ⟨m, -, -, hf, -⟩ | ⟨m, b, h, hk, -⟩ := h
  · simp [State.mouldFault, State.stdK, h]
  · rw [State.mouldFault, decide_eq_false (Nat.not_le.2 hf), Bool.and_false]
  · simp [State.mouldFault, State.stdK, h, hk]

theorem startTarget_hold {opc : Nat} (b : Bool) (h : opc ≠ 0x0305) (k : opc ≠ 0x0303) : startTarget opc b .hold = .run := by
  simp [startTarget, h, k]

theorem startTarget_release {opc : Nat} (b : Bool) (h : opc = 0x0305) {st : AxState} (hs : st = .start ∨ st = .run) :
    startTarget opc b st = .stopping := by
  obtain rfl | rfl := hs <;> simp [startTarget, h]

theorem startTarget_releaseAtRest {opc : Nat} (b : Bool) (h : opc = 0x0305) {st : AxState}
    (hs : st = .disabled ∨ st = .hold) : startTarget opc b st = .disabled := by
  obtain rfl | rfl := hs <;> simp [startTarget, h]

/-- Settles O14: the report asks for a state or nothing, the axis takes the state asked for or starts its chosen job, and the
rest of the boundary leaves the axis alone. -/
theorem axisStatesChangeAtTheBoundary : Obligations.AxisStatesChangeAtTheBoundary := by
  intro s n hon hlast _ hclr hpend hdone hmould hjobs
  have hm : s.mouldFault n = false := State.mouldFault_eq_false hmould
  have hquiet : s.quietMould := hmould.imp_right (.imp_left fun ⟨m, h1, h2, _, h3⟩ => ⟨m, h1, h2, h3⟩)
  have h : s.AxisDue n := ⟨hon, hlast, hclr, hpend, hdone, hquiet, hjobs⟩
  intro a r new reads ends goes chosen started ended
  have hgoes {x : AxState} (hx : ∃ t, exec .tickBoundary s = .next t ∧ State.Took n (s.axis n).st x t) : goes x := by
    obtain ⟨t, ht, h1, h2, h3, h4⟩ := hx
    exact ⟨t, ht, h1, h2, h3, h4⟩
  have hand {p : Prop} [Decidable p] {c : Bool} (hb : (c && decide p) = true) : c = true ∧ p :=
    (Bool.and_eq_true_iff.1 hb).imp_right of_decide_eq_true
  have hquiet' (hq : ((s.report n).fault || s.reacts n) = false) :
      (s.reads n && ((s.report n).fault || s.reacts n)) = false := (congrArg _ hq).trans (Bool.and_false _)
  refine ⟨fun x hx hq he hd => hgoes (h.takes_asked hm hq he ?_ hx), fun hn => ⟨?_, ?_, ?_⟩, ?_⟩
  · cases hs : decide (a.st = .start) with
    | false => exact (congrArg _ hs).trans (Bool.and_false _)
    | true =>
      have hd' : (s.report n).startDone = false := hd (of_decide_eq_true hs)
      rw [State.endsStart, hd', Bool.and_false, Bool.false_and]
  · intro hrf hs
    obtain ⟨hr, hf⟩ := hand hrf
    refine hgoes (h.takes_of_asks hm fun p hp hpm => ?_)
    rw [State.readMould_fault hpm (hp.reads.trans hr) (hp.report.symm ▸ hf)]
    exact State.axFault_asks (hp.nxt.trans hn) (hp.st.symm ▸ hs)
  · intro hrf hreq hstart
    have hf (hr : s.reads n = true) : (s.report n).fault = false := by
      have hb : (s.reads n && (s.report n).fault) = false := hrf
      rwa [hr, Bool.true_and] at hb
    refine ⟨fun hrn hs => ?_, fun hrx => ?_⟩
    · obtain ⟨hrx, hr5⟩ := hand hrn
      obtain ⟨hr, hx⟩ := Bool.and_eq_true_iff.1 hrx
      exact hgoes (h.takes_of_asks hm fun p hp hpm => State.readMould_stops hpm (hp.nxt.trans hn) (hp.reads.trans hr)
        (hp.report.symm ▸ hf hr) (hp.reacts.trans hx) (hp.report.symm ▸ hr5) (hp.st.symm ▸ hs))
    obtain ⟨hr, hx⟩ := hand hrx
    refine ⟨fun hrd hs => ?_, fun he hs => ?_, fun he hs h10 => ?_, fun he hd => ?_⟩
    · obtain ⟨-, hd⟩ := hand hrd
      exact hgoes (h.takes_of_asks hm fun p hp hpm => State.readMould_runs hpm (hp.nxt.trans hn) (hp.reads.trans hr)
        (hp.report.symm ▸ hf hr) (hp.reacts.trans hx) (hp.report.symm ▸ hd) (hp.st.trans hs))
    · exact hgoes (h.takes_of_asks hm fun p hp hpm => State.readMould_holds hpm (hp.nxt.trans hn) (hp.reads.trans hr)
        (hp.report.symm ▸ hf hr) (hp.reacts.trans hx) (hp.ends.trans he) (hp.st.trans hs))
    · refine hgoes (h.takes_of_asks (x := s.stopTarget n) hm fun p hp hpm => hp.stopTarget ▸ State.readMould_stopEnds hpm
        (hp.nxt.trans hn) (hp.reads.trans hr) (hp.report.symm ▸ hf hr) (hp.reacts.trans hx) (hp.ends.trans he)
        (hp.st.trans hs) (hp.jax.symm ▸ h10))
    · exact hgoes (h.stays hm (hquiet' (Bool.or_eq_false_iff.2 ⟨hf hr, hx⟩)) he hd hn hreq hstart)
  · intro hrq he hd q hq
    obtain ⟨q1, q2, q3, q4, q5⟩ := hq
    obtain ⟨b, t, ht, hst, ⟨s1, s2, s3⟩, ho⟩ := h.starts hm (hquiet' (hand hrq).2) he hd hn ⟨q1, q2, q3, q4, q5⟩
    have hstarted {x : AxState} (hx : startTarget q.opc b a.st = x) : started q x := ⟨t, ht, hst.trans hx, s1, s2, s3⟩
    have hended {x : AxState} (hx : startTarget q.opc b a.st = x) (hq : q.endsAtOnce a.st x) : ended q x := by
      obtain ⟨o1, o2, o3⟩ := ho (hx.symm ▸ hq)
      exact ⟨t, ht, hst.trans hx, o1, o2, o3⟩
    refine ⟨fun hs h5 => hstarted ?_, fun hs h5 h3 => hstarted ?_, fun hs h5 => hstarted (startTarget_release b h5 hs),
      fun hs h5 => hended (startTarget_releaseAtRest b h5 hs) (.inl ⟨h5, hs⟩), fun hs h3 => hended ?_ (.inr ⟨h3, rfl⟩)⟩
    · rw [hs]
      exact if_neg h5
    · rw [hs]
      exact startTarget_hold b h5 h3
    · rw [hs, h3]
      rfl
  · obtain ⟨u, t, ht, -, -, hdev⟩ := h.boundary
    exact ⟨t, ht, fun hd _ => hdev hd⟩

end Sys2Proof.Machine
end
section
/-! SUPPORT. Slot operations issued alone, with a true guard (02 R51; 03 R91 to R98; O6 to O12), and XU0, XU1 and XU3. -/

namespace Sys2Proof.Machine

/-! ### An operation in its own cycle -/

/-- A row of one operation with the engine powered (20 R538; log entry 6). -/
theorem exec_alone {i : Instr} {s : State} (hi : isSlotOp i = true) (ho : s.pourOff = false) :
    exec i s = (issueOp i s).endCycle := (exec_slotOp hi s).trans (State.pourRow_on _ ho)

/-- An operation that acts under a true guard completes with what it does. -/
theorem exec_guarded {i : Instr} {g : Guard} {s t : State} (hi : isSlotOp i = true) (ho : s.pourOff = false)
    (hg : s.guardOk g = true) (h : issueOp i s = .next (if s.guardOk g then t else s)) : exec i s = .next t.endCycle := by
  rw [exec_alone hi ho, h, if_pos hg, Res.endCycle_next]

/-- One that leaves the state where it does not act. -/
theorem exec_guarded_next {i : Instr} {g : Guard} {s t : State} (hi : isSlotOp i = true) (ho : s.pourOff = false)
    (hg : s.guardOk g = true) (h : issueOp i s = if s.guardOk g then .next t else .next s) :
    exec i s = .next t.endCycle := by
  rw [exec_alone hi ho, h, if_pos hg, Res.endCycle_next]

/-- An operation that goes on. -/
theorem exec_completes {i : Instr} {s t : State} (hi : isSlotOp i = true) (ho : s.pourOff = false)
    (h : issueOp i s = .next t) : exec i s = .next t.endCycle := by
  rw [exec_alone hi ho, h, Res.endCycle_next]

/-- An operation that stops the model. -/
theorem exec_stops {i : Instr} {s : State} {f : Fault} (hi : isSlotOp i = true) (ho : s.pourOff = false)
    (h : issueOp i s = .fault f) : exec i s = .fault f := by
  rw [exec_alone hi ho, h, Res.endCycle_fault]

theorem needReg_fits {d : BitVec 6} {n : Nat} (h : regsFit d n = true) (r : Res) : needReg d n r = r :=
  if_pos (of_decide_eq_true h)

/-! ### XU0 and XU1 -/

theorem satTo_inside {lo hi x : Int} (h : lo ≤ x ∧ x ≤ hi) : satTo lo hi x = (x, false) := by
  rw [satTo, if_neg (Int.not_lt.2 h.1), if_neg (Int.not_lt.2 h.2)]

theorem satA_inside {x : Int} (h : -(2 ^ 63) ≤ x ∧ x ≤ 2 ^ 63 - 1) : satA x = (BitVec.ofInt 64 x, false) := by
  rw [satA, satTo_inside h]

/-- A register moved to an accumulator never saturates. -/
theorem satA_word (x : Word) : satA (x.toInt * 2 ^ 27) = (BitVec.ofInt 64 (x.toInt * 2 ^ 27), false) := by
  have h1 := x.two_mul_toInt_lt
  have h2 := x.le_two_mul_toInt
  exact satA_inside (by omega)

theorem satA_zero : satA 0 = (0, false) := satA_inside (by decide)

/-- An accumulator written without saturation. -/
theorem State.setAcc_satA {x : Int} {y : BitVec 64} (h : satA x = (y, false)) (s : State) (u : Bool) (k : BitVec 2) :
    (s.setAcc u k (satA x).1).setSat ((satA x).2 || false) = s.setAcc u k y := by
  rw [h]
  rfl

/-- Settles O6: the shapes of XU0 and XU1 with a true guard; LDA and CLRA never saturate. -/
theorem accumulatorAndMoveOperationsComplete : Obligations.AccumulatorAndMoveOperationsComplete := by
  unfold Obligations.AccumulatorAndMoveOperationsComplete
  refine ⟨fun s u g k j a b c sc rm hg ho => ?_, fun s u g d a b k ss rm f h l pd hg ho => ?_⟩
  · refine ⟨fun hc => exec_guarded rfl ho hg (if_neg hc), fun hc => exec_guarded rfl ho hg (if_neg hc),
      fun hc => exec_guarded rfl ho hg (if_neg hc), exec_guarded rfl ho hg rfl, ?_, ?_, exec_guarded rfl ho hg rfl⟩
    · exact (exec_guarded rfl ho hg rfl).trans (congrArg (fun t : State => Host.Outcome.next t.endCycle) (State.setAcc_satA (satA_word (s.vreg a)) s u k).symm)
    · exact (exec_guarded rfl ho hg rfl).trans (congrArg (fun t : State => Host.Outcome.next t.endCycle) (State.setAcc_satA satA_zero s u k).symm)
  · exact ⟨exec_guarded rfl ho hg rfl, fun hw => exec_guarded rfl ho hg (needReg_fits hw _),
      fun hw => exec_guarded rfl ho hg (needReg_fits hw _)⟩

/-! ### XU3 -/

theorem satW_natAbs (x : Int) : satW (x.natAbs : Int) = satW (if x < 0 then -x else x) :=
  congrArg satW (by split <;> omega)

theorem sshiftRight_eq_ofInt (x : Word) (n : Nat) : x.sshiftRight n = BitVec.ofInt 32 (x.toInt / 2 ^ n) := by
  rw [BitVec.sshiftRight, Int.shiftRight_eq_div_pow, Nat.cast_pow]
  rfl

theorem setWidth_shiftLeft_eq_ofNat (x : BitVec 14) : x.setWidth 32 <<< 18 = BitVec.ofNat 32 (x.toNat * 2 ^ 18) := by
  rw [← BitVec.toNat_inj]
  simp [Nat.shiftLeft_eq]

/-- Settles O8: each operation of XU3 with a true guard; ABS, SHR, LUI and CMPNE by their values. -/
theorem limitAndLogicOperationsComplete : Obligations.LimitAndLogicOperationsComplete := by
  unfold Obligations.LimitAndLogicOperationsComplete
  refine ⟨fun s g d a b n hg ho => ?_, fun s g d a b sh imm hg ho => ?_, fun s g d a b l bit pd pa pb hg ho => ?_⟩
  all_goals
    intro x y put
    have ok {i : Instr} {t : State} (hi : isSlotOp i = true) := exec_guarded (t := t) hi ho hg
  · refine ⟨ok rfl rfl, ok rfl rfl, ok rfl rfl, ok rfl rfl, ok rfl rfl, ?_, ok rfl rfl, ok rfl rfl, ok rfl rfl,
      ok rfl rfl, fun hw => ok rfl (needReg_fits hw _), fun hw => ok rfl (needReg_fits hw _)⟩
    rw [← satW_natAbs]
    exact ok rfl rfl
  · refine ⟨ok rfl rfl, ok rfl rfl, ok rfl rfl, ok rfl rfl, ok rfl rfl, ?_, ok rfl rfl, ok rfl rfl, ok rfl rfl,
      ok rfl rfl, ?_⟩
    · rw [← sshiftRight_eq_ofInt]
      exact ok rfl rfl
    · rw [← setWidth_shiftLeft_eq_ofNat]
      exact ok rfl rfl
  · refine ⟨ok rfl rfl, ok rfl rfl, ok rfl rfl, ok rfl rfl, ?_, ok rfl rfl, ok rfl rfl, ok rfl rfl, ok rfl rfl,
      ok rfl rfl⟩
    rw [decide_not]
    exact ok rfl rfl

end Sys2Proof.Machine
end
section
/-! SUPPORT. Results in flight (02 R45 to R49; O5): what one result writes when it is due, and two in one cycle. -/

namespace Sys2Proof.Machine

/-! ### What a result writes -/

theorem setV_get (v : Vector Word 64) (d r : BitVec 6) (x : Word) :
    (setV v d.toNat x).get r.toFin = if r = d then x else v.get r.toFin := by
  have hr : r.toNat < 64 := r.isLt
  have he : r = d ↔ d.toNat = r.toNat := by rw [eq_comm, BitVec.toNat_inj]
  simp only [setV, he]
  exact Vector.getElem_setIfInBounds hr

/-- With one result in flight: it is written from its cycle on, and stays in flight before. -/
theorem retire_single (c : Nat) (p : Pour) (w : WB) : retire c { p with inflight := [w] } =
    if w.due ≤ c then { applyWB p w.act with inflight := [] } else { p with inflight := [w] } := by
  by_cases h : w.due ≤ c
  · cases hw : w.act <;> simp [retire, h, applyWB, hw]
  · simp [retire, h]

/-- Two results due are written in their order. -/
theorem retire_pair {c : Nat} {w x : WB} (p : Pour) (hw : w.due ≤ c) (hx : x.due ≤ c) :
    (retire c { p with inflight := [w, x] }).v = (applyWB (applyWB p w.act) x.act).v := by
  cases ha : w.act <;> cases hb : x.act <;> simp [retire, hw, hx, applyWB, ha, hb]

/-! ### The order of results in flight -/

theorem State.later_alone {s : State} (h : s.pour.inflight = []) (lat unit : Nat) (a : WbAct) :
    (s.later lat unit a).pour = { s.pour with inflight := [⟨s.tick.cy + lat - 1, unit, a⟩] } := by
  simp [State.later, h, insertWB]

/-- Of two results for one cycle the higher-numbered unit's stands last, whichever was issued first (R49). -/
theorem State.later_twice {s : State} (h : s.pour.inflight = []) {u1 u2 : Nat} (hu : u1 < u2) (lat : Nat) (a b : WbAct) :
    ((s.later lat u1 a).later lat u2 b).pour = ((s.later lat u2 b).later lat u1 a).pour ∧
      ((s.later lat u1 a).later lat u2 b).pour =
        { s.pour with inflight := [⟨s.tick.cy + lat - 1, u1, a⟩, ⟨s.tick.cy + lat - 1, u2, b⟩] } := by
  have h1 : u1 ≤ u2 := hu.le
  have h2 : ¬u2 ≤ u1 := by omega
  simp [State.later, h, insertWB, WB.le, h1, h2]

/-- Settles O5: a result alone in flight by `retire_single`, two of one cycle in the order of their units. -/
theorem resultsAppearInOrder : Obligations.ResultsAppearInOrder := by
  unfold Obligations.ResultsAppearInOrder
  refine ⟨fun s lat unit d r x hl hi => ?_, fun s l1 l2 u1 u2 d x y hi hu hl _ => ?_⟩
  · have hr (c : Nat) := retire_single c s.pour ⟨s.tick.cy + lat - 1, unit, .v d 0 x⟩
    have hdue := (hr (s.tick.cy + lat - 1)).trans (if_pos le_rfl)
    dsimp only
    rw [State.later_alone hi, hdue]
    refine ⟨fun c hc => ?_, setV_get s.pour.v d r x, rfl, rfl, rfl⟩
    rw [hr c, if_neg (Nat.not_le.2 hc)]
  · subst hl
    obtain ⟨he, hp⟩ := State.later_twice hi hu l1 (.v d 0 x) (.v d 0 y)
    have hy : (retire (s.tick.cy + l1 - 1) ((s.later l1 u1 (.v d 0 x)).later l1 u2 (.v d 0 y)).pour).v.get d.toFin = y := by
      rw [hp]
      exact (congrArg (fun v => v.get d.toFin) (retire_pair (w := ⟨_, u1, .v d 0 x⟩) (x := ⟨_, u2, .v d 0 y⟩) s.pour le_rfl
        le_rfl)).trans ((setV_get _ d d y).trans (if_pos rfl))
    exact ⟨hy, he ▸ hy⟩

end Sys2Proof.Machine
end
section
/-! SUPPORT. An event raised by an operation can withdraw a boundary publication (01 R27, R33; 04 R130; O4). -/

namespace Sys2Proof.Machine

/-- A device in READY with a live swap armed and its boundary publication made, and two flipped bits in Pour data word 0. -/
def armedSwap : State :=
  { State.reset with
    dev := .ready
    moulds := { State.reset.moulds with pend := some ⟨.live, some {}, 1, 0, 0, 0, 0, false⟩ }
    exch := { State.reset.exch with pub := .boundary }
    pour := { State.reset.pour with pdmUpset := [(0, 2)] } }

/-- A load of the word raises EV203, which is mapped to quench: the entry to SAFE cancels the activation and withdraws the
publication. -/
theorem armedSwap_load_withdraws :
    ∃ t, exec (.ld ⟨false, 0⟩ 1 0) armedSwap = .next t ∧ t.exch.pub = .none := ⟨_, rfl, by decide +kernel⟩

/-- Refutes O4: a load that meets a word beyond correction enters SAFE, and the boundary publication that stood is withdrawn,
where the frame says that no operation changes what stands published. -/
theorem not_slotOperationFrame : ¬ Obligations.SlotOperationFrame := by
  unfold Obligations.SlotOperationFrame
  intro h
  obtain ⟨-, -, hframe⟩ := h
  obtain ⟨t, ht, hnone⟩ := armedSwap_load_withdraws
  obtain ⟨-, -, -, -, -, -, -, -, -, hpub, -⟩ := hframe (.ld ⟨false, 0⟩ 1 0) armedSwap t rfl ht
  have hb : armedSwap.exch.pub = .boundary := rfl
  rw [hnone, hb] at hpub
  cases hpub

end Sys2Proof.Machine
end
section
/-! SUPPORT. Loads and table interpolation (02 R58 to R61; 03 R99 to R103; O9). -/

namespace Sys2Proof.Machine

/-! ### Reads of the Pour data memory -/

/-- A Pour data word with `n` flipped bits has been read: counted with one, reported with more (02 R60, R61). -/
def State.meets (n : Nat) (u : State) : State :=
  if n = 0 then u
  else if n = 1 then
    ({ u with pour := { u.pour with eccc := if u.pour.eccc = 255 then 255 else u.pour.eccc + 1 } } : State).raise 202
  else ({ u with pour := { u.pour with flags := u.pour.flags ||| 4 } } : State).raise 203

theorem State.eccRead_eq (n : Nat) (w : Word) (s : State) : s.eccRead n w = (if n ≤ 1 then w else 0, s.meets n) := by
  match n with
  | 0 => rfl
  | 1 => rfl
  | n + 2 =>
    rw [if_neg (by omega), State.meets, if_neg (by omega), if_neg (by omega)]
    rfl

theorem State.meets_words (n : Nat) (s : State) :
    (s.meets n).pour.pdm = s.pour.pdm ∧ (s.meets n).pour.pdmUpset = s.pour.pdmUpset := by
  unfold State.meets
  split
  · exact ⟨rfl, rfl⟩
  · split <;> rw [State.raise_pour] <;> exact ⟨rfl, rfl⟩

theorem State.setClamped_words (b : Bool) (s : State) :
    (s.setClamped b).pour.pdm = s.pour.pdm ∧ (s.setClamped b).pour.pdmUpset = s.pour.pdmUpset := by
  unfold State.setClamped
  split
  · rw [State.raise_pour]
    exact ⟨rfl, rfl⟩
  · exact ⟨rfl, rfl⟩

/-- A read in a state whose words are those of `s`. -/
theorem State.pdmRead_of_words {s u : State} (h : u.pour.pdm = s.pour.pdm ∧ u.pour.pdmUpset = s.pour.pdmUpset) (a : Nat) :
    u.pdmRead a = (if Sparse.get 0 a s.pour.pdmUpset ≤ 1 then s.pour.pdm.word (4 * a) else 0,
      u.meets (Sparse.get 0 a s.pour.pdmUpset)) := by
  rw [State.pdmRead, State.eccRead_eq, h.1, h.2]

theorem State.pdmBad_of_words {s u : State} (h : u.pour.pdm = s.pour.pdm ∧ u.pour.pdmUpset = s.pour.pdmUpset) (a : Nat) :
    u.pdmBad a = !decide (Sparse.get 0 a s.pour.pdmUpset ≤ 1) := by
  rw [State.pdmBad, h.2, ← decide_not]
  exact decide_eq_decide.2 (by omega)

/-! ### Accesses through a descriptor -/

theorem withRd_some {k : BitVec 4} {r : Rng} {s : State} (h : s.rdesc k = some r) (f : Rng → State → Res) :
    withRd k f s = f r s := by
  rw [withRd, h]

theorem withRd_none {k : BitVec 4} {s : State} (h : s.rdesc k = none) (f : Rng → State → Res) :
    withRd k f s = .fault .undeclaredDescriptor := by
  rw [withRd, h]

/-! ### TINT -/

theorem tintIdx_below {r : Rng} {x : Int} (h : x < 0) : tintIdx r x = (r.base, none, true) := if_pos h

theorem tintIdx_inside {r : Rng} {x : Int} (h0 : 0 ≤ x) (h : x < ((r.len : Int) - 1) * 65536) :
    tintIdx r x = (r.base + (x / 65536).toNat, some (x % 65536), false) := by
  rw [tintIdx, if_neg (Int.not_lt.2 h0), if_neg (Int.not_le.2 h)]

theorem tintIdx_past {r : Rng} {x : Int} (hr : 2 ≤ r.len) (h : ((r.len : Int) - 1) * 65536 ≤ x) :
    tintIdx r x = (r.base + (r.len - 1), none, decide (((r.len : Int) - 1) * 65536 < x)) := by
  rw [tintIdx, if_neg (by omega), if_pos h]

section
variable {s : State} {g : Guard} {k : BitVec 4} {r : Rng} {j : Nat} {c : Bool} (hg : s.guardOk g = true)
  (hr : s.rdesc k = some r) (hl : 2 ≤ r.len) (d x : BitVec 6) (rm : Bool)
include hg hr hl

/-- At an end of the table one word is read. -/
theorem opTint_end (ht : tintIdx r (s.vreg x).toInt = (j, none, c)) :
    opTint g d x k rm s = .next (((s.setClamped c).pdmRead j).2.later 6 4 (.v d 0 ((s.setClamped c).pdmRead j).1)) := by
  unfold opTint
  rw [withRd_some hr, if_neg (by omega), if_pos hg]
  dsimp only
  rw [ht]

/-- Inside the table two words are read, and either beyond correction gives 0 (02 R61). -/
theorem opTint_between {f : Int} (ht : tintIdx r (s.vreg x).toInt = (j, some f, false)) :
    let m0 := (s.pour.pdm.word (4 * j)).toInt
    let m1 := (s.pour.pdm.word (4 * (j + 1))).toInt
    opTint g d x k rm s = .next (((s.meets (Sparse.get 0 j s.pour.pdmUpset)).meets
      (Sparse.get 0 (j + 1) s.pour.pdmUpset)).later 6 4 (.v d 0
        (if Sparse.get 0 j s.pour.pdmUpset ≤ 1 ∧ Sparse.get 0 (j + 1) s.pour.pdmUpset ≤ 1 then
          BitVec.ofInt 32 (m0 + roundShift ((m1 - m0) * f) 16 rm) else 0))) := by
  unfold opTint
  rw [withRd_some hr, if_neg (by omega), if_pos hg]
  dsimp only
  rw [ht]
  dsimp only
  rw [State.setClamped_false, State.pdmRead_of_words (s := s) ⟨rfl, rfl⟩]
  dsimp only
  rw [State.pdmRead_of_words (State.meets_words _ s), State.pdmBad_of_words (s := s) ⟨rfl, rfl⟩,
    State.pdmBad_of_words (s := s) ⟨rfl, rfl⟩]
  by_cases h0 : Sparse.get 0 j s.pour.pdmUpset ≤ 1
  · by_cases h1 : Sparse.get 0 (j + 1) s.pour.pdmUpset ≤ 1
    · simp only [h0, h1, decide_true, Bool.not_true, Bool.or_self, Bool.false_eq_true, if_false, and_self, if_true]
    · simp only [h1, decide_false, Bool.not_false, Bool.or_true, if_true, and_false, if_false]
  · simp only [h0, decide_false, Bool.not_false, Bool.true_or, if_true, false_and, if_false]

end

/-- Settles O9: a read is `State.pdmRead_of_words`, an index the case of `tintIdx` it falls into. -/
theorem loadsAndUpsetWordsComplete : Obligations.LoadsAndUpsetWordsComplete := by
  unfold Obligations.LoadsAndUpsetWordsComplete
  intro s g d i addr xofs k r rm hg ho word flips met got
  have hread {u : State} (h : u.pour.pdm = s.pour.pdm ∧ u.pour.pdmUpset = s.pour.pdmUpset) (a : Nat) :
      u.pdmRead a = (got a, met a u) := State.pdmRead_of_words h a
  have hends {j : Nat} {c : Bool} (hr : s.rdesc k = some r) (hl : 2 ≤ r.len)
      (ht : tintIdx r (s.vreg i).toInt = (j, none, c)) :
      exec (.tint g d i k rm) s = .next (((met j (s.setClamped c)).later 6 4 (.v d 0 (got j))).endCycle) := by
    have h := opTint_end hg hr hl d i rm ht
    rw [hread (s.setClamped_words c)] at h
    exact exec_completes rfl ho h
  refine ⟨?_, exec_guarded_next rfl ho hg rfl, fun hr => ?_, fun hr hl h0 hx => ?_,
    fun hr hl hx => hends hr hl (tintIdx_below hx), fun hr hl hx => hends hr hl (tintIdx_past hl hx)⟩
  · have h : exec (.ld g d addr) s = .next (loadTo d (s.pdmRead addr.toNat)).endCycle := exec_guarded_next rfl ho hg rfl
    rw [hread ⟨rfl, rfl⟩] at h
    exact h
  · have h := (withRd_some hr fun r s => if s.guardOk g then .next (loadTo d ((s.setClamped
      (clampIdx r (s.vreg i).toInt).2).pdmRead (clampIdx r (s.vreg i).toInt).1)) else .next s).trans (if_pos hg)
    rw [hread (s.setClamped_words _)] at h
    exact exec_completes rfl ho h
  · exact exec_completes rfl ho (opTint_between hg hr hl d i rm (tintIdx_inside h0 hx))

end Sys2Proof.Machine
end
section
/-! SUPPORT. Stores (02 R46, R54, R58; 03 R99 to R101; O10). -/

namespace Sys2Proof.Machine

/-- A byte outside the word written is as before. -/
theorem Mem.get_putWord_outside {m : Mem} {a i : Nat} (w : Word) (h : m.wf = true) (hi : i < a ∨ a + 4 ≤ i) :
    (m.putWord a w).get i = m.get i := by
  rw [Mem.get_putWord a i w h, if_neg (by omega), if_neg (by omega), if_neg (by omega), if_neg (by omega)]

/-! ### The end of a cycle with no result in flight -/

theorem State.endCycle_pour {s : State} (h : s.pour.inflight = []) : s.endCycle.pour = s.pour := retire_none _ _ h

/-! ### A word of the Pour data memory -/

theorem State.setClamped_pour (b : Bool) (s : State) :
    (s.setClamped b).pour = { s.pour with flags := (s.setClamped b).pour.flags } := by
  unfold State.setClamped
  split
  · rw [State.raise_pour]
    rfl
  · rfl

theorem State.setClamped_bufs (b : Bool) (s : State) :
    (s.setClamped b).exch.buf0 = s.exch.buf0 ∧ (s.setClamped b).exch.buf1 = s.exch.buf1 := by
  unfold State.setClamped
  split
  · obtain ⟨-, h0, h1, -⟩ := State.raise_mems 200 (s.pourFlag 1)
    exact ⟨h0, h1⟩
  · exact ⟨rfl, rfl⟩

/-- What a store into the Pour data memory leaves: word `e` is `w`, and of the Pour engine only a flag may have changed. -/
theorem State.pdmWrite_stored {s : State} (hw : s.memWf = true) (hi : s.pour.inflight = []) (c : Bool) (e : Nat) (w : Word)
    (q : BitVec 6) :
    let t := ((s.setClamped c).pdmWrite e w).endCycle
    t.pour.pdm.word (4 * e) = w ∧ (∀ b, b < 4 * e ∨ 4 * e + 4 ≤ b → t.pour.pdm.get b = s.pour.pdm.get b) ∧
      t.exch.buf0 = s.exch.buf0 ∧ t.exch.buf1 = s.exch.buf1 ∧ t.vreg q = s.vreg q ∧ t.pour.acc = s.pour.acc ∧
      t.pour.p = s.pour.p ∧ t.memWf = true := by
  intro t
  have hc := s.setClamped_pour c
  have hp : t.pour = ((s.setClamped c).pdmWrite e w).pour := State.endCycle_pour (by
    rw [State.pdmWrite, hc]
    exact hi)
  have hpdm : t.pour.pdm = s.pour.pdm.putWord (4 * e) w := by
    rw [hp, State.pdmWrite, hc]
  have hwf := (State.memWf_iff.1 hw).1.1
  obtain ⟨h0, h1⟩ := s.setClamped_bufs c
  refine ⟨hpdm ▸ Mem.word_putWord _ w hwf, fun b hb => ?_, h0, h1, ?_, ?_, ?_, ?_⟩
  · rw [hpdm, Mem.get_putWord_outside w hwf hb]
  · rw [State.vreg, hp, State.pdmWrite, hc]
    rfl
  · rw [hp, State.pdmWrite, hc]
  · rw [hp, State.pdmWrite, hc]
  · exact (State.endCycle_memWf _).trans (State.pdmWrite_memWf e w ((State.setClamped_memWf c s).trans hw))

/-! ### A word of the active exchange buffer -/

theorem State.setXAct_spec (s : State) (x : XBuf) : (s.setXAct x).xAct = x ∧ (s.setXAct x).xInact = s.xInact ∧
    (s.setXAct x).pour = s.pour := by
  unfold State.setXAct State.xAct State.xInact
  cases h : s.exch.act <;> simp [h]

/-- A store through a descriptor, under its condition (03 R101). -/
theorem storeRd_some {k : BitVec 4} {r : Rng} {s : State} (h : s.rdesc k = some r) (g : Guard) (c : Bool) (a i : BitVec 6) :
    storeRd g c a i k s = if s.guardOk g && c then .next ((s.setClamped (clampIdx r (s.vreg i).toInt).2).pdmWrite
      (clampIdx r (s.vreg i).toInt).1 (s.vreg a)) else .next s := withRd_some h _

/-- Settles O10: a store into the Pour data memory by `State.pdmWrite_stored`, one into the buffer by `State.setXAct_spec`. -/
theorem storesWriteOneWord : Obligations.StoresWriteOneWord := by
  unfold Obligations.StoresWriteOneWord
  intro s g a i q6 addr xofs k r q qi hg ho hw hi stored
  have hrd {c : Bool} (hr : s.rdesc k = some r) (hc : c = true) : storeRd g c a i k s = _ :=
    (storeRd_some hr g c a i).trans (if_pos (by rw [hg, hc]; rfl))
  refine ⟨⟨_, exec_guarded_next rfl ho hg rfl, State.pdmWrite_stored hw hi false addr.toNat (s.vreg a) q6⟩,
    fun hr => ⟨_, exec_completes rfl ho (hrd hr rfl), State.pdmWrite_stored hw hi _ _ _ q6⟩,
    fun hr hq => ⟨_, exec_completes rfl ho (hrd hr hq), State.pdmWrite_stored hw hi _ _ _ q6⟩, fun hr hq => ?_, fun hx => ?_⟩
  · refine exec_completes rfl ho ((storeRd_some hr g _ a i).trans (if_neg ?_))
    rw [hg, Bool.true_and]
    exact Bool.eq_false_iff.1 hq
  · obtain ⟨hact, hin, hpour⟩ := s.setXAct_spec { s.xAct with outb := s.xAct.outb.putWord (4 * (xofs.toNat - 2048)) (s.vreg a) }
    have hwf := (State.xAct_wf hw).2
    have hp : (s.xStore xofs.toNat (s.vreg a)).endCycle.pour = s.pour :=
      (State.endCycle_pour ((congrArg Pour.inflight hpour).trans hi)).trans hpour
    have hx' : (s.xStore xofs.toNat (s.vreg a)).endCycle.xAct = _ := hact
    refine ⟨_, exec_completes rfl ho ((if_neg (Nat.not_lt.2 hx)).trans (if_pos hg)), ?_, fun b hb => ?_, ?_, hin, ?_, ?_, ?_,
      ?_, ?_⟩
    · rw [hx', XBuf.word, if_neg (Nat.not_lt.2 hx)]
      exact Mem.word_putWord _ _ hwf
    · rw [hx']
      exact Mem.get_putWord_outside _ hwf hb
    · rw [hx']
    · rw [hp]
    · rw [State.vreg, hp]
      rfl
    · rw [hp]
    · rw [hp]
    · exact (State.endCycle_memWf _).trans (State.xStore_memWf _ _ hw)

end Sys2Proof.Machine
end
section
/-! SUPPORT. Ports (02 R63 to R69, R83; 07 R217 to R223; O11). -/

namespace Sys2Proof.Machine

/-! ### Which write a port address is -/

theorem axOf_eq {k : Nat} {n : Fin 4} (h : k = n.val) : axOf k = n := Fin.ext (by
  have := n.isLt
  change k % 4 = n.val
  omega)

theorem State.portWrite_compare (s : State) (n ch : Fin 4) (w : Word) :
    s.portWrite (0x300 + 0x20 * n.val + ch.val) w = s.cmpWrite n ch w := by
  have hn := n.isLt
  have hc := ch.isLt
  rw [State.portWrite, if_pos (by omega)]
  dsimp only
  rw [if_neg (by omega), axOf_eq (n := n) (by omega), axOf_eq (n := ch) (by omega)]

theorem State.portWrite_pctl (s : State) (n : Fin 4) (w : Word) :
    s.portWrite (0x304 + 0x20 * n.val) w = s.updPort n fun a => { a with imm := w.getLsbD 0 } := by
  have hn := n.isLt
  rw [State.portWrite, if_pos (by omega)]
  dsimp only
  rw [if_pos (by omega), axOf_eq (n := n) (by omega)]

theorem State.portWrite_linkctl (s : State) (n : Fin 4) (w : Word) : s.portWrite (0x380 + n.val) w =
    if s.inTime n && !(s.pour.ax.get n).sent then s.updPort n fun a => { a with linkctl := w.setWidth 2 } else s := by
  have hn := n.isLt
  rw [State.portWrite, if_neg (by omega), if_pos (by omega), axOf_eq (n := n) (by omega)]

/-! ### The ports of an axis -/

theorem State.updPort_frame (s : State) (n : Fin 4) (f : PortAx → PortAx) : Frame [.pour] s (s.updPort n f) := fun p hp => by
  cases p with
  | pour => simp at hp
  | _ => rfl

theorem State.inTime_iff {s : State} {n : Fin 4} :
    s.inTime n = true ↔ (s.pour.ax.get n).sent = true ∨ s.tick.cy ≤ s.deadline n := by
  rw [State.inTime, Bool.or_eq_true, decide_eq_true_eq]

/-- The ports of axis `n` read `q`; those of the other axes, and the data memory, are as before. -/
def State.PortIs (s : State) (n : Fin 4) (q : PortAx) (t : State) : Prop :=
  t.pour.ax.get n = q ∧ (∀ k : Fin 4, k ≠ n → t.pour.ax.get k = s.pour.ax.get k) ∧ t.pour.pdm = s.pour.pdm

theorem State.updPort_portIs (s : State) (n : Fin 4) (f : PortAx → PortAx) :
    s.PortIs n (f (s.pour.ax.get n)) (s.updPort n f) :=
  ⟨s.port_updPort_same n f, fun _ h => s.port_updPort_ne f h, rfl⟩

/-- A shadow write (07 R217): for the next tick frame in time, else for the one after it. -/
theorem State.cmpShadow_spec (s : State) (n : Fin 4) (c : Nat) (x : BitVec 20) :
    let p := s.pour.ax.get n
    let inTime := p.sent = true ∨ s.tick.cy ≤ s.deadline n
    s.PortIs n { p with
      cur := if inTime then p.cur.set c x else p.cur, nxt := if inTime then p.nxt else p.nxt.set c x } (s.cmpShadow n c x) ∧
      Frame [.pour] s (s.cmpShadow n c x) := by
  dsimp only
  unfold State.cmpShadow
  by_cases h : s.inTime n = true
  · rw [if_pos h, if_pos (State.inTime_iff.1 h), if_pos (State.inTime_iff.1 h)]
    exact ⟨s.updPort_portIs n _, s.updPort_frame n _⟩
  · have h' := mt State.inTime_iff.2 h
    rw [if_neg h, if_neg h', if_neg h']
    exact ⟨s.updPort_portIs n _, s.updPort_frame n _⟩

/-- LINKCTLn is taken until the deadline (02 R68). -/
theorem State.linkctl_spec (s : State) (n : Fin 4) (w : Word) :
    let p := s.pour.ax.get n
    let t := s.portWrite (0x380 + n.val) w
    s.PortIs n { p with linkctl := if p.sent = false ∧ s.tick.cy ≤ s.deadline n then w.setWidth 2 else p.linkctl } t ∧
      Frame [.pour] s t := by
  have hc : (s.inTime n && !(s.pour.ax.get n).sent) = true ↔
      (s.pour.ax.get n).sent = false ∧ s.tick.cy ≤ s.deadline n := by
    unfold State.inTime
    cases (s.pour.ax.get n).sent <;> simp
  dsimp only
  rw [State.portWrite_linkctl]
  by_cases h : (s.pour.ax.get n).sent = false ∧ s.tick.cy ≤ s.deadline n
  · rw [if_pos (hc.2 h), if_pos h]
    exact ⟨s.updPort_portIs n _, s.updPort_frame n _⟩
  · rw [if_neg (mt hc.1 h), if_neg h]
    exact ⟨⟨rfl, fun _ _ => rfl, rfl⟩, .refl _ s⟩

/-- The states that honour an immediate load (07 R221). -/
theorem AxState.immOk_iff {x : AxState} : x.immOk = true ↔ x = .start ∨ x = .test ∨ x = .recovery := by
  cases x <;> decide

/-! ### EVSET -/

/-- The banks that SYS writes as an event occurs, and their enables (15 R450). -/
def Evm.sysBanks (e : Evm) : (EvSet × EvSet) × (EvSet × EvSet) × (EvSet × EvSet) :=
  ((e.pendHost, e.enIrq), (e.pendMgmt, e.enMgmt), (e.pour, e.enPour))

theorem Evm.gpioAll_sysBanks (k : Nat) (e : Evm) : (e.gpioAll k).sysBanks = e.sysBanks := by
  refine List.foldlRecOn (motive := fun f : Evm => f.sysBanks = e.sysBanks) _ _ rfl fun f hf i _ => ?_
  unfold Evm.gpio1
  dsimp only
  split
  · split
    · exact hf
    · split <;> exact hf
  · exact hf

theorem Evm.queue_sysBanks (key k : Nat) (e : Evm) : (e.queue key k).sysBanks = e.sysBanks := by
  unfold Evm.queue
  dsimp only
  split <;> rfl

/-- A bank with its enables after the events `hit`: those enabled stand in it, and the enables are as before. -/
def bankAfter (hit : Nat → Bool) (old new : EvSet × EvSet) : Prop :=
  new.2 = old.2 ∧ ∀ j : Nat, j < 256 → new.1.getLsbD j = (old.1.getLsbD j || (hit j && old.2.getLsbD j))

/-- The three banks after the events `hit`. -/
def Evm.After (hit : Nat → Bool) (e f : Evm) : Prop :=
  bankAfter hit e.sysBanks.1 f.sysBanks.1 ∧ bankAfter hit e.sysBanks.2.1 f.sysBanks.2.1 ∧
    bankAfter hit e.sysBanks.2.2 f.sysBanks.2.2

theorem bankAfter_none (b : EvSet × EvSet) : bankAfter (fun _ => false) b b := ⟨rfl, fun _ _ => by simp⟩

theorem bankAfter_trans {h1 h2 : Nat → Bool} {a b c : EvSet × EvSet} (h : bankAfter h1 a b) (k : bankAfter h2 b c) :
    bankAfter (fun j => h1 j || h2 j) a c := by
  refine ⟨k.1.trans h.1, fun j hj => ?_⟩
  rw [k.2 j hj, h.2 j hj, h.1, Bool.or_assoc, ← Bool.and_or_distrib_right]

/-- One event enters a bank where it is enabled. -/
theorem bankAfter_one {k : Nat} (hk : k < 256) (p en : EvSet) :
    bankAfter (fun j => decide (j = k)) (p, en) (if en.getLsbD k then p ||| bitB 256 k else p, en) := by
  refine ⟨rfl, fun j hj => ?_⟩
  dsimp only
  by_cases hjk : j = k
  · subst hjk
    cases he : en.getLsbD j <;> simp [getLsbD_or_bitB p j hj]
  · cases he : en.getLsbD k <;> simp [hjk, getLsbD_bitB, Ne.symm hjk]

theorem Evm.After.trans {h1 h2 : Nat → Bool} {e f g : Evm} (h : e.After h1 f) (k : f.After h2 g) :
    e.After (fun j => h1 j || h2 j) g :=
  ⟨bankAfter_trans h.1 k.1, bankAfter_trans h.2.1 k.2.1, bankAfter_trans h.2.2 k.2.2⟩

theorem Evm.after_none (e : Evm) : e.After (fun _ => false) e := ⟨bankAfter_none _, bankAfter_none _, bankAfter_none _⟩

theorem Evm.route_after {k : Nat} (hk : k < 256) (e : Evm) : e.After (fun j => decide (j = k)) (e.route k) := by
  have hb : (e.route k).sysBanks = ((if e.enIrq.getLsbD k then e.pendHost ||| bitB 256 k else e.pendHost, e.enIrq),
      (if e.enMgmt.getLsbD k then e.pendMgmt ||| bitB 256 k else e.pendMgmt, e.enMgmt),
      (if e.enPour.getLsbD k then e.pour ||| bitB 256 k else e.pour, e.enPour)) := by
    unfold Evm.route
    dsimp only
    rw [Evm.gpioAll_sysBanks]
    split
    · rw [Evm.queue_sysBanks]
      rfl
    · rfl
  unfold Evm.After
  rw [hb]
  exact ⟨bankAfter_one hk _ _, bankAfter_one hk _ _, bankAfter_one hk _ _⟩

theorem State.raiseIf_after {k : Nat} (hk : k < 256) (s : State) (b : Bool) :
    s.evm.After (fun j => b && decide (j = k)) (s.raiseIf b k).evm := by
  cases b with
  | false => exact s.evm.after_none
  | true =>
    have h : (s.raise k).evm = s.evm.route k := State.quenchFor_evm _ k
    change s.evm.After (fun j => true && decide (j = k)) (s.raise k).evm
    simp only [Bool.true_and, h]
    exact Evm.route_after hk s.evm

/-- Events raised one by one, each where its bit is set. -/
theorem State.raises_after (s : State) (w : Word) (l : List Nat) (hl : ∀ b ∈ l, b < 8) :
    s.evm.After (fun j => l.any fun b => w.getLsbD b && decide (j = 208 + b))
      (l.foldl (fun t b => t.raiseIf (w.getLsbD b) (208 + b)) s).evm := by
  induction l generalizing s with
  | nil => exact s.evm.after_none
  | cons b l ih =>
    have hb := hl b (List.mem_cons_self ..)
    exact (s.raiseIf_after (by omega) (w.getLsbD b)).trans (ih _ fun c hc => hl c (List.mem_cons_of_mem _ hc))

theorem evset_hit (w : Word) (j : Nat) : ([0, 1, 2, 3, 4, 5, 6, 7].any fun b => w.getLsbD b && decide (j = 208 + b)) =
    (decide (208 ≤ j) && decide (j < 216) && w.getLsbD (j - 208)) := by
  rw [Bool.eq_iff_iff]
  simp only [List.any_eq_true, Bool.and_eq_true, decide_eq_true_eq]
  constructor
  · rintro ⟨b, hb, hw, rfl⟩
    have : b < 8 := by
      simp only [List.mem_cons, List.not_mem_nil, or_false] at hb
      omega
    exact ⟨⟨by omega, by omega⟩, by rwa [Nat.add_sub_cancel_left]⟩
  · rintro ⟨⟨h1, h2⟩, hw⟩
    have hm : ∀ b < 8, b ∈ [0, 1, 2, 3, 4, 5, 6, 7] := by decide
    exact ⟨j - 208, hm _ (by omega), hw, by omega⟩

/-- The events an EVSET write raises (02 R83). -/
theorem State.evset_after (s : State) (w : Word) :
    s.evm.After (fun j => decide (208 ≤ j) && decide (j < 216) && w.getLsbD (j - 208)) (s.evset w).evm :=
  funext (evset_hit w) ▸ s.raises_after w _ (by decide)

theorem State.evset_frame (s : State) (w : Word) : Frame raiseParts s (s.evset w) := by
  refine List.foldlRecOn (motive := fun t : State => Frame raiseParts s t) _ _ (.refl _ s) fun t ht b _ => ?_
  unfold State.raiseIf
  split
  · exact ht.trans (t.raise_frame _)
  · exact ht

/-! ### TRACE -/

theorem State.traceWrite_out (s : State) (w : Word) (h : s.lc.st ≠ 2) : s.traceWrite w =
    { s with pour := { s.pour with
      trace := s.pour.trace.putWord (4 * s.pour.trwp.toNat) w, trwp := s.pour.trwp + 1 } } := if_neg h

theorem State.traceWrite_frame (s : State) (w : Word) : Frame [.pour] s (s.traceWrite w) := fun p hp => by
  unfold State.traceWrite
  cases p with
  | pour => simp at hp
  | _ => split <;> rfl

/-! ### A compare write with PCTLn.IMM set -/

theorem State.cmpWrite_shadow {s : State} {n : Fin 4} (h : (s.pour.ax.get n).imm = false) (c : Fin 4) (w : Word) :
    s.cmpWrite n c w = s.cmpShadow n c.val (w.setWidth 20) := if_neg (h ▸ Bool.false_ne_true)

theorem State.cmpWrite_sent {s : State} {n : Fin 4} (h : (s.pour.ax.get n).imm = true) (hs : (s.axis n).st.immOk = true)
    (c : Fin 4) (w : Word) : s.cmpWrite n c w = s.sendImm n [(c, w.setWidth 20, s.tick.cy)] :=
  (if_pos h).trans (if_pos hs)

theorem State.sendImm_port (s : State) (n : Fin 4) (l : List (Fin 4 × BitVec 20 × Nat)) :
    let q := (s.sendImm n l).pour.ax.get n
    q.immq = (s.pour.ax.get n).immq ++ l ∧ q.cur = (s.pour.ax.get n).cur ∧ q.nxt = (s.pour.ax.get n).nxt := by
  dsimp only
  rw [State.sendImm, State.port_updPort_same]
  exact ⟨rfl, rfl, rfl⟩

theorem State.cmpWrite_ignored {s : State} {n : Fin 4} (h : (s.pour.ax.get n).imm = true) (hs : ¬(s.axis n).st.immOk = true)
    (c : Fin 4) (w : Word) : s.cmpWrite n c w = (s.cmpShadow n c.val (w.setWidth 20)).raiseDrv n 0 :=
  (if_pos h).trans (if_neg hs)

/-- Settles O11: each port's write is the operation its address names. -/
theorem portOperationsComplete : Obligations.PortOperationsComplete := by
  unfold Obligations.PortOperationsComplete
  refine ⟨fun s g d a imm pa hg ho => ⟨fun hp => exec_guarded rfl ho hg (if_pos hp),
    fun hp => exec_guarded rfl ho hg (if_pos hp), fun hp => exec_guarded rfl ho hg (if_pos hp)⟩,
    fun s n ch w => ?_, fun s w => ⟨?_, ?_⟩⟩
  · intro p x inTime cmp ports shadow
    have hcmp : cmp = s.cmpWrite n ch w := s.portWrite_compare n ch w
    obtain ⟨hsh, hfr⟩ := s.cmpShadow_spec n ch.val x
    refine ⟨fun hi => ?_, fun hi hs => ?_, fun hi hs => ?_, ?_, ?_⟩
    · rw [hcmp, State.cmpWrite_shadow hi]
      exact ⟨hsh, hfr⟩
    · rw [hcmp, State.cmpWrite_sent hi (AxState.immOk_iff.2 hs)]
      obtain ⟨h1, h2, h3⟩ := s.sendImm_port n [(ch, x, s.tick.cy)]
      exact ⟨h1, h2, h3, s.updPort_frame n _⟩
    · have hr : Frame [.ax, .evm] _ _ := (s.cmpShadow n ch.val x).raiseDrvIf_frame true n 0
      rw [hcmp, State.cmpWrite_ignored hi (mt AxState.immOk_iff.1 hs)]
      refine ⟨?_, ⟨_, rfl, hfr⟩, (hfr.mono (by decide)).trans (hr.mono (by decide))⟩
      change s.PortIs n shadow _
      rw [State.PortIs, State.raiseDrv_pour]
      exact hsh
    · rw [State.portWrite_pctl]
      exact ⟨s.updPort_portIs n _, s.updPort_frame n _⟩
    · exact s.linkctl_spec n w
  · intro t
    obtain ⟨⟨-, h1⟩, ⟨-, h2⟩, ⟨-, h3⟩⟩ := s.evset_after w
    exact ⟨fun j hj => ⟨h1 j hj, h2 j hj, h3 j hj⟩, s.evset_frame w⟩
  · intro t a
    refine ⟨fun h => if_pos h, fun h => ?_⟩
    have ht : t = _ := s.traceWrite_out w h
    refine ⟨?_, s.traceWrite_frame w, ?_, fun hw => ?_⟩
    · rw [ht]
    · rw [ht]
    · have hwf := (State.memWf_iff.1 hw).1.2
      rw [ht]
      exact ⟨Mem.word_putWord a w hwf, fun b hb => Mem.get_putWord_outside w hwf hb⟩

end Sys2Proof.Machine
end
section
/-! SUPPORT. What a bundle rests on while its operations act (03 R87; 02 R57, R77): the active mould, the buffer in use, and the
course of the pour, whatever else the events it raises may change (O12). -/

namespace Sys2Proof.Machine

/-! ### What the operations of a bundle leave -/

/-- The active mould, the buffer in use, whether XP is past, and the pour's cursor and signatures. -/
def State.bundleView (s : State) : Option MouldInfo × Bool × Bool × (Bool × Word × Nat × Nat × Word × Word × Bool × Word) :=
  (s.moulds.active, s.exch.act, s.exch.xpPast, s.pour.course)

theorem State.cancelPend_bundleView (s : State) : s.cancelPend.bundleView = s.bundleView := by
  unfold State.cancelPend
  split
  · rfl
  · split
    · rfl
    · dsimp only
      split <;> rfl

theorem State.cancelCopy_bundleView (s : State) : s.cancelCopy.bundleView = s.bundleView := by
  unfold State.cancelCopy
  split
  · dsimp only
    split <;> rfl
  · rfl

theorem State.faults_bundleView (s : State) : (axes.foldl State.axFault s).bundleView = s.bundleView := by
  rw [State.bundleView, State.faults_moulds, State.faults_exch, State.faults_pour]
  rfl

theorem State.abortTest_bundleView (s : State) (sel : BgOp → Bool) : (s.abortTest sel).bundleView = s.bundleView := rfl

theorem State.clrCause_bundleView (s : State) (c : BitVec 4) : (s.clrCause c).bundleView = s.bundleView := rfl

theorem State.enterSafe_bundleView (s : State) (c : BitVec 4) : (s.enterSafe c).bundleView = s.bundleView := by
  have h (t : State) : (((axes.foldl State.axFault t).cancelActivation.abortTest fun _ => true).clrCause c).bundleView =
      t.bundleView := by
    rw [State.clrCause_bundleView, State.abortTest_bundleView, State.cancelActivation, State.cancelPend_bundleView,
      State.cancelCopy_bundleView, State.faults_bundleView]
  unfold State.enterSafe
  split
  · exact h _
  · exact h _
  · rfl
  · rfl

@[simp] theorem State.updPort_bundleView (s : State) (n : Fin 4) (f : PortAx → PortAx) :
    (s.updPort n f).bundleView = s.bundleView := rfl

/-- Raising an event may take the device to SAFE, and leaves what a bundle rests on. -/
@[simp] theorem State.raise_bundleView (s : State) (k : Nat) : (s.raise k).bundleView = s.bundleView := by
  unfold State.raise State.quenchFor
  dsimp only
  split
  · exact State.enterSafe_bundleView _ 3
  · rfl

@[simp] theorem State.raiseIf_bundleView (s : State) (b : Bool) (k : Nat) : (s.raiseIf b k).bundleView = s.bundleView := by
  unfold State.raiseIf
  split
  · exact s.raise_bundleView k
  · rfl

@[simp] theorem State.setSat_bundleView (s : State) (b : Bool) : (s.setSat b).bundleView = s.bundleView := by
  unfold State.setSat
  split
  · exact State.raiseIf_bundleView _ _ _
  · rfl

@[simp] theorem State.setClamped_bundleView (s : State) (b : Bool) : (s.setClamped b).bundleView = s.bundleView := by
  unfold State.setClamped
  split
  · exact State.raise_bundleView _ _
  · rfl

@[simp] theorem State.later_bundleView (s : State) (lat unit : Nat) (a : WbAct) :
    (s.later lat unit a).bundleView = s.bundleView := rfl

@[simp] theorem State.setAcc_bundleView (s : State) (u : Bool) (k : BitVec 2) (x : BitVec 64) :
    (s.setAcc u k x).bundleView = s.bundleView := rfl

@[simp] theorem accResult_bundleView (u : Bool) (k : BitVec 2) (x : Int × Bool) (s : State) :
    (accResult u k x s).bundleView = s.bundleView := State.setSat_bundleView _ _

@[simp] theorem vResult_bundleView (lat unit : Nat) (d : BitVec 6) (sh : Nat) (x : Word × Bool) (s : State) :
    (vResult lat unit d sh x s).bundleView = s.bundleView := State.setSat_bundleView _ _

@[simp] theorem State.eccCorrected_bundleView (s : State) : s.eccCorrected.bundleView = s.bundleView :=
  State.raise_bundleView _ _

@[simp] theorem State.pdmRead_bundleView (s : State) (a : Nat) : (s.pdmRead a).2.bundleView = s.bundleView := by
  unfold State.pdmRead State.eccRead
  split
  · rfl
  · exact s.eccCorrected_bundleView
  · exact State.raise_bundleView _ _

@[simp] theorem loadTo_bundleView (d : BitVec 6) (r : Word × State) : (loadTo d r).bundleView = r.2.bundleView := rfl

@[simp] theorem State.pdmWrite_bundleView (s : State) (a : Nat) (w : Word) : (s.pdmWrite a w).bundleView = s.bundleView := rfl

@[simp] theorem State.xStore_bundleView (s : State) (a : Nat) (w : Word) : (s.xStore a w).bundleView = s.bundleView := by
  unfold State.xStore State.setXAct
  split <;> rfl

@[simp] theorem State.markRead_bundleView (s : State) (pa : Nat) : (s.markRead pa).bundleView = s.bundleView := by
  unfold State.markRead
  split <;> rfl

theorem State.raiseDrv_bundleView (s : State) (n : Fin 4) (j : Nat) : (s.raiseDrv n j).bundleView = s.bundleView := by
  rw [State.bundleView, State.raiseDrv_moulds, State.raiseDrv_exch, State.raiseDrv_pour]
  rfl

@[simp] theorem State.cmpShadow_bundleView (s : State) (n : Fin 4) (p : Nat) (x : BitVec 20) :
    (s.cmpShadow n p x).bundleView = s.bundleView := by
  unfold State.cmpShadow
  split <;> rfl

@[simp] theorem State.cmpWrite_bundleView (s : State) (n p : Fin 4) (w : Word) :
    (s.cmpWrite n p w).bundleView = s.bundleView := by
  unfold State.cmpWrite
  dsimp only
  split
  · split
    · rfl
    · exact (State.raiseDrv_bundleView _ _ _).trans (State.cmpShadow_bundleView _ _ _ _)
  · exact State.cmpShadow_bundleView _ _ _ _

@[simp] theorem State.evset_bundleView (s : State) (w : Word) : (s.evset w).bundleView = s.bundleView :=
  List.foldlRecOn (motive := fun t : State => t.bundleView = s.bundleView) _ _ rfl fun t ht _ _ =>
    (t.raiseIf_bundleView _ _).trans ht

@[simp] theorem State.traceWrite_bundleView (s : State) (w : Word) : (s.traceWrite w).bundleView = s.bundleView := by
  unfold State.traceWrite
  split <;> rfl

@[simp] theorem State.portWrite_bundleView (s : State) (pa : Nat) (w : Word) :
    (s.portWrite pa w).bundleView = s.bundleView := by
  unfold State.portWrite
  dsimp only
  split
  · split
    · exact s.updPort_bundleView _ _
    · exact s.cmpWrite_bundleView _ _ _
  · split
    · split
      · exact s.updPort_bundleView _ _
      · rfl
    · split
      · exact s.evset_bundleView w
      · split
        · exact s.traceWrite_bundleView w
        · rfl

/-! ### One operation, and when it stops -/

/-- The answer goes on and leaves what a bundle rests on, or it stops, which it never does where `ok`. -/
def State.Runs (s : State) (ok : Prop) : Res → Prop
  | .next t => t.bundleView = s.bundleView
  | _ => ¬ok

theorem State.Runs.goes {s : State} {ok : Prop} {r : Res} (h : s.Runs ok r) (hok : ok) :
    ∃ t, r = .next t ∧ t.bundleView = s.bundleView := by
  cases r with
  | next t => exact ⟨t, rfl, h⟩
  | fault | refused => exact absurd hok h

theorem runs_guarded {ok : Prop} (g : Guard) {f : State → State} {s : State} (hf : (f s).bundleView = s.bundleView) :
    s.Runs ok (guarded g f s) := by
  change (if s.guardOk g then f s else s).bundleView = s.bundleView
  split
  · exact hf
  · rfl

theorem runs_xu3 {ok : Prop} {g : Guard} {d : BitVec 6} {f : State → Word × Bool} {s : State} :
    s.Runs ok (xu3 g d f s) := runs_guarded g (vResult_bundleView ..)

theorem runs_xu2 {ok : Prop} {g : Guard} {d : BitVec 6} {f : State → Word × Bool} {s : State} :
    s.Runs ok (xu2 g d f s) := runs_guarded g (vResult_bundleView ..)

theorem runs_xu3p {ok : Prop} {g : Guard} {pd : BitVec 3} {f : State → Bool} {s : State} :
    s.Runs ok (xu3p g pd f s) := runs_guarded g rfl

theorem runs_ite {ok : Prop} {c : Bool} {s t : State} (ht : t.bundleView = s.bundleView) :
    s.Runs ok (if c = true then .next t else .next s) := by
  split
  · exact ht
  · rfl

theorem runs_needReg {ok : Prop} {d : BitVec 6} {n : Nat} {r : Res} {s : State} (hn : ok → regsFit d n = true)
    (hr : s.Runs ok r) : s.Runs ok (needReg d n r) := by
  unfold needReg
  split
  · exact hr
  · rename_i h
    exact fun k => h (of_decide_eq_true (hn k))

theorem runs_opProd {ok : Prop} {u : Bool} {g : Guard} {k : BitVec 2} {a b : BitVec 6} {sc : BitVec 2} {rm : Bool}
    {f : Int → Int → Int} {s : State} (hc : ok → sc ≠ 3) : s.Runs ok (opProd u g k a b sc rm f s) := by
  unfold opProd
  split
  · rename_i h
    exact fun k => hc k h
  · exact runs_guarded g (accResult_bundleView ..)

/-- The active mould declares a range of `n` words at least under `k` (03 R90, R102). -/
def State.HasRange (s : State) (k : BitVec 4) (n : Nat) : Prop := ∃ r : Rng, s.rdesc k = some r ∧ n ≤ r.len

theorem State.hasRange_of_declares {s : State} {i : Instr} {k : BitVec 4} {n : Nat} (hi : rangeNeed i = some (k, n))
    (h : s.declares i = true) : s.HasRange k n := by
  simp only [State.declares, hi] at h
  cases hk : s.rdesc k with
  | none =>
    rw [hk] at h
    exact absurd h Bool.false_ne_true
  | some r =>
    rw [hk] at h
    exact ⟨r, hk, of_decide_eq_true h⟩

theorem runs_withRd {ok : Prop} {k : BitVec 4} {n : Nat} {f : Rng → State → Res} {s : State} (hd : ok → s.HasRange k n)
    (hf : ∀ r : Rng, (ok → n ≤ r.len) → s.Runs ok (f r s)) : s.Runs ok (withRd k f s) := by
  cases hk : s.rdesc k with
  | none =>
    rw [withRd_none hk]
    intro h
    obtain ⟨r, hr, -⟩ := hd h
    exact absurd (hk.symm.trans hr) (Option.some_ne_none r).symm
  | some r =>
    rw [withRd_some hk]
    refine hf r fun h => ?_
    obtain ⟨q, hq, hn⟩ := hd h
    cases hk.symm.trans hq
    exact hn

theorem runs_storeRd {ok : Prop} {g : Guard} {c : Bool} {a i : BitVec 6} {k : BitVec 4} {s : State}
    (hd : ok → s.HasRange k 1) :
    s.Runs ok (storeRd g c a i k s) := runs_withRd hd fun _ _ => runs_ite (by simp)

theorem runs_opTint {ok : Prop} {g : Guard} {d x : BitVec 6} {k : BitVec 4} {rm : Bool} {s : State}
    (hd : ok → s.HasRange k 2) :
    s.Runs ok (opTint g d x k rm s) := by
  refine runs_withRd hd fun r hr => ?_
  split
  · rename_i h
    exact fun k => absurd (hr k) (Nat.not_le.2 h)
  · split
    · dsimp only
      split <;> simp [State.Runs]
    · rfl

theorem runs_opPrd {ok : Prop} {g : Guard} {d : BitVec 6} {pa : BitVec 12} {s : State}
    (hp : ok → portReadable pa.toNat = true) : s.Runs ok (opPrd g d pa s) := by
  unfold opPrd
  split
  · exact runs_guarded g (by simp)
  · rename_i h
    split <;> exact fun k => h (hp k)

theorem runs_portOut {ok : Prop} {g : Guard} {pa : BitVec 12} {f : State → Word} {s : State}
    (hp : ok → portWritable pa.toNat = true) : s.Runs ok (portOut g pa f s) := by
  unfold portOut
  split
  · exact runs_guarded (f := fun s => s.portWrite pa.toNat (f s)) g (s.portWrite_bundleView _ _)
  · rename_i h
    split <;> exact fun k => h (hp k)

/-- An operation stops only where it is ill-formed or its descriptor is not declared (03 R90). -/
theorem issueOp_runs {i : Instr} (hi : isSlotOp i = true) (s : State) :
    s.Runs (i.wf = true ∧ s.declares i = true) (issueOp i s) := by
  cases i with
  | mul | mac | msu => simp only [issueOp]; exact runs_opProd fun h => of_decide_eq_true h.1
  | madv | adda | lda | clra | mulv | clamp => simp only [issueOp]; exact runs_guarded _ (by simp)
  | mova | push | subh | movac | sincos => simp only [issueOp]; exact runs_needReg And.left (runs_guarded _ (by simp))
  | atan2 | sqrt | recip | mag => simp only [issueOp]; exact runs_xu2
  | add | sub | addw | subw | neg | abs | min | max | sel | mov | and | or | xor | andn | shl | shr | shll | shrl | shrr
  | ldi | lui => simp only [issueOp]; exact runs_xu3
  | cmplt | cmple | cmpeq | cmpne | cmpltu | tstb | pand | por | pxor => simp only [issueOp]; exact runs_xu3p
  | ld | st | ldx => simp only [issueOp]; exact runs_ite (by simp)
  | stx g a xofs =>
    simp only [issueOp, opStx]
    split
    · rename_i h
      exact fun k => Nat.not_le.2 h (of_decide_eq_true k.1)
    · exact runs_ite (s.xStore_bundleView _ _)
  | ldr => simp only [issueOp]; exact runs_withRd (fun h => State.hasRange_of_declares rfl h.2) fun r _ => runs_ite (by simp)
  | str | strc => simp only [issueOp]; exact runs_storeRd fun h => State.hasRange_of_declares rfl h.2
  | tint => simp only [issueOp]; exact runs_opTint fun h => State.hasRange_of_declares rfl h.2
  | prd => simp only [issueOp]; exact runs_opPrd And.left
  | pwr | pwri => simp only [issueOp]; exact runs_portOut And.left
  | _ => exact absurd hi Bool.false_ne_true

/-! ### The operations of a bundle -/

/-- Words that a mould which passed its check can hold (03 R90). -/
def State.Sound (s : State) (l : List (Nat × Word)) : Prop :=
  ∀ x ∈ l, ∃ i, decodeSlot x.1 x.2 = some i ∧ i.wf = true ∧ s.declares i = true

theorem State.Sound.of_active {s t : State} {l : List (Nat × Word)} (h : s.Sound l)
    (ht : t.moulds.active = s.moulds.active) : t.Sound l := fun x hx => by
  obtain ⟨i, hi, hw, hd⟩ := h x hx
  exact ⟨i, hi, hw, (State.declares_congr ht i).trans hd⟩

theorem State.active_of_bundleView {s t : State} (h : t.bundleView = s.bundleView) : t.moulds.active = s.moulds.active :=
  congrArg Prod.fst h

theorem issueSlots_cons {u : Nat} {w : Word} {i : Instr} {l : List (Nat × Word)} {s t : State} (hi : decodeSlot u w = some i)
    (ht : issueOp i s = .next t) : issueSlots ((u, w) :: l) s = issueSlots l t := by
  simp only [issueSlots, hi, ht]

theorem issueSlots_cons_stops {u : Nat} {w : Word} {i : Instr} {l : List (Nat × Word)} {s : State}
    (hi : decodeSlot u w = some i) (ht : ∀ t, issueOp i s ≠ .next t) : issueSlots ((u, w) :: l) s = issueOp i s := by
  cases h : issueOp i s with
  | next t => exact absurd h (ht t)
  | fault | refused => simp only [issueSlots, hi, h]

/-- The operations of a bundle in one cycle: they go on where every word is sound. -/
theorem issueSlots_runs (l : List (Nat × Word)) (s : State) : s.Runs (s.Sound l) (issueSlots l s) := by
  induction l generalizing s with
  | nil => rfl
  | cons x l ih =>
    obtain ⟨u, w⟩ := x
    cases hi : decodeSlot u w with
    | none =>
      simp only [issueSlots, hi]
      intro h
      obtain ⟨i, h, -⟩ := h (u, w) (List.mem_cons_self ..)
      exact absurd (hi.symm.trans h) (Option.some_ne_none i).symm
    | some i =>
      have hr := issueOp_runs (isSlotOp_of_decodeSlot hi) s
      have hok (h : s.Sound ((u, w) :: l)) : i.wf = true ∧ s.declares i = true := by
        obtain ⟨j, hj, hw⟩ := h (u, w) (List.mem_cons_self ..)
        cases hi.symm.trans hj
        exact hw
      by_cases hn : ∃ t, issueOp i s = .next t
      · obtain ⟨t, ht⟩ := hn
        rw [ht] at hr
        rw [issueSlots_cons hi ht]
        have h := ih t
        have hs (k : s.Sound ((u, w) :: l)) : t.Sound l :=
          State.Sound.of_active (fun x hx => k x (List.mem_cons_of_mem _ hx)) (State.active_of_bundleView hr)
        cases hq : issueSlots l t with
        | next v =>
          rw [hq] at h
          exact Eq.trans h hr
        | fault | refused =>
          rw [hq] at h
          exact fun k => h (hs k)
      · rw [issueSlots_cons_stops hi fun t h => hn ⟨t, h⟩]
        cases hq : issueOp i s with
        | next t => exact absurd ⟨t, hq⟩ hn
        | fault | refused =>
          rw [hq] at hr
          exact fun k => hr (hok k)

/-- A word of no operation of its unit stops the model, after words that are sound (03 R90). -/
theorem issueSlots_undecodable {pre post : List (Nat × Word)} {u : Nat} {w : Word} {s : State} (hs : s.Sound pre)
    (hd : decodeSlot u w = none) : issueSlots (pre ++ (u, w) :: post) s = .fault .undecodableBundle := by
  induction pre generalizing s with
  | nil => simp only [List.nil_append, issueSlots, hd]
  | cons x pre ih =>
    obtain ⟨i, hi, hw⟩ := hs x (List.mem_cons_self ..)
    obtain ⟨t, ht, hv⟩ := (issueOp_runs (isSlotOp_of_decodeSlot hi) s).goes hw
    rw [List.cons_append, issueSlots_cons hi ht]
    exact ih (State.Sound.of_active (fun y hy => hs y (List.mem_cons_of_mem _ hy)) (State.active_of_bundleView hv))

/-! ### A bundle -/

/-- The cycle of the next bundle has come, and with it XP where it is due (02 R57, 03 R87). -/
def State.bundleDue (s : State) (m : MouldInfo) : State :=
  let s0 := if m.xp ≤ s.pour.nextCy then s.passXp else s
  if s.pour.nextCy = 0 then s0 else s0.advanceTo s.pour.nextCy

theorem State.exchSwapped_view (s : State) :
    s.exchSwapped.act = (s.exch.act != s.swapDue) ∧ s.exchSwapped.xpPast = true := by
  unfold State.exchSwapped
  cases h : s.swapDue <;> simp

/-- What XP leaves of the buffers: past, and swapped where a publication is due (02 R57). -/
theorem State.passXp_view (s : State) : s.passXp.exch.xpPast = true ∧
    s.passXp.exch.act = (s.exch.act != (!s.exch.xpPast && s.swapDue)) ∧ s.passXp.moulds = s.moulds ∧
    s.passXp.pour = s.pour := by
  obtain ⟨ha, hp⟩ := s.exchSwapped_view
  cases hx : s.exch.xpPast with
  | true =>
    have h : s.passXp = s := if_pos hx
    rw [h]
    exact ⟨hx, (Bool.bne_false _).symm, rfl, rfl⟩
  | false =>
    by_cases hh : s.tick.hidx = 15
    · rw [State.passXp_tick15 hx hh]
      exact ⟨hp, ha, rfl, rfl⟩
    · rw [State.passXp_eq hx hh]
      exact ⟨hp, ha, rfl, rfl⟩

/-- What the bundle finds in its cycle: no operation has moved its mould, its cursor or its signature. -/
theorem State.bundleDue_spec (s : State) (m : MouldInfo) :
    let t := s.bundleDue m
    t.moulds = s.moulds ∧ t.pour.course = s.pour.course ∧ t.pour.upsets = s.pour.upsets ∧
      t.exch.xpPast = (s.exch.xpPast || decide (m.xp ≤ s.pour.nextCy)) ∧
      t.exch.act = (s.exch.act != (decide (m.xp ≤ s.pour.nextCy) && !s.exch.xpPast && s.swapDue)) := by
  have hadv (t : State) (c : Nat) : (t.advanceTo c).moulds = t.moulds ∧ (t.advanceTo c).pour.course = t.pour.course ∧
      (t.advanceTo c).pour.upsets = t.pour.upsets ∧ (t.advanceTo c).exch = t.exch := by
    refine ⟨rfl, (retire_course _ _).1, ?_, rfl⟩
    change (retire _ _).upsets = _
    rw [retire_eq]
    rfl
  obtain ⟨hx, ha, hm, hp⟩ := s.passXp_view
  have h0 : let t := if m.xp ≤ s.pour.nextCy then s.passXp else s
      t.moulds = s.moulds ∧ t.pour = s.pour ∧ t.exch.xpPast = (s.exch.xpPast || decide (m.xp ≤ s.pour.nextCy)) ∧
        t.exch.act = (s.exch.act != (decide (m.xp ≤ s.pour.nextCy) && !s.exch.xpPast && s.swapDue)) := by
    dsimp only
    by_cases h : m.xp ≤ s.pour.nextCy
    · rw [if_pos h, decide_eq_true h, Bool.or_true, Bool.true_and]
      exact ⟨hm, hp, hx, ha⟩
    · rw [if_neg h, decide_eq_false h, Bool.or_false, Bool.false_and, Bool.false_and, Bool.bne_false]
      exact ⟨rfl, rfl, rfl, rfl⟩
  dsimp only at h0 ⊢
  obtain ⟨h1, h2, h3, h4⟩ := h0
  unfold State.bundleDue
  dsimp only
  split
  · exact ⟨h1, congrArg _ h2, congrArg _ h2, h3, h4⟩
  · obtain ⟨k1, k2, k3, k4⟩ := hadv (if m.xp ≤ s.pour.nextCy then s.passXp else s) s.pour.nextCy
    exact ⟨k1.trans h1, k2.trans (congrArg _ h2), k3.trans (congrArg _ h2), (congrArg _ k4).trans h3, (congrArg _ k4).trans h4⟩

theorem exec_bundleIssue_custom {s : State} {m : MouldInfo} (hm : s.moulds.active = some m) (hc : m.std = none)
    (he : s.pour.ended = false) : exec .bundleIssue s = issueBundle m s := by
  change execBundleIssue s = _
  simp only [execBundleIssue, hm, he, hc, Option.isSome_none, Bool.or_self, Bool.false_eq_true, if_false]

section
variable {s : State} {m : MouldInfo} {b : Bundle} (hb : takeBundle (m.code.drop s.pour.boff) = some b)
include hb

/-- A word of the bundle beyond correction ends the pour (02 R62). -/
theorem issueBundle_cut (hu : ((s.bundleDue m).fetchUpsets b).any (fun n => decide (2 ≤ n)) = true) :
    issueBundle m s = .next (s.bundleDue m).fetchCut := by
  simp only [issueBundle, hb]
  exact if_pos hu

/-- The state in which the operations of the bundle act: each word with one flipped bit is counted (02 R60). -/
def State.bundleRead (s : State) (m : MouldInfo) (b : Bundle) : State :=
  (s.bundleDue m).fetchCorrect (((s.bundleDue m).fetchUpsets b).filter fun n => decide (n = 1)).length

theorem issueBundle_issues {t : State} (hu : ((s.bundleDue m).fetchUpsets b).any (fun n => decide (2 ≤ n)) = false)
    (ht : issueSlots b.slots (s.bundleRead m b) = .next t) :
    issueBundle m s = .next (t.pastBundle m b s.pour.nextCy).endCycle := by
  simp only [State.bundleRead, State.bundleDue] at ht hu
  simp only [issueBundle, hb, hu, Bool.false_eq_true, if_false, ht]
  rfl

theorem issueBundle_stops (hu : ((s.bundleDue m).fetchUpsets b).any (fun n => decide (2 ≤ n)) = false)
    (ht : ∀ t, issueSlots b.slots (s.bundleRead m b) ≠ .next t) :
    issueBundle m s = issueSlots b.slots (s.bundleRead m b) := by
  cases hr : issueSlots b.slots (s.bundleRead m b) with
  | next t => exact absurd hr (ht t)
  | fault | refused =>
    simp only [State.bundleRead, State.bundleDue] at hr hu
    simp only [issueBundle, hb, hu, Bool.false_eq_true, if_false, hr]

end

end Sys2Proof.Machine
end
section
/-! SUPPORT. The bundle that issues, and the encodings that stop the model (O12). -/

namespace Sys2Proof.Machine

/-! ### What a bundle leaves -/

theorem Pour.course_fields {p q : Pour} (h : p.course = q.course) : p.boff = q.boff ∧ p.nextCy = q.nextCy ∧ p.sig = q.sig := by
  simp only [Pour.course, Prod.mk.injEq] at h
  obtain ⟨-, -, hb, hn, hs, -⟩ := h
  exact ⟨hb, hn, hs⟩

@[simp] theorem State.fetchCorrect_bundleView (s : State) (n : Nat) : (s.fetchCorrect n).bundleView = s.bundleView :=
  List.foldlRecOn (motive := fun t : State => t.bundleView = s.bundleView) _ _ rfl fun t ht _ _ =>
    t.eccCorrected_bundleView.trans ht

theorem State.bundleDue_fetchUpsets (s : State) (m : MouldInfo) (b : Bundle) :
    (s.bundleDue m).fetchUpsets b = s.fetchUpsets b := by
  obtain ⟨-, hc, hu, -⟩ := s.bundleDue_spec m
  obtain ⟨hb, -, -⟩ := Pour.course_fields hc
  rw [State.fetchUpsets, State.fetchUpsets, hb, hu]

theorem State.pastBundle_ends (t : State) (m : MouldInfo) (b : Bundle) (cy : Nat) :
    let v := (t.pastBundle m b cy).endCycle
    v.pour.boff = t.pour.boff + b.size ∧ v.pour.nextCy = cy + 1 + hdrIdle b.hdr ∧ v.pour.sig = crcRun t.pour.sig b.stream ∧
      v.exch = t.exch := by
  obtain ⟨h1, h2, h3⟩ := Pour.course_fields (retire_course t.tick.cy (t.pastBundle m b cy).pour).1
  exact ⟨h1, h2, h3, rfl⟩

/-- The cursor past the bundle, its bytes in the signature, and the buffers as XP has left them. -/
theorem State.bundle_leaves {s t : State} {m : MouldInfo} {b : Bundle}
    (ht : issueSlots b.slots (s.bundleRead m b) = .next t) :
    let v := (t.pastBundle m b s.pour.nextCy).endCycle
    v.pour.boff = s.pour.boff + b.size ∧ v.pour.nextCy = s.pour.nextCy + 1 + hdrIdle b.hdr ∧
      v.pour.sig = crcRun s.pour.sig b.stream ∧ v.exch.xpPast = (s.exch.xpPast || decide (m.xp ≤ s.pour.nextCy)) ∧
      v.exch.act = (s.exch.act != (decide (m.xp ≤ s.pour.nextCy) && !s.exch.xpPast && s.swapDue)) := by
  obtain ⟨vb, vn, vs, ve⟩ := t.pastBundle_ends m b s.pour.nextCy
  have hr := issueSlots_runs b.slots (s.bundleRead m b)
  rw [ht] at hr
  have ht' : t.bundleView = (s.bundleDue m).bundleView := hr.trans (State.fetchCorrect_bundleView _ _)
  obtain ⟨-, hc, -, hx, ha⟩ := s.bundleDue_spec m
  simp only [State.bundleView, Prod.mk.injEq] at ht'
  obtain ⟨-, hta, htx, htc⟩ := ht'
  obtain ⟨hb, -, hs⟩ := Pour.course_fields (htc.trans hc)
  dsimp only
  rw [vb, vn, vs, ve, hta, htx, hb, hs]
  exact ⟨rfl, rfl, rfl, hx, ha⟩

theorem State.bundleRead_active (s : State) (m : MouldInfo) (b : Bundle) :
    (s.bundleRead m b).moulds.active = s.moulds.active :=
  (State.active_of_bundleView (State.fetchCorrect_bundleView _ _)).trans (congrArg Moulds.active (s.bundleDue_spec m).1)

/-- With no mould, and past the end of the pour, nothing issues. -/
theorem exec_bundleIssue_over {s : State} (h : s.moulds.active = none ∨ s.pour.ended = true) :
    exec .bundleIssue s = .next s := by
  change execBundleIssue s = _
  cases hm : s.moulds.active with
  | none => simp only [execBundleIssue, hm]
  | some m =>
    have he : s.pour.ended = true := h.resolve_left (hm ▸ (Option.some_ne_none m))
    simp only [execBundleIssue, hm, he, Bool.true_or, if_true]

theorem exec_bundleIssue_std {s : State} {m : MouldInfo} (hm : s.moulds.active = some m) (hk : m.std.isSome = true) :
    exec .bundleIssue s = .next s := by
  change execBundleIssue s = _
  simp only [execBundleIssue, hm, hk, Bool.or_true, if_true]

/-! ### Encodings that stop the model -/

theorem portReadable_of_writable {pa : Nat} (h : portWritable pa = true) : portReadable pa = false := by
  simp only [portWritable, Bool.or_eq_true, Bool.and_eq_true, decide_eq_true_eq] at h
  simp only [portReadable, Bool.or_eq_false_iff, Bool.and_eq_false_iff, decide_eq_false_iff_not]
  omega

section
variable {g : Guard} {d : BitVec 6} {pa : BitVec 12} {f : State → Word} {s : State}

theorem opPrd_wrongWay (h : portWritable pa.toNat = true) : opPrd g d pa s = .fault .portWrongDirection := by
  rw [opPrd, portReadable_of_writable h, if_neg Bool.false_ne_true, if_pos h]

theorem opPrd_notListed (hr : portReadable pa.toNat = false) (hw : portWritable pa.toNat = false) :
    opPrd g d pa s = .fault .portNotListed := by
  rw [opPrd, hr, hw, if_neg Bool.false_ne_true, if_neg Bool.false_ne_true]

theorem portOut_wrongWay (h : portReadable pa.toNat = true) : portOut g pa f s = .fault .portWrongDirection := by
  have hw : ¬portWritable pa.toNat = true := fun hw => Bool.false_ne_true ((portReadable_of_writable hw).symm.trans h)
  rw [portOut, if_neg hw, if_pos h]

theorem portOut_notListed (hr : portReadable pa.toNat = false) (hw : portWritable pa.toNat = false) :
    portOut g pa f s = .fault .portNotListed := by
  rw [portOut, hr, hw, if_neg Bool.false_ne_true, if_neg Bool.false_ne_true]

end

/-- Settles O12: a bundle by what its operations leave, a rejected encoding by the check its operation makes first. -/
theorem bundlesIssueAndRejectedEncodingsStop : Obligations.BundlesIssueAndRejectedEncodingsStop := by
  unfold Obligations.BundlesIssueAndRejectedEncodingsStop
  refine ⟨fun s m b hm hc he hb => ?_, fun s m => ⟨fun h => ?_, fun hm hk => ?_, fun hm hc he hb => ?_⟩,
    fun s u g k d a b rm f xofs pa rd imm l pd q qi r ho => ?_⟩
  · rw [exec_bundleIssue_custom hm hc he]
    intro flips s0 s1 s2 sound
    have hups : (s.bundleDue m).fetchUpsets b = flips := s.bundleDue_fetchUpsets m b
    have hs2 : s2 = s.bundleRead m b := by
      rw [State.bundleRead, hups]
      rfl
    refine ⟨fun hflips => ?_, fun ⟨k, hk, h2⟩ => issueBundle_cut hb ?_⟩
    · have hu : ((s.bundleDue m).fetchUpsets b).any (fun n => decide (2 ≤ n)) = false := by
        rw [hups, List.any_eq_false]
        intro k hk
        have := hflips k hk
        simp only [decide_eq_true_eq]
        omega
      have hsound {l : List (Nat × Word)} (h : sound l) : (s.bundleRead m b).Sound l :=
        State.Sound.of_active (s := s) h (s.bundleRead_active m b)
      rw [hs2]
      refine ⟨fun t ht => issueBundle_issues hb hu ht, fun h => ?_, fun t ht => ?_, fun pre post u w hsl h hd => ?_⟩
      · obtain ⟨t, ht, -⟩ := (issueSlots_runs b.slots (s.bundleRead m b)).goes (hsound h)
        obtain ⟨v1, v2, v3, v4, v5⟩ := State.bundle_leaves ht
        exact ⟨_, issueBundle_issues hb hu ht, v1, v2, v3, v4, by rw [v5, State.swapDue, Bool.and_assoc _ (decide _)]⟩
      · by_cases hn : ∃ v, issueSlots b.slots (s.bundleRead m b) = .next v
        · obtain ⟨v, hv⟩ := hn
          obtain ⟨-, -, h3, -⟩ := State.bundle_leaves hv
          cases (issueBundle_issues hb hu hv).symm.trans ht
          exact h3
        · rw [issueBundle_stops hb hu fun v h => hn ⟨v, h⟩] at ht
          exact absurd ⟨t, ht⟩ hn
      · have hf : issueSlots b.slots (s.bundleRead m b) = .fault .undecodableBundle := by
          rw [hsl]
          exact issueSlots_undecodable (hsound h) hd
        rw [issueBundle_stops hb hu (by simp [hf]), hf]
    · rw [hups, List.any_eq_true]
      exact ⟨k, hk, decide_eq_true h2⟩
  · exact exec_bundleIssue_over h
  · exact exec_bundleIssue_std hm hk
  · rw [exec_bundleIssue_custom hm hc he]
    simp only [issueBundle, hb]
  · have stop {c : Instr} {e : Fault} (hi : isSlotOp c = true) (h : issueOp c s = .fault e) := exec_stops hi ho h
    simp only [List.forall_mem_cons, List.not_mem_nil, false_imp_iff, implies_true, and_true]
    refine ⟨⟨stop rfl rfl, stop rfl rfl, stop rfl rfl⟩,
      ⟨stop rfl rfl, stop rfl rfl, stop rfl rfl, stop rfl rfl, stop rfl rfl, stop rfl rfl⟩,
      fun hx => stop rfl (if_pos hx), fun hw => stop rfl ?_, fun hr => ⟨stop rfl ?_, stop rfl ?_⟩,
      fun hr hw => ⟨stop rfl ?_, stop rfl ?_, stop rfl ?_⟩,
      fun hd => ⟨stop rfl ?_, stop rfl ?_, stop rfl ?_, stop rfl ?_⟩, fun hd hl => stop rfl ?_⟩
    · rw [issueOp, opPrd_wrongWay hw]
    · rw [issueOp, opPwr, portOut_wrongWay hr]
    · rw [issueOp, opPwri, portOut_wrongWay hr]
    · rw [issueOp, opPrd_notListed hr hw]
    · rw [issueOp, opPwr, portOut_notListed hr hw]
    · rw [issueOp, opPwri, portOut_notListed hr hw]
    · rw [issueOp, opLdr, withRd_none hd]
    · rw [issueOp, opStr, storeRd, withRd_none hd]
    · rw [issueOp, opStrc, storeRd, withRd_none hd]
    · rw [issueOp, opTint, withRd_none hd]
    · rw [issueOp, opTint, withRd_some hd, if_pos hl]

end Sys2Proof.Machine
end
section
/-! SUPPORT. The values of XU2 (02 R76; 03 R95, Table 3-6; O7): saturation moves a result towards the exact value, the computed
base lies half a step from it, and the free distance is taken only within the bound. -/

namespace Sys2Proof.Machine

/-! ### Saturation -/

theorem satTo_fst {lo hi : Int} (h : lo ≤ hi) (x : Int) : (satTo lo hi x).1 = max lo (min hi x) := by
  unfold satTo
  split
  · dsimp only
    omega
  · split <;> dsimp only <;> omega

theorem toQ29_toInt (x : Int) : (toQ29 x).toInt = max (-(2 ^ 31)) (min (2 ^ 31 - 1) x) := by
  rw [← satTo_fst (by decide)]
  have h := satTo_fst (lo := -(2 ^ 31)) (hi := 2 ^ 31 - 1) (by decide) x
  exact BitVec.toInt_ofInt_eq_self (by decide) (by omega) (by omega)

/-! ### A result near its base -/

theorem nearInt_dist (ok : Int → Bool) (b e : Int) : (nearInt ok b e - b).natAbs ≤ e.natAbs := by
  unfold nearInt
  split <;> omega

/-- The bound that the base keeps, the result keeps. -/
theorem nearInt_ok {ok : Int → Bool} {b : Int} (e : Int) (h : ok b = true) : ok (nearInt ok b e) = true := by
  unfold nearInt
  split
  · assumption
  · exact h

/-- SINCOS: the free distance is 4 steps at most, and saturation brings two values no further apart (log entry 9). -/
theorem toQ29_nearInt_dist (ok : Int → Bool) (b : Int) (e : Fin 9) :
    ((toQ29 (nearInt ok b (e.val - 4))).toInt - (satTo (-(2 ^ 31)) (2 ^ 31 - 1) b).1).natAbs ≤ 4 := by
  have h := nearInt_dist ok b (e.val - 4)
  have he := e.isLt
  rw [toQ29_toInt, satTo_fst (by decide)]
  omega

/-! ### Quotients -/

/-- The rounded quotient lies within half a step. -/
theorem rdiv_dist {n d : Int} (hd : 0 < d) : 2 * (rdiv n d * d - n).natAbs ≤ d.natAbs := by
  have h1 := Int.mul_ediv_add_emod (2 * n + d) (2 * d)
  have h2 := Int.emod_nonneg (2 * n + d) (b := 2 * d) (by omega)
  have h3 := Int.emod_lt_of_pos (2 * n + d) (b := 2 * d) (by omega)
  have h4 : 2 * d * ((2 * n + d) / (2 * d)) = 2 * (rdiv n d * d) := by
    unfold rdiv
    ring
  omega

theorem within_iff {n : Nat} {g x d k : Int} : within n g x d k = true ↔ ((k * d - x).natAbs : Int) + g ≤ n * d :=
  decide_eq_true_iff

/-- A rounded quotient keeps a bound that leaves room for half a step. -/
theorem within_rdiv {n : Nat} {g x d : Int} (hd : 0 < d) (h : 2 * g + d ≤ 2 * (n * d)) : within n g x d (rdiv x d) = true := by
  have := rdiv_dist (n := x) hd
  rw [within_iff]
  omega

/-- A value whose exact quotient is in the format stays as close to it when it saturates. -/
theorem satQ29_quotient {k d x : Int} {c : Nat} (hd : 0 < d) (hlo : -(2 ^ 31) * d ≤ x) (hhi : x ≤ (2 ^ 31 - 1) * d)
    (h : (k * d - x).natAbs ≤ c) : (max (-(2 ^ 31)) (min (2 ^ 31 - 1) k) * d - x).natAbs ≤ c := by
  rcases lt_or_ge (2 ^ 31 - 1) k with hk | hk
  · rw [min_eq_left hk.le, max_eq_right (by decide)]
    have := mul_le_mul_of_nonneg_right hk.le hd.le
    omega
  · rcases lt_or_ge k (-(2 ^ 31)) with hk' | hk'
    · rw [min_eq_right hk, max_eq_left hk'.le]
      have := mul_le_mul_of_nonneg_right hk'.le hd.le
      omega
    · rwa [min_eq_right hk, max_eq_right hk']

/-! ### Roots -/

theorem isqrtFrom_spec (x n : Nat) : ∀ r : Nat, r * r ≤ x → x < (r + 2 ^ (n + 1)) * (r + 2 ^ (n + 1)) →
    isqrtFrom x n r * isqrtFrom x n r ≤ x ∧ x < (isqrtFrom x n r + 1) * (isqrtFrom x n r + 1) := by
  induction n with
  | zero =>
    intro r h1 h2
    unfold isqrtFrom
    split
    · rename_i h
      exact ⟨h, h2⟩
    · rename_i h
      exact ⟨h1, Nat.not_le.1 h⟩
  | succ n ih =>
    intro r h1 h2
    unfold isqrtFrom
    dsimp only
    split
    · rename_i h
      refine ih _ h ?_
      rwa [Nat.add_assoc, ← Nat.two_mul, ← Nat.pow_succ']
    · rename_i h
      exact ih r h1 (Nat.not_le.1 h)

theorem isqrt_eq_sqrt {x : Nat} (h : x < 2 ^ 97 * 2 ^ 97) : isqrt x = Nat.sqrt x := by
  obtain ⟨h1, h2⟩ := isqrtFrom_spec x 96 0 (Nat.zero_le x) (by rwa [Nat.zero_add])
  exact Nat.eq_sqrt.2 ⟨h1, h2⟩

/-- The rounded root is the root rounded down, or one more. -/
theorem rsqrt_near {x : Nat} (h : x < 2 ^ 97 * 2 ^ 97) : Nat.sqrt x ≤ rsqrt x ∧ rsqrt x ≤ Nat.sqrt x + 1 := by
  unfold rsqrt
  dsimp only
  rw [isqrt_eq_sqrt h]
  split <;> omega

/-- `k` lies within `n` steps of the root of `x`. -/
def RootNear (n : Nat) (x k : Int) : Prop := (k ≤ n ∨ (k - n) ^ 2 ≤ x) ∧ -n ≤ k ∧ x ≤ (k + n) ^ 2

theorem withinRoot_iff {n x : Nat} {k : Int} : withinRoot n x k = true ↔ RootNear n x k := by
  simp only [withinRoot, RootNear, Bool.and_eq_true, Bool.or_eq_true, decide_eq_true_eq, and_assoc, pow_two]
  refine and_congr_right fun _ => and_congr_left fun _ => ?_
  omega

theorem withinRoot_rsqrt {n x : Nat} (hn : 1 ≤ n) (h : x < 2 ^ 97 * 2 ^ 97) : withinRoot n x (rsqrt x) = true := by
  obtain ⟨h1, h2⟩ := rsqrt_near h
  have hr1 := Nat.sqrt_le x
  have hr2 := Nat.lt_succ_sqrt x
  rw [withinRoot_iff]
  refine ⟨?_, by omega, ?_⟩
  · rcases le_or_gt (rsqrt x) n with hk | hk
    · exact .inl (by omega)
    · refine .inr ?_
      have : (rsqrt x - n) * (rsqrt x - n) ≤ x := (Nat.mul_self_le_mul_self (by omega)).trans hr1
      rw [← Nat.cast_sub hk.le, pow_two]
      exact_mod_cast this
  · have : x ≤ (rsqrt x + n) * (rsqrt x + n) := hr2.le.trans (Nat.mul_self_le_mul_self (by omega))
    rw [pow_two]
    exact_mod_cast this

/-- A root that the format holds stays as near when the result saturates. -/
theorem RootNear.satQ29 {n : Nat} {x k : Int} (hn : (n : Int) ≤ 2) (hx : x ≤ (2 ^ 31 - 1) ^ 2) (h : RootNear n x k) :
    RootNear n x (max (-(2 ^ 31)) (min (2 ^ 31 - 1) k)) := by
  obtain ⟨h1, h2, h3⟩ := h
  rcases lt_or_ge (2 ^ 31 - 1) k with hk | hk
  · rw [min_eq_left hk.le, max_eq_right (by decide)]
    refine ⟨.inr ?_, by omega, ?_⟩
    · have h1 := h1.resolve_left (by omega)
      exact (pow_le_pow_left₀ (by omega) (by omega) 2).trans h1
    · exact hx.trans (pow_le_pow_left₀ (by decide) (by omega) 2)
  · rw [min_eq_right hk, max_eq_right (by omega)]
    exact ⟨h1, h2, h3⟩

/-- A root of XU2: within `n` steps, whatever the free distance (log entry 9). -/
theorem rootNear_result {n x : Nat} (hn1 : 1 ≤ n) (hn2 : n ≤ 2) (hx : (x : Int) ≤ (2 ^ 31 - 1) ^ 2) (e : Int) :
    RootNear n x (toQ29 (nearInt (withinRoot n x) (rsqrt x) e)).toInt := by
  rw [toQ29_toInt]
  have hlt : x < 2 ^ 97 * 2 ^ 97 := by omega
  exact RootNear.satQ29 (by omega) hx (withinRoot_iff.1 (nearInt_ok e (withinRoot_rsqrt hn1 hlt)))

/-! ### The results of the table -/

theorem toInt_eq_toNat_of_nonneg {a : Word} (h : 0 ≤ a.toInt) : a.toInt = a.toNat := by
  have := a.toInt_eq_toNat_cond
  have := a.isLt
  split at * <;> omega

/-- SQRT of an operand that is not negative. -/
theorem xuSqrt_near {a : Word} (h : 0 ≤ a.toInt) :
    (xuSqrt a).2 = false ∧ RootNear 1 (a.toInt * 2 ^ 29) (xuSqrt a).1.toInt := by
  have ha : a.toInt * 2 ^ 29 = ((a.toNat * 2 ^ 29 : Nat) : Int) := by
    rw [toInt_eq_toNat_of_nonneg h]
    norm_cast
  have hlt := a.isLt
  rw [xuSqrt, if_neg (Int.not_lt.2 h), ha]
  exact ⟨rfl, rootNear_result le_rfl (by decide) (by omega) _⟩

theorem ne_zero_of_toInt {a : Word} (h : a.toInt ≠ 0) : a ≠ 0 := fun h0 => h (h0 ▸ BitVec.toInt_zero)

/-- RECIP of a positive operand too small for the format. -/
theorem xuRecip_small {a : Word} (h : 0 < a.toInt) (hs : (2 ^ 31 - 1) * a.toInt < 2 ^ 58) :
    xuRecip a = (0x7FFFFFFF, true) := by
  simp only [xuRecip, if_neg (ne_zero_of_toInt h.ne'), if_pos h, if_pos hs]

/-- RECIP of a negative one. -/
theorem xuRecip_smallNeg {a : Word} (h : a.toInt < 0) (hs : 2 ^ 31 * -a.toInt < 2 ^ 58) :
    xuRecip a = (0x80000000, true) := by
  simp only [xuRecip, if_neg (ne_zero_of_toInt h.ne), if_neg (Int.not_lt.2 h.le)]
  rw [if_neg (by omega), if_pos (by omega)]

/-- A quotient that is not told as saturated lies within one step, whatever the free distance (log entry 9). -/
theorem quotient_near {n m e : Int} {p : Word × Bool} (hm : 0 < m)
    (hp : p = if (2 ^ 31 - 1) * m < n then (0x7FFFFFFF, true) else if n < -(2 ^ 31) * m then (0x80000000, true)
      else (toQ29 (nearInt (within 1 0 n m) (rdiv n m) e), false)) (h : p.2 = false) :
    (p.1.toInt * m - n).natAbs ≤ m.natAbs := by
  split at hp
  · exact absurd h (by simp [hp])
  · rename_i hhi
    split at hp
    · exact absurd h (by simp [hp])
    · rename_i hlo
      have h := within_iff.1 (nearInt_ok e (within_rdiv (n := 1) (g := 0) (x := n) hm (by omega)))
      rw [hp, toQ29_toInt]
      exact satQ29_quotient hm (Int.not_lt.1 hlo) (Int.not_lt.1 hhi) (by omega)

theorem xuRecip_near {a : Word} (ha : a ≠ 0) (h : (xuRecip a).2 = false) :
    ((xuRecip a).1.toInt * a.toInt - 2 ^ 58).natAbs ≤ a.toInt.natAbs := by
  have h0 : a.toInt ≠ 0 := fun c => ha (BitVec.toInt_inj.1 (c.trans BitVec.toInt_zero.symm))
  rcases lt_or_gt_of_ne h0 with hneg | hpos
  · have := quotient_near (m := -a.toInt) (n := -2 ^ 58) (by omega)
      (by simp only [xuRecip, if_neg ha, if_neg (Int.not_lt.2 hneg.le)]; rfl) h
    rw [Int.mul_neg] at this
    omega
  · exact quotient_near hpos (by simp only [xuRecip, if_neg ha, if_pos hpos]; rfl) h

theorem natAbs_squares (x y : Int) : ((x.natAbs * x.natAbs + y.natAbs * y.natAbs : Nat) : Int) = x ^ 2 + y ^ 2 := by
  rw [Nat.cast_add, Int.natAbs_mul_self, Int.natAbs_mul_self, pow_two, pow_two]

/-- MAG above the format. -/
theorem xuMag_large {a b : Word} (h : (2 ^ 31 - 1) ^ 2 < a.toInt ^ 2 + b.toInt ^ 2) : xuMag a b = (0x7FFFFFFF, true) := by
  rw [← natAbs_squares] at h
  exact if_pos (by omega)

theorem xuMag_near {a b : Word} (h : a.toInt ^ 2 + b.toInt ^ 2 ≤ (2 ^ 31 - 1) ^ 2) :
    (xuMag a b).2 = false ∧ RootNear 2 (a.toInt ^ 2 + b.toInt ^ 2) (xuMag a b).1.toInt := by
  rw [← natAbs_squares] at h ⊢
  rw [xuMag, if_neg (by omega)]
  exact ⟨rfl, rootNear_result (by decide) le_rfl h _⟩

theorem twoPi60_pos : 0 < twoPi60 := by decide

theorem xuAtan2_near {y x : Word} (h : ¬(y = 0 ∧ x = 0)) : (xuAtan2 y x).2 = false ∧
    ∃ k : Int, (xuAtan2 y x).1 = BitVec.ofInt 32 k ∧
      ((k * twoPi60 - atan2Num y.toInt x.toInt).natAbs : Int) ≤ 256 * twoPi60 := by
  rw [xuAtan2, if_neg h]
  have hk := within_iff.1 (nearInt_ok ((Config.atan2Err y x).val - 256) (within_rdiv (n := 256) (g := 2 ^ 42)
    (x := atan2Num y.toInt x.toInt) twoPi60_pos (by decide)))
  refine ⟨rfl, _, rfl, ?_⟩
  have h256 : ((256 : Nat) : Int) = 256 := rfl
  omega

/-- Settles O7: each operation with a true guard, and the bound of each result. -/
theorem trigOperationsComplete : Obligations.TrigOperationsComplete := by
  unfold Obligations.TrigOperationsComplete
  refine ⟨fun s g d a b hg ho => ?_, fun a => ⟨toQ29_nearInt_dist _ _ _, toQ29_nearInt_dist _ _ _⟩, fun a h => if_pos h, rfl,
    rfl, fun a h => ?_, fun a h => ⟨xuRecip_small, xuRecip_smallNeg, xuRecip_near h⟩, fun a b => ⟨xuMag_large, fun h => ?_⟩,
    fun y x h => xuAtan2_near h⟩
  · have ok {i : Instr} {t : State} (hi : isSlotOp i = true) := exec_guarded (t := t) hi ho hg
    have hfit (h : d ≠ 63) : regsFit d 1 = true := by
      revert d
      decide
    exact ⟨fun h => ok rfl (needReg_fits (hfit h) _), ok rfl rfl, ok rfl rfl, ok rfl rfl, ok rfl rfl⟩
  · obtain ⟨h1, h2, h3, h4⟩ := xuSqrt_near h
    exact ⟨h1, h2, h3, h4⟩
  · obtain ⟨h1, h2, h3, h4⟩ := xuMag_near h
    exact ⟨h1, h2, h3, h4⟩

end Sys2Proof.Machine
end
section
/-! SUPPORT. Packets that pass all their checks (11 R342), and the mould packets that start their operations (04 Table 4-5,
R118 to R128; O45). -/

namespace Sys2Proof.Machine

/-! ### Checks 7 to 9 -/

/-- A packet that is taken and that no check of its row refuses acts (11 R342). -/
theorem State.onPacket_passes {s : State} {o : Nat} {p : List Byte} {c : List Byte → State → List (Option Reply)}
    {f : List Byte → State → State} (h : s.takes o p = true) (hc : firstRefusal (c p s.headOff) = none) :
    s.onPacket (isOpc o) (fun p t => t.unless (c p t) (f p)) = f p s.headOff :=
  (State.onPacket_takes h).trans (State.unless_none hc)

/-- One that a check of its row refuses is answered, and nothing else (11 R342, R344). -/
theorem State.onPacket_refused {s : State} {o : Nat} {p : List Byte} {c : List Byte → State → List (Option Reply)}
    {f : List Byte → State → State} {r : Reply} (h : s.takes o p = true) (hc : firstRefusal (c p s.headOff) = some r) :
    s.onPacket (isOpc o) (fun p t => t.unless (c p t) (f p)) = s.headOff.pushReply r :=
  (State.onPacket_takes h).trans (State.unless_some hc)

@[simp] theorem badState_false (p : List Byte) : badState p false = none := rfl

theorem State.headOff_lock0Busy {s : State} (p : List Byte) (h : s.lock0Free = true) : s.headOff.lock0Busy p = none := by
  have hf : s.headOff.lock0Free = true := h
  rw [State.lock0Busy, hf]
  rfl

theorem State.headOff_actBusy {s : State} (p : List Byte) (h : s.selectOpen = false) : s.headOff.actBusy p = none := by
  have hf : s.headOff.selectOpen = false := h
  rw [State.actBusy, hf]
  rfl

/-! ### The mould packets -/

section
variable {s : State} {p : List Byte}

theorem exec_mouldBegin_takes (h : s.takes 0x0401 p = true) (h1 : 1 ≤ pPar p 0 4) (h2 : pPar p 0 4 ≤ 524288) :
    exec .mouldBegin s = .next (({ s.headOff with
      moulds := { s.headOff.moulds with stageLen := some (pPar p 0 4), stageok := false }
      mgmt := { s.headOff.mgmt with bg := s.headOff.mgmt.bg.map fun (x : Bg) => ({ x with op := x.op.begun } : Bg) } } :
        State).pushReply (accept p [])) := by
  refine congrArg Host.Outcome.next (State.onPacket_passes h ?_)
  simp [Nat.not_lt.2 h1, Nat.not_lt.2 h2]

theorem exec_mouldCheck_takes (h : s.takes 0x0403 p = true) (hl : s.moulds.stageLen.isSome = true)
    (h0 : s.lock0Free = true) (hb : s.bgFree = true) :
    exec .mouldCheck s = .next ((s.headOff.lock0Set 1).startBg p (.mouldCheck s.headOff.staged false)) := by
  refine congrArg Host.Outcome.next (State.onPacket_passes h ?_)
  simp [Option.isNone_eq_false_iff.2 hl, State.headOff_lock0Busy p h0, hb]

theorem exec_mouldCommit_takes (h : s.takes 0x0404 p = true) (hk : s.moulds.stageok = true) (ha : s.selectOpen = false)
    (h0 : s.lock0Free = true) (hb : s.bgFree = true) :
    exec .mouldCommit s = .next ((s.headOff.lock0Set 1).startBg p (.mouldCommit s.headOff.staged)) := by
  refine congrArg Host.Outcome.next (State.onPacket_passes h ?_)
  simp [hk, State.headOff_actBusy p ha, State.headOff_lock0Busy p h0, hb]

/-- MOULD_STORE of the staged image reads the staging window, and takes LOCK0 (R119). -/
theorem exec_mouldStore_staging (h : s.takes 0x0406 p = true) (hd : pPar p 1 1 ≤ 3) (hb : s.bgFree = true)
    (hs : pPar p 0 1 = 0) (hk : s.moulds.stageok = true) (h0 : s.lock0Free = true) :
    exec .mouldStore s = .next ((s.headOff.lock0Set 1).startBg p (.mouldStore 0 (pPar p 1 1) s.headOff.staged)) := by
  refine (congrArg Host.Outcome.next (State.onPacket_passes h ?_)).trans ?_
  · simp [hs, hk, Nat.not_lt.2 hd, State.headOff_lock0Busy p h0, hb]
  · simp [hs, State.storeSource]

/-- MOULD_STORE of the inactive slot leaves LOCK0 alone; no activation may be open (R121). -/
theorem exec_mouldStore_inactive (h : s.takes 0x0406 p = true) (hd : pPar p 1 1 ≤ 3) (hb : s.bgFree = true)
    (hs : pPar p 0 1 = 1) (hk : s.moulds.inactok = true) (ha : s.selectOpen = false) :
    exec .mouldStore s =
      .next (s.headOff.startBg p (.mouldStore 1 (pPar p 1 1) (s.headOff.inactImage.getD (.raw 0 [])))) := by
  refine (congrArg Host.Outcome.next (State.onPacket_passes h ?_)).trans ?_
  · simp [hs, hk, Nat.not_lt.2 hd, State.headOff_actBusy p ha, hb]
  · simp [hs, State.storeSource]

/-- A deactivation with no mould active is over at once (R128). -/
theorem exec_mouldSelect_none (h : s.takes 0x0405 p = true) (hs : pPar p 0 1 = 0xFF) (hd : s.allDisabled = true)
    (hm : s.moulds.active = none) (ha : s.selectOpen = false) :
    exec .mouldSelect s = .next (s.headOff.pushReply (accept p (leBytes 8 s.tick.heat.toNat ++ [0, 0, 0, 0]))) := by
  have hbad : s.headOff.selectBad 0xFF = false := (congrArg not hd :)
  refine (congrArg Host.Outcome.next (State.onPacket_passes h ?_)).trans ?_
  · simp [hs, hbad, srcNvm, State.headOff_actBusy p ha]
  · simp [hs, hm, State.selectGo]

theorem srcNvm_ne {src : Nat} (h : srcNvm src = true) : src ≠ 0 ∧ src ≠ 0xFF := by
  simp only [srcNvm, Bool.or_eq_true, decide_eq_true_eq] at h
  omega

/-- The image of an NVM source is copied into the inactive slot in the background. -/
theorem exec_mouldSelect_nvm (h : s.takes 0x0405 p = true) (hs : srcNvm (pPar p 0 1) = true)
    (hok : s.headOff.selectBad (pPar p 0 1) = false) (ha : s.selectOpen = false) (hb : s.bgFree = true) :
    exec .mouldSelect s = .next (s.headOff.startBg p (.selectCopy (pPar p 0 1) false)) := by
  obtain ⟨h0, hff⟩ := srcNvm_ne hs
  refine (congrArg Host.Outcome.next (State.onPacket_passes h ?_)).trans ?_
  · simp [hs, hok, State.headOff_actBusy p ha, hb]
  · simp [State.selectGo, h0, hff]

end

/-- Settles O45: each packet by the row that takes it. -/
theorem mouldPacketsStart : Obligations.MouldPacketsStart := by
  unfold Obligations.MouldPacketsStart
  intro s p u
  exact ⟨exec_mouldBegin_takes, exec_mouldCheck_takes, exec_mouldCommit_takes,
    fun h hd hb => ⟨exec_mouldStore_staging h hd hb, exec_mouldStore_inactive h hd hb⟩,
    fun h => ⟨exec_mouldSelect_none h, exec_mouldSelect_nvm h⟩⟩

end Sys2Proof.Machine
end
section
/-! SUPPORT. How the operations on mould images end (04 R113, R115, R119, R122, R129; O46). -/

namespace Sys2Proof.Machine

/-! ### The parts an end changes -/

theorem State.pushReserved_frame (s : State) (r : Reply) : Frame [.mgmt] s (s.pushReserved r) := .of_mgmt s _

theorem Frame.of_mgmt_moulds (s : State) (g : Mgmt) (m : Moulds) :
    Frame [.mgmt, .moulds] s { s with mgmt := g, moulds := m } := fun p hp => by
  cases p with
  | mgmt => exact absurd (by decide) hp
  | moulds => exact absurd (by decide) hp
  | _ => rfl

/-- An operation that held LOCK0 for MGMT releases it (R119) and answers by its reserved outlet entry (11 R344). -/
def State.released (s : State) (y : Reply) : State := s.lock0Release.pushReserved y

theorem State.released_spec (s : State) (y : Reply) :
    (s.released y).mgmt = { s.mgmt with outlet := s.mgmt.outlet ++ [y], reserved := s.mgmt.reserved - 1 } ∧
    (s.released y).moulds = s.moulds ∧ (s.released y).pour = s.pour ∧ Frame [.mgmt, .locks] s (s.released y) := by
  unfold State.released State.lock0Release
  split
  all_goals
    refine ⟨rfl, rfl, rfl, fun p hp => ?_⟩
    cases p with
    | mgmt => exact absurd (by decide) hp
    | locks => exact absurd (by decide) hp
    | _ => rfl

/-- The write of the inactive slot, with its mark. -/
theorem State.setInact_spec (s : State) (i : Option Image) (ok : Bool) : Frame [.moulds, .pour] s (s.setInact i ok) ∧
    (s.setInact i ok).inactImage = i ∧ (s.setInact i ok).moulds.inactok = ok ∧
    (s.setInact i ok).moulds.active = s.moulds.active := by
  unfold State.setInact State.inactImage
  split
  all_goals
    refine ⟨fun p hp => ?_, by simp [*], rfl, rfl⟩
    cases p with
    | moulds => exact absurd (by decide) hp
    | pour => exact absurd (by decide) hp
    | _ => rfl

/-! ### MOULD_CHECK (R113, R115) -/

/-- LASTFAIL of a check's result. -/
def failCode (r : Option CkFail) : Nat := match r with | none => 0 | some f => f.code

/-- The state after a check with result `r`. -/
def State.checkEnded (s : State) (r : Option CkFail) (stageok : Bool) (reply : Reply) : State :=
  ({ s.bgEnd with moulds := { s.moulds with lastfail := BitVec.ofNat 8 (failCode r), stageok := stageok } } :
    State).released reply

theorem State.checkEnded_spec (s : State) (r : Option CkFail) (k : Bool) (y : Reply) :
    (s.checkEnded r k y).moulds = { s.moulds with lastfail := BitVec.ofNat 8 (failCode r), stageok := k } ∧
    (s.checkEnded r k y).mgmt.bg = none ∧ (s.checkEnded r k y).mgmt.outlet = s.mgmt.outlet ++ [y] ∧
    Frame [.mgmt, .moulds, .locks] s (s.checkEnded r k y) := by
  obtain ⟨hg, hm, -, hf⟩ := State.released_spec { s.bgEnd with
    moulds := { s.moulds with lastfail := BitVec.ofNat 8 (failCode r), stageok := k } } y
  exact ⟨hm, (congrArg Mgmt.bg hg :), (congrArg Mgmt.outlet hg :),
    ((Frame.of_mgmt_moulds s _ _).mono (by decide)).trans (hf.mono (by decide))⟩

section
variable {s : State} {o : Nat} {q : Word} {i : Image} {f : CkFail} {stale : Bool}

/-- A check that finds nothing sets STAGEOK, unless a MOULD_BEGIN has come since it began. -/
theorem exec_mouldCheckDone_passes (h : s.mgmt.bg = some ⟨.mouldCheck i stale, o, q⟩) (hc : i.check s.lc s.run = none) :
    exec .mouldCheckDone s =
      .next (s.checkEnded none (s.moulds.stageok || !stale) (okReply o q (checkData none))) := by
  have hc' : i.check s.bgEnd.lc s.bgEnd.run = none := hc
  refine congrArg Host.Outcome.next ((State.onBg_some h rfl).trans ?_)
  simp only [BgOp.checks, hc']
  rfl

theorem exec_mouldCheckDone_fails (h : s.mgmt.bg = some ⟨.mouldCheck i stale, o, q⟩)
    (hc : i.check s.lc s.run = some f) : exec .mouldCheckDone s = .next (s.checkEnded (some f) s.moulds.stageok
      { opc := o, status := failStatus f.code, disp := 8, seq := q, jidx := 0xFFFF, data := checkData (some f) }) := by
  have hc' : i.check s.bgEnd.lc s.bgEnd.run = some f := hc
  refine congrArg Host.Outcome.next ((State.onBg_some h rfl).trans ?_)
  simp only [BgOp.checks, hc', Option.isNone_some, Bool.false_and, Bool.or_false]
  rfl

end

/-! ### MOULD_COMMIT (R119, R122) -/

/-- The state after a commit that writes the inactive slot. -/
def State.commitEnded (s : State) (i : Option Image) (ok : Bool) (reply : Reply) : State :=
  (s.bgEnd.setInact i ok).released reply

theorem State.commitEnded_spec (s : State) (i : Option Image) (ok : Bool) (y : Reply) :
    (s.commitEnded i ok y).inactImage = i ∧ (s.commitEnded i ok y).moulds.inactok = ok ∧
    (s.commitEnded i ok y).mgmt.outlet = s.mgmt.outlet ++ [y] ∧
    Frame [.mgmt, .moulds, .locks, .pour] s (s.commitEnded i ok y) := by
  obtain ⟨hf, hi, hk, -⟩ := s.bgEnd.setInact_spec i ok
  obtain ⟨rg, rm, rp, rf⟩ := (s.bgEnd.setInact i ok).released_spec y
  have hslot : (s.commitEnded i ok y).inactImage = (s.bgEnd.setInact i ok).inactImage := by
    rw [State.commitEnded, State.inactImage, rm, rp, State.inactImage]
  have hout : (s.bgEnd.setInact i ok).mgmt.outlet = s.mgmt.outlet := (congrArg Mgmt.outlet (hf.mgmt_eq (by decide)) :)
  have hb : Frame [.mgmt] s s.bgEnd := .of_mgmt s _
  exact ⟨hslot.trans hi, (congrArg Moulds.inactok rm).trans hk,
    (congrArg Mgmt.outlet rg).trans (congrArg (· ++ [y]) hout),
    ((hb.mono (by decide)).trans (hf.mono (by decide))).trans (rf.mono (by decide))⟩

/-! ### MOULD_STORE (R119, R122) -/

/-- The state after a store that writes a customer slot; LOCK0 is released where the staging window was its source. -/
def State.storeEnded (s : State) (src dst : Nat) (i : Image) (ok : Bool) (reply : Reply) : State :=
  let u : State := { s.bgEnd with moulds := { s.moulds with cust := s.moulds.cust.set (axOf dst) (some i, ok) } }
  (if decide (src = 0) then u.lock0Release else u).pushReserved reply

theorem State.storeEnded_spec (s : State) (src dst : Nat) (i : Image) (ok : Bool) (y : Reply) :
    (s.storeEnded src dst i ok y).moulds.cust.get (axOf dst) = (some i, ok) ∧
    (s.storeEnded src dst i ok y).mgmt.outlet = s.mgmt.outlet ++ [y] ∧
    Frame [.mgmt, .moulds, .locks] s (s.storeEnded src dst i ok y) := by
  have hcust := Four.get_set_same s.moulds.cust (axOf dst) (some i, ok)
  have hu := (Frame.of_mgmt_moulds s s.bgEnd.mgmt
    { s.moulds with cust := s.moulds.cust.set (axOf dst) (some i, ok) }).mono (qs := [.mgmt, .moulds, .locks]) (by decide)
  unfold State.storeEnded
  dsimp only
  split
  · obtain ⟨rg, rm, -, rf⟩ := State.released_spec { s.bgEnd with
      moulds := { s.moulds with cust := s.moulds.cust.set (axOf dst) (some i, ok) } } y
    exact ⟨(congrArg (fun m : Moulds => m.cust.get (axOf dst)) rm).trans hcust, (congrArg Mgmt.outlet rg :),
      hu.trans (rf.mono (by decide))⟩
  · exact ⟨hcust, rfl, hu.trans ((State.pushReserved_frame _ y).mono (by decide))⟩

section
variable {s : State} {o : Nat} {q : Word} {i : Image} {src dst : Nat}

theorem exec_mouldCommitDone_verified (h : s.mgmt.bg = some ⟨.mouldCommit i, o, q⟩) (hc : i.crcOk = true) :
    exec (.mouldCommitDone true) s = .next (s.commitEnded (some i) true (okReply o q [])) := by
  refine congrArg Host.Outcome.next ((State.onBg_some h rfl).trans ?_)
  simp only [BgOp.commits, hc]
  rfl

/-- A copy that does not verify leaves no image in the inactive slot. -/
theorem exec_mouldCommitDone_bad (h : s.mgmt.bg = some ⟨.mouldCommit i, o, q⟩) :
    exec (.mouldCommitDone false) s = .next (s.commitEnded none false (refusal o q stMouldInvalid 0 0xFFFF)) :=
  congrArg Host.Outcome.next (State.onBg_some h rfl)

theorem exec_mouldStoreDone_verified (h : s.mgmt.bg = some ⟨.mouldStore src dst i, o, q⟩) (hc : i.crcOk = true) :
    exec (.mouldStoreDone true) s = .next (s.storeEnded src dst i true (okReply o q [])) := by
  refine congrArg Host.Outcome.next ((State.onBg_some h rfl).trans ?_)
  simp only [BgOp.stores, hc]
  rfl

/-- A slot that does not verify is marked invalid. -/
theorem exec_mouldStoreDone_bad (h : s.mgmt.bg = some ⟨.mouldStore src dst i, o, q⟩) :
    exec (.mouldStoreDone false) s = .next (s.storeEnded src dst i false (refusal o q stMouldInvalid 0 0xFFFF)) :=
  congrArg Host.Outcome.next (State.onBg_some h rfl)

end

/-! ### MOULD_SELECT of an NVM source (R115, R591) -/

/-- The state with the inactive slot written by the copy, and the result of its check. -/
def State.copied (s : State) (i : Option Image) (ok : Bool) (code : Nat) : State :=
  let u := s.bgEnd.setInact i ok
  { u with moulds := { u.moulds with lastfail := BitVec.ofNat 8 code } }

theorem State.copied_spec (s : State) (i : Option Image) (ok : Bool) (code : Nat) :
    Frame [.mgmt, .moulds, .pour] s (s.copied i ok code) ∧ (s.copied i ok code).mgmt = s.bgEnd.mgmt ∧
    (s.copied i ok code).moulds.active = s.moulds.active ∧ (s.copied i ok code).moulds.inactok = ok := by
  obtain ⟨hf, -, hk, ha⟩ := s.bgEnd.setInact_spec i ok
  have hb : Frame [.mgmt] s s.bgEnd := .of_mgmt s _
  have hl := Frame.of_mgmt_moulds (s.bgEnd.setInact i ok) (s.bgEnd.setInact i ok).mgmt (s.copied i ok code).moulds
  exact ⟨((hb.mono (by decide)).trans (hf.mono (by decide))).trans (hl.mono (by decide)), hf.mgmt_eq (by decide), ha, hk⟩

/-- Whether a mould may be activated is read off the active mould and the axes (R126). -/
theorem State.activatable_congr {s t : State} (hm : t.moulds.active = s.moulds.active) (hx : t.ax = s.ax)
    (m : MouldInfo) : t.activatable m = s.activatable m := by
  have ha : t.axis = s.axis := funext fun n => congrArg (fun x : Four Axis => x.get n) hx
  unfold State.activatable State.liveOk State.allDisabled
  rw [hm, ha]

theorem State.beginActivation_frame (s : State) (m : Option MouldInfo) (q : Word) (boot : Bool) :
    Frame [.moulds] s (s.beginActivation m q boot) := fun p hp => by
  cases p with
  | moulds => exact absurd (List.mem_singleton.2 rfl) hp
  | _ => rfl

section
variable {s : State} {o src : Nat} {q : Word} {f : CkFail}

theorem exec_mouldSelectCopyDone_fails (h : s.mgmt.bg = some ⟨.selectCopy src false, o, q⟩)
    (hc : (s.nvmImage src).check s.lc s.run = some f) : exec .mouldSelectCopyDone s =
      .next ((s.copied none false f.code).pushReserved (refusal o q (failStatus f.code) 0 0xFFFF)) := by
  have hc' : (s.bgEnd.nvmImage src).check s.bgEnd.lc s.bgEnd.run = some f := hc
  refine congrArg Host.Outcome.next ((State.onBg_some h rfl).trans ?_)
  simp only [hc']
  rfl

/-- A copy that passes is activated where R427 and R126 let it. -/
theorem exec_mouldSelectCopyDone_passes (h : s.mgmt.bg = some ⟨.selectCopy src false, o, q⟩)
    (hc : (s.nvmImage src).check s.lc s.run = none) (hr : (s.nvmImage src).info.runOk s.run = true)
    (ha : s.activatable (s.nvmImage src).info = true) : exec .mouldSelectCopyDone s =
      .next ((s.copied (some (s.nvmImage src)) true 0).beginActivation (some (s.nvmImage src).info) q false) := by
  have hc' : (s.bgEnd.nvmImage src).check s.bgEnd.lc s.bgEnd.run = none := hc
  obtain ⟨hf, -, hm, -⟩ := s.copied_spec (some (s.nvmImage src)) true 0
  have hr' : (s.nvmImage src).info.runOk (s.copied (some (s.nvmImage src)) true 0).run = true :=
    (congrArg _ (hf .run (by decide)).symm).trans hr
  have ha' := (State.activatable_congr hm (hf .ax (by decide)).symm (s.nvmImage src).info).trans ha
  have hgo : (s.copied (some (s.nvmImage src)) true 0).resolve (s.nvmImage src).info q false =
      (s.copied (some (s.nvmImage src)) true 0).beginActivation (some (s.nvmImage src).info) q false := by
    simp only [State.resolve, hr', ha', Bool.not_true, Bool.false_eq_true, if_false]
  refine congrArg Host.Outcome.next ((State.onBg_some h rfl).trans (Eq.trans ?_ hgo))
  simp only [hc']
  rfl

end

/-! ### The load of a live swap (R129) -/

/-- A live activation is not armed yet, its load has run for a tick, and what is left fits into this one. -/
theorem exec_liveLoadComplete_arms {s : State} {m old : MouldInfo} {q : Word} {un k : Nat} {h : BitVec 64} {b : Bool}
    (hp : s.moulds.pend = some ⟨.live, some m, 0, q, un, h, k, b⟩) (ha : s.moulds.active = some old) (hk : 1 ≤ k)
    (hl : s.moulds.loadleft ≤ old.loadRate) : exec .liveLoadComplete s = .next { s with
      pour := s.pour.load m s.moulds.active false
      moulds := { s.moulds with pend := some ⟨.live, some m, 1, q, un, h, k, b⟩, swap := 3, loadleft := 0 } } := by
  change execLiveLoadComplete s = _
  simp only [execLiveLoadComplete, hp, ha, hk, hl, and_self, if_true]

/-- Settles O46: each end by the operation that ran and its verdict. -/
theorem mouldOperationsEnd : Obligations.MouldOperationsEnd := by
  unfold Obligations.MouldOperationsEnd
  intro s o q dst src i f stale
  refine ⟨fun h => ⟨fun hc => ?_, fun hc => ?_⟩, fun h => ⟨fun hc => ?_, ?_⟩, fun h => ⟨fun hc => ?_, ?_⟩,
    fun h => ⟨fun hc => ?_, fun hc hr ha => ?_⟩, fun m old un k h b => exec_liveLoadComplete_arms⟩
  · obtain ⟨hm, hb, ho, hf⟩ := s.checkEnded_spec none (s.moulds.stageok || !stale) (okReply o q (checkData none))
    exact ⟨_, exec_mouldCheckDone_passes h hc, congrArg Moulds.stageok hm, congrArg Moulds.lastfail hm, hb, ho, hf⟩
  · obtain ⟨hm, hb, -, hf⟩ := s.checkEnded_spec (some f) s.moulds.stageok _
    exact ⟨_, exec_mouldCheckDone_fails h hc, (congrArg Moulds.stageok hm :), congrArg Moulds.lastfail hm, hb,
      (congrArg Moulds.active hm :), hf⟩
  · exact ⟨_, exec_mouldCommitDone_verified h hc, s.commitEnded_spec _ _ _⟩
  · exact ⟨_, exec_mouldCommitDone_bad h, (s.commitEnded_spec _ _ _).2⟩
  · exact ⟨_, exec_mouldStoreDone_verified h hc, s.storeEnded_spec src dst i _ _⟩
  · obtain ⟨hcust, -, hf⟩ := s.storeEnded_spec src dst i false (refusal o q stMouldInvalid 0 0xFFFF)
    exact ⟨_, exec_mouldStoreDone_bad h, congrArg Prod.snd hcust, hf⟩
  · obtain ⟨hf, hg, ha, hk⟩ := s.copied_spec none false f.code
    exact ⟨_, exec_mouldSelectCopyDone_fails h hc, hk, rfl, congrArg Mgmt.bg hg, ha,
      (congrArg (fun g : Mgmt => g.outlet ++ [refusal o q (failStatus f.code) 0 0xFFFF]) hg :),
      hf.trans ((State.pushReserved_frame _ _).mono (by decide))⟩
  · obtain ⟨hf, hg, -, hk⟩ := s.copied_spec (some (s.nvmImage src)) true 0
    exact ⟨_, exec_mouldSelectCopyDone_passes h hc hr ha, hk, rfl, rfl, congrArg Mgmt.bg hg, (congrArg Mgmt.outlet hg :),
      hf.trans ((State.beginActivation_frame _ _ _ _).mono (by decide))⟩

end Sys2Proof.Machine
end
section
/-! SUPPORT. SET_PARAM of one and of several entries, and STORE_CONFIG (04 R109; 06 R587; 11 R367; 12 R371; O42). -/

namespace Sys2Proof.Machine

/-! ### Tables and folds -/

/-- A value other than the unlisted one reads back from every table, canonical or not. -/
theorem Sparse.get_put_listed {α : Type} [DecidableEq α] {d x : α} (hx : x ≠ d) (k : Nat) (m : Sparse α) :
    Sparse.get d k (Sparse.put d k x m) = x := by
  induction m with
  | nil => simp [Sparse.put, Sparse.get, hx]
  | cons e t ih =>
    simp only [Sparse.put, if_neg hx]
    split
    · simp [Sparse.get]
    · split
      · simp [Sparse.get]
      · rename_i hlt hne
        simp only [Sparse.get, if_neg (Ne.symm hne), if_neg hlt, ih]

/-- What a fold leaves where each step either writes or keeps: the last step that writes decides. -/
theorem foldl_last {σ ι β : Type} {f : σ → ι → σ} {get : σ → β} {key : ι → Bool} {val : ι → β} {P : σ → Prop}
    {l : List ι} {s : σ} (hs : P s) (hP : ∀ t, ∀ x ∈ l, P t → P (f t x))
    (hf : ∀ t, ∀ x ∈ l, P t → get (f t x) = if key x then val x else get t) :
    get (l.foldl f s) = ((l.reverse.find? key).map val).getD (get s) := by
  induction l generalizing s with
  | nil => rfl
  | cons x xs ih =>
    have ih := ih (hP s x List.mem_cons_self hs) (fun t y hy => hP t y (List.mem_cons_of_mem _ hy))
      fun t y hy => hf t y (List.mem_cons_of_mem _ hy)
    rw [List.foldl_cons, ih, hf s x List.mem_cons_self hs, List.reverse_cons, List.find?_append]
    cases xs.reverse.find? key with
    | some y => rfl
    | none => cases hk : key x <;> simp [hk]

/-! ### IDs of POSCLOSED and POSOPEN (06 R587) -/

theorem posId_iff {id : Nat} {n : Fin 4} {o : Bool} :
    posId id = some (n, o) ↔ id = 0x1000 * (n.val + 1) + 0x080 + o.toNat := by
  have hn := n.isLt
  have hax (h : 1 ≤ id / 0x1000 ∧ id / 0x1000 ≤ 4) :
      (⟨(id / 0x1000 - 1) % 4, Nat.mod_lt _ (by decide)⟩ : Fin 4) = n ↔ id / 0x1000 = n.val + 1 := by
    rw [Fin.ext_iff]
    change (id / 0x1000 - 1) % 4 = n.val ↔ _
    omega
  simp only [posId]
  split
  · rename_i h
    split
    · simp only [Option.some.injEq, Prod.mk.injEq, hax h]
      cases o <;> simp <;> omega
    · split
      · simp only [Option.some.injEq, Prod.mk.injEq, hax h]
        cases o <;> simp <;> omega
      · cases o <;> simp <;> omega
  · cases o <;> simp <;> omega

/-- POSCLOSED or POSOPEN of a pair. -/
def Travel.side (t : Travel) (o : Bool) : Word := if o then t.opened else t.closed

/-- The ID's value goes into the travel store: it is POSCLOSED or POSOPEN, and a standard mould is active. -/
def State.inTravel (s : State) (id : Nat) : Bool := (posId id).isSome && s.stdK.isSome

/-- An ID that SET_PARAM knows, and does not take for a pair entry, is not one of the travel store. -/
theorem State.inTravel_eq_false {s : State} {id : Nat} (hu : s.setKind id ≠ .unknown) (hp : ∀ n, s.setKind id ≠ .pos n) :
    s.inTravel id = false := by
  by_contra hc
  simp only [State.inTravel, Bool.not_eq_false, Bool.and_eq_true, Option.isSome_iff_exists, State.stdK,
    Option.bind_eq_some_iff] at hc
  obtain ⟨⟨⟨n, o⟩, hid⟩, k, m, hm, hk⟩ := hc
  have hlt : id = 0x1000 * (n.val + 1) + 0x080 + o.toNat := posId_iff.1 hid
  have ho := o.toNat_le
  have hsys : isSysPar id = false := by simp only [isSysPar, Bool.and_eq_false_iff, decide_eq_false_iff_not]; omega
  have hevp : isEvpour id = false := by simp only [isEvpour, Bool.and_eq_false_iff, decide_eq_false_iff_not]; omega
  cases he : m.ent id with
  | none => exact hu (by simp [State.setKind, hsys, hevp, hm, he])
  | some e => exact hp n (by simp [State.setKind, hsys, hevp, hm, he, hid, hk])

/-! ### One value -/

theorem Frame.of_mgmt_std (s : State) (g : Mgmt) (d : StdSt) : Frame [.mgmt, .std] s { s with mgmt := g, std := d } :=
  fun p hp => by
    cases p with
    | mgmt => exact absurd (by decide) hp
    | std => exact absurd (by decide) hp
    | _ => rfl

/-- What a value that takes effect leaves: it writes MGMT's parameters and travels, and the mould's copies of PROFOK. -/
structure State.ParKept (s t : State) : Prop where
  frame : Frame [.mgmt, .std] s t
  outlet : t.mgmt.outlet = s.mgmt.outlet
  stored : t.mgmt.stored = s.mgmt.stored
  jobs : t.mgmt.jobs = s.mgmt.jobs

theorem State.ParKept.refl (s : State) : s.ParKept s := ⟨.refl _ s, rfl, rfl, rfl⟩

theorem State.ParKept.trans {s t u : State} (h : s.ParKept t) (k : t.ParKept u) : s.ParKept u :=
  ⟨h.frame.trans k.frame, k.outlet.trans h.outlet, k.stored.trans h.stored, k.jobs.trans h.jobs⟩

theorem State.ParKept.stdK {s t : State} (h : s.ParKept t) : t.stdK = s.stdK := by
  rw [State.stdK, h.frame.moulds_eq (by decide), State.stdK]

theorem State.setPos_parKept (s : State) (n : Fin 4) (o : Bool) (v : Word) : s.ParKept (s.setPos n o v false) :=
  ⟨.of_mgmt_std s _ _, rfl, rfl, rfl⟩

theorem State.setPar_parKept (s : State) (e : Nat × Word) : s.ParKept (s.setPar false e) :=
  ⟨.of_mgmt_std s _ s.std, rfl, rfl, rfl⟩

theorem State.applyPar_parKept (s : State) (e : Nat × Word) : s.ParKept (s.applyPar false e) := by
  unfold State.applyPar
  split
  · split
    · exact s.setPos_parKept _ _ _
    · exact s.setPar_parKept e
  · exact (s.setPos_parKept _ _ _).trans (State.setPar_parKept _ e)
  · exact s.setPar_parKept e

theorem State.applyPar_plain {s : State} {e : Nat × Word} (h : posId e.1 = none) :
    s.applyPar false e = s.setPar false e := by simp only [State.applyPar, h]

/-- With a standard mould active POSCLOSED and POSOPEN go into the travel store. -/
theorem State.applyPar_travel {s : State} {e : Nat × Word} {n : Fin 4} {o : Bool} (h : posId e.1 = some (n, o))
    (hk : s.stdK.isSome = true) : s.applyPar false e = s.setPos n o e.2 false := by
  simp only [State.stdK, Option.isSome_iff_exists, Option.bind_eq_some_iff] at hk
  obtain ⟨k, m, hm, hk⟩ := hk
  simp only [State.applyPar, h, hm, hk, Option.isSome_some, if_true]

/-- Every other value goes into MGMT's table. -/
theorem State.applyPar_par (s : State) (e : Nat × Word) : (s.applyPar false e).mgmt.par =
    if s.inTravel e.1 then s.mgmt.par else Sparse.put none e.1 (some e.2) s.mgmt.par := by
  unfold State.applyPar State.inTravel State.stdK
  split
  · rename_i hid hm
    simp only [hid, hm, Option.isSome_some, Option.bind_some, Bool.true_and]
    split <;> rfl
  · rename_i hid hm
    simp only [hm, Option.bind_none, Option.isSome_none, Bool.and_false, Bool.false_eq_true, if_false]
    rfl
  · rename_i hid
    simp only [hid, Option.isSome_none, Bool.false_and, Bool.false_eq_true, if_false]
    rfl

theorem State.setPos_side (s : State) (n k : Fin 4) (o b : Bool) (v : Word) :
    ((s.setPos n o v false).mgmt.travel.get k).side b =
      if n = k ∧ o = b then v else (s.mgmt.travel.get k).side b := by
  by_cases hn : n = k
  · subst hn
    have ht := Four.get_set_same s.mgmt.travel n
    cases o <;> cases b <;> simp [State.setPos, Travel.side]
  · have ht : (s.setPos n o v false).mgmt.travel.get k = s.mgmt.travel.get k := Four.get_set_ne _ _ (Ne.symm hn)
    rw [ht, if_neg fun c => hn c.1]

/-- The travel of an axis after one value, with a standard mould active: POSCLOSED and POSOPEN each by their own ID. -/
theorem State.applyPar_side {s : State} (hk : s.stdK.isSome = true) (e : Nat × Word) (n : Fin 4) (o : Bool) :
    ((s.applyPar false e).mgmt.travel.get n).side o =
      if decide (e.1 = 0x1000 * (n.val + 1) + 0x080 + o.toNat) then e.2 else (s.mgmt.travel.get n).side o := by
  simp only [← posId_iff, decide_eq_true_eq]
  cases hid : posId e.1 with
  | none => rw [State.applyPar_plain hid, if_neg (by simp)]; rfl
  | some x =>
    rw [State.applyPar_travel hid hk, State.setPos_side]
    simp only [Option.some.injEq, Prod.ext_iff]

/-- A new pair clears PROFOK of its axis in the mould (06 R587). -/
theorem State.applyPar_profok {s : State} (hk : s.stdK.isSome = true) (e : Nat × Word) (n : Fin 4) :
    ((s.applyPar false e).std.ax.get n).profok =
      if (posId e.1).any (fun x => decide (x.1 = n)) then false else (s.std.ax.get n).profok := by
  cases hid : posId e.1 with
  | none => rw [State.applyPar_plain hid]; rfl
  | some x =>
    rw [State.applyPar_travel hid hk]
    by_cases hn : x.1 = n
    · subst hn
      simp [State.setPos]
    · have hs : (s.setPos x.1 x.2 e.2 false).std.ax.get n = s.std.ax.get n := Four.get_set_ne _ _ (Ne.symm hn)
      rw [hs, Option.any_some, decide_eq_false hn]
      rfl

/-! ### Several values -/

/-- The entries of a packet take effect in order (04 R109). -/
def State.entriesSet (s : State) (l : List (Nat × Nat × Word)) : State := l.foldl (fun t x => t.applyPar false x.2) s

/-- The value of the last entry for an ID. -/
def lastValue (l : List (Nat × Nat × Word)) (i : Nat) : Option Word :=
  (l.reverse.find? fun x => decide (x.2.1 = i)).map fun x => x.2.2

theorem lastValue_eq_none {l : List (Nat × Nat × Word)} {i : Nat} : lastValue l i = none ↔ ∀ x ∈ l, x.2.1 ≠ i := by
  simp [lastValue]

section
variable {s : State} {l : List (Nat × Nat × Word)}

theorem State.entriesSet_parKept (s : State) (l : List (Nat × Nat × Word)) : s.ParKept (s.entriesSet l) :=
  List.foldlRecOn (motive := fun t : State => s.ParKept t) l _ (.refl s) fun t ht x _ => ht.trans (t.applyPar_parKept x.2)

/-- MGMT's table holds the last value of each ID, where none of the ID's entries goes into the travel store. -/
theorem State.entriesSet_par {i : Nat} (hw : Sparse.wf none s.mgmt.par = true)
    (hi : ∀ x ∈ l, x.2.1 = i → s.inTravel i = false) :
    Sparse.get none i (s.entriesSet l).mgmt.par = ((lastValue l i).map some).getD (Sparse.get none i s.mgmt.par) := by
  have htr {t : State} (ht : s.ParKept t) (j : Nat) : t.inTravel j = s.inTravel j := by
    rw [State.inTravel, ht.stdK, State.inTravel]
  rw [lastValue, Option.map_map]
  refine foldl_last (get := fun t : State => Sparse.get none i t.mgmt.par)
    (P := fun t : State => s.ParKept t ∧ Sparse.wf none t.mgmt.par = true) ⟨.refl s, hw⟩
    (fun t x _ ht => ⟨ht.1.trans (t.applyPar_parKept x.2), ?_⟩) fun t x hx ht => ?_
  · rw [State.applyPar_par]
    split
    · exact ht.2
    · exact Sparse.wf_put ht.2
  · rw [State.applyPar_par, htr ht.1]
    by_cases hxi : x.2.1 = i
    · rw [hxi, hi x hx hxi, if_neg Bool.false_ne_true, Sparse.get_put ht.2, if_pos rfl, if_pos (decide_eq_true rfl)]
      rfl
    · rw [if_neg (c := decide (x.2.1 = i) = true) (by simpa using hxi)]
      split
      · rfl
      · rw [Sparse.get_put ht.2, if_neg (Ne.symm hxi)]

/-- The travel store holds the last value of POSCLOSED and of POSOPEN. -/
theorem State.entriesSet_side (hk : s.stdK.isSome = true) (n : Fin 4) (o : Bool) :
    ((s.entriesSet l).mgmt.travel.get n).side o =
      (lastValue l (0x1000 * (n.val + 1) + 0x080 + o.toNat)).getD ((s.mgmt.travel.get n).side o) :=
  foldl_last (get := fun t : State => (t.mgmt.travel.get n).side o) (P := fun t : State => s.ParKept t) (.refl s)
    (fun t x _ ht => ht.trans (t.applyPar_parKept x.2))
    fun _ x _ ht => State.applyPar_side (ht.stdK.symm ▸ hk) x.2 n o

/-- A pair entry among them clears PROFOK of its axis. -/
theorem State.entriesSet_profok (hk : s.stdK.isSome = true) {n : Fin 4} {o : Bool}
    (ho : (lastValue l (0x1000 * (n.val + 1) + 0x080 + o.toNat)).isSome = true) :
    ((s.entriesSet l).std.ax.get n).profok = false := by
  have hlast : ((s.entriesSet l).std.ax.get n).profok = _ :=
    foldl_last (get := fun t : State => (t.std.ax.get n).profok) (P := fun t : State => s.ParKept t) (.refl s)
      (fun t x _ ht => ht.trans (t.applyPar_parKept x.2))
      fun t x _ ht => State.applyPar_profok (ht.stdK.symm ▸ hk) x.2 n
  rw [hlast]
  cases hf : l.reverse.find? fun x => (posId x.2.1).any fun y => decide (y.1 = n) with
  | some x => rfl
  | none =>
    have hnone : lastValue l (0x1000 * (n.val + 1) + 0x080 + o.toNat) = none := lastValue_eq_none.2 fun x hx hid => by
      have hany := List.find?_eq_none.1 hf x (List.mem_reverse.2 hx)
      rw [posId_iff.2 hid] at hany
      simp at hany
    rw [hnone] at ho
    cases ho

end

/-! ### A SET_PARAM that passed its checks -/

/-- The publication of values already written, where none stands (04 R109). -/
def State.published (s : State) : State :=
  match s.moulds.active with
  | some m => if s.exch.pub = Pub.none then s.publishFor m .ordinary else s
  | none => s

theorem State.published_spec (s : State) : Frame [.mgmt, .exch, .evm] s s.published ∧
    (∃ a b, s.published.mgmt = { s.mgmt with pubWanted := a, pubDone := b }) ∧
    (s.moulds.active = none → s.published = s) ∧
    ∀ m, s.moulds.active = some m → s.published.exch.pub = if s.exch.pub = .none then .ordinary else s.exch.pub := by
  unfold State.published
  cases hm : s.moulds.active with
  | none => exact ⟨.refl _ s, ⟨_, _, rfl⟩, fun _ => rfl, fun m h => nomatch h⟩
  | some m =>
    dsimp only
    split
    · obtain ⟨hp, -, -, -, -, -, hf⟩ := s.publishFor_spec m .ordinary
      exact ⟨hf.mono (by decide), ⟨_, _, (s.publishFor_kept m .ordinary).2⟩, (nomatch ·), fun _ _ => hp⟩
    · exact ⟨.refl _ s, ⟨_, _, rfl⟩, (nomatch ·), fun _ _ => rfl⟩

/-- The state in which the entries' values are to be published. -/
def State.toPublish (s : State) (l : List (Nat × Nat × Word)) : State :=
  { s.entriesSet l with mgmt := { (s.entriesSet l).mgmt with pubWanted := (s.entriesSet l).moulds.active.isSome } }

theorem State.setAccept_now {s : State} {p : List Byte} (h : pPersist p = false) : s.setAccept p =
    (s.toPublish (setEntries p)).published.pushReply (accept p (leBytes 2 (setEntries p).length ++ [0, 0])) := by
  simp only [State.setAccept, h, Bool.false_eq_true, if_false]
  rfl

/-- What the entries leave once they are published and answered. -/
theorem State.setAccept_now_spec {s : State} {p : List Byte} (h : pPersist p = false) :
    (s.setAccept p).mgmt.par = (s.entriesSet (setEntries p)).mgmt.par ∧
    (s.setAccept p).mgmt.travel = (s.entriesSet (setEntries p)).mgmt.travel ∧
    (s.setAccept p).mgmt.outlet = s.mgmt.outlet ++ [accept p (leBytes 2 (setEntries p).length ++ [0, 0])] ∧
    (s.setAccept p).mgmt.stored = s.mgmt.stored ∧ (s.setAccept p).mgmt.jobs = s.mgmt.jobs ∧
    (s.setAccept p).std = (s.entriesSet (setEntries p)).std ∧
    (∀ m, s.moulds.active = some m →
      (s.setAccept p).exch.pub = if s.exch.pub = .none then .ordinary else s.exch.pub) ∧
    (s.moulds.active = none → Frame [.mgmt] (s.entriesSet (setEntries p)) (s.setAccept p)) ∧
    Frame [.mgmt, .std, .exch, .evm] s (s.setAccept p) := by
  have hk := s.entriesSet_parKept (setEntries p)
  have hw : Frame [.mgmt] (s.entriesSet (setEntries p)) (s.toPublish (setEntries p)) := .of_mgmt _ _
  obtain ⟨hf, ⟨a, b, hg⟩, hn, hp⟩ := (s.toPublish (setEntries p)).published_spec
  have hact : (s.toPublish (setEntries p)).moulds.active = s.moulds.active :=
    congrArg Moulds.active (hk.frame.moulds_eq (by decide))
  have hexch : (s.toPublish (setEntries p)).exch = s.exch := hk.frame.exch_eq (by decide)
  have hr := Frame.of_mgmt (s.toPublish (setEntries p)).published ((s.toPublish (setEntries p)).published.pushReply
    (accept p (leBytes 2 (setEntries p).length ++ [0, 0]))).mgmt
  rw [State.setAccept_now h]
  refine ⟨(congrArg Mgmt.par hg :), (congrArg Mgmt.travel hg :), ?_, ((congrArg Mgmt.stored hg).trans hk.stored :),
    ((congrArg Mgmt.jobs hg).trans hk.jobs :), hf.std_eq (by decide), fun m hm => ?_, fun hm => ?_, ?_⟩
  · exact (congrArg (fun g : Mgmt => g.outlet ++ [_]) hg).trans (congrArg (· ++ [_]) hk.outlet)
  · rw [← hexch]
    exact hp m (hact.trans hm)
  · refine hw.trans ?_
    rw [hn (hact.trans hm)]
    exact .of_mgmt _ _
  · exact (hk.frame.mono (by decide)).trans
      ((hw.mono (by decide)).trans ((hf.mono (by decide)).trans (hr.mono (by decide))))

theorem Journal.foldl_add_pend (l : List Pend) (j : Journal) : (l.foldl Journal.add j).pend = j.pend ++ l := by
  induction l generalizing j with
  | nil => exact (List.append_nil _).symm
  | cons x xs ih => rw [List.foldl_cons, ih, Journal.add, List.append_assoc, List.singleton_append]

/-- With PERSIST five entries make one record, and the packet waits for its commit (R350, R371). -/
theorem State.setAccept_persist {s : State} {p : List Byte} (h : pPersist p = true) :
    (s.setAccept p).mgmt = { s.mgmt with reserved := s.mgmt.reserved + 1 } ∧
    (s.setAccept p).jrn.maxSeq = pSeq p ∧
    (s.setAccept p).jrn.pend.length = s.jrn.pend.length + ((setEntries p).length + 4) / 5 ∧
    Frame [.mgmt, .jrn] s (s.setAccept p) := by
  have he : s.setAccept p =
      { s.reserve with jrn := s.jrn.accept (cfgPends p (setEntries p)) (pSeq p) } := by
    simp only [State.setAccept, h, if_true]
    rfl
  rw [he]
  refine ⟨rfl, rfl, ?_, fun q hq => ?_⟩
  · simp [Journal.accept, Journal.foldl_add_pend, cfgPends]
  · cases q with
    | mgmt => exact absurd (by decide) hq
    | jrn => exact absurd (by decide) hq
    | _ => rfl

/-! ### The packet -/

theorem setEntries_length (p : List Byte) : (setEntries p).length = pPar p 0 2 := by simp [setEntries]

theorem setEntries_one {p : List Byte} (h : pPar p 0 2 = 1) :
    setEntries p = [(0, pPar p 4 2, BitVec.ofNat 32 (pPar p 8 4))] := by
  simp [setEntries, h]

/-- No entry of the packet is refused by itself, by its axis or by the brake limits of R201. -/
structure State.EntriesOk (s : State) (p : List Byte) : Prop where
  enabled : ∀ x ∈ setEntries p, s.setNeedsDisabled x.2.1 = false
  value : ∀ x ∈ setEntries p, s.ckEntry p x = none
  brake : s.ckBrake p (setEntries p) = none
  nonempty : 1 ≤ (setEntries p).length
  fits : (setEntries p).length ≤ if pPersist p then 80 else 127

section
variable {s : State} {p : List Byte}

/-- Of the checks of SET_PARAM only the room for its records is left. -/
theorem State.EntriesOk.checks (h : s.EntriesOk p) : firstRefusal [
      refuseIf ((setEntries p).any fun x => s.setNeedsDisabled x.2.1) (refuse p stBadState 0 0xFFFF),
      refuseIf (decide ((setEntries p).length < 1) || decide (127 < (setEntries p).length) ||
        (pPersist p && decide (80 < (setEntries p).length))) (refuse p stBadParam 4 12),
      (setEntries p).findSome? (s.ckEntry p),
      s.ckBrake p (setEntries p),
      refuseIf (pPersist p && s.commitFull (cfgPends p (setEntries p))) (refuse p stBusy 7 0xFFFF)] =
    refuseIf (pPersist p && s.commitFull (cfgPends p (setEntries p))) (refuse p stBusy 7 0xFFFF) := by
  obtain ⟨hd, hv, hb, h1, hn⟩ := h
  have hany : ((setEntries p).any fun x => s.setNeedsDisabled x.2.1) = false := by simpa using hd
  have hlen : (decide ((setEntries p).length < 1) || decide (127 < (setEntries p).length) ||
      (pPersist p && decide (80 < (setEntries p).length))) = false := by
    cases hp : pPersist p <;> simp only [hp, if_true, Bool.false_eq_true, if_false] at hn <;>
      simp only [Bool.or_eq_false_iff, decide_eq_false_iff_not, Bool.false_and, Bool.true_and, and_true] <;> omega
  rw [hany, hlen, List.findSome?_eq_none_iff.2 hv, hb]
  cases pPersist p && s.commitFull (cfgPends p (setEntries p)) <;> rfl

theorem exec_setParam_accepted (h : s.takes 0x0201 p = true) (hk : s.headOff.EntriesOk p)
    (hc : pPersist p = true → s.commitFull (cfgPends p (setEntries p)) = false) :
    exec .setParam s = .next (s.headOff.setAccept p) := by
  refine congrArg Host.Outcome.next (State.onPacket_passes h (hk.checks.trans ?_))
  have hc' : (pPersist p && s.headOff.commitFull (cfgPends p (setEntries p))) = false := by
    cases hp : pPersist p with
    | false => rfl
    | true => exact hc hp
  rw [hc']
  rfl

theorem exec_setParam_full (h : s.takes 0x0201 p = true) (hk : s.headOff.EntriesOk p) (hp : pPersist p = true)
    (hc : s.commitFull (cfgPends p (setEntries p)) = true) :
    exec .setParam s = .next (s.headOff.pushReply (refuse p stBusy 7 0xFFFF)) := by
  refine congrArg Host.Outcome.next (State.onPacket_refused h (hk.checks.trans ?_))
  have hc' : s.headOff.commitFull (cfgPends p (setEntries p)) = true := hc
  rw [hp, hc']
  rfl

theorem exec_setParam_axisEnabled (h : s.takes 0x0201 p = true)
    (hd : ∃ x ∈ setEntries p, s.headOff.setNeedsDisabled x.2.1 = true) :
    exec .setParam s = .next (s.headOff.pushReply (refuse p stBadState 0 0xFFFF)) := by
  refine congrArg Host.Outcome.next (State.onPacket_refused h ?_)
  rw [List.any_eq_true.2 hd]
  rfl

/-! ### One system parameter -/

theorem State.setKind_sys {id : Nat} (h : isSysPar id = true) : s.setKind id = .sys := if_pos h

theorem isSysPar_bounds {id : Nat} (h : isSysPar id = true) : 0xF001 ≤ id ∧ id ≤ 0xF009 := by
  simpa [isSysPar] using h

theorem posId_sys {id : Nat} (h : isSysPar id = true) : posId id = none := by
  have hb := isSysPar_bounds h
  exact if_neg (by omega)

/-- A system parameter inside its range passes the checks of every mould. -/
theorem State.entriesOk_sys (h1 : pPar p 0 2 = 1) (hs : isSysPar (pPar p 4 2) = true)
    (hv : sysParOk (pPar p 4 2) (BitVec.ofNat 32 (pPar p 8 4)) = true) : s.EntriesOk p := by
  have hb := isSysPar_bounds hs
  refine ⟨?_, ?_, ?_, ?_, ?_⟩
  · simp [setEntries_one h1, State.setNeedsDisabled, State.setKind_sys hs]
  · simp [setEntries_one h1, State.ckEntry, State.setKind_sys hs, hv]
  · have hno : ¬(pPar p 4 2 % 0x1000 = 0x078 ∨ pPar p 4 2 % 0x1000 = 0x079 ∨ pPar p 4 2 % 0x1000 = 0x07A) := by omega
    rw [State.ckBrake, setEntries_one h1]
    simp [hno]
  · rw [setEntries_length, h1]
  · rw [setEntries_length, h1]
    split <;> decide

theorem State.entriesSet_sys (h1 : pPar p 0 2 = 1) (hs : isSysPar (pPar p 4 2) = true) :
    s.entriesSet (setEntries p) = s.setPar false (pPar p 4 2, BitVec.ofNat 32 (pPar p 8 4)) := by
  rw [setEntries_one h1]
  exact State.applyPar_plain (posId_sys hs)

end

/-! ### O42 -/

theorem State.headOff_frame (s : State) : Frame [.mgmt] s s.headOff := .of_mgmt s _

/-- An entry that passes its own check is of an ID that SET_PARAM knows. -/
theorem State.setKind_known {s : State} {p : List Byte} {x : Nat × Nat × Word} (h : s.ckEntry p x = none) :
    s.setKind x.2.1 ≠ .unknown := by
  intro hk
  simp [State.ckEntry, hk] at h

section
variable {s : State} {p : List Byte}

/-- A system parameter takes effect at once (R367). -/
theorem exec_setParam_sys_now (h : s.takes 0x0201 p = true) (h1 : pPar p 0 2 = 1) (hs : isSysPar (pPar p 4 2) = true)
    (hv : sysParOk (pPar p 4 2) (BitVec.ofNat 32 (pPar p 8 4)) = true) (hp : pPersist p = false) :
    ∃ t, exec .setParam s = .next t ∧
      Sparse.get none (pPar p 4 2) t.mgmt.par = some (BitVec.ofNat 32 (pPar p 8 4)) ∧
      t.mgmt.outlet = s.mgmt.outlet ++ [accept p [1, 0, 0, 0]] ∧ t.mgmt.stored = s.mgmt.stored ∧
      (s.moulds.active = none → Frame [.mgmt] s t) := by
  obtain ⟨hpar, -, hout, hst, -, -, -, hnone, -⟩ := State.setAccept_now_spec (s := s.headOff) hp
  rw [State.entriesSet_sys h1 hs] at hpar hnone
  rw [setEntries_length, h1] at hout
  refine ⟨_, exec_setParam_accepted h (State.entriesOk_sys h1 hs hv) fun c => absurd (hp.symm.trans c) (by decide), ?_, hout,
    hst, fun hm => ?_⟩
  · rw [hpar]
    exact Sparse.get_put_listed (Option.some_ne_none _) _ _
  · have hset : Frame [.mgmt] s.headOff (s.headOff.setPar false (pPar p 4 2, BitVec.ofNat 32 (pPar p 8 4))) := .of_mgmt _ _
    exact (s.headOff_frame.trans hset).trans (hnone hm)

/-- With PERSIST the packet awaits its commit with its outlet entry reserved (R350). -/
theorem exec_setParam_persist (h : s.takes 0x0201 p = true) (hk : s.headOff.EntriesOk p) (hp : pPersist p = true)
    (hc : s.commitFull (cfgPends p (setEntries p)) = false) :
    ∃ t, exec .setParam s = .next t ∧ t.mgmt = { s.headOff.mgmt with reserved := s.mgmt.reserved + 1 } ∧
      t.jrn.maxSeq = pSeq p ∧ t.jrn.pend.length = s.jrn.pend.length + ((setEntries p).length + 4) / 5 ∧
      Frame [.mgmt, .jrn] s t := by
  obtain ⟨hm, hq, hl, hf⟩ := State.setAccept_persist (s := s.headOff) hp
  exact ⟨_, exec_setParam_accepted h hk fun _ => hc, hm, hq, hl, (s.headOff_frame.mono (by decide)).trans hf⟩

/-- The partition is written with the values in force at the end (R371). -/
theorem exec_storeConfigDone {o : Nat} {q : Word} (h : s.mgmt.bg = some ⟨.storeConfig, o, q⟩) :
    exec .storeConfigDone s = .next (s.bgEnd.storeAll.pushReserved (okReply o q [])) :=
  congrArg Host.Outcome.next (State.onBg_some h rfl)

theorem State.storeAll_frame (s : State) : Frame [.mgmt, .jrn] s s.storeAll := fun p hp => by
  cases p with
  | mgmt => exact absurd (by decide) hp
  | jrn => exact absurd (by decide) hp
  | _ => rfl

theorem exec_storeConfig_takes (h : s.takes 0x0203 p = true) (hb : s.bgFree = true) :
    exec .storeConfig s = .next (s.headOff.startBg p .storeConfig) := by
  refine congrArg Host.Outcome.next (State.onPacket_passes h ?_)
  simp [hb]

end

/-- Settles O42: the checks of the packet, then each part of the state that its entries reach. -/
theorem parametersAreSet : Obligations.ParametersAreSet := by
  unfold Obligations.ParametersAreSet
  intro s p u id v
  refine ⟨fun h h1 hs hv => ⟨exec_setParam_sys_now h h1 hs hv, exec_setParam_full h (State.entriesOk_sys h1 hs hv),
    fun hp hc => ?_⟩, fun h h1 hx hb => ⟨fun hn hp hw => ?_, fun hn hp hc => ?_⟩, exec_setParam_axisEnabled,
    exec_storeConfig_takes, fun o q hbg => ?_⟩
  · have hrec := exec_setParam_persist h (State.entriesOk_sys h1 hs hv) hp hc
    rwa [setEntries_length, h1] at hrec
  · have hok : u.EntriesOk p := ⟨fun x m => (hx x m).1, fun x m => (hx x m).2, hb, h1, by rwa [hp]⟩
    obtain ⟨hpar, htr, hout, hst, hj, hstd, hpub, -, hf⟩ := State.setAccept_now_spec (s := u) hp
    refine ⟨_, exec_setParam_accepted h hok fun c => absurd (hp.symm.trans c) (by decide), hout, fun x m hkind => ?_,
      fun i hi => ?_, fun m k hm hk n => ?_, hpub, hst, hj, (s.headOff_frame.mono (by decide)).trans hf⟩
    · have hval := State.entriesSet_par (s := u) (l := setEntries p) (i := x.2.1) hw fun _ _ _ =>
        State.inTravel_eq_false (State.setKind_known (hx x m).2) hkind
      obtain ⟨w, hw'⟩ := Option.ne_none_iff_exists'.1 fun hnone => lastValue_eq_none.1 hnone x m rfl
      rw [hpar, hval, hw']
      exact hw'.symm
    · have hi' : lastValue (setEntries p) i = none := hi
      have hval := State.entriesSet_par (s := u) (l := setEntries p) (i := i) hw fun x m he =>
        absurd he (lastValue_eq_none.1 hi' x m)
      rw [hpar, hval, hi']
      rfl
    · have hK : u.stdK.isSome = true := by
        have hsk : u.stdK = some k := Option.bind_eq_some_iff.2 ⟨m, hm, hk⟩
        rw [hsk]
        rfl
      rw [htr, hstd]
      exact ⟨State.entriesSet_side hK n false, State.entriesSet_side hK n true, fun hlast =>
        hlast.elim (State.entriesSet_profok (o := false) hK) (State.entriesSet_profok (o := true) hK)⟩
  · exact exec_setParam_persist h ⟨fun x m => (hx x m).1, fun x m => (hx x m).2, hb, h1, by rwa [hp]⟩ hp hc
  · have hb : Frame [.mgmt] s s.bgEnd := .of_mgmt s _
    exact ⟨_, exec_storeConfigDone hbg, rfl, rfl, rfl, rfl, rfl, ((hb.mono (by decide)).trans (State.storeAll_frame _)).trans
      ((State.pushReserved_frame _ _).mono (by decide))⟩

end Sys2Proof.Machine
end
section
/-! SUPPORT. Function resets (11 R364; 16 R471, R472; 14 R430; 15 R448) and the axis faults that MGMT takes (15 R451; 06 R205;
O51). -/

namespace Sys2Proof.Machine

/-! ### What a test that is cut short leaves -/

theorem State.abortTest_frame (s : State) (sel : BgOp → Bool) : Frame [.mgmt, .ax] s (s.abortTest sel) := fun p hp => by
  cases p with
  | mgmt | ax => simp at hp
  | _ => rfl

theorem State.freedAxis_some {s : State} {sel : BgOp → Bool} {m : Fin 4} (h : s.freedAxis sel = some m) :
    ∃ o : BgOp, sel o = true ∧ o.suspends = some m := by
  unfold State.freedAxis at h
  split at h
  · split at h
    · exact ⟨_, ‹_›, h⟩
    · cases h
  · cases h

/-- Only LB-B of the gate drives suspends a lockout, that of its own axis (19 R522). -/
theorem BgOp.suspends_some {o : BgOp} {m : Fin 4} (h : o.suspends = some m) : ∃ c w x, o = .loopback 3 1 c w m x := by
  unfold BgOp.suspends at h
  split at h
  · obtain rfl := Option.some.inj h
    exact ⟨_, _, _, rfl⟩
  · cases h

/-- Cutting the tests of one axis short touches no other axis. -/
theorem State.abortTest_axis_ne (s : State) {n k : Fin 4} (hk : k ≠ n) :
    (s.abortTest (BgOp.testsAxis n)).axis k = s.axis k := by
  change (s.abortTest (BgOp.testsAxis n)).ax.get k = s.ax.get k
  rw [State.abortTest_ax]
  split
  · rename_i m hm
    obtain ⟨o, ho, hs⟩ := State.freedAxis_some hm
    obtain ⟨c, w, x, rfl⟩ := BgOp.suspends_some hs
    obtain rfl : m = n := by simpa [BgOp.testsAxis] using ho
    exact Four.get_set_ne _ _ hk
  · rfl

/-- Cutting short tests that suspend no lockout touches no axis. -/
theorem State.abortTest_ax_of_iface (s : State) {sel : BgOp → Bool} (h : ∀ d c w a x, sel (.loopback 3 d c w a x) = false) :
    (s.abortTest sel).ax = s.ax := by
  rw [State.abortTest_ax]
  split
  · rename_i m hm
    obtain ⟨o, ho, hs⟩ := State.freedAxis_some hm
    obtain ⟨c, w, x, rfl⟩ := BgOp.suspends_some hs
    rw [h] at ho
    cases ho
  · rfl

theorem State.abortTest_frame_of_iface (s : State) {sel : BgOp → Bool}
    (h : ∀ d c w a x, sel (.loopback 3 d c w a x) = false) : Frame [.mgmt] s (s.abortTest sel) := fun p hp => by
  cases p with
  | mgmt => simp at hp
  | ax => exact (s.abortTest_ax_of_iface h).symm
  | _ => rfl

/-! ### A RESET_FUNC is taken -/

section
variable {s : State} {p : List Byte}

/-- The row of its function acts on it, while no function reset is under way (R364). -/
theorem State.onFunc_takes {k : Nat} (h : s.takes 0x0601 p = true) (hr : s.mgmt.rfunc = none) (hk : pPar p 0 1 = k)
    (f : List Byte → State → State) : s.onFunc k f = f p s.headOff := by
  obtain ⟨h1, h2, h3⟩ := State.takes_iff.1 h
  have hs : isFunc k p = true := by simp [isFunc, h2, hk]
  rw [State.onFunc, hr, if_neg (by simp), State.onPacket_acts h1 hs h3]

theorem State.onFunc_passes {k : Nat} {c : List Byte → State → List (Option Reply)} {f : List Byte → State → State}
    (h : s.takes 0x0601 p = true) (hr : s.mgmt.rfunc = none) (hk : pPar p 0 1 = k)
    (hc : firstRefusal (c p s.headOff) = none) :
    s.onFunc k (fun p t => t.unless (c p t) (f p)) = f p s.headOff :=
  (State.onFunc_takes h hr hk _).trans (State.unless_none hc)

theorem State.beginFunc_frame (s : State) (p : List Byte) (k n : Nat) : Frame [.mgmt] s (s.headOff.beginFunc p k n) :=
  .of_mgmt s _

variable (h : s.takes 0x0601 p = true) (hr : s.mgmt.rfunc = none)
include h hr

theorem exec_resetFuncAxis_takes (hf : pPar p 0 1 = 0) : exec .resetFuncAxis s = .next
    (((s.headOff.beginFunc p 0 (pAxis p).val).axNext (pAxis p) .recovery).abortTest (BgOp.testsAxis (pAxis p))) :=
  congrArg Host.Outcome.next (State.onFunc_passes h hr hf (by simp [hf]))

theorem exec_resetFuncLink_takes (hf : pPar p 0 1 = 1)
    (hs : (s.axis (pAxis p)).st = .disabled ∨ (s.axis (pAxis p)).st = .fault) : exec .resetFuncLink s = .next
    (((s.headOff.beginFunc p 1 (pAxis p).val).interrupted (pAxis p)).abortTest
      fun o => o.testsIface 2 && o.testsAxis (pAxis p)) := by
  have hs' : (s.headOff.axis (pAxis p)).st = .disabled ∨ (s.headOff.axis (pAxis p)).st = .fault := hs
  exact congrArg Host.Outcome.next (State.onFunc_passes h hr hf (by simp [hs']))

theorem exec_resetFuncRunner_takes (hf : pPar p 0 1 = 4) : exec .resetFuncRunner s = .next
    (((s.headOff.beginFunc p 4 0).runnerReset).abortTest (BgOp.testsIface 1)) :=
  congrArg Host.Outcome.next (State.onFunc_takes h hr hf _)

/-- A reset of SNS drops what its crossings hold and an unread result, and restarts the regular sequence (Table 16-4). -/
def State.snsRestarted (s : State) : State :=
  { s with
    evm := { s.evm with cnt := s.evm.cnt.filter fun x => decide (x.1 < snsKey 0) || decide (monKey 0 ≤ x.1) }
    conv := { s.conv with
      adrt := s.conv.adrt &&& 0x7F, due := 0, rdyAll := s.conv.refrdy, ain11 := none
      cur := if s.conv.seqr.isEmpty then none else some (false, 0) } }

theorem exec_resetFuncSns_takes (hf : pPar p 0 1 = 2) : exec .resetFuncSns s = .next
    ((s.headOff.beginFunc p 2 0).abortTest fun o => o.testsIface 5 || o.testsIface 6).snsRestarted :=
  congrArg Host.Outcome.next (State.onFunc_takes h hr hf _)

/-- The Sprue port is answered first, and its reset waits for the reply to be taken (13 R416). -/
theorem exec_resetFuncSprue_takes (hf : pPar p 0 1 = 3) (hd : s.mgmt.defer = none) :
    ∃ t, exec .resetFuncSprue s = .next t ∧ t.mgmt.outlet = s.mgmt.outlet ++ [accept p []] ∧
      t.mgmt.defer = some (.sprueReset, pSeq p) ∧ Frame [.mgmt] s t := by
  have hex : exec .resetFuncSprue s = .next (s.onFunc 3 fun p t =>
      let u := (t.pushReply (accept p [])).abortTest (BgOp.testsIface 0)
      { u with mgmt := { u.mgmt with defer := some (.sprueReset, pSeq p) } }) := if_neg (by simp [hd])
  refine ⟨_, hex.trans (congrArg Host.Outcome.next (State.onFunc_takes h hr hf _)), rfl, rfl, ?_⟩
  have hq : Frame [.mgmt] s (s.headOff.pushReply (accept p [])) := .of_mgmt s _
  exact (hq.trans (State.abortTest_frame_of_iface _ fun _ _ _ _ _ => rfl)).trans (.of_mgmt _ _)

theorem exec_resetFuncMailbox_takes (hf : pPar p 0 1 = 5) {k : Fin 16} (hk : pPar p 1 1 = k.val) :
    exec .resetFuncMailbox s = .next ((s.headOff.beginFunc p 5 (pPar p 1 1)).updMb k MbCh.cleared) := by
  have hb : ¬15 < pPar p 1 1 := by omega
  have hch : (⟨pPar p 1 1 % 16, Nat.mod_lt _ (by decide)⟩ : Fin 16) = k := Fin.ext (by simp only; omega)
  refine (congrArg Host.Outcome.next (State.onFunc_passes h hr hf (by simp [hb]))).trans ?_
  rw [hch]

end

theorem State.snsRestarted_frame (s : State) : Frame [.evm, .conv] s s.snsRestarted := fun p hp => by
  cases p with
  | evm | conv => simp at hp
  | _ => rfl

theorem State.runnerReset_frame (s : State) : Frame [.run, .pour] s s.runnerReset := fun p hp => by
  cases p with
  | run | pour => simp at hp
  | _ => rfl

theorem State.updMb_frame (s : State) (k : Fin 16) (f : MbCh → MbCh) : Frame [.mail] s (s.updMb k f) := fun p hp => by
  cases p with
  | mail => simp at hp
  | _ => rfl

/-- The running job of a link's axis ends INTERRUPTED, and the axis is held (Table 18-4). -/
theorem State.interrupted_spec (s : State) (n : Fin 4) : Frame [.mgmt, .jrn] s (s.interrupted n) ∧
    ((s.interrupted n).mgmt.jax.get n).held = true ∧
    (∀ q, s.running n = some q → ((s.interrupted n).mgmt.jax.get n).lastOut = 5) ∧
    (s.interrupted n).mgmt.rfunc = s.mgmt.rfunc ∧ (s.interrupted n).mgmt.reserved = s.mgmt.reserved ∧
    (s.interrupted n).mgmt.outlet = s.mgmt.outlet ∧ (s.interrupted n).mgmt.ladle = s.mgmt.ladle := by
  have hj : (s.interrupted n).mgmt.jax.get n = { (s.endRunning n 5).mgmt.jax.get n with held := true } :=
    Four.get_set_same _ _ _
  have hg : (s.endRunning n 5).mgmt.rfunc = s.mgmt.rfunc ∧ (s.endRunning n 5).mgmt.reserved = s.mgmt.reserved ∧
      (s.endRunning n 5).mgmt.outlet = s.mgmt.outlet ∧ (s.endRunning n 5).mgmt.ladle = s.mgmt.ladle := by
    unfold State.endRunning
    split
    · exact ⟨rfl, rfl, rfl, rfl⟩
    · rw [State.endJob_mgmt]
      exact ⟨rfl, rfl, rfl, rfl⟩
  refine ⟨(s.endRunning_frame n 5).trans ((Frame.of_mgmt _ _).mono (by decide)), by rw [hj], fun q hq => ?_, hg⟩
  have hax : q.ax = n := by
    have hp := List.find?_some hq
    simp only [Bool.and_eq_true, decide_eq_true_eq] at hp
    exact hp.1
  have he : s.endRunning n 5 = s.endJob q 5 (s.causeOf n) := by simp only [State.endRunning, hq]
  rw [hj, he, State.endJob_mgmt, hax]
  dsimp only
  rw [Four.get_set_same]
  rfl

/-! ### The reset under way ends -/

section
variable {s : State} {n : Fin 4} {q : Word}

theorem exec_resetFuncDone_axis (h : s.mgmt.rfunc = some (0, n.val, q)) (hs : (s.axis n).st = .recovery) :
    exec .resetFuncDone s =
      .next ((((s.updAxis n Axis.funcReset).dropCompares n).axNext n .disabled).funcEnd q) := by
  change execResetFuncDone s = _
  simp only [execResetFuncDone, h, axOf_eq (n := n) rfl, if_true, hs]

theorem exec_resetFuncDone_link (h : s.mgmt.rfunc = some (1, n.val, q)) :
    exec .resetFuncDone s = .next (((s.updAxis n Axis.linkReset).dropMessages n).funcEnd q) := by
  change execResetFuncDone s = _
  simp [execResetFuncDone, h, axOf_eq (n := n) rfl]

theorem exec_resetFuncDone_sns {k : Nat} (h : s.mgmt.rfunc = some (2, k, q)) :
    exec .resetFuncDone s = .next (s.snsRestored.funcEnd q) := by
  change execResetFuncDone s = _
  simp [execResetFuncDone, h]

/-- The other functions only answer: their reset was over when it began. -/
theorem exec_resetFuncDone_other {f k : Nat} (hf : 3 ≤ f) (h : s.mgmt.rfunc = some (f, k, q)) :
    exec .resetFuncDone s = .next (s.funcEnd q) := by
  change execResetFuncDone s = _
  have h0 : f ≠ 0 := by omega
  have h1 : f ≠ 1 := by omega
  have h2 : f ≠ 2 := by omega
  simp only [execResetFuncDone, h, if_neg h0, if_neg h1, if_neg h2]

end

theorem State.funcEnd_frame (s : State) (q : Word) : Frame [.mgmt] s (s.funcEnd q) := .of_mgmt s _

/-- An axis of which the reset ends: its registers and its link are as after reset, its configuration stays (Table 18-4). -/
theorem State.axisRestored_spec (s : State) (n : Fin 4) (q : Word) (hn : (s.axis n).nxt = none) :
    let t := (((s.updAxis n Axis.funcReset).dropCompares n).axNext n .disabled).funcEnd q
    t.axis n = { (s.axis n).funcReset with nxt := some .disabled } ∧ (∀ k, k ≠ n → t.axis k = s.axis k) ∧
      Frame [.mgmt, .ax, .pour] s t := by
  intro t
  have hu : ((s.updAxis n Axis.funcReset).dropCompares n).axis n = (s.axis n).funcReset := s.axis_updAxis_same n _
  have hnx : (s.axis n).funcReset.nxt = none := hn
  have ht : t.axis n = { (s.axis n).funcReset with nxt := some .disabled } := by
    change (State.axNext _ n .disabled).axis n = _
    rw [State.axNext, State.axis_updAxis_same, hu, hnx]
  refine ⟨ht, fun k hk => (State.axNext_axis_ne _ _ hk).trans (s.axis_updAxis_ne _ hk), ?_⟩
  exact ((((s.updAxis_frame n _).mono (by decide)).trans ((State.updPort_frame _ n _).mono (by decide))).trans
    ((State.updAxis_frame _ n _).mono (by decide))).trans ((State.funcEnd_frame _ q).mono (by decide))

/-- A link of which the reset ends (R472). -/
theorem State.linkRestored_spec (s : State) (n : Fin 4) (q : Word) :
    let t := ((s.updAxis n Axis.linkReset).dropMessages n).funcEnd q
    t.axis n = (s.axis n).linkReset ∧ t.pour.ax.get n = { s.pour.ax.get n with immq := [], regOn := false } ∧
      Frame [.mgmt, .ax, .pour] s t :=
  ⟨s.axis_updAxis_same n _, State.port_updPort_same (s.updAxis n _) n fun p => { p with immq := [], regOn := false },
    (((s.updAxis_frame n _).mono (by decide)).trans ((State.updPort_frame _ n _).mono (by decide))).trans
      ((State.funcEnd_frame _ q).mono (by decide))⟩

theorem State.snsRestored_frame (s : State) : Frame [.pwr, .conv] s s.snsRestored := fun p hp => by
  cases p with
  | pwr | conv => simp at hp
  | _ => rfl

/-! ### MGMT takes an axis fault -/

/-- What taking the fault events of axis n may do: FAULT is asked for, and nothing moves but that axis. -/
structure State.FaultTaken (n : Fin 4) (s t : State) : Prop where
  frame : Frame [.evm, .ax, .mgmt] s t
  st : (t.axis n).st = (s.axis n).st
  nxt : (t.axis n).nxt = (s.axis n).nxt ∨ (t.axis n).nxt = some .fault
  others : ∀ k, k ≠ n → t.axis k = s.axis k

section
variable {n : Fin 4} {s t u : State}

theorem State.FaultTaken.refl (s : State) : State.FaultTaken n s s := ⟨.refl _ s, rfl, .inl rfl, fun _ _ => rfl⟩

theorem State.FaultTaken.trans (h : State.FaultTaken n s t) (k : State.FaultTaken n t u) : State.FaultTaken n s u :=
  ⟨h.frame.trans k.frame, k.st.trans h.st, k.nxt.elim (fun e => e ▸ h.nxt) .inr,
    fun j hj => (k.others j hj).trans (h.others j hj)⟩

/-- FAULT, once asked for, stays asked for. -/
theorem State.FaultTaken.nxt_fault (h : State.FaultTaken n s t) (hs : (s.axis n).nxt = some .fault) :
    (t.axis n).nxt = some .fault := h.nxt.elim (fun e => e.trans hs) id

/-- What the axes that wait for MGMT rest on. -/
theorem State.FaultTaken.faultWaits (h : State.FaultTaken n s t) {k : Fin 4} (hk : t.axis k = s.axis k) :
    t.faultWaits k = s.faultWaits k := by
  rw [State.faultWaits, State.faultWaits, State.stdK, State.stdK, hk, h.frame.moulds_eq (by decide),
    h.frame.std_eq (by decide)]

theorem State.FaultTaken.stdK (h : State.FaultTaken n s t) : t.stdK = s.stdK := by
  rw [State.stdK, State.stdK, h.frame.moulds_eq (by decide)]

theorem State.axNext_fault_nxt (s : State) (n : Fin 4) : ((s.axNext n .fault).axis n).nxt = (s.axis n).nxt ∨
    ((s.axNext n .fault).axis n).nxt = some .fault := by
  rw [State.axNext, State.axis_updAxis_same]
  split
  · exact .inr rfl
  · split
    · exact .inr rfl
    · exact .inl rfl

/-- R39: only RECOVERY goes before FAULT. -/
theorem State.axNext_fault (hr : (s.axis n).nxt ≠ some .recovery) : ((s.axNext n .fault).axis n).nxt = some .fault := by
  rw [State.axNext, State.axis_updAxis_same]
  split
  · rfl
  · rename_i x hx
    have hle : x.rank ≤ AxState.fault.rank := by
      cases x with
      | recovery => exact absurd hx hr
      | _ => decide
    rw [if_pos hle]

theorem State.axFault_taken (s : State) (n : Fin 4) : State.FaultTaken n s (s.axFault n) := by
  by_cases hd : (s.axis n).st = .disabled ∧ (s.axis n).nxt = none
  · rw [State.axFault_disabled hd.1 hd.2]
    exact .refl s
  · have hf := (s.axFault_frame n).mono (qs := [.evm, .ax, .mgmt]) (by decide)
    obtain ⟨h1, h2, -⟩ := (State.abortTest_apart (n := n) (s.axNext n .fault) (BgOp.testsAxis n)).alike
    rw [State.axFault, if_neg hd] at hf ⊢
    refine ⟨hf, h1.trans (s.axNext_st n n _), ?_, fun k hk => (State.abortTest_axis_ne _ hk).trans (s.axNext_axis_ne _ hk)⟩
    rw [h2]
    exact s.axNext_fault_nxt n

theorem State.axFault_nxt (hs : (s.axis n).st ≠ .disabled) (hr : (s.axis n).nxt ≠ some .recovery) :
    ((s.axFault n).axis n).nxt = some .fault := by
  obtain ⟨-, h2, -⟩ := (State.abortTest_apart (n := n) (s.axNext n .fault) (BgOp.testsAxis n)).alike
  rw [State.axFault, if_neg fun h => hs h.1, h2]
  exact State.axNext_fault hr

/-- EV211 (06 R205). -/
theorem State.takeFaultReq_taken (s : State) (n : Fin 4) : State.FaultTaken n s (s.takeFaultReq n) := by
  have h1 : State.FaultTaken n s (if s.faultWaits n then s.axFault n else s) := by
    split
    · exact s.axFault_taken n
    · exact .refl s
  unfold State.takeFaultReq
  split
  · dsimp only
    split
    · exact h1
    · exact h1.trans ⟨(Frame.of_evm _ _).mono (by decide), rfl, .inl rfl, fun _ _ => rfl⟩
  · exact .refl s

/-- EV211 alone is cleared by it. -/
theorem State.takeFaultReq_pend (s : State) (n : Fin 4) {j : Nat} (hj : j ≠ 211) :
    (s.takeFaultReq n).evm.pendMgmt.getLsbD j = s.evm.pendMgmt.getLsbD j := by
  have h1 : (if s.faultWaits n then s.axFault n else s).evm = s.evm := by
    split
    · exact s.axFault_evm n
    · rfl
  unfold State.takeFaultReq
  split
  · dsimp only
    split
    · rw [h1]
    · rw [h1]
      exact getLsbD_and_not_bitB_ne _ hj
  · rfl

/-- EV211 stays pending while another axis waits (log entry 169). -/
theorem State.takeFaultReq_pend211 (hk : s.stdK.isSome = true) (hp : s.evm.pendMgmt.getLsbD 211 = true) :
    (s.takeFaultReq n).evm.pendMgmt.getLsbD 211 = axes.any fun k => !decide (k = n) && s.faultWaits k := by
  have h1 : (if s.faultWaits n then s.axFault n else s).evm = s.evm := by
    split
    · exact s.axFault_evm n
    · rfl
  unfold State.takeFaultReq
  rw [if_pos (by rw [hk, hp]; rfl)]
  dsimp only
  split
  · rename_i ha
    rw [h1, hp, ha]
  · rename_i ha
    rw [h1, eq_false_of_ne_true ha]
    exact getLsbD_and_not_bitB_same _ _

theorem State.takeFaultReq_nxt (hk : s.stdK.isSome = true) (hp : s.evm.pendMgmt.getLsbD 211 = true)
    (hw : s.faultWaits n = true) (hs : (s.axis n).st ≠ .disabled) (hr : (s.axis n).nxt ≠ some .recovery) :
    ((s.takeFaultReq n).axis n).nxt = some .fault := by
  have hn := State.axFault_nxt hs hr
  unfold State.takeFaultReq
  rw [if_pos (by rw [hk, hp]; rfl), if_pos hw]
  dsimp only
  split <;> exact hn

end

/-- The fault events of axis n that MGMT finds pending (15 R451). -/
def State.axisFaultEvs (s : State) (n : Fin 4) : List Nat :=
  [1, 5, 9, 10, 11, 22].filter fun j => s.evm.pendMgmt.getLsbD (axEv n j)

/-- They are taken off the bank, a run of SYNCMISS with them. -/
def State.faultEvsOff (s : State) (n : Fin 4) : State :=
  let s1 : State := { s with evm := { s.evm with
    pendMgmt := (s.axisFaultEvs n).foldl (fun p j => p &&& ~~~(bitB 256 (axEv n j))) s.evm.pendMgmt } }
  s1.updAxis n fun a => { a with missTwo := a.missTwo && !(s.axisFaultEvs n).contains 5 }

/-- The axis goes to FAULT where one of them is a fault (07 R233). -/
def State.faultEvsTaken (s : State) (n : Fin 4) : State :=
  if (s.axisFaultEvs n).any (s.axis n).faultEvent then (s.faultEvsOff n).axFault n else s.faultEvsOff n

theorem exec_axisFaultApply (n : Fin 4) (s : State) :
    exec (.axisFaultApply n) s = .next ((s.faultEvsTaken n).takeFaultReq n) := rfl

theorem State.faultEvsOff_axis (s : State) (n : Fin 4) : (s.faultEvsOff n).axis n =
    { s.axis n with missTwo := (s.axis n).missTwo && !(s.axisFaultEvs n).contains 5 } := State.axis_updAxis_same _ n _

theorem State.faultEvsOff_nxt (s : State) (n : Fin 4) : ((s.faultEvsOff n).axis n).nxt = (s.axis n).nxt := by
  rw [State.faultEvsOff_axis]

theorem State.faultEvsOff_frame (s : State) (n : Fin 4) : Frame [.evm, .ax] s (s.faultEvsOff n) := fun p hp => by
  cases p with
  | evm | ax => simp at hp
  | _ => rfl

theorem State.faultEvsOff_taken (s : State) (n : Fin 4) : State.FaultTaken n s (s.faultEvsOff n) :=
  ⟨(s.faultEvsOff_frame n).mono (by decide), by rw [State.faultEvsOff_axis], .inl (s.faultEvsOff_nxt n),
    fun _ hk => State.axis_updAxis_ne _ _ hk⟩

theorem State.faultEvsTaken_taken (s : State) (n : Fin 4) : State.FaultTaken n s (s.faultEvsTaken n) := by
  unfold State.faultEvsTaken
  split
  · exact (s.faultEvsOff_taken n).trans (State.axFault_taken _ n)
  · exact s.faultEvsOff_taken n

/-- Bits cleared one after another. -/
theorem getLsbD_foldl_clear (f : Nat → Nat) (l : List Nat) (x : EvSet) (j : Nat) :
    (l.foldl (fun p i => p &&& ~~~(bitB 256 (f i))) x).getLsbD j = (x.getLsbD j && l.all fun i => !decide (f i = j)) := by
  induction l generalizing x with
  | nil => simp
  | cons i l ih =>
    rw [List.foldl_cons, ih, List.all_cons]
    by_cases h : f i = j
    · rw [h, getLsbD_and_not_bitB_same]
      simp
    · rw [getLsbD_and_not_bitB_ne _ (Ne.symm h)]
      simp [h]

theorem State.faultEvsTaken_pend (s : State) (n : Fin 4) (j : Nat) : (s.faultEvsTaken n).evm.pendMgmt.getLsbD j =
    (s.evm.pendMgmt.getLsbD j && (s.axisFaultEvs n).all fun i => !decide (axEv n i = j)) := by
  have h1 : (s.faultEvsTaken n).evm = (s.faultEvsOff n).evm := by
    unfold State.faultEvsTaken
    split
    · exact State.axFault_evm _ n
    · rfl
  rw [h1]
  exact getLsbD_foldl_clear (axEv n) (s.axisFaultEvs n) s.evm.pendMgmt j

theorem State.mem_axisFaultEvs {s : State} {n : Fin 4} {j : Nat} :
    j ∈ s.axisFaultEvs n ↔ j ∈ [1, 5, 9, 10, 11, 22] ∧ s.evm.pendMgmt.getLsbD (axEv n j) = true := List.mem_filter

/-- The events of an axis end below those of the moulds (15 Table 15-3). -/
theorem State.axisFaultEvs_lt {s : State} {n : Fin 4} {j : Nat} (h : j ∈ s.axisFaultEvs n) : axEv n j < 211 := by
  have hn := n.isLt
  have hj := (State.mem_axisFaultEvs.1 h).1
  simp only [List.mem_cons, List.not_mem_nil, or_false] at hj
  simp only [axEv]
  omega

section
variable {s : State} {n : Fin 4} (hs : (s.axis n).st ≠ .disabled)
include hs

/-- A fault event of the axis takes it to FAULT (15 R451). -/
theorem exec_axisFaultApply_event {j : Nat} (hj : j ∈ [1, 5, 9, 10, 11, 22]) (h5 : j = 5 → (s.axis n).missTwo = true)
    (hp : s.evm.pendMgmt.getLsbD (40 * n.val + j) = true) :
    ∃ t, exec (.axisFaultApply n) s = .next t ∧ t.evm.pendMgmt.getLsbD (40 * n.val + j) = false ∧
      ((s.axis n).nxt ≠ some .recovery → (t.axis n).nxt = some .fault) ∧ State.FaultTaken n s t := by
  have hm : j ∈ s.axisFaultEvs n := State.mem_axisFaultEvs.2 ⟨hj, hp⟩
  have hany : (s.axisFaultEvs n).any (s.axis n).faultEvent = true :=
    List.any_eq_true.2 ⟨j, hm, by by_cases h : j = 5 <;> simp [Axis.faultEvent, h, h5]⟩
  have ho := s.faultEvsOff_taken n
  have ht := State.takeFaultReq_taken (s.faultEvsTaken n) n
  refine ⟨_, exec_axisFaultApply n s, ?_, fun hr => ?_, (s.faultEvsTaken_taken n).trans ht⟩
  · change ((s.faultEvsTaken n).takeFaultReq n).evm.pendMgmt.getLsbD (axEv n j) = false
    rw [State.takeFaultReq_pend _ _ (Nat.ne_of_lt (State.axisFaultEvs_lt hm)), s.faultEvsTaken_pend,
      Bool.and_eq_false_iff, List.all_eq_false]
    exact .inr ⟨j, hm, by simp⟩
  · refine ht.nxt_fault ?_
    rw [State.faultEvsTaken, if_pos hany]
    exact State.axFault_nxt (ho.st ▸ hs) (s.faultEvsOff_nxt n ▸ hr)

/-- An axis that the CAUSE word names goes to FAULT with EV211 (06 R205). -/
theorem exec_axisFaultApply_cause (hk : s.stdK.isSome = true) (hp : s.evm.pendMgmt.getLsbD 211 = true)
    (hw : s.faultWaits n = true) : ∃ t, exec (.axisFaultApply n) s = .next t ∧
      ((s.axis n).nxt ≠ some .recovery → (t.axis n).nxt = some .fault) ∧
      t.evm.pendMgmt.getLsbD 211 = (axes.any fun k => !decide (k = n) && s.faultWaits k) ∧ State.FaultTaken n s t := by
  have h1 := s.faultEvsTaken_taken n
  have ht := State.takeFaultReq_taken (s.faultEvsTaken n) n
  have hk1 : (s.faultEvsTaken n).stdK.isSome = true := h1.stdK ▸ hk
  have hp1 : (s.faultEvsTaken n).evm.pendMgmt.getLsbD 211 = true := by
    rw [s.faultEvsTaken_pend, hp, Bool.true_and, List.all_eq_true]
    intro i hi
    simp [Nat.ne_of_lt (State.axisFaultEvs_lt hi)]
  refine ⟨_, exec_axisFaultApply n s, fun hr => ?_, ?_, h1.trans ht⟩
  · cases hany : (s.axisFaultEvs n).any (s.axis n).faultEvent with
    | true =>
      refine ht.nxt_fault ?_
      rw [State.faultEvsTaken, if_pos hany]
      exact State.axFault_nxt ((s.faultEvsOff_taken n).st ▸ hs) (s.faultEvsOff_nxt n ▸ hr)
    | false =>
      have he : s.faultEvsTaken n = s.faultEvsOff n := if_neg (by simp [hany])
      have hn : ((s.faultEvsTaken n).axis n).nxt = (s.axis n).nxt := by
        rw [he, s.faultEvsOff_nxt]
      have hw1 : (s.faultEvsTaken n).faultWaits n = true := by
        rw [State.faultWaits, h1.stdK, h1.st, hn, h1.frame.std_eq (by decide)]
        exact hw
      exact State.takeFaultReq_nxt hk1 hp1 hw1 (h1.st ▸ hs) (hn ▸ hr)
  · rw [State.takeFaultReq_pend211 hk1 hp1]
    refine congrArg axes.any (funext fun k => ?_)
    by_cases h : k = n
    · simp [h]
    · rw [h1.faultWaits (h1.others k h)]

end

/-! ### O51 -/

/-- Settles O51: each reset by the row that begins it and by its end, each fault by what MGMT takes. -/
theorem functionResetsBeginAndEnd : Obligations.FunctionResetsBeginAndEnd := by
  unfold Obligations.FunctionResetsBeginAndEnd
  refine ⟨fun s p h hr => ?_, fun s n q f => ?_⟩
  · intro f n ch begun
    refine ⟨fun hf => ?_, fun hf hs => ?_, fun hf => ?_, fun hf => ?_, fun hf k hk => ?_, exec_resetFuncSprue_takes h hr⟩
    · have hb := (s.beginFunc_frame p 0 n.val).mono (qs := [.mgmt, .ax]) (by decide)
      obtain ⟨h1, h2, -⟩ := (State.abortTest_apart (n := n) ((s.headOff.beginFunc p 0 n.val).axNext n .recovery)
        (BgOp.testsAxis n)).alike
      refine ⟨_, exec_resetFuncAxis_takes h hr hf, by rw [hf]; rfl, rfl, rfl, rfl,
        (hb.trans ((State.updAxis_frame _ n _).mono (by decide))).trans (State.abortTest_frame _ _),
        h2.trans (State.axNext_recovery _ n), h1.trans (State.axNext_st _ n n _),
        fun k hk => (State.abortTest_axis_ne _ hk).trans (State.axNext_axis_ne _ _ hk)⟩
    · obtain ⟨h1, h2, h3, h4, h5, h6, h7⟩ := (s.headOff.beginFunc p 1 n.val).interrupted_spec n
      have hb := (s.beginFunc_frame p 1 n.val).mono (qs := [.mgmt, .jrn, .std]) (by decide)
      refine ⟨_, exec_resetFuncLink_takes h hr hf hs, h4.trans (by rw [hf]; rfl), h5.trans rfl, h6.trans rfl, h7.trans rfl,
        (hb.trans (h1.mono (by decide))).trans ((State.abortTest_frame_of_iface _ fun _ _ _ _ _ => rfl).mono (by decide)),
        h2, h3⟩
    · have hb := (s.beginFunc_frame p 2 0).trans (State.abortTest_frame_of_iface (s.headOff.beginFunc p 2 0)
        (sel := fun o => o.testsIface 5 || o.testsIface 6) fun _ _ _ _ _ => rfl)
      refine ⟨_, exec_resetFuncSns_takes h hr hf, by rw [hf]; rfl, rfl, rfl, rfl,
        (hb.mono (by decide)).trans ((State.snsRestarted_frame _).mono (by decide)), ?_, rfl, rfl⟩
      change (s.conv.adrt &&& 0x7F).getLsbD 7 = false
      simp
    · have hb := ((s.beginFunc_frame p 4 0).mono (qs := [.mgmt, .run, .pour]) (by decide)).trans
        ((State.runnerReset_frame _).mono (by decide))
      exact ⟨_, exec_resetFuncRunner_takes h hr hf, by rw [hf]; rfl, rfl, rfl, rfl,
        hb.trans ((State.abortTest_frame_of_iface _ fun _ _ _ _ _ => rfl).mono (by decide)), rfl, fun _ => rfl, rfl, rfl⟩
    · refine ⟨_, exec_resetFuncMailbox_takes h hr hf hk, by rw [hf]; rfl, rfl, rfl, rfl,
        ((s.beginFunc_frame p 5 ch).mono (by decide)).trans ((State.updMb_frame _ k _).mono (by decide)), ?_, fun j hj => ?_⟩
      · exact Vector.getElem_set_self k.isLt
      · exact Vector.getElem_set_ne k.isLt j.isLt fun e => hj (Fin.ext e.symm)
  · refine ⟨fun h hs hn => ?_, fun h => ?_, fun k hf h => exec_resetFuncDone_other hf h, fun h => ?_,
      fun j hj h5 hp hs => ?_, fun hk hp hw hs => ?_⟩
    · obtain ⟨h1, h2, h3⟩ := s.axisRestored_spec n q hn
      exact ⟨_, exec_resetFuncDone_axis h hs, rfl, rfl, by rw [h1], by rw [h1]; rfl, by rw [h1]; rfl, by rw [h1]; rfl,
        by rw [h1]; rfl, by rw [h1]; rfl, h2, h3⟩
    · obtain ⟨h1, h2, h3⟩ := s.linkRestored_spec n q
      exact ⟨_, exec_resetFuncDone_link h, rfl, by rw [h1]; rfl, by rw [h1]; rfl, by rw [h1]; rfl, h2, rfl, h3⟩
    · refine ⟨_, exec_resetFuncDone_sns h, rfl, rfl, ?_, rfl,
        ((State.snsRestored_frame s).mono (by decide)).trans ((State.funcEnd_frame _ q).mono (by decide))⟩
      change (s.conv.flag &&& ~~~4).getLsbD 2 = false
      simp
    · obtain ⟨t, he, h1, h2, h3⟩ := exec_axisFaultApply_event hs hj h5 hp
      exact ⟨t, he, h1, h2, h3.st, h3.others, h3.frame⟩
    · obtain ⟨t, he, h1, h2, h3⟩ := exec_axisFaultApply_cause hs hk hp hw
      exact ⟨t, he, h1, h3.st, h2, h3.others, h3.frame⟩

end Sys2Proof.Machine
end
section
/-! SUPPORT. What a raised event leaves of an axis' step of a standard mould (06 R158; O22). -/

namespace Sys2Proof.Machine

/-! ### What the step of an axis rests on -/

/-- What a standard mould's step keeps beside the words it writes: the ports, the axis' state and registers, whether its link
passes frames, and the reports that stand in the active buffer. -/
structure State.StepKeeps (n : Fin 4) (s t : State) : Prop where
  frame : Frame ([.pour] ++ raiseParts) s t
  ports : t.pour.ax = s.pour.ax
  st : (t.axis n).st = (s.axis n).st
  drv : (t.axis n).drv = (s.axis n).drv
  rfunc : t.mgmt.rfunc = s.mgmt.rfunc
  appOn : t.appOn = s.appOn
  rep : t.xAct.rep = s.xAct.rep

section
variable {n : Fin 4} {s t u : State}

theorem State.StepKeeps.refl (s : State) : State.StepKeeps n s s := ⟨.refl _ s, rfl, rfl, rfl, rfl, rfl, rfl⟩

theorem State.StepKeeps.trans (h : State.StepKeeps n s t) (k : State.StepKeeps n t u) : State.StepKeeps n s u :=
  ⟨h.frame.trans k.frame, k.ports.trans h.ports, k.st.trans h.st, k.drv.trans h.drv, k.rfunc.trans h.rfunc,
    k.appOn.trans h.appOn, k.rep.trans h.rep⟩

theorem State.StepKeeps.foldl {α : Type} {f : State → α → State} (hf : ∀ t x, State.StepKeeps n t (f t x)) (l : List α)
    (s : State) : State.StepKeeps n s (l.foldl f s) :=
  List.foldlRecOn (motive := fun t : State => State.StepKeeps n s t) l f (.refl s) fun t ht x _ => ht.trans (hf t x)

theorem State.appOn_eq (hd : t.dev = s.dev) (hp : t.pwr = s.pwr) : t.appOn = s.appOn := by
  rw [State.appOn, State.appOn, hd, hp]

theorem State.linkDown_eq (ha : t.appOn = s.appOn) (hr : t.mgmt.rfunc = s.mgmt.rfunc) (n : Fin 4) :
    t.linkDown n = s.linkDown n := by
  rw [State.linkDown, State.linkDown, State.powered, State.powered, ha, hr]

theorem State.StepKeeps.linkDown (h : State.StepKeeps n s t) : t.linkDown n = s.linkDown n :=
  State.linkDown_eq h.appOn h.rfunc n

/-- A change outside the pour, the device state and the buffers. -/
theorem State.StepKeeps.of_frame (h : Frame [.evm, .mgmt, .safecause, .tick, .moulds, .ax, .mon] s t)
    (hst : (t.axis n).st = (s.axis n).st) (hd : (t.axis n).drv = (s.axis n).drv) (hr : t.mgmt.rfunc = s.mgmt.rfunc) :
    State.StepKeeps n s t := by
  refine ⟨h.mono (by decide), congrArg Pour.ax (h.pour_eq (by decide)), hst, hd, hr,
    State.appOn_eq (h.dev_eq (by decide)) (h.pwr_eq (by decide)), ?_⟩
  rw [State.xAct, State.xAct, h.exch_eq (by decide)]

/-! ### The entry to SAFE -/

theorem State.axFault_stepKeeps (s : State) (k : Fin 4) : State.StepKeeps n s (s.axFault k) := by
  have hst : ((s.axFault k).axis n).st = (s.axis n).st := by
    by_cases h : n = k
    · rw [h]
      exact (s.axFault_taken k).st
    · rw [(s.axFault_taken k).others n h]
  exact .of_frame ((s.axFault_frame k).mono (by decide)) hst (s.axFault_drv k n) (by rw [s.axFault_mgmt k])

theorem State.cancelCopy_stepKeeps (s : State) : State.StepKeeps n s s.cancelCopy := by
  have hf := s.cancelCopy_spec.1
  exact .of_frame (hf.mono (by decide)) (by rw [hf.axis_eq (by decide)]) (by rw [hf.axis_eq (by decide)])
    (by rw [s.cancelCopy_mgmt])

theorem State.cancelPend_frame (s : State) : Frame [.mgmt, .moulds, .exch, .tick] s s.cancelPend := fun p hp => by
  cases p with
  | mgmt | moulds | exch | tick => simp at hp
  | _ => simp [Part.same]

theorem State.cancelPend_kept (s : State) : s.cancelPend.mgmt.rfunc = s.mgmt.rfunc ∧ s.cancelPend.xAct = s.xAct := by
  unfold State.cancelPend
  split
  · exact ⟨rfl, rfl⟩
  · split
    · exact ⟨rfl, rfl⟩
    · dsimp only
      split <;> exact ⟨rfl, rfl⟩

theorem State.cancelPend_stepKeeps (s : State) : State.StepKeeps n s s.cancelPend := by
  have hf := s.cancelPend_frame
  obtain ⟨h1, h2⟩ := s.cancelPend_kept
  exact ⟨hf.mono (by decide), congrArg Pour.ax (hf.pour_eq (by decide)), by rw [hf.axis_eq (by decide)],
    by rw [hf.axis_eq (by decide)], h1, State.appOn_eq (hf.dev_eq (by decide)) (hf.pwr_eq (by decide)), by rw [h2]⟩

theorem State.abortTest_stepKeeps (s : State) (sel : BgOp → Bool) : State.StepKeeps n s (s.abortTest sel) := by
  obtain ⟨h1, -, h3⟩ := (State.abortTest_apart (n := n) s sel).alike
  exact .of_frame ((s.abortTest_frame sel).mono (by decide)) h1 h3 rfl

theorem State.clrCause_stepKeeps (s : State) (c : BitVec 4) : State.StepKeeps n s (s.clrCause c) :=
  .of_frame ((Frame.of_mgmt s _).mono (by decide)) rfl rfl rfl

/-- READY, RUN and SAFE leave the domains of the drive dies on (20 Table 20-2). -/
theorem State.setSafe_stepKeeps (s : State) (c : BitVec 4) (h : s.dev = .ready ∨ s.dev = .run) :
    State.StepKeeps n s { s.setDev .safe with safecause := c } := by
  have ha : ({ s.setDev .safe with safecause := c } : State).appOn = s.appOn := by
    obtain h | h := h <;> simp [State.appOn, State.setDev, h]
  refine ⟨fun p hp => ?_, rfl, rfl, rfl, rfl, ha, rfl⟩
  cases p with
  | dev | safecause | mon => exact absurd (by decide) hp
  | _ => rfl

theorem State.enterSafe_stepKeeps (s : State) (c : BitVec 4) : State.StepKeeps n s (s.enterSafe c) := by
  have hgo (h : s.dev = .ready ∨ s.dev = .run) : State.StepKeeps n s (((axes.foldl State.axFault
      { s.setDev .safe with safecause := c }).cancelActivation.abortTest fun _ => true).clrCause c) :=
    (((((s.setSafe_stepKeeps c h).trans (.foldl State.axFault_stepKeeps axes _)).trans
      (State.cancelCopy_stepKeeps _)).trans (State.cancelPend_stepKeeps _)).trans
      (State.abortTest_stepKeeps _ _)).trans (State.clrCause_stepKeeps _ c)
  unfold State.enterSafe
  split
  · exact hgo (.inl ‹_›)
  · exact hgo (.inr ‹_›)
  · refine State.StepKeeps.trans (t := { s with safecause := joinCause s.safecause c }) ?_ (State.clrCause_stepKeeps _ c)
    refine .of_frame (fun p hp => ?_) rfl rfl rfl
    cases p with
    | safecause => exact absurd (by decide) hp
    | _ => rfl
  · exact .refl s

/-! ### Events and the Pour data memory -/

/-- Whether or not the event is mapped to quench (15 R450). -/
theorem State.raise_stepKeeps (s : State) (k : Nat) : State.StepKeeps n s (s.raise k) := by
  let s1 : State := { s with
    evm := s.evm.route k, mgmt := { s.mgmt with ev203 := s.mgmt.ev203 || decide (k = 203) } }
  have h1 : State.StepKeeps n s s1 := by
    refine .of_frame (fun p hp => ?_) rfl rfl rfl
    cases p with
    | evm | mgmt => exact absurd (by decide) hp
    | _ => rfl
  change State.StepKeeps n s (s1.quenchFor k)
  unfold State.quenchFor
  split
  · refine (h1.trans (s1.enterSafe_stepKeeps 3)).trans (.of_frame (fun p hp => ?_) rfl rfl rfl)
    cases p with
    | mon => exact absurd (by decide) hp
    | _ => rfl
  · exact h1

theorem State.raiseIf_stepKeeps (s : State) (b : Bool) (k : Nat) : State.StepKeeps n s (s.raiseIf b k) := by
  unfold State.raiseIf
  split
  · exact s.raise_stepKeeps k
  · exact .refl s

/-- A change of the pour that leaves the ports. -/
theorem State.stepKeeps_of_pour (s : State) (p : Pour) (h : p.ax = s.pour.ax) : State.StepKeeps n s { s with pour := p } := by
  refine ⟨fun q hq => ?_, h, rfl, rfl, rfl, rfl, rfl⟩
  cases q with
  | pour => exact absurd (by decide) hq
  | _ => rfl

theorem State.pourFlag_stepKeeps (s : State) (k : Nat) : State.StepKeeps n s (s.pourFlag k) := s.stepKeeps_of_pour _ rfl

theorem State.setSat_stepKeeps (s : State) (b : Bool) : State.StepKeeps n s (s.setSat b) := by
  unfold State.setSat
  split
  · exact (s.pourFlag_stepKeeps 0).trans (State.raiseIf_stepKeeps _ _ _)
  · exact .refl s

theorem State.setClamped_stepKeeps (s : State) (b : Bool) : State.StepKeeps n s (s.setClamped b) := by
  unfold State.setClamped
  split
  · exact (s.pourFlag_stepKeeps 1).trans (State.raise_stepKeeps _ _)
  · exact .refl s

theorem State.pdmRead_stepKeeps (s : State) (a : Nat) : State.StepKeeps n s (s.pdmRead a).2 := by
  unfold State.pdmRead State.eccRead
  split
  · exact .refl s
  · exact (s.stepKeeps_of_pour { s.pour with eccc := sat8 s.pour.eccc } rfl).trans (State.raise_stepKeeps _ 202)
  · exact (s.pourFlag_stepKeeps 2).trans (State.raise_stepKeeps _ 203)

theorem State.pdmWrite_stepKeeps (s : State) (a : Nat) (w : Word) : State.StepKeeps n s (s.pdmWrite a w) :=
  s.stepKeeps_of_pour _ rfl

theorem State.setXAct_frame (s : State) (x : XBuf) : Frame [.exch] s (s.setXAct x) := by
  unfold State.setXAct
  split
  all_goals
    intro p hp
    cases p with
    | exch => simp at hp
    | _ => rfl

/-- A write of the active buffer that leaves the reports. -/
theorem State.setXAct_stepKeeps (s : State) (x : XBuf) (h : x.rep = s.xAct.rep) : State.StepKeeps n s (s.setXAct x) := by
  have hf := s.setXAct_frame x
  exact ⟨hf.mono (by decide), congrArg Pour.ax (hf.pour_eq (by decide)), by rw [hf.axis_eq (by decide)],
    by rw [hf.axis_eq (by decide)], by rw [hf.mgmt_eq (by decide)],
    State.appOn_eq (hf.dev_eq (by decide)) (hf.pwr_eq (by decide)), by rw [(s.setXAct_spec x).1, h]⟩

/-! ### The parts of a step -/

theorem State.motFlags_stepKeeps (s : State) (m : Mot) : State.StepKeeps n s (s.motFlags m) :=
  ((State.StepKeeps.foldl (fun t a => t.pdmRead_stepKeeps a) m.pdmUse s).trans (State.setClamped_stepKeeps _ _)).trans
    (State.setSat_stepKeeps _ _)

theorem State.profileFormed_stepKeeps (s : State) (k : Fin 4) (m : Mot) : State.StepKeeps n s (s.profileFormed k m) := by
  unfold State.profileFormed
  split
  · exact .foldl (fun t i => t.pdmWrite_stepKeeps _ _) _ s
  · exact .refl s

theorem State.raiseMev_stepKeeps (s : State) (ev : BitVec 8) : State.StepKeeps n s (s.raiseMev ev) :=
  .foldl (fun t _ => t.raiseIf_stepKeeps _ _) _ s

theorem State.pointOut_stepKeeps (k : Fin 4) (s : State) (i : Nat) : State.StepKeeps n s (State.pointOut k s i) :=
  (s.pdmRead_stepKeeps _).trans (State.setXAct_stepKeeps _ _ rfl)

end

/-! ### The profile streams -/

/-- The same motion state but for the profile that is streamed in or out, and its events (06 R194). -/
def Mot.ProfOnly (m q : Mot) : Prop := q = { m with
  inGot := q.inGot, profok := q.profok, posC := q.posC, posO := q.posO, outLeft := q.outLeft, ev := q.ev }

theorem State.profileIn_spec (s : State) (n k : Fin 4) (m : Mot) :
    State.StepKeeps n s (s.profileIn k m).1 ∧ m.ProfOnly (s.profileIn k m).2 := by
  unfold State.profileIn
  dsimp only
  split
  · exact ⟨.refl s, rfl⟩
  · refine ⟨.foldl (fun t i => t.pdmWrite_stepKeeps _ _) _ s, ?_⟩
    split <;> rfl

theorem State.profileOut_spec (s : State) (n k : Fin 4) (m : Mot) :
    State.StepKeeps n s (s.profileOut k m).1 ∧ m.ProfOnly (s.profileOut k m).2 := by
  unfold State.profileOut
  split
  · exact ⟨.refl s, rfl⟩
  · have ht := State.StepKeeps.foldl (n := n) (f := fun t i => State.pointOut k t (2048 - m.outLeft + i))
      (fun t i => State.pointOut_stepKeeps k t _) (List.range 64) s
    dsimp only
    revert ht
    generalize List.foldl _ s _ = t
    exact fun ht => ⟨ht.trans (State.setXAct_stepKeeps _ _ rfl), rfl⟩

theorem Mot.ProfOnly.trans {m q r : Mot} (h : m.ProfOnly q) (k : q.ProfOnly r) : m.ProfOnly r := by
  unfold Mot.ProfOnly at *
  rw [k, h]

end Sys2Proof.Machine
end
section
/-! SUPPORT. One step of an axis of a standard mould, its tick frame, and a step of its trajectory (05 Table 5-3; 06 R158, R181,
R204, R205; 16 R467; O22). -/

namespace Sys2Proof.Machine

/-! ### The step, in its parts -/

/-- The motion state a step begins with: the events and marks of the last pour are gone. -/
def State.motBefore (s : State) (n : Fin 4) : Mot :=
  { s.std.ax.get n with ev := 0, sat := false, clamped := false, pdmUse := [], formed := false, revNew := false }

/-- Steps 2 to 8 of a pour (06 Table 6-2), in a clearing state and under control. -/
def State.motMoved (s : State) (k : Nat) (n : Fin 4) : Mot :=
  if (s.axis n).st.clears then (s.motBefore n).idle ⟨s, n, k⟩ (readSens s n) (s.axis n).st
  else ({ s.motBefore n with revNew := (s.std.ax.get n).revNew }).active ⟨s, n, k⟩ (readSens s n) (s.axis n).st

/-- The motion state of the pour, with its memory of the pour before. -/
def State.motStepped (s : State) (k : Nat) (n : Fin 4) : Mot :=
  { s.motMoved k n with
    stLast := (s.axis n).st.code, faultT := if (s.motMoved k n).faulting then (s.motBefore n).faultT + 1 else 0
    va1 := (s.motBefore n).va0, vb1 := (s.motBefore n).vb0, d1 := (s.motBefore n).d0
    revNew := (s.motMoved k n).revNew && !(s.std.ax.get n).revNew }

/-- The compares, the test pulse and the Pour flags of a step. -/
def State.stepWrites (s : State) (k : Nat) (n : Fin 4) : State :=
  let c : Ctx := ⟨s, n, k⟩
  let m := s.motStepped k n
  ((s.updPort n fun a => { a with cur := m.compares c (readSens s n) (s.axis n).st }).sendImm n
    (m.pulseNow c (s.axis n).st)).motFlags m

/-- The end of a step: the profile, the motion state, the status words, the mould's events (06 Table 6-2, step 9). -/
def State.stepEnd (s : State) (n : Fin 4) (m : Mot) : State :=
  let r := (s.profileFormed n m).profileIn n m
  let q := r.1.profileOut n r.2
  let t : State := { q.1 with std := { q.1.std with
    ax := q.1.std.ax.set n q.2, todo := q.1.std.todo &&& ~~~(bitB 4 n.val) } }
  (t.stdStatus n q.2).raiseMev q.2.ev

theorem State.stdAxisStep_eq (s : State) (k : Nat) (n : Fin 4) :
    s.stdAxisStep k n = (s.stepWrites k n).stepEnd n (s.motStepped k n) := rfl

theorem State.stdStep_of_todo {s : State} {m : MouldInfo} {k : Nat} {n : Fin 4} (hm : s.moulds.active = some m)
    (hk : m.std = some k) (h : s.std.todo.getLsbD n.val = true) : s.stdStep n = s.stdAxisStep k n := by
  simp only [State.stdStep, hm, hk, h, if_true]

theorem State.stdStep_of_done {s : State} {n : Fin 4} (h : s.std.todo.getLsbD n.val = false) : s.stdStep n = s := by
  unfold State.stdStep
  split
  · split
    · exact if_neg (by rw [h]; exact Bool.false_ne_true)
    · rfl
  · rfl

/-! ### What a step leaves -/

/-- The report of the axis stands in the active buffer; the other reports, and all else, stay. -/
theorem State.stdStatus_spec (s : State) (n : Fin 4) (m : Mot) : Frame [.exch] s (s.stdStatus n m) ∧
    (s.stdStatus n m).xAct.rep.get n = m.report (s.axis n).st := by
  refine ⟨s.setXAct_frame _, ?_⟩
  rw [State.stdStatus, (s.setXAct_spec _).1]
  exact Four.get_set_same _ _ _

/-- What the step of axis n with motion state m, which ends as q, leaves. -/
structure State.StepEnded (n : Fin 4) (m q : Mot) (s t : State) : Prop where
  mot : m.ProfOnly q
  std : t.std = { s.std with ax := s.std.ax.set n q, todo := s.std.todo &&& ~~~(bitB 4 n.val) }
  rep : t.xAct.rep.get n = q.report (s.axis n).st
  frame : Frame ([.std, .pour] ++ raiseParts) s t
  ports : t.pour.ax = s.pour.ax
  drv : (t.axis n).drv = (s.axis n).drv
  linkDown : t.linkDown n = s.linkDown n

theorem State.stepEnd_spec (s : State) (n : Fin 4) (m : Mot) : ∃ q, State.StepEnded n m q s (s.stepEnd n m) := by
  let r := (s.profileFormed n m).profileIn n m
  let q := r.1.profileOut n r.2
  let t : State := { q.1 with std := { q.1.std with
    ax := q.1.std.ax.set n q.2, todo := q.1.std.todo &&& ~~~(bitB 4 n.val) } }
  obtain ⟨hi, mi⟩ := (s.profileFormed n m).profileIn_spec n n m
  obtain ⟨ho, mo⟩ := r.1.profileOut_spec n n r.2
  have hq : State.StepKeeps n s q.1 := ((s.profileFormed_stepKeeps n m).trans hi).trans ho
  obtain ⟨hf, hrep⟩ := t.stdStatus_spec n q.2
  have he : State.StepKeeps n (t.stdStatus n q.2) (s.stepEnd n m) := State.raiseMev_stepKeeps _ _
  have hs : q.1.std = s.std := hq.frame.std_eq (by decide)
  have ht : Frame [.std] q.1 t := .of_std _ _
  have ha : (t.stdStatus n q.2).axis n = q.1.axis n := hf.axis_eq (by decide) n
  refine ⟨q.2, mi.trans mo, ?_, ?_, ?_, ?_, ?_, ?_⟩
  · rw [he.frame.std_eq (by decide), hf.std_eq (by decide), ← hs]
  · rw [he.rep, hrep]
    exact congrArg q.2.report hq.st
  · exact (((hq.frame.mono (by decide)).trans (ht.mono (by decide))).trans (hf.mono (by decide))).trans
      (he.frame.mono (by decide))
  · rw [he.ports, hf.pour_eq (by decide)]
    exact hq.ports
  · rw [he.drv, ha]
    exact hq.drv
  · have h1 : (t.stdStatus n q.2).appOn = q.1.appOn := State.appOn_eq (hf.dev_eq (by decide)) (hf.pwr_eq (by decide))
    have h2 : (t.stdStatus n q.2).mgmt.rfunc = q.1.mgmt.rfunc := congrArg Mgmt.rfunc (hf.mgmt_eq (by decide))
    rw [he.linkDown, State.linkDown_eq h1 h2, hq.linkDown]

/-- A step of axis n enters its compares into the port. -/
theorem State.stepWrites_spec (s : State) (k : Nat) (n : Fin 4) :
    let t := s.stepWrites k n
    Frame ([.pour] ++ raiseParts) s t ∧ (t.axis n).st = (s.axis n).st ∧ (t.axis n).drv = (s.axis n).drv ∧
      t.linkDown n = s.linkDown n ∧
      (t.pour.ax.get n).cur = (s.motStepped k n).compares ⟨s, n, k⟩ (readSens s n) (s.axis n).st ∧
      (t.pour.ax.get n).sent = (s.pour.ax.get n).sent ∧ (t.pour.ax.get n).linkctl = (s.pour.ax.get n).linkctl := by
  let c : Ctx := ⟨s, n, k⟩
  let m := s.motStepped k n
  let u := s.updPort n fun a => { a with cur := m.compares c (readSens s n) (s.axis n).st }
  have hu : Frame [.pour] s (u.sendImm n (m.pulseNow c (s.axis n).st)) :=
    (s.updPort_frame n _).trans (u.updPort_frame n _)
  have hp : u.pour.ax.get n = { s.pour.ax.get n with cur := m.compares c (readSens s n) (s.axis n).st } :=
    s.port_updPort_same n _
  have hm : State.StepKeeps n (u.sendImm n (m.pulseNow c (s.axis n).st)) (s.stepWrites k n) := State.motFlags_stepKeeps _ _
  refine ⟨(hu.mono (by decide)).trans hm.frame, hm.st, hm.drv, hm.linkDown, ?_, ?_, ?_⟩
  · rw [hm.ports, State.sendImm, State.port_updPort_same, hp]
  · rw [hm.ports, State.sendImm, State.port_updPort_same, hp]
  · rw [hm.ports, State.sendImm, State.port_updPort_same, hp]

/-- What a whole step of axis n leaves, from the state it began in. -/
structure State.AxisStepped (k : Nat) (n : Fin 4) (q : Mot) (s t : State) : Prop where
  mot : (s.motStepped k n).ProfOnly q
  std : t.std = { s.std with ax := s.std.ax.set n q, todo := s.std.todo &&& ~~~(bitB 4 n.val) }
  rep : t.xAct.rep.get n = q.report (s.axis n).st
  frame : Frame ([.std, .pour] ++ raiseParts) s t
  drv : (t.axis n).drv = (s.axis n).drv
  linkDown : t.linkDown n = s.linkDown n
  cur : (t.pour.ax.get n).cur = (s.motStepped k n).compares ⟨s, n, k⟩ (readSens s n) (s.axis n).st
  sent : (t.pour.ax.get n).sent = (s.pour.ax.get n).sent
  linkctl : (t.pour.ax.get n).linkctl = (s.pour.ax.get n).linkctl

theorem State.stdAxisStep_spec (s : State) (k : Nat) (n : Fin 4) : ∃ q, State.AxisStepped k n q s (s.stdAxisStep k n) := by
  obtain ⟨h1, h2, h3, h4, h5, h6, h7⟩ := s.stepWrites_spec k n
  obtain ⟨q, he⟩ := (s.stepWrites k n).stepEnd_spec n (s.motStepped k n)
  rw [← s.stdAxisStep_eq] at he
  have hs : (s.stepWrites k n).std = s.std := h1.std_eq (by decide)
  exact ⟨q, he.mot, hs ▸ he.std, h2 ▸ he.rep, (h1.mono (by decide)).trans he.frame, he.drv.trans h3, he.linkDown.trans h4,
    he.ports ▸ h5, he.ports ▸ h6, he.ports ▸ h7⟩

/-! ### The tick frame -/

/-- A tick frame on a link that passes frames (16 R464). -/
def State.frameTaken (s : State) (n : Fin 4) (good : Bool) (eye : Int) : State :=
  (if good then (s.slipDown n eye).tickFrameGood n else (s.slipDown n eye).tickFrameBad n).frameSent n

theorem exec_tickFrame {s : State} {n : Fin 4} (hl : (s.stdStep n).linkDown n = false)
    (hs : ((s.stdStep n).pour.ax.get n).sent = false) (good : Bool) (eye : Int) :
    exec (.tickFrame n good eye) s = .next ((s.stdStep n).frameTaken n good eye) := if_neg (by simp [hl, hs])

theorem State.raiseDrvIf_drv (s : State) (b : Bool) (n : Fin 4) (j : Nat) :
    ((s.raiseDrvIf b n j).axis n).drv = (s.axis n).drv := (congrArg Axis.drv (s.raiseDrvIf_sentAs b n j) :)

theorem State.slipDown_spec (s : State) (n : Fin 4) (eye : Int) : Frame [.ax, .evm] s (s.slipDown n eye) ∧
    ((s.slipDown n eye).axis n).drv = (s.axis n).drv := by
  refine ⟨((s.updAxis_frame n _).mono (qs := [.ax, .evm]) (by decide)).trans (State.raiseDrvIf_frame _ _ n 23), ?_⟩
  rw [State.slipDown, State.raiseDrvIf_drv, State.updLink, State.axis_updAxis_same]

theorem State.tickFrameGood_spec (s : State) (n : Fin 4) : Frame [.ax, .evm] s (s.tickFrameGood n) ∧
    ((s.tickFrameGood n).axis n).drv.scmp = if (s.pour.ax.get n).linkctl.getLsbD 0 then (s.axis n).drv.scmp
      else (s.pour.ax.get n).cur.load (s.axis n).drv.scmp := by
  refine ⟨fun p hp => ?_, ?_⟩
  · cases p with
    | ax | evm => simp at hp
    | _ => rfl
  · rw [State.tickFrameGood, State.axis_updAxis_same]

theorem State.tickFrameBad_spec (s : State) (n : Fin 4) : Frame [.ax, .evm] s (s.tickFrameBad n) ∧
    ((s.tickFrameBad n).axis n).drv = (s.axis n).drv := by
  refine ⟨(((s.updAxis_frame n _).mono (qs := [.ax, .evm]) (by decide)).trans (State.raiseDrvIf_frame _ true n 20)).trans
    (State.raiseDrvIf_frame _ _ n 22), ?_⟩
  rw [State.tickFrameBad, State.raiseDrvIf_drv]
  refine (State.raiseDrvIf_drv _ true n 20).trans ?_
  rw [State.axis_updAxis_same]

/-- The frame has left; a good one enters the compares that waited for it, a bad one keeps the shadows (R467). -/
theorem State.frameTaken_spec (s : State) (n : Fin 4) (good : Bool) (eye : Int) :
    let t := s.frameTaken n good eye
    Frame [.pour, .ax, .evm] s t ∧ (t.pour.ax.get n).sent = true ∧
      (good = true → (s.pour.ax.get n).linkctl.getLsbD 0 = false →
        (t.axis n).drv.scmp = (s.pour.ax.get n).cur.load (s.axis n).drv.scmp) ∧
      (good = false → (t.axis n).drv.scmp = (s.axis n).drv.scmp) := by
  obtain ⟨h1, h2⟩ := s.slipDown_spec n eye
  have hp : (s.slipDown n eye).pour = s.pour := h1.pour_eq (by decide)
  have hsent (u : State) : Frame [.pour] u (u.frameSent n) ∧ ((u.frameSent n).pour.ax.get n).sent = true :=
    ⟨u.updPort_frame n _, by rw [State.frameSent, State.port_updPort_same]⟩
  cases good with
  | true =>
    obtain ⟨h3, h4⟩ := (s.slipDown n eye).tickFrameGood_spec n
    refine ⟨((h1.trans h3).mono (by decide)).trans ((hsent _).1.mono (by decide)), (hsent _).2, fun _ hh => ?_,
      fun h => absurd h (by decide)⟩
    refine h4.trans ?_
    rw [hp, hh, h2]
    rfl
  | false =>
    obtain ⟨h3, h4⟩ := (s.slipDown n eye).tickFrameBad_spec n
    refine ⟨((h1.trans h3).mono (by decide)).trans ((hsent _).1.mono (by decide)), (hsent _).2,
      fun h => absurd h (by decide), fun _ => ?_⟩
    exact congrArg Drv.scmp (h4.trans h2)

/-! ### The motion state of a step -/

/-- A motion state cleared and at rest on the measured position, with job step `no` loaded (05 Table 5-3). -/
def Mot.AtRest (no : Nat) (u : Mot) : Prop :=
  u.stepNo = no ∧ u.v = 0 ∧ u.a = 0 ∧ u.p = u.pos * 2 ^ 32 ∧ u.target = u.pos ∧
    u.moving = false ∧ u.cPos = {} ∧ u.cSpd = {} ∧ u.cD = {} ∧ u.cQ = {} ∧ u.cBus = {} ∧ u.iqRef = 0

theorem Mot.learnDrop_pos (m : Mot) : m.learnDrop.pos = m.pos := by
  unfold Mot.learnDrop
  split <;> rfl

theorem Mot.idle_spec (c : Ctx) (x : Sens) (st : AxState) (m : Mot) :
    (m.idle c x st).AtRest (c.s.std.latStep.get c.n).no ∧ (st ≠ .test → (m.idle c x st).faulting = false) := by
  unfold Mot.idle
  generalize ((((m.learnDrop.checks c x false).source c x st).measure c).checkTravel c) = b
  refine ⟨⟨rfl, rfl, rfl, ?_, ?_, rfl, rfl, rfl, rfl, rfl, rfl, rfl⟩, fun h => ?_⟩
  · exact congrArg (· * 2 ^ 32) b.learnDrop_pos.symm
  · exact b.learnDrop_pos.symm
  · change (decide (st = .test) && b.faulting) = false
    rw [decide_eq_false h, Bool.false_and]

theorem AxState.clears_of {st : AxState} (h : st = .disabled ∨ st = .fault ∨ st = .test ∨ st = .recovery) :
    st.clears = true := by
  obtain rfl | rfl | rfl | rfl := h <;> rfl

theorem State.motStepped_atRest {s : State} {n : Fin 4} (k : Nat) (h : (s.axis n).st.clears = true) :
    (s.motStepped k n).AtRest (s.std.latStep.get n).no ∧
      ((s.axis n).st ≠ .test → (s.motStepped k n).faulting = false) := by
  have hm : s.motMoved k n = (s.motBefore n).idle ⟨s, n, k⟩ (readSens s n) (s.axis n).st := if_pos h
  have hi := (s.motBefore n).idle_spec ⟨s, n, k⟩ (readSens s n) (s.axis n).st
  rw [← hm] at hi
  exact hi

section
variable {m q : Mot} (h : m.ProfOnly q)
include h

/-- A streamed profile leaves the axis at rest. -/
theorem Mot.ProfOnly.atRest {no : Nat} (hm : m.AtRest no) : q.AtRest no := by
  rw [Mot.ProfOnly] at h
  rw [h]
  exact hm

theorem Mot.ProfOnly.faulting : q.faulting = m.faulting := (congrArg Mot.faulting h :)
theorem Mot.ProfOnly.faultT : q.faultT = m.faultT := (congrArg Mot.faultT h :)
theorem Mot.ProfOnly.stLast : q.stLast = m.stLast := (congrArg Mot.stLast h :)

end

/-- With a FAULT cause the compares of the pour are 0, whatever stood before (R205). -/
theorem Mot.compares_faulting {m : Mot} (h : m.faulting = true) (c : Ctx) (x : Sens) (st : AxState) (f : Four (BitVec 20)) :
    (m.compares c x st).load f = ⟨0, 0, 0, 0⟩ := by
  have hc : m.compares c x st = ⟨some 0, some 0, some 0, some 0⟩ := if_pos h
  rw [hc]
  rfl

/-! ### A step of the trajectory (R181) -/

theorem natAbs_clampI_le {l x : Int} (h : 0 ≤ l) : ((clampI (-l) l x).natAbs : Int) ≤ l := by
  unfold clampI
  omega

section
variable (dl jmax vmax amax : Int) (m : Mot)

/-- The motion has come within a unit of its target, at a speed of JMAX or less. -/
def Mot.Arrives (p v : Int) : Prop :=
  m.vcmd = none ∧ (m.target * 2 ^ 32 - p).natAbs ≤ 2 ^ 32 ∧ (v.natAbs : Int) ≤ jmax

/-- A step ends the motion at rest on the target, or it moves on within the limits. -/
theorem Mot.trajStep_cases (hj : 0 ≤ jmax) (hv : 0 ≤ vmax) :
    let u := m.trajStep dl jmax vmax amax
    (m.vcmd = none ∧ u.p = m.target * 2 ^ 32 ∧ u.v = 0 ∧ u.a = 0 ∧ u.moving = false ∧ u.done = true) ∨
    (¬m.Arrives jmax u.p u.v ∧ (u.v.natAbs : Int) ≤ vmax ∧ ((u.a - m.a).natAbs : Int) ≤ jmax ∧ u.moving = m.moving) := by
  have ha (x : Int) : ((m.a + clampI (-jmax) jmax x - m.a).natAbs : Int) ≤ jmax := by
    rw [add_sub_cancel_left]
    exact natAbs_clampI_le hj
  cases hc : m.vcmd with
  | some vc =>
    simp only [Mot.trajStep, hc, Option.isNone_some, Bool.false_and, Bool.false_eq_true, if_false]
    exact .inr ⟨fun h => Option.some_ne_none vc (hc.symm.trans h.1), natAbs_clampI_le hv, ha _, trivial⟩
  | none =>
    simp only [Mot.trajStep, hc, Option.isNone_none, Bool.true_and, Bool.and_eq_true, decide_eq_true_eq]
    split
    · exact .inl ⟨trivial, rfl, rfl, rfl, rfl, rfl⟩
    · rename_i hh
      exact .inr ⟨fun h => hh h.2, natAbs_clampI_le hv, ha _, rfl⟩

end

/-! ### O22 -/

section
variable {s : State} {m : MouldInfo} {k : Nat} {n : Fin 4} (hm : s.moulds.active = some m) (hk : m.std = some k)
  (hl : s.linkDown n = false) (hs : (s.pour.ax.get n).sent = false)

include hl hs in
/-- With no step to come the frame leaves the moulds' motion state. -/
theorem exec_tickFrame_done (h : s.std.todo.getLsbD n.val = false) (good : Bool) (eye : Int) :
    ∃ t, exec (.tickFrame n good eye) s = .next t ∧ t.std = s.std := by
  have he := State.stdStep_of_done h
  obtain ⟨hf, -⟩ := s.frameTaken_spec n good eye
  refine ⟨_, exec_tickFrame (he.symm ▸ hl) (he.symm ▸ hs) good eye, ?_⟩
  rw [he]
  exact hf.std_eq (by decide)

include hm hk hl hs in
/-- The frame finds the step of its axis done. -/
theorem exec_tickFrame_steps (h : s.std.todo.getLsbD n.val = true) : ∃ q v, State.AxisStepped k n q s v ∧
    ∀ good eye, exec (.tickFrame n good eye) s = .next (v.frameTaken n good eye) := by
  obtain ⟨q, hq⟩ := s.stdAxisStep_spec k n
  have he := State.stdStep_of_todo hm hk h
  refine ⟨q, _, hq, fun good eye => ?_⟩
  rw [exec_tickFrame (by rw [he, hq.linkDown, hl]) (by rw [he, hq.sent, hs]), he]

end

/-- The motion state that a step of axis n leaves (05 Table 5-3; 06 R158, R204, R205). -/
theorem State.AxisStepped.motion {k : Nat} {n : Fin 4} {q : Mot} {s v : State} (h : State.AxisStepped k n q s v) :
    q.faultT = (if q.faulting then (s.std.ax.get n).faultT + 1 else 0) ∧ q.stLast = (s.axis n).st.code ∧
    ((s.axis n).st.clears = true → q.AtRest (s.std.latStep.get n).no ∧ ((s.axis n).st ≠ .test → q.faulting = false)) := by
  refine ⟨?_, h.mot.stLast, fun hc => ?_⟩
  · rw [h.mot.faultT, h.mot.faulting]
    rfl
  · obtain ⟨h1, h2⟩ := State.motStepped_atRest k hc
    exact ⟨h.mot.atRest h1, fun ht => h.mot.faulting.trans (h2 ht)⟩

/-- Settles O22: the tick frame by the step it finds done, the trajectory by the two ends of a step. -/
theorem standardMouldStepsItsAxis : Obligations.StandardMouldStepsItsAxis := by
  unfold Obligations.StandardMouldStepsItsAxis
  refine ⟨fun s m k n eye hm hk hl hs hc => ⟨fun ht => exec_tickFrame_done hl hs ht true eye, fun ht => ?_⟩,
    fun dl jmax vmax amax m hj hv => ?_⟩
  · obtain ⟨q, v, hq, hex⟩ := exec_tickFrame_steps hm hk hl hs ht
    obtain ⟨hf, hsent, hgood, -⟩ := v.frameTaken_spec n true eye
    obtain ⟨hfb, -, -, hbad⟩ := v.frameTaken_spec n false eye
    have hstd : (v.frameTaken n true eye).std = v.std := hf.std_eq (by decide)
    have hu : (v.frameTaken n true eye).std.ax.get n = q := by
      rw [hstd, hq.std]
      exact Four.get_set_same _ _ _
    obtain ⟨h1, h2, h3⟩ := hq.motion
    refine ⟨_, hex true eye, ?_, (hq.frame).trans (hf.mono (by decide)), _, hex false eye,
      (hfb.std_eq (by decide)).trans hstd.symm, (congrArg Drv.scmp hq.drv ▸ hbad rfl :)⟩
    dsimp only
    rw [hu]
    refine ⟨by rw [hstd, hq.std], fun j hjn => ?_, by rw [hstd, hq.std], by rw [hstd, hq.std], hsent, fun hfa => ?_, h1, h2, ?_,
      fun hst => ?_⟩
    · rw [hstd, hq.std]
      exact Four.get_set_ne _ _ hjn
    · rw [hgood rfl (hq.linkctl ▸ hc), hq.cur]
      exact Mot.compares_faulting (hq.mot.faulting ▸ hfa) _ _ _ _
    · rw [State.xAct, hf.exch_eq (by decide)]
      exact hq.rep
    · obtain ⟨⟨r1, r2, r3, r4, r5, r6, r7, r8, r9, r10, r11, r12⟩, hfa⟩ := h3 (AxState.clears_of hst)
      exact ⟨r1, r2, r3, r4, r5, r6, r7, r8, r9, r10, r11, r12, hfa⟩
  · obtain ⟨hn, hp, hv0, ha0, hmv, hd⟩ | ⟨hna, hvm, haj, hmv⟩ := m.trajStep_cases dl jmax vmax amax hj hv
    · refine ⟨by rw [hv0]; exact hv, .inr ⟨hp, hv0, ha0, hmv, hd⟩, fun h => absurd hn h, fun _ _ _ => ⟨hp, hv0, ha0, hmv, hd⟩⟩
    · exact ⟨hvm, .inl haj, fun _ => hmv, fun h1 h2 h3 => absurd ⟨h1, h2, h3⟩ hna⟩

end Sys2Proof.Machine
end
section
/-! SUPPORT. One axis of the drive dies after a change of its gate chain (07 Table 7-2; 08 R252 to R274): what the settling
of the chain leaves, and what a step on the axis leaves of the rest. -/

namespace Sys2Proof.Machine

/-! ### One bit of a mask -/

theorem getLsbD_putBit {w : Nat} (m : BitVec w) {k : Nat} (j : Nat) (b : Bool) (hk : k < w) :
    (putBit m k b).getLsbD j = if j = k then b else m.getLsbD j := by
  unfold putBit
  cases b with
  | true =>
    rw [if_pos rfl, BitVec.getLsbD_or, getLsbD_bitB]
    by_cases h : j = k
    · subst h
      simp [hk]
    · have h' : ¬k = j := fun e => h e.symm
      simp [h, h']
  | false =>
    rw [if_neg Bool.false_ne_true]
    by_cases h : j = k
    · rw [h, getLsbD_and_not_bitB_same, if_pos rfl]
    · rw [getLsbD_and_not_bitB_ne m h, if_neg h]

theorem phIx_lt (p : Phase) : phIx p < 3 := by cases p <;> decide

/-! ### An axis but for what it sends -/

section
variable {a b : Axis} (h : a.SentAs b)
include h

theorem Axis.SentAs.drv_eq : b.drv = a.drv := (congrArg Axis.drv h :)
theorem Axis.SentAs.ph_eq : b.ph = a.ph := (congrArg Axis.ph h :)
theorem Axis.SentAs.gateOn_eq (q : Bool) (p : Phase) (high : Bool) : b.gateOn q p high = a.gateOn q p high :=
  (congrArg (fun x : Axis => x.gateOn q p high) h :)
theorem Axis.SentAs.brakeOn_eq (q : Bool) : b.brakeOn q = a.brakeOn q := (congrArg (fun x : Axis => x.brakeOn q) h :)

end

/-- From s to t axis n alone has changed: it is b, but for what it has still to send. -/
structure State.Turns (n : Fin 4) (b : Axis) (s t : State) : Prop where
  axis : b.SentAs (t.axis n)
  others : ∀ k, k ≠ n → t.axis k = s.axis k
  frame : Frame [.ax, .evm] s t

theorem State.raiseDrvIf_axis_ne (s : State) (b : Bool) {n k : Fin 4} (j : Nat) (h : k ≠ n) :
    (s.raiseDrvIf b n j).axis k = s.axis k := by
  unfold State.raiseDrvIf
  split
  · exact s.raiseDrv_axis_ne j h
  · rfl

theorem State.updAxis_turns (s : State) (n : Fin 4) (f : Axis → Axis) : State.Turns n (f (s.axis n)) s (s.updAxis n f) :=
  ⟨by rw [State.axis_updAxis_same]; exact .refl _, fun _ h => State.axis_updAxis_ne _ _ h,
    (s.updAxis_frame n f).mono (by decide)⟩

theorem State.updChain_axis (s : State) (n : Fin 4) (f : Axis → Axis) :
    (s.updChain n f).axis n = (f (s.axis n)).settle (s.gateHold n) := State.axis_updAxis_same ..

theorem State.updChain_turns (s : State) (n : Fin 4) (f : Axis → Axis) :
    State.Turns n ((f (s.axis n)).settle (s.gateHold n)) s (s.updChain n f) :=
  s.updAxis_turns n fun a => (f a).settle (s.gateHold n)

section
variable {n : Fin 4} {b : Axis} {s t : State} (h : State.Turns n b s t)
include h

theorem State.Turns.raiseDrvIf (c : Bool) (j : Nat) : State.Turns n b s (t.raiseDrvIf c n j) :=
  ⟨h.axis.trans (t.raiseDrvIf_sentAs c n j), fun k hk => (t.raiseDrvIf_axis_ne c j hk).trans (h.others k hk),
    h.frame.trans (t.raiseDrvIf_frame c n j)⟩

theorem State.Turns.raiseDrv (j : Nat) : State.Turns n b s (t.raiseDrv n j) := h.raiseDrvIf true j

theorem State.Turns.gateHold_eq : t.gateHold n = s.gateHold n :=
  State.gateHold_of_mon_pwr (congrArg Mon.quench (h.frame.mon_eq (by decide))) (h.frame.pwr_eq (by decide)) n

end

/-! ### What settles after a change of the chain -/

section
variable (a : Axis) (q : Bool)

/-- Settling marks the gates that are on and moves the sources of VDS monitors; the registers else stay. -/
theorem Axis.settle_drv : (a.settle q).drv = { a.drv with
    tsrc := (a.settle q).drv.tsrc, hon := (a.settle q).drv.hon, lon := (a.settle q).drv.lon } := rfl

theorem Axis.settle_side (p : Phase) (high : Bool) : ((a.settle q).ph.get p).side high =
    ((a.ph.get p).side high).settle (a.gateOn q p high) (a.cmd7 q p high) := by
  cases p <;> cases high <;> rfl

theorem Axis.settle_phase (p : Phase) : (a.settle q).ph.get p =
    { a.ph.get p with h := ((a.settle q).ph.get p).h, l := ((a.settle q).ph.get p).l } := by
  cases p <;> rfl

theorem Axis.settle_gateOn (r : Bool) (p : Phase) (high : Bool) : (a.settle q).gateOn r p high = a.gateOn r p high := by
  cases p <;> cases high <;> rfl

theorem Axis.settle_brakeOn (r : Bool) : (a.settle q).brakeOn r = a.brakeOn r := rfl

end

/-! ### What holds an output off -/

section
variable {a : Axis}

theorem Axis.gateOn_of_ena (h : a.drv.ena = false) (q : Bool) (p : Phase) (high : Bool) : a.gateOn q p high = false := by
  simp [Axis.gateOn, Axis.cmd7, h]

theorem Axis.brakeOn_of_ena (h : a.drv.ena = false) (q : Bool) : a.brakeOn q = false := by
  simp [Axis.brakeOn, h]

theorem Axis.gateOn_of_lockedOut (h : a.lockedOut = true) (q : Bool) (p : Phase) (high : Bool) : a.gateOn q p high = false := by
  simp [Axis.gateOn, h]

theorem Axis.brakeOn_of_lockedOut (h : a.lockedOut = true) (q : Bool) : a.brakeOn q = false := by
  simp [Axis.brakeOn, h]

theorem Axis.gateOn_of_offMask {p : Phase} {high : Bool} (h : a.offMask.getLsbD (outBit p high) = true) (q : Bool) :
    a.gateOn q p high = false := by
  simp [Axis.gateOn, Axis.cmd7, h]

theorem Axis.gateOn_of_held (a : Axis) (p : Phase) (high : Bool) : a.gateOn true p high = false := by
  simp [Axis.gateOn, Axis.cmd7]

theorem Axis.brakeOn_of_held (a : Axis) : a.brakeOn true = false := by
  simp [Axis.brakeOn]

/-- The masks of a set hold the mask of each of its sources (07 R238). -/
theorem Axis.masksOf_of_mem (a : Axis) {m : BitVec 13} {k : Fin 13} {i : Nat} (hm : m.getLsbD k.val = true)
    (hi : (a.tripMask k.val).getLsbD i = true) : (a.masksOf m).getLsbD i = true := by
  have hstep (acc : BitVec 7) (l : List Nat) (h : acc.getLsbD i = true ∨ k.val ∈ l) :
      (l.foldl (fun acc k => if m.getLsbD k then acc ||| a.tripMask k else acc) acc).getLsbD i = true := by
    induction l generalizing acc with
    | nil => exact h.resolve_right (List.not_mem_nil)
    | cons j l ih =>
      refine ih _ ?_
      dsimp only
      obtain h | h := h
      · left
        split
        · simp [h]
        · exact h
      · obtain rfl | h := List.mem_cons.1 h
        · left
          rw [if_pos hm, BitVec.getLsbD_or, hi, Bool.or_true]
        · exact .inr h
  exact hstep 0 _ (.inr (List.mem_range.2 k.isLt))

/-- An output in the group of a latched trip is off (07 R238). -/
theorem Axis.offMask_of_trip {k : Fin 13} {i : Nat} (hm : (a.drv.tflag ||| a.cbcHold).getLsbD k.val = true)
    (hi : (a.tripMask k.val).getLsbD i = true) : a.offMask.getLsbD i = true := by
  simp [Axis.offMask, a.masksOf_of_mem hm hi]

end

/-! ### Changes of the gate commands alone -/

/-- Two axes that differ in their gate commands alone. -/
structure Axis.Regated (a b : Axis) : Prop where
  axis : b = { a with ph := b.ph }
  phase : ∀ p, b.ph.get p = { a.ph.get p with h := (b.ph.get p).h, l := (b.ph.get p).l }

theorem Axis.Regated.trans {a b c : Axis} (h : a.Regated b) (k : b.Regated c) : a.Regated c := by
  refine ⟨?_, fun p => ?_⟩
  · rw [k.axis, h.axis]
  · rw [k.phase, h.phase]

theorem Axis.drivePh_regated (a : Axis) (p : Phase) (high low : Bool) : a.Regated (a.drivePh p high low) := by
  refine ⟨rfl, fun r => ?_⟩
  cases p <;> cases r <;> rfl

theorem Axis.drivePhase_regated (a : Axis) (p : Phase) : a.Regated (a.drivePhase p) := by
  unfold Axis.drivePhase
  dsimp only
  split
  · exact a.drivePh_regated p _ _
  · exact a.drivePh_regated p _ _

theorem Axis.drivePhases_regated (a : Axis) : a.Regated (phases.foldl Axis.drivePhase a) :=
  ((a.drivePhase_regated .u).trans (Axis.drivePhase_regated _ .v)).trans (Axis.drivePhase_regated _ .w)

theorem Axis.rearm_regated (a : Axis) : a.Regated a.rearm := ⟨rfl, fun p => by cases p <;> rfl⟩

theorem Axis.updSide_side (a : Axis) (p : Phase) (high : Bool) (f : GateCh → GateCh) :
    ((a.updSide p high f).ph.get p).side high = f ((a.ph.get p).side high) := by
  cases p <;> cases high <;> rfl

theorem Axis.updSide_partner (a : Axis) (p : Phase) (high : Bool) (f : GateCh → GateCh) :
    ((a.updSide p high f).ph.get p).side (!high) = (a.ph.get p).side (!high) := by
  cases p <;> cases high <;> rfl

section
variable {a b : Axis} (h : a.Regated b)
include h

theorem Axis.Regated.drv_eq : b.drv = a.drv := (congrArg Axis.drv h.axis :)
theorem Axis.Regated.raw_eq (p : Phase) : (b.ph.get p).raw = (a.ph.get p).raw := (congrArg PhSt.raw (h.phase p) :)
theorem Axis.Regated.refr_eq (p : Phase) : (b.ph.get p).refr = (a.ph.get p).refr := (congrArg PhSt.refr (h.phase p) :)

end

end Sys2Proof.Machine
end
section
/-! SUPPORT. Trips: their raw sources, filters and flags, and the outputs they hold off (07 R237 to R242; 18 R497; 20 R531,
R539; O31). -/

namespace Sys2Proof.Machine

/-! ### The raw source -/

/-- The supplies as DRV0's VGD comparator leaves them, those of another source as they were (20 R531). -/
def State.vgdSeen (s : State) (n : Fin 4) (k : Fin 13) (up : Bool) : Power :=
  if n = 0 ∧ k = 12 then { s.pwr with vgd := up, v5oc := s.pwr.v5oc && up } else s.pwr

theorem State.powered_mon_of_appOn {s : State} (h : s.appOn = true) : s.powered .mon = true := by
  simp only [State.appOn, Bool.and_eq_true] at h
  obtain ⟨⟨-, hoff⟩, hhib⟩ := h
  simp [State.powered, hoff, hhib]

section
variable {s : State} (hon : s.appOn = true) (n : Fin 4) (k : Fin 13)
include hon

theorem State.seeVgd_eq (active : Bool) : s.seeVgd n k active = { s with pwr := s.vgdSeen n k (!active) } := by
  unfold State.seeVgd State.vgdSeen
  rw [State.powered_mon_of_appOn hon]
  by_cases h : n = 0 ∧ k = 12
  · rw [if_pos ⟨h.1, h.2, rfl⟩, if_pos h]
  · rw [if_neg fun c => h ⟨c.1, c.2.1⟩, if_neg h]

/-- A change of a raw source moves its axis and, for DRV0's VGD comparator, the supplies (07 R237, 20 R531). -/
theorem exec_tripSourceChange (active : Bool) : ∃ t, exec (.tripSourceChange n k active) s = .next t ∧
    t.pwr = s.vgdSeen n k (!active) ∧ Frame [.ax, .pwr] s t ∧
    (active = true → t.axis n = if (s.axis n).sourceLive k.val then { s.axis n with
      counting := putBit (s.axis n).counting k.val (tcEn ((s.axis n).drv.tcfg.get k))
      drv := { (s.axis n).drv with tsrc := putBit (s.axis n).drv.tsrc k.val true } } else s.axis n) ∧
    (active = false → (t.axis n).drv = { (s.axis n).drv with tsrc := putBit (s.axis n).drv.tsrc k.val false } ∧
      (t.axis n).counting = putBit (s.axis n).counting k.val false) := by
  have hp : ({ s with pwr := s.vgdSeen n k (!active) } : State).appOn = true := by
    refine Eq.trans ?_ hon
    unfold State.appOn State.vgdSeen
    split <;> rfl
  have he := State.seeVgd_eq hon n k active
  have hf (u : State) (f : Axis → Axis) (hu : u = { s with pwr := u.pwr }) : Frame [.ax, .pwr] s (u.updAxis n f) := by
    refine Frame.trans (t := u) (fun p hp => ?_) ((u.updAxis_frame n f).mono (by decide))
    rw [hu]
    cases p with
    | pwr => simp at hp
    | _ => rfl
  refine ⟨_, if_pos (by rw [he]; exact hp), by rw [State.updAxis_pwr, he], hf _ _ (by rw [he]), ?_, ?_⟩
  · rintro rfl
    rw [State.axis_updAxis_same, he]
    rfl
  · rintro rfl
    rw [State.axis_updAxis_same, he]
    exact ⟨rfl, rfl⟩

end

/-! ### The filtered trip -/

/-- The axis once the filter of source k has seen its samples, with the outputs of its group off (07 R237 to R243). -/
def Axis.tripped (a : Axis) (k : Fin 13) : Axis :=
  let cbc := tcCbc (a.drv.tcfg.get k)
  let b : Axis := { a with
    counting := putBit a.counting k.val false
    filt := putBit a.filt k.val true
    cbcHold := if cbc then putBit a.cbcHold k.val true else a.cbcHold
    cbcPer := if cbc then putBit a.cbcPer k.val true else a.cbcPer
    drv := { a.drv with tflag := if cbc then a.drv.tflag else putBit a.drv.tflag k.val true } }
  b.cancelMasked (a.tripMask k.val)

theorem exec_tripAssert {s : State} {n : Fin 4} {k : Fin 13} (hc : (s.axis n).counting.getLsbD k.val = true)
    (ht : (s.axis n).drv.tsrc.getLsbD k.val = true) : exec (.tripAssert n k) s =
      .next ((s.updChain n fun a => a.tripped k).raiseDrvIf (!tcCbc ((s.axis n).drv.tcfg.get k)) n 1) :=
  if_pos (by rw [hc, ht]; rfl)

/-- A trip that has come through its filter stands in the flags or holds for the period, so its mask is off. -/
theorem Axis.tripped_offMask (a : Axis) (k : Fin 13) {i : Nat} (hi : (a.tripMask k.val).getLsbD i = true) :
    (a.tripped k).offMask.getLsbD i = true := by
  have hbit (m : BitVec 13) : (putBit m k.val true).getLsbD k.val = true := by
    rw [getLsbD_putBit m k.val true k.isLt, if_pos rfl]
  refine Axis.offMask_of_trip (k := k) ?_ hi
  change ((if tcCbc (a.drv.tcfg.get k) = true then a.drv.tflag else putBit a.drv.tflag k.val true) |||
    (if tcCbc (a.drv.tcfg.get k) = true then putBit a.cbcHold k.val true else a.cbcHold)).getLsbD k.val = true
  rw [BitVec.getLsbD_or]
  split
  · rw [hbit, Bool.or_true]
  · rw [hbit, Bool.true_or]

/-! ### A write to the flags -/

theorem clear_refused {w : Nat} (x m c : BitVec w) : x &&& ~~~(m &&& x &&& ~~~(m &&& x &&& c)) = x &&& ~~~(m &&& ~~~c) := by
  refine BitVec.eq_of_getLsbD_eq fun i hi => ?_
  simp only [BitVec.getLsbD_and, BitVec.getLsbD_not, hi, decide_true, Bool.true_and]
  cases x.getLsbD i <;> cases m.getLsbD i <;> cases c.getLsbD i <;> rfl

theorem State.raiseDrvIf_evWords (s : State) (b : Bool) (n : Fin 4) {j : Nat} (h : (s.axis n).evPend j < 255) :
    ((s.raiseDrvIf b n j).axis n).evWords = (s.axis n).evWords ++ if b then [j] else [] := by
  cases b with
  | true => exact s.raiseDrv_evWords n j h
  | false => exact (List.append_nil _).symm

/-- The flags of the mask whose source is inactive clear; one CLRREF tells of the others (07 R241; log entry 16). -/
theorem State.tflagWrite_spec (s : State) (n : Fin 4) (mask : BitVec 13) :
    let t := s.tflagWrite n mask
    (t.axis n).drv.tflag = (s.axis n).drv.tflag &&& ~~~(mask &&& ~~~(s.axis n).drv.tsrc) ∧
      (t.axis n).drv.hsto = (s.axis n).drv.hsto ∧
      ((s.axis n).evPend 3 < 255 → (t.axis n).evWords = (s.axis n).evWords ++
        if mask &&& (s.axis n).drv.tflag &&& (s.axis n).drv.tsrc = 0 then [] else [3]) ∧
      Frame [.ax, .evm] s t := by
  let d := (s.axis n).drv
  let refused := mask &&& d.tflag &&& d.tsrc
  let clr := mask &&& d.tflag &&& ~~~refused
  let f (a : Axis) : Axis :=
    { a with wrapOff := a.wrapOff ||| a.masksOf clr, drv := { a.drv with tflag := a.drv.tflag &&& ~~~clr } }
  have hc := s.updChain_turns n f
  obtain ⟨ha, -, hf⟩ := hc.raiseDrvIf (decide (refused ≠ 0)) 3
  refine ⟨?_, (congrArg Drv.hsto ha.drv_eq :), fun hev => ?_, hf⟩
  · exact (congrArg Drv.tflag ha.drv_eq).trans (clear_refused _ _ _)
  · have hw := (s.updChain n f).raiseDrvIf_evWords (decide (refused ≠ 0)) n (j := 3) (by rw [s.updChain_axis]; exact hev)
    refine hw.trans ?_
    rw [s.updChain_axis]
    change (s.axis n).evWords ++ _ = _
    by_cases h0 : refused = 0
    · rw [if_pos h0, decide_eq_false fun hne => hne h0]
      rfl
    · rw [if_neg h0, decide_eq_true h0]
      rfl

/-- Settles O31: each row of the trips by what it makes of its axis; the outputs by what holds them off. -/
theorem tripsLatchAndHoldGates : Obligations.TripsLatchAndHoldGates := by
  unfold Obligations.TripsLatchAndHoldGates
  refine ⟨fun s n k mask => ?_, fun s n ph high => ⟨fun h => ?_, fun k hk hi q => ?_⟩⟩
  · intro a
    refine ⟨fun hon => ?_, fun hc ht => ?_, fun ht => if_neg (by rw [ht]; exact Bool.false_ne_true), ?_⟩
    · obtain ⟨t, h1, h2, h3, h4, -⟩ := exec_tripSourceChange hon n k true
      obtain ⟨u, k1, k2, k3, -, k4⟩ := exec_tripSourceChange hon n k false
      obtain ⟨k4, k5⟩ := k4 rfl
      refine ⟨⟨t, h1, ?_, ?_, h2, h3⟩, u, k1, k4, k5, k2, k3⟩ <;> rw [h4 rfl] <;> split <;> rfl
    · obtain ⟨ha, -, hf⟩ := (s.updChain_turns n fun a => a.tripped k).raiseDrvIf (!tcCbc (a.drv.tcfg.get k)) 1
      have hd := congrArg Drv.tflag ha.drv_eq
      refine ⟨_, exec_tripAssert hc ht, congrArg Axis.filt ha, fun h0 => ?_, fun h1 => ⟨?_, ?_, ?_⟩, fun q p h hi => ?_, hf⟩
      · exact hd.trans (if_neg (by rw [h0]; exact Bool.false_ne_true))
      · exact hd.trans (if_pos h1)
      · exact (congrArg Axis.cbcHold ha).trans (if_pos h1)
      · exact (congrArg Axis.cbcPer ha).trans (if_pos h1)
      · rw [ha.gateOn_eq, Axis.settle_gateOn]
        exact Axis.gateOn_of_offMask (Axis.tripped_offMask _ k hi) q
    · obtain ⟨h1, h2, h3, h4⟩ := s.tflagWrite_spec n mask
      exact ⟨_, rfl, h1, h3, h2, h4⟩
  · have hg : s.gateHold n = true := by
      obtain h | h := h
      · rw [State.gateHold, h, Bool.true_or]
      · rw [State.gateHold, h, Bool.not_false, Bool.or_true]
    rw [hg]
    exact ⟨Axis.gateOn_of_held _ _ _, Axis.brakeOn_of_held _⟩
  · exact Axis.gateOn_of_offMask (Axis.offMask_of_trip (k := k) (by simp [hk]) hi) q

end Sys2Proof.Machine
end
section
/-! SUPPORT. Compare matches, the ends of dead times, and EN (07 R210, R215, R225 to R227; 08 R253; O28). -/

namespace Sys2Proof.Machine

/-! ### Compare matches -/

/-- The raw command of phase p ends, and its edge enters stage 3. -/
def Axis.endRaw (a : Axis) (p : Phase) : Axis :=
  { a with ph := a.ph.set p { a.ph.get p with raw := false } }.drivePhase p

/-- The raw command of a channel ends: of a phase, or the brake's. -/
def Axis.matched (a : Axis) : Fin 4 → Axis
  | 0 => a.endRaw .u
  | 1 => a.endRaw .v
  | 2 => a.endRaw .w
  | 3 => { a with brk := false }

theorem Axis.endRaw_raw (a : Axis) (p r : Phase) :
    ((a.endRaw p).ph.get r).raw = ((a.ph.get r).raw && !decide (r = p)) := by
  rw [Axis.endRaw, (Axis.drivePhase_regated _ p).raw_eq]
  by_cases h : r = p
  · rw [h, Three.get_set_same, decide_eq_true rfl, Bool.not_true, Bool.and_false]
  · rw [Three.get_set_ne _ _ h, decide_eq_false h, Bool.not_false, Bool.and_true]

theorem Axis.endRaw_brk (a : Axis) (p : Phase) : (a.endRaw p).brk = a.brk :=
  (congrArg Axis.brk (Axis.drivePhase_regated _ p).axis :)

theorem phIx_inj {p r : Phase} : phIx r = phIx p ↔ r = p := by cases p <;> cases r <;> decide

/-- A match ends the raw command of its channel and of no other (07 R210). -/
theorem Axis.matched_raw (a : Axis) (c : Fin 4) :
    (∀ p, ((a.matched c).ph.get p).raw = ((a.ph.get p).raw && !decide (phIx p = c.val))) ∧
      (a.matched c).brk = (a.brk && !decide (c.val = 3)) := by
  have hphase (p : Phase) : (∀ r, ((a.endRaw p).ph.get r).raw = ((a.ph.get r).raw && !decide (phIx r = phIx p))) ∧
      (a.endRaw p).brk = (a.brk && !decide (phIx p = 3)) := by
    refine ⟨fun r => ?_, ?_⟩
    · rw [a.endRaw_raw, decide_eq_decide.2 phIx_inj]
    · have h : phIx p ≠ 3 := (phIx_lt p).ne
      rw [a.endRaw_brk, decide_eq_false h, Bool.not_false, Bool.and_true]
  match c with
  | 0 => exact hphase .u
  | 1 => exact hphase .v
  | 2 => exact hphase .w
  | 3 =>
    refine ⟨fun p => ?_, (Bool.and_false _).symm⟩
    have h : decide (phIx p = 3) = false := decide_eq_false (phIx_lt p).ne
    exact ((congrArg (fun b => (a.ph.get p).raw && !b) h).trans (Bool.and_true _)).symm

theorem exec_compareMatch {s : State} {n c : Fin 4} (hon : s.appOn = true) (h : (s.axis n).eff.get c < s.tick.tper) :
    exec (.compareMatch n c) s = .next (s.updChain n fun a => a.matched c) := by
  refine (if_neg (not_or.2 ⟨Nat.not_le.2 h, ?_⟩)).trans ?_
  · change ¬s.appOn = false
    rw [hon]
    decide
  · match c with
    | 0 | 1 | 2 | 3 => rfl

/-! ### The end of a dead time -/

/-- The interlock acts on a phase with both commands past the handshake, and on no other (08 R257). -/
theorem State.interlock_idle {s : State} {n : Fin 4} {p : Phase}
    (h : (((s.axis n).ph.get p).h.s4 && ((s.axis n).ph.get p).l.s4) = false) : s.interlock n p = s :=
  if_neg (by rw [h]; exact Bool.false_ne_true)

theorem State.interlock_frame (s : State) (n : Fin 4) (p : Phase) : Frame [.ax, .evm] s (s.interlock n p) := by
  unfold State.interlock
  dsimp only
  split
  · exact ((s.updChain_turns n _).raiseDrv 11).frame
  · exact .refl _ s

/-- The interlock cancels edges, and begins none. -/
theorem State.interlock_side (s : State) (n : Fin 4) (p : Phase) (high : Bool) :
    let x := (((s.interlock n p).axis n).ph.get p).side high
    let y := ((s.axis n).ph.get p).side high
    x.dt = y.dt ∧ (y.w3 = false → x.w3 = false) := by
  unfold State.interlock
  dsimp only
  split
  · rw [((s.updChain_turns n _).raiseDrv 11).axis.ph_eq, Axis.settle_side]
    rw [Three.get_set_same]
    cases high
    · exact ⟨rfl, fun _ => rfl⟩
    · exact ⟨rfl, fun _ => rfl⟩
  · exact ⟨rfl, id⟩

/-- An edge arrives at stage 4 past its dead time: it waits for a partner that is on, and passes one that has been off
for 20 ns (07 R215, 08 R253). -/
theorem exec_deadTimeEnd_edge {s : State} {n : Fin 4} {ph : Phase} {high : Bool}
    (hw : (((s.axis n).ph.get ph).side high).w3 = true) : ∃ t, exec (.deadTimeEnd n ph high) s = .next t ∧
      (((t.axis n).ph.get ph).side high).w3 = false ∧ (((t.axis n).ph.get ph).side high).dt = false ∧
      ((((s.axis n).ph.get ph).side (!high)).off = false → (((t.axis n).ph.get ph).side high).w4 = true) ∧
      ((((s.axis n).ph.get ph).side (!high)).off = true → (((s.axis n).ph.get ph).side (!high)).s4 = false →
        (((t.axis n).ph.get ph).side high).s4 = true) ∧ Frame [.ax, .evm] s t := by
  let poff := (((s.axis n).ph.get ph).side (!high)).off
  let u := s.updChain n fun a => a.updSide ph high (GateCh.arrive poff)
  obtain ⟨hw3, hdt, hw4, hpass⟩ : (((u.axis n).ph.get ph).side high).w3 = false ∧
      (((u.axis n).ph.get ph).side high).dt = false ∧ (((u.axis n).ph.get ph).side high).w4 = !poff ∧
      (((u.axis n).ph.get ph).side high).s4 = poff := by
    rw [s.updChain_axis, Axis.settle_side, Axis.updSide_side]
    exact ⟨rfl, rfl, rfl, rfl⟩
  have hpart : (((u.axis n).ph.get ph).side (!high)).s4 = (((s.axis n).ph.get ph).side (!high)).s4 := by
    rw [s.updChain_axis, Axis.settle_side, Axis.updSide_partner]
    rfl
  have hidle (h : poff = false ∨ (((s.axis n).ph.get ph).side (!high)).s4 = false) : u.interlock n ph = u := by
    refine State.interlock_idle ?_
    have hboth : ((((u.axis n).ph.get ph).side high).s4 && (((u.axis n).ph.get ph).side (!high)).s4) = false := by
      rw [hpass, hpart]
      obtain h | h := h
      · rw [h, Bool.false_and]
      · rw [h, Bool.and_false]
    cases high
    · exact (Bool.and_comm _ _).trans hboth
    · exact hboth
  obtain ⟨hidt, hiw3⟩ := u.interlock_side n ph high
  refine ⟨u.interlock n ph, if_pos hw, hiw3 hw3, hidt.trans hdt, fun h => ?_, fun h hs => ?_,
    ((s.updChain_frame n _).mono (by decide)).trans (u.interlock_frame n ph)⟩
  · rw [hidle (.inl h), hw4]
    exact congrArg not h
  · rw [hidle (.inr hs), hpass]
    exact h

/-- The dead time of an edge that was cancelled ends without one (07 R216). -/
theorem exec_deadTimeEnd_cancelled {s : State} {n : Fin 4} {ph : Phase} {high : Bool}
    (hw : (((s.axis n).ph.get ph).side high).w3 = false) : exec (.deadTimeEnd n ph high) s =
      .next (s.updAxis n fun a => a.updSide ph high fun g => { g with dt := false }) :=
  if_neg (by rw [hw]; exact Bool.false_ne_true)

/-! ### EN -/

theorem exec_enSet_linkDown {s : State} {n : Fin 4} (h : s.linkDown n = true) : exec (.enSet n) s = .next s :=
  if_neg (by rw [h]; simp)

theorem exec_enSet {s : State} {n : Fin 4} (hl : s.linkDown n = false) (hm : (s.axis n).st.mayEnable = true)
    (hc : (s.axis n).drv.ctrl.getLsbD 0 = false) : exec (.enSet n) s = .next (s.setAxis n { s.axis n with
      enWait := true, drv := { (s.axis n).drv with ctrl := (s.axis n).drv.ctrl ||| 1 } }) := by
  refine (if_pos (by rw [hl, hm]; rfl)).trans ?_
  rw [State.updAxis, Axis.enOn, if_neg (by rw [hc]; exact Bool.false_ne_true)]

/-- EN cleared takes every output off at once (07 R226). -/
theorem exec_enClear (s : State) (n : Fin 4) : ∃ t, exec (.enClear n) s = .next t ∧
    (t.axis n).drv.ena = false ∧ (t.axis n).drv.ctrl.getLsbD 0 = false ∧ (t.axis n).enWait = false ∧
    (t.axis n).st = (s.axis n).st ∧ (∀ k, k ≠ n → t.axis k = s.axis k) ∧ Frame [.ax] s t := by
  obtain ⟨h1, -, h3, h4⟩ := s.enClear_axis n
  refine ⟨_, rfl, h3, h4, ?_, h1, (s.updChain_turns n Axis.enOff).others, s.updChain_frame n _⟩
  have he : (s.enClear n).axis n = (s.axis n).enOff.settle (s.gateHold n) := s.updChain_axis n Axis.enOff
  rw [he]
  exact (congrArg Axis.enWait (Axis.drivePhases_regated _).axis :)

/-- Settles O28: each row by the lemma that says what it makes of its axis. -/
theorem pwmEdgesAndEnable : Obligations.PwmEdgesAndEnable := by
  unfold Obligations.PwmEdgesAndEnable
  refine fun s n ph high => ⟨fun c hon => ⟨fun h => ?_, fun h => if_pos (.inl h)⟩, fun hw => ?_, exec_deadTimeEnd_edge,
    exec_enSet_linkDown, exec_enSet, ?_⟩
  · obtain ⟨hraw, hbrk⟩ := (s.axis n).matched_raw c
    have hu := s.updChain_turns n fun a => a.matched c
    refine ⟨_, exec_compareMatch hon h, fun p => ?_, ?_, hu.others, s.updChain_frame n _⟩
    · rw [s.updChain_axis, Axis.settle_phase]
      exact hraw p
    · rw [s.updChain_axis]
      exact hbrk
  · refine ⟨_, exec_deadTimeEnd_cancelled hw, ?_, ?_, ?_, s.updAxis_frame n _⟩ <;> rw [State.axis_updAxis_same]
    · exact Axis.updSide_side _ _ _ _
    · exact Axis.updSide_partner _ _ _ _
    · rfl
  · obtain ⟨t, h1, h2, h3, h4, h5, h6, h7⟩ := exec_enClear s n
    exact ⟨t, h1, h2, h3, h4, Axis.gateOn_of_ena h2, Axis.brakeOn_of_ena h2, h5, h6, h7⟩

end Sys2Proof.Machine
end
section
/-! SUPPORT. The period wrap of an axis (07 R208 to R219, R225, R243; 08 R263 to R266, R274): what ends, what is taken up, and
what starts (O27, O30). -/

namespace Sys2Proof.Machine

/-! ### Configuration taken up -/

/-- The waiting configuration writes of an axis, taken in their order (07 R219). -/
def Axis.configured (a : Axis) : Drv := a.cfgq.foldl (fun d x => d.config x.1 x.2) a.drv

/-- The registers without those that a configuration write can move. -/
def Drv.bare (d : Drv) : Drv :=
  { d with ctrl := 0, dt := 0, brkhw := 0, tcfg := Vector.replicate 13 0, gdrv := 0, gbst := 0, ghs := 0, gvds := 0
           gocf := 0, gvm := 0, swin := 0, sctrl := 0 }

theorem Drv.config_bare (d : Drv) (o : Nat) (w : Word) : (d.config o w).bare = d.bare := by
  unfold Drv.config
  repeat refine iteInduction (motive := fun e : Drv => e.bare = d.bare) (fun _ => rfl) fun _ => ?_
  rfl

theorem Axis.configured_bare (a : Axis) : a.configured.bare = a.drv.bare :=
  List.foldlRecOn (motive := fun d : Drv => d.bare = a.drv.bare) a.cfgq _ rfl fun d hd x _ => (d.config_bare x.1 x.2).trans hd

theorem ite_map {α β : Type} (f : α → β) {c : Prop} [Decidable c] {x y : α} {x' y' : β} (hx : x' = f x) (hy : y' = f y) :
    (if c then x' else y') = f (if c then x else y) := by
  rw [apply_ite f, hx, hy]

/-- The trip statistics, which a configuration write neither reads nor writes. -/
def Drv.withCbc (last : BitVec 13) (cnt : BitVec 16) (d : Drv) : Drv := { d with cbcLast := last, cbcCnt := cnt }

theorem Drv.config_withCbc (last : BitVec 13) (cnt : BitVec 16) (d : Drv) (o : Nat) (w : Word) :
    (d.withCbc last cnt).config o w = (d.config o w).withCbc last cnt := by
  unfold Drv.config
  repeat refine ite_map (Drv.withCbc last cnt) rfl ?_
  rfl

theorem Drv.foldl_config_withCbc (last : BitVec 13) (cnt : BitVec 16) (l : List (Nat × Word)) (d : Drv) :
    l.foldl (fun d x => d.config x.1 x.2) (d.withCbc last cnt) =
      (l.foldl (fun d x => d.config x.1 x.2) d).withCbc last cnt := by
  induction l generalizing d with
  | nil => rfl
  | cons x l ih => rw [List.foldl_cons, Drv.config_withCbc, ih, List.foldl_cons]

theorem Axis.endTrips_configured (a : Axis) : a.endTrips.configured =
    a.configured.withCbc a.cbcPer (if a.cbcPer = 0 then a.drv.cbcCnt else sat16 a.drv.cbcCnt) :=
  Drv.foldl_config_withCbc _ _ _ _

theorem Axis.configured_single {a : Axis} {o : Nat} {w : Word} (h : a.cfgq = [(o, w)]) : a.configured = a.drv.config o w := by
  rw [Axis.configured, h]
  rfl

/-- A write to TCFGk; the filter of the last is always enabled (07 Table 7-8). -/
theorem Drv.config_tcfg (d : Drv) (k : Fin 13) (w : Word) : (d.config (0x080 + 4 * k.val) w).tcfg[k.val]! =
    (w &&& 0xF000FF7F) ||| if k.val = 12 then 0x80000000 else 0 := by
  have hk := k.isLt
  have hi : (0x080 + 4 * k.val - 0x080) / 4 = k.val := by omega
  unfold Drv.config
  rw [if_neg (by omega), if_neg (by omega), if_neg (by omega), if_pos (by omega)]
  dsimp only
  rw [hi]
  simp

/-! ### The period that begins -/

theorem phaseMask_bit (f : Phase → Bool) (p : Phase) : (phaseMask f).getLsbD (phIx p) = f p := by
  have h : phaseMask f = putBit (putBit (putBit 0 0 (f .u)) 1 (f .v)) 2 (f .w) := rfl
  rw [h, getLsbD_putBit _ _ _ (by decide), getLsbD_putBit _ _ _ (by decide), getLsbD_putBit _ _ _ (by decide)]
  cases p <;> rfl

/-- The axis in its new period, before its commands reach stage 3 (07 R208, R210, R217, R243). -/
def Axis.begun (a : Axis) (hidx : BitVec 4) (per : Nat) (w : SenseWords) (ovr : BitVec 7) (bits : List ChanBits) : Axis :=
  (((a.endTrips.takeConfig).loadPeriod hidx per).startWindow w ovr).carryStreams bits

/-- Registers that differ, if at all, in the active compares, the statistics and the flags that a wrap moves. -/
def Drv.Wrapped (d e : Drv) : Prop :=
  e = { d with acmp := e.acmp, cbcLast := e.cbcLast, cbcCnt := e.cbcCnt, bhact := e.bhact, refcnt := e.refcnt
               refact := e.refact, sovr := e.sovr }

/-- EN takes effect: both sides of every phase take their edges anew (07 R225). -/
def Axis.enabled (dt0 : Bool) (a : Axis) : Axis :=
  let f (x : PhSt) : PhSt :=
    { x with
      h := { x.h with w3 := false, dt := false, w4 := false, s4 := false }.reedge dt0 x.l.off
      l := { x.l with w3 := false, dt := false, w4 := false, s4 := false }.reedge dt0 x.h.off }
  { a with enWait := false, drv := { a.drv with ena := true }, ph := ⟨f a.ph.u, f a.ph.v, f a.ph.w⟩ }

section
variable (a : Axis) (hidx : BitVec 4) (per : Nat) (w : SenseWords) (ovr : BitVec 7) (bits : List ChanBits)

theorem Axis.begun_wrapped : a.configured.Wrapped (a.begun hidx per w ovr bits).drv := by
  have h : a.endTrips.configured.Wrapped (a.begun hidx per w ovr bits).drv := rfl
  rw [a.endTrips_configured] at h
  exact h

/-- The shadows are the active compares (07 R217). -/
theorem Axis.begun_acmp : (a.begun hidx per w ovr bits).drv.acmp = a.drv.scmp := by
  have h : (a.begun hidx per w ovr bits).drv.acmp = a.endTrips.configured.scmp := rfl
  rw [h, a.endTrips_configured]
  exact (congrArg Drv.scmp a.configured_bare :)

/-- CMPeff of every channel in the new period (07 R210, R213). -/
theorem Axis.begun_eff (ch : Fin 4) : (a.begun hidx per w ovr bits).eff.get ch =
    minPulse per (fld a.configured.ctrl 15 8) (cmpEff (a.drv.scmp.get ch) hidx) := by
  have h : (a.begun hidx per w ovr bits).eff.get ch =
      minPulse per (fld a.endTrips.configured.ctrl 15 8) (cmpEff (a.endTrips.configured.scmp.get ch) hidx) := by
    match ch with
    | 0 | 1 | 2 | 3 => rfl
  have hs : a.configured.scmp = a.drv.scmp := (congrArg Drv.scmp a.configured_bare :)
  rw [h, a.endTrips_configured, ← hs]
  rfl

/-- A refresh whose time has ended gives its phase back (08 R264); REFACT shows the others. -/
theorem Axis.begun_refr (p : Phase) : ((a.begun hidx per w ovr bits).ph.get p).refr =
    (if (a.ph.get p).refr = 2 then 0 else (a.ph.get p).refr) ∧
    (a.begun hidx per w ovr bits).drv.refact.getLsbD (phIx p) =
      decide (((a.begun hidx per w ovr bits).ph.get p).refr ≠ 0) := by
  have he (x : PhSt) : x.endRefresh.refr = if x.refr = 2 then 0 else x.refr := by
    unfold PhSt.endRefresh
    split <;> rfl
  refine ⟨?_, ?_⟩
  · rw [← he]
    cases p <;> rfl
  · have hr : (a.begun hidx per w ovr bits).drv.refact =
        phaseMask fun p => decide (((a.begun hidx per w ovr bits).ph.get p).refr ≠ 0) := rfl
    rw [hr, phaseMask_bit]

/-- Each raw command starts on where its compare of the period is above 0 (07 R210). -/
theorem Axis.begun_raw : let b := a.begun hidx per w ovr bits
    b.ph.u.raw = decide (0 < b.eff.a0) ∧ b.ph.v.raw = decide (0 < b.eff.a1) ∧ b.ph.w.raw = decide (0 < b.eff.a2) ∧
      b.brk = decide (0 < b.eff.a3) := ⟨rfl, rfl, rfl, rfl⟩

/-- EN as set takes effect, and the hold-offs that waited for the wrap end; of the phases the gate commands alone move (07
R225, R241; 08 R274). -/
theorem Axis.applyWrap_spec : ∃ ph, a.applyWrap = { a with
      ph, enWait := false, wrapOff := 0, wrapPh := 0, vmloWait := false, drv := { a.drv with ena := a.enWait || a.drv.ena } } ∧
    ∀ p, ph.get p = { a.ph.get p with h := (ph.get p).h, l := (ph.get p).l } := by
  let c : Axis := { phases.foldl Axis.drivePhase a with wrapOff := 0, wrapPh := 0, vmloWait := false }
  have h1 := a.drivePhases_regated
  have h2 := c.rearm_regated
  have hc : c = { a with ph := c.ph, wrapOff := 0, wrapPh := 0, vmloWait := false } :=
    (congrArg (fun x : Axis => { x with wrapOff := 0, wrapPh := 0, vmloWait := false }) h1.axis :)
  have hd : c.rearm = { a with ph := c.rearm.ph, wrapOff := 0, wrapPh := 0, vmloWait := false } := by
    rw [h2.axis, hc]
  have hp (p : Phase) : c.rearm.ph.get p =
      { a.ph.get p with h := (c.rearm.ph.get p).h, l := (c.rearm.ph.get p).l } := by
    rw [h2.phase, show c.ph.get p = _ from h1.phase p]
  have ha : a.applyWrap = if a.enWait then c.rearm.enabled a.dt0 else c.rearm := rfl
  cases he : a.enWait with
  | true =>
    rw [he, if_pos rfl] at ha
    refine ⟨(c.rearm.enabled a.dt0).ph, ha.trans ?_, fun p => ?_⟩
    · exact (congrArg (fun x : Axis => { x with
        ph := (c.rearm.enabled a.dt0).ph, enWait := false, drv := { x.drv with ena := true } }) hd :)
    · have hen : (c.rearm.enabled a.dt0).ph.get p = { c.rearm.ph.get p with
          h := ((c.rearm.enabled a.dt0).ph.get p).h, l := ((c.rearm.enabled a.dt0).ph.get p).l } := by
        cases p <;> rfl
      rw [hen, hp]
  | false =>
    rw [he, if_neg Bool.false_ne_true] at ha
    refine ⟨c.rearm.ph, ha.trans (hd.trans ?_), hp⟩
    rw [he]
    rfl

end

end Sys2Proof.Machine
end
section
/-! SUPPORT. The row of the period wrap (07 R208 to R219, R225, R243; O27). -/

namespace Sys2Proof.Machine

/-! ### The axis at its wrap -/

/-- The axis in its new period, with the chain settled. -/
def Axis.wrapped (q : Bool) (hidx : BitVec 4) (per : Nat) (w : SenseWords) (ovr : BitVec 7) (bits : List ChanBits) (a : Axis) :
    Axis := (a.begun hidx per w ovr bits).applyWrap.settle q

/-- Past its begin the wrap moves the gate commands, EN as set, and what settles. -/
theorem Axis.wrapped_spec (q : Bool) (hidx : BitVec 4) (per : Nat) (w : SenseWords) (ovr : BitVec 7) (bits : List ChanBits)
    (a : Axis) : let x := a.begun hidx per w ovr bits
    let b := a.wrapped q hidx per w ovr bits
    b = { x with
      ph := b.ph, enWait := false, wrapOff := 0, wrapPh := 0, vmloWait := false, counting := b.counting
      sense := { x.sense with lowSeen := b.sense.lowSeen }
      drv := { x.drv with ena := a.enWait || x.drv.ena, tsrc := b.drv.tsrc, hon := b.drv.hon, lon := b.drv.lon } } ∧
    ∀ p, b.ph.get p = { x.ph.get p with h := (b.ph.get p).h, l := (b.ph.get p).l } := by
  obtain ⟨ph, hb, hp⟩ := (a.begun hidx per w ovr bits).applyWrap_spec
  intro x b
  have hs : b = x.applyWrap.settle q := rfl
  rw [hb] at hs
  refine ⟨?_, fun p => ?_⟩
  · rw [hs]
    rfl
  · have hq : ({ x with ph := ph, enWait := false, wrapOff := 0, wrapPh := 0, vmloWait := false
                        drv := { x.drv with ena := x.enWait || x.drv.ena } } : Axis).ph.get p =
        { x.ph.get p with h := (ph.get p).h, l := (ph.get p).l } := hp p
    rw [hs, Axis.settle_phase, hq]

/-! ### The period of a test -/

/-- What the begin of a test's period leaves: the other axes, the phases, and the comparator of the VM lockout. -/
structure State.TestBegun (n : Fin 4) (s t : State) : Prop where
  frame : Frame [.ax] s t
  others : ∀ k, k ≠ n → t.axis k = s.axis k
  ph : (t.axis n).ph = (s.axis n).ph
  vmlo : (t.axis n).drv.vmlo = (s.axis n).drv.vmlo

theorem State.testBegun_updAxis {s t : State} {n : Fin 4} (h : State.TestBegun n s t) {f : Axis → Axis}
    (hp : ∀ a, (f a).ph = a.ph) (hv : ∀ a, (f a).drv.vmlo = a.drv.vmlo) : State.TestBegun n s (t.updAxis n f) :=
  ⟨h.frame.trans (t.updAxis_frame n f), fun k hk => (State.axis_updAxis_ne _ _ hk).trans (h.others k hk),
    by rw [State.axis_updAxis_same, hp, h.ph], by rw [State.axis_updAxis_same, hv, h.vmlo]⟩

theorem State.testPeriod_spec (s : State) (n : Fin 4) : State.TestBegun n s (s.testPeriod n) := by
  have h0 : State.TestBegun n s s := ⟨.refl _ s, fun _ _ => rfl, rfl, rfl⟩
  have hen (a : Axis) : a.enOn.ph = a.ph ∧ a.enOn.drv.vmlo = a.drv.vmlo := by
    unfold Axis.enOn
    split <;> exact ⟨rfl, rfl⟩
  unfold State.testPeriod
  split
  · exact h0
  · split
    · split
      · have h1 := State.testBegun_updAxis h0 (f := fun a => { a with testI := a.testI + 1, drv := { a.drv with scmp := ‹_› } })
          (fun _ => rfl) fun _ => rfl
        dsimp only
        split
        · split
          · exact h1
          · exact State.testBegun_updAxis h1 (fun a => (hen a).1) fun a => (hen a).2
        · exact h1
      · exact State.testBegun_updAxis h0 (fun _ => rfl) fun _ => rfl
      · exact h0
    · exact h0

/-- With no test that brings compares or a bit-stream of its own, the period is the axis' own. -/
theorem State.testPeriod_idle {s : State} {n : Fin 4} (h : ∀ x, s.mgmt.bg = some x →
    x.op.compares n s.tick.tper (s.axis n).testI = none ∧ x.op.density n (s.axis n).testI = none) : s.testPeriod n = s := by
  unfold State.testPeriod
  split
  · rfl
  · obtain ⟨h1, h2⟩ := h _ ‹_›
    rw [h1, h2]
    split <;> rfl

/-! ### The row -/

theorem State.Turns.refl (s : State) (n : Fin 4) : State.Turns n (s.axis n) s s := ⟨.refl _, fun _ _ => rfl, .refl _ s⟩

theorem State.raiseSovr_turns (s : State) (n : Fin 4) (ovr : BitVec 7) : State.Turns n (s.axis n) s (s.raiseSovr n ovr) :=
  List.foldlRecOn (motive := fun t : State => State.Turns n (s.axis n) s t) (List.range 7) _ (.refl s n)
    fun _ ht _ _ => ht.raiseDrvIf _ 18

/-- The position inputs latch, and an invalid code is shown (10 R330, R333). -/
theorem State.hallShown_frame (s : State) (n : Fin 4) :
    Frame [.hall, .hallFlag, .evm] s ((s.latchHall n).showInvalid n) := by
  have h1 : Frame [.hall, .hallFlag, .evm] s (s.latchHall n) := fun p hp => by
    cases p with
    | hall | hallFlag | evm => simp at hp
    | _ => rfl
  refine h1.trans ?_
  unfold State.showInvalid
  split
  · exact fun p hp => by
      cases p with
      | hall | hallFlag | evm => simp at hp
      | _ => rfl
  · exact .refl _ _

/-- At a wrap the axis, but for what it has still to send, ends its period and begins the next; the sense words are formed of
the period that ended (07 R217, 09 R288). -/
theorem exec_periodWrap {s : State} (hon : s.appOn = true) (n : Fin 4) (bits : List ChanBits) :
    let a := (s.testPeriod n).axis n
    ∃ t x ovr, exec (.periodWrap n bits) s = .next t ∧ a.SentAs x ∧
      t.axis n = x.wrapped (s.gateHold n) s.tick.hidx s.tick.tper (a.reduce n (s.measured n bits)) ovr (s.measured n bits) ∧
      (∀ k, k ≠ n → t.axis k = s.axis k) ∧ Frame [.ax, .hall, .hallFlag, .evm] s t := by
  intro a
  have hp := s.testPeriod_spec n
  have hm : (s.testPeriod n).measured n bits = s.measured n bits := by
    unfold State.measured
    rw [hp.frame.pwr_eq (by decide)]
  let ovr := chanMask fun c => (a.meas n ((s.testPeriod n).measured n bits) c).ovr
  have h1 := ((s.testPeriod n).raiseSovr_turns n ovr).raiseDrvIf (decide (a.cbcPer ≠ 0)) 2
  let s1 := ((s.testPeriod n).raiseSovr n ovr).raiseDrvIf (decide (a.cbcPer ≠ 0)) n 2
  let f (x : Axis) : Axis := (x.begun (s.testPeriod n).tick.hidx (s.testPeriod n).tick.tper
    (a.reduce n ((s.testPeriod n).measured n bits)) ovr ((s.testPeriod n).measured n bits)).applyWrap
  have hh := (s1.updChain n f).hallShown_frame n
  have hg : s1.gateHold n = s.gateHold n :=
    h1.gateHold_eq.trans (State.gateHold_of_mon_pwr (congrArg Mon.quench (hp.frame.mon_eq (by decide)))
      (hp.frame.pwr_eq (by decide)) n)
  refine ⟨((s1.updChain n f).latchHall n).showInvalid n, s1.axis n, ovr, if_pos hon, h1.axis, ?_, fun k hk => ?_, ?_⟩
  · rw [hh.axis_eq (by decide), s1.updChain_axis, hg]
    change ((s1.axis n).begun (s.testPeriod n).tick.hidx (s.testPeriod n).tick.tper
      (a.reduce n ((s.testPeriod n).measured n bits)) ovr ((s.testPeriod n).measured n bits)).applyWrap.settle _ = _
    rw [hp.frame.tick_eq (by decide), hm]
    rfl
  · rw [hh.axis_eq (by decide), (s1.updChain_turns n f).others k hk, h1.others k hk, hp.others k hk]
  · exact (((hp.frame.mono (by decide)).trans (h1.frame.mono (by decide))).trans
      ((s1.updChain_frame n f).mono (by decide))).trans (hh.mono (by decide))

end Sys2Proof.Machine
end
section
/-! O27: the wrap makes the shadows active and starts the period (07 R208 to R219, R225, R243). -/

namespace Sys2Proof.Machine

/-- Registers that differ, if at all, in what a wrap moves of them and in what settles behind it. -/
def Drv.Rewrapped (d e : Drv) : Prop :=
  e = { d with acmp := e.acmp, cbcLast := e.cbcLast, cbcCnt := e.cbcCnt, bhact := e.bhact, refcnt := e.refcnt
               refact := e.refact, sovr := e.sovr, ena := e.ena, tsrc := e.tsrc, hon := e.hon, lon := e.lon }

section
variable {q : Bool} {hidx : BitVec 4} {per : Nat} {w : SenseWords} {ovr : BitVec 7} {bits : List ChanBits} {a b : Axis}
  (hb : b = a.wrapped q hidx per w ovr bits)
include hb

theorem Axis.wrapped_drv : a.configured.Rewrapped b.drv := by
  subst hb
  have h1 : (a.wrapped q hidx per w ovr bits).drv = _ := (congrArg Axis.drv (a.wrapped_spec q hidx per w ovr bits).1 :)
  have h2 := a.begun_wrapped hidx per w ovr bits
  unfold Drv.Wrapped at h2
  unfold Drv.Rewrapped
  rw [h1, h2]

/-- EN as set takes effect with the wrap (07 R225). -/
theorem Axis.wrapped_ena : b.drv.ena = (a.enWait || a.drv.ena) := by
  have h1 : (a.begun hidx per w ovr bits).drv.ena = a.configured.ena :=
    (congrArg Drv.ena (a.begun_wrapped hidx per w ovr bits) :)
  have h2 : a.configured.ena = a.drv.ena := (congrArg Drv.ena a.configured_bare :)
  have h3 : b.drv.ena = (a.enWait || (a.begun hidx per w ovr bits).drv.ena) := by
    subst hb
    exact (congrArg (fun x : Axis => x.drv.ena) (a.wrapped_spec q hidx per w ovr bits).1 :)
  rw [h3, h1, h2]

/-- The shadows are the active compares of the new period, and stay (07 R217). -/
theorem Axis.wrapped_compares : b.drv.acmp = a.drv.scmp ∧ b.drv.scmp = a.drv.scmp := by
  have h1 : b.drv.scmp = a.configured.scmp := (congrArg Drv.scmp (Axis.wrapped_drv hb) :)
  have h2 : a.configured.scmp = a.drv.scmp := (congrArg Drv.scmp a.configured_bare :)
  have h3 : b.drv.acmp = (a.begun hidx per w ovr bits).drv.acmp := by
    subst hb
    exact (congrArg (fun x : Axis => x.drv.acmp) (a.wrapped_spec q hidx per w ovr bits).1 :)
  exact ⟨h3.trans (a.begun_acmp ..), h1.trans h2⟩

/-- CMPeff of every channel in the new period (07 R210, R213). -/
theorem Axis.wrapped_eff (ch : Fin 4) :
    b.eff.get ch = minPulse per (fld a.configured.ctrl 15 8) (cmpEff (a.drv.scmp.get ch) hidx) := by
  have h : b.eff = (a.begun hidx per w ovr bits).eff := by
    subst hb
    exact (congrArg Axis.eff (a.wrapped_spec q hidx per w ovr bits).1 :)
  rw [h, a.begun_eff]

/-- The dither index, the length and the sense words of the new period, and what its begin clears (07 R208, R219, R243). -/
theorem Axis.wrapped_period : b.k = hidx ∧ b.per = per ∧ b.cbcHold = (a.cbcHold &&& a.filt) ∧ b.cfgq = [] ∧
    b.enWait = false ∧ b.wrapOff = 0 ∧ b.wrapPh = 0 ∧ b.vmloWait = false ∧ b.sense.frame = some w ∧ b.st = a.st := by
  subst hb
  have h := (a.wrapped_spec q hidx per w ovr bits).1
  exact ⟨(congrArg Axis.k h :), (congrArg Axis.per h :), (congrArg Axis.cbcHold h :), (congrArg Axis.cfgq h :),
    (congrArg Axis.enWait h :), (congrArg Axis.wrapOff h :), (congrArg Axis.wrapPh h :), (congrArg Axis.vmloWait h :),
    (congrArg (fun x : Axis => x.sense.frame) h :), (congrArg Axis.st h :)⟩

/-- Each raw command starts on where its compare of the period is above 0 (07 R210). -/
theorem Axis.wrapped_raw : b.ph.u.raw = decide (0 < b.eff.a0) ∧ b.ph.v.raw = decide (0 < b.eff.a1) ∧
    b.ph.w.raw = decide (0 < b.eff.a2) ∧ b.brk = decide (0 < b.eff.a3) := by
  subst hb
  obtain ⟨h, hp⟩ := a.wrapped_spec q hidx per w ovr bits
  obtain ⟨hu, hv, hw, hbrk⟩ := a.begun_raw hidx per w ovr bits
  have he : (a.wrapped q hidx per w ovr bits).eff = (a.begun hidx per w ovr bits).eff := (congrArg Axis.eff h :)
  have hr (p : Phase) : ((a.wrapped q hidx per w ovr bits).ph.get p).raw = ((a.begun hidx per w ovr bits).ph.get p).raw :=
    (congrArg PhSt.raw (hp p) :)
  have hk : (a.wrapped q hidx per w ovr bits).brk = (a.begun hidx per w ovr bits).brk := (congrArg Axis.brk h :)
  rw [he]
  exact ⟨(hr .u).trans hu, (hr .v).trans hv, (hr .w).trans hw, hk.trans hbrk⟩

/-- A refresh whose time has ended gives its phase back; REFACT shows the others (08 R264). -/
theorem Axis.wrapped_refr (p : Phase) :
    (b.ph.get p).refr = (if (a.ph.get p).refr = 2 then 0 else (a.ph.get p).refr) ∧
      b.drv.refact.getLsbD (phIx p) = decide ((b.ph.get p).refr ≠ 0) := by
  subst hb
  obtain ⟨h, hp⟩ := a.wrapped_spec q hidx per w ovr bits
  have h1 : ((a.wrapped q hidx per w ovr bits).ph.get p).refr = ((a.begun hidx per w ovr bits).ph.get p).refr :=
    (congrArg PhSt.refr (hp p) :)
  have h2 : (a.wrapped q hidx per w ovr bits).drv.refact = (a.begun hidx per w ovr bits).drv.refact :=
    (congrArg (fun x : Axis => x.drv.refact) h :)
  rw [h1, h2]
  exact a.begun_refr hidx per w ovr bits p

end

/-- What one waiting configuration write leaves of its register: the reserved bits are discarded (07 R219, Tables 7-3 to
7-8). -/
theorem Axis.configured_register {a : Axis} {d : Drv} (hd : a.configured.Rewrapped d) (w : Word) :
    (a.cfgq = [(0x000, w)] → d.ctrl = (a.drv.ctrl &&& ~~~0xFF00) ||| (w &&& 0xFF00)) ∧
    (a.cfgq = [(0x004, w)] → d.dt = w &&& 0x7FF) ∧ (a.cfgq = [(0x034, w)] → d.brkhw = w &&& 0x8000FFFF) ∧
    (∀ k : Fin 12, a.cfgq = [(0x080 + 4 * k.val, w)] → d.tcfg[k.val]! = w &&& 0xF000FF7F) ∧
    (a.cfgq = [(0x0B0, w)] → d.tcfg[12]! = (w &&& 0xF000FF7F) ||| 0x80000000) ∧
    (a.cfgq = [(0x100, w)] → d.gdrv = w) ∧ (a.cfgq = [(0x104, w)] → d.gbst = w &&& 0x1FF7) ∧
    (a.cfgq = [(0x108, w)] → d.ghs = w &&& 7) ∧ (a.cfgq = [(0x10C, w)] → d.gvds = w &&& 0x1F1F1F) ∧
    (a.cfgq = [(0x110, w)] → d.gocf = w &&& 0x1F) ∧ (a.cfgq = [(0x114, w)] → d.gvm = w &&& 0xFFFF) ∧
    (a.cfgq = [(0x200, w)] → d.swin = w &&& 0xFFFFFF) ∧ (a.cfgq = [(0x204, w)] → d.sctrl = w &&& 0x171) := by
  have single {o : Nat} (h : a.cfgq = [(o, w)]) : (a.drv.config o w).Rewrapped d := a.configured_single h ▸ hd
  have trip (k : Fin 13) (h : a.cfgq = [(0x080 + 4 * k.val, w)]) : d.tcfg[k.val]! =
      (w &&& 0xF000FF7F) ||| if k.val = 12 then 0x80000000 else 0 := by
    have ht : d.tcfg = (a.drv.config (0x080 + 4 * k.val) w).tcfg := (congrArg Drv.tcfg (single h) :)
    rw [ht, Drv.config_tcfg]
  refine ⟨fun h => (congrArg Drv.ctrl (single h) :), fun h => (congrArg Drv.dt (single h) :),
    fun h => (congrArg Drv.brkhw (single h) :), fun k h => ?_, fun h => trip 12 h,
    fun h => (congrArg Drv.gdrv (single h) :), fun h => (congrArg Drv.gbst (single h) :),
    fun h => (congrArg Drv.ghs (single h) :), fun h => (congrArg Drv.gvds (single h) :),
    fun h => (congrArg Drv.gocf (single h) :), fun h => (congrArg Drv.gvm (single h) :),
    fun h => (congrArg Drv.swin (single h) :), fun h => (congrArg Drv.sctrl (single h) :)⟩
  have hk : k.val ≠ 12 := by omega
  have ht := trip k.castSucc h
  rw [Fin.val_castSucc, if_neg hk] at ht
  exact ht.trans (BitVec.or_zero ..)

/-- Settles O27: the axis that the wrap leaves is the one that has begun its period behind the configuration that waited. -/
theorem periodWrapLoadsShadows : Obligations.PeriodWrapLoadsShadows := by
  intro s n bits hon a d
  refine ⟨fun h => congrArg (fun t : State => t.axis n) (State.testPeriod_idle h), ?_⟩
  obtain ⟨t, x, ovr, hexec, hx, hb, hne, hf⟩ := exec_periodWrap hon n bits
  refine ⟨t, hexec, ?_, hne, hf⟩
  have hc : x.configured = a.configured := (congrArg Axis.configured hx :)
  have hdrv : a.configured.Rewrapped (t.axis n).drv := hc ▸ Axis.wrapped_drv hb
  have hs : x.drv.scmp = a.drv.scmp := congrArg Drv.scmp hx.drv_eq
  have hh : (x.cbcHold &&& x.filt) = (a.cbcHold &&& a.filt) := (congrArg (fun y : Axis => y.cbcHold &&& y.filt) hx :)
  have hen : (x.enWait || x.drv.ena) = (a.enWait || a.drv.ena) := (congrArg (fun y : Axis => y.enWait || y.drv.ena) hx :)
  obtain ⟨hacmp, hscmp⟩ := Axis.wrapped_compares hb
  obtain ⟨hk, hper, hhold, hcfgq, hwait, hoff, hoffPh, -, hsense, hst⟩ := Axis.wrapped_period hb
  obtain ⟨hu, hv, hw, hbrk⟩ := Axis.wrapped_raw hb
  have hena := (Axis.wrapped_ena hb).trans hen
  have heff (ch : Fin 4) : (t.axis n).eff.get ch =
      minPulse s.tick.tper (fld d.ctrl 15 8) (cmpEff (a.drv.scmp.get ch) s.tick.hidx) := by
    rw [Axis.wrapped_eff hb, hs, hc]
    rfl
  exact ⟨hacmp.trans hs, hscmp.trans hs, hk, hper, heff, hu, hv, hw, hbrk, hhold.trans hh, hcfgq,
    (congrArg Drv.ctrl hdrv :), (congrArg Drv.dt hdrv :), (congrArg Drv.brkhw hdrv :), (congrArg Drv.tcfg hdrv :),
    (congrArg Drv.gdrv hdrv :), (congrArg Drv.gbst hdrv :), (congrArg Drv.ghs hdrv :), (congrArg Drv.gvds hdrv :),
    (congrArg Drv.gocf hdrv :), (congrArg Drv.gvm hdrv :), (congrArg Drv.swin hdrv :), (congrArg Drv.sctrl hdrv :),
    Axis.configured_register hdrv, hwait, fun h => by rw [hena, h, Bool.true_or], fun h => by rw [hena, h, Bool.false_or],
    hoff, hoffPh, hsense, hst.trans hx.st_eq⟩

end Sys2Proof.Machine
end
section
/-! O30: the gate-drive protections act and release (07 R229, R230; 08 R260 to R266, R270, R274). -/

namespace Sys2Proof.Machine

/-! ### What a protection holds off -/

section
variable {a : Axis} {p : Phase}

theorem Axis.gateOn_of_fpglow (h : a.drv.fpglow.getLsbD (phIx p) = true) (q : Bool) : a.gateOn q p true = false := by
  simp [Axis.gateOn, h]

theorem Axis.gateOn_of_s4 {high : Bool} (h : ((a.ph.get p).side high).s4 = false) (q : Bool) : a.gateOn q p high = false := by
  simp [Axis.gateOn, Axis.cmd7, h]

/-- A raw source that is inactive stays so while the chain settles (08 R270). -/
theorem Axis.settle_tsrc {i : Nat} (h : a.drv.tsrc.getLsbD i = false) (q : Bool) :
    (a.settle q).drv.tsrc.getLsbD i = false := by
  have hm : ∃ m, (a.settle q).drv.tsrc = a.drv.tsrc &&& m := ⟨_, rfl⟩
  obtain ⟨m, hm⟩ := hm
  rw [hm, BitVec.getLsbD_and, h, Bool.false_and]

end

theorem getLsbD_or_bitB_same {w : Nat} (m : BitVec w) {k : Nat} (h : k < w) : (m ||| bitB w k).getLsbD k = true := by
  rw [BitVec.getLsbD_or, getLsbD_bitB]
  simp [h]

theorem Drv.bhMay_of {d : Drv} (hen : d.brkhw.getLsbD 31 = true) (h : fld d.brkhw 7 0 < fld d.brkhw 15 8) : d.bhMay = true := by
  rw [Drv.bhMay, hen, Drv.bhinv, decide_eq_false (Nat.not_le.2 h)]
  rfl

/-! ### FPGLOW (08 R260, R261) -/

/-- A phase whose floating supply has fallen: its high side is held off, its OCF source is inactive (08 R260, R261). -/
def Axis.fpgHeld (ph : Phase) (time : Nat) (a : Axis) : Axis :=
  { a with
    ph := a.ph.set ph { a.ph.get ph with fpgSeen := true }
    counting := putBit a.counting (1 + phIx ph) false
    sense := { a.sense with fpgAt := a.sense.fpgAt.set ph time }
    drv := { a.drv with
      fpglow := a.drv.fpglow ||| bitB 3 (phIx ph), tsrc := putBit a.drv.tsrc (1 + phIx ph) false } }

section
variable {s : State} (hon : s.appOn = true) (n : Fin 4) (ph : Phase) (time : Nat)
include hon

theorem exec_fpglowAssert (h : (s.axis n).drv.fpglow.getLsbD (phIx ph) = false) :
    ∃ t, exec (.fpglowAssert n ⟨ph, time⟩) s = .next t ∧
      (t.axis n).drv.fpglow = (s.axis n).drv.fpglow ||| bitB 3 (phIx ph) ∧ (∀ q, (t.axis n).gateOn q ph true = false) ∧
      (t.axis n).drv.tsrc.getLsbD (1 + phIx ph) = false ∧ Frame [.ax, .evm] s t := by
  have hexec := (if_neg (by rw [h]; exact Bool.false_ne_true) : exec (.fpglowAssert n ⟨ph, time⟩) s = _).trans (if_pos hon)
  have ht := (s.updChain_turns n (Axis.fpgHeld ph time)).raiseDrv 13
  have hlt := phIx_lt ph
  refine ⟨(s.updChain n (Axis.fpgHeld ph time)).raiseDrv n 13, hexec, ?_, fun q => ?_, ?_, ht.frame⟩
  · rw [ht.axis.drv_eq]
    rfl
  · rw [ht.axis.gateOn_eq, Axis.settle_gateOn]
    exact Axis.gateOn_of_fpglow (getLsbD_or_bitB_same _ hlt) q
  · rw [ht.axis.drv_eq]
    exact Axis.settle_tsrc ((getLsbD_putBit _ _ _ (by omega)).trans (if_pos rfl)) _

theorem exec_fpglowRelease : ∃ t, exec (.fpglowRelease n ⟨ph, time⟩) s = .next t ∧
    (t.axis n).drv.fpglow.getLsbD (phIx ph) = false ∧ (t.axis n).drv.tflag = (s.axis n).drv.tflag ∧ Frame [.ax] s t := by
  refine ⟨_, if_pos hon, ?_, ?_, s.updChain_frame n _⟩ <;> rw [s.updChain_axis, Axis.settle_drv]
  dsimp only
  rw [getLsbD_putBit _ _ _ (phIx_lt ph), if_pos rfl]

end

/-! ### The bootstrap refresh (08 R262 to R265) -/

/-- A phase that begins its refresh: its high side goes off, its low side comes on (08 R263). -/
def Axis.refreshed (ph : Phase) (a : Axis) : Axis :=
  { a with
    ph := a.ph.set ph { a.ph.get ph with refr := 1, refRan := true }
    drv := { a.drv with refact := a.drv.refact ||| bitB 3 (phIx ph) } }.drivePhase ph

theorem Axis.refreshed_spec (ph : Phase) (a : Axis) :
    (a.refreshed ph).drv = { a.drv with refact := a.drv.refact ||| bitB 3 (phIx ph) } ∧
      ((a.refreshed ph).ph.get ph).refr = 1 ∧ (((a.refreshed ph).ph.get ph).side true).s4 = false := by
  let c : Axis := { a with
    ph := a.ph.set ph { a.ph.get ph with refr := 1, refRan := true }
    drv := { a.drv with refact := a.drv.refact ||| bitB 3 (phIx ph) } }
  have hc : (c.ph.get ph).refr = 1 := congrArg PhSt.refr (Three.get_set_same ..)
  have hr := c.drivePhase_regated ph
  have hd : c.drivePhase ph = c.drivePh ph false true := if_neg (by rw [hc]; decide)
  refine ⟨hr.drv_eq, (hr.refr_eq ph).trans hc, ?_⟩
  change (((c.drivePhase ph).ph.get ph).side true).s4 = false
  rw [hd, Axis.drivePh, Three.get_set_same]
  rfl

/-- Every refresh counts (08 R265). -/
theorem State.countRefresh_turns (s : State) (n : Fin 4) : ∃ refflt, State.Turns n { s.axis n with
    drv := { (s.axis n).drv with
      refcnt := if (s.axis n).drv.refcnt = 31 then (s.axis n).drv.refcnt else (s.axis n).drv.refcnt + 1
      reftot := sat16 (s.axis n).drv.reftot, refflt } } s (s.countRefresh n) := by
  let d := (s.axis n).drv
  let c := if d.refcnt = 31 then d.refcnt else d.refcnt + 1
  let hit := decide (d.refcnt ≠ 31) && decide (c.toNat = fld d.gbst 11 8 + 1)
  exact ⟨d.refflt || hit, (s.updAxis_turns n fun a => { a with
    drv := { a.drv with refcnt := c, reftot := sat16 a.drv.reftot, refflt := a.drv.refflt || hit } }).raiseDrvIf hit 9⟩

theorem exec_refreshStart {s : State} {n : Fin 4} {ph : Phase} (hb : (s.axis n).drv.bstuv.getLsbD (phIx ph) = true)
    (he : (s.axis n).drv.ena = true) (hl : (s.axis n).low5 ph = false) (hr : ((s.axis n).ph.get ph).refr = 0) :
    let a := s.axis n
    ∃ t, exec (.refreshStart n ph) s = .next t ∧ ((t.axis n).ph.get ph).refr = 1 ∧
      (t.axis n).drv.refact.getLsbD (phIx ph) = true ∧ (t.axis n).drv.reftot = sat16 a.drv.reftot ∧
      (t.axis n).drv.refcnt = (if a.drv.refcnt = 31 then 31 else a.drv.refcnt + 1) ∧
      (t.axis n).gateOn (t.gateHold n) ph true = false ∧ Frame [.ax, .evm] s t := by
  intro a
  have hs := (s.updChain_turns n (Axis.refreshed ph)).raiseDrv 8
  obtain ⟨refflt, hc⟩ := State.countRefresh_turns ((s.updChain n (Axis.refreshed ph)).raiseDrv n 8) n
  obtain ⟨hdrv, hrefr, hs4⟩ := a.refreshed_spec ph
  let t := ((s.updChain n (Axis.refreshed ph)).raiseDrv n 8).countRefresh n
  have hph : (t.axis n).ph = ((a.refreshed ph).settle (s.gateHold n)).ph := hc.axis.ph_eq.trans hs.axis.ph_eq
  have hd : (t.axis n).drv = _ := hc.axis.drv_eq
  rw [hs.axis.drv_eq, Axis.settle_drv, hdrv] at hd
  refine ⟨t, if_pos (by rw [hb, he, hl, hr]; rfl), ?_, ?_, ?_, ?_, ?_, hs.frame.trans hc.frame⟩
  · rw [hph, Axis.settle_phase]
    exact hrefr
  · rw [hd]
    exact getLsbD_or_bitB_same _ (phIx_lt ph)
  · rw [hd]
  · rw [hd]
    exact if_ctx_congr Iff.rfl (fun h => h) fun _ => rfl
  · refine Axis.gateOn_of_s4 ?_ _
    rw [hph, Axis.settle_side]
    exact hs4

/-! ### The VM lockout (08 R274, 19 R523) -/

/-- An axis whose VM comparator has engaged the lockout. -/
def Axis.vmEngaged (a : Axis) : Axis := { a with vmloPer := a.vmloPer || !a.noLock, drv := { a.drv with vmlo := true } }

theorem Axis.vmEngaged_lockedOut (a : Axis) : a.vmEngaged.lockedOut = !a.noLock := rfl

/-- Where a test suspends the lockout, its comparator shows, and no more (19 R523). -/
theorem Axis.vmEngaged_noLock {a : Axis} (h : a.noLock = true) : a.vmEngaged.vmloPer = a.vmloPer ∧
    ∀ q p high, a.vmEngaged.gateOn q p high = a.gateOn q p high := by
  refine ⟨?_, fun q p high => ?_⟩
  · rw [Axis.vmEngaged, h, Bool.not_true, Bool.or_false]
  · have hl : a.lockedOut = false := by rw [Axis.lockedOut, h, Bool.not_true, Bool.and_false]
    rw [Axis.gateOn, Axis.gateOn, hl, a.vmEngaged_lockedOut, h]
    rfl

section
variable {s : State} {n : Fin 4}

theorem exec_vmLockoutEngage (hon : s.appOn = true) (hv : (s.axis n).drv.vmlo = false) :
    exec (.vmLockoutEngage n) s = .next ((s.updChain n Axis.vmEngaged).raiseDrvIf (!(s.axis n).noLock) n 12) :=
  (if_neg (by rw [hv]; exact Bool.false_ne_true)).trans (if_pos hon)

theorem exec_vmLockoutEngage_holds (hon : s.appOn = true) (hl : (s.axis n).noLock = false) (hv : (s.axis n).drv.vmlo = false) :
    ∃ t, exec (.vmLockoutEngage n) s = .next t ∧ (t.axis n).drv.vmlo = true ∧
      (∀ q p h, (t.axis n).gateOn q p h = false) ∧ (∀ q, (t.axis n).brakeOn q = false) ∧ Frame [.ax, .evm] s t := by
  have ht := (s.updChain_turns n Axis.vmEngaged).raiseDrvIf (!(s.axis n).noLock) 12
  have hlock : (s.axis n).vmEngaged.lockedOut = true := congrArg not hl
  refine ⟨_, exec_vmLockoutEngage hon hv, ?_, fun q p h => ?_, fun q => ?_, ht.frame⟩
  · rw [ht.axis.drv_eq]
    rfl
  · rw [ht.axis.gateOn_eq, Axis.settle_gateOn, Axis.gateOn_of_lockedOut hlock]
  · rw [ht.axis.brakeOn_eq, Axis.settle_brakeOn, Axis.brakeOn_of_lockedOut hlock]

theorem exec_vmLockoutEngage_shows (hon : s.appOn = true) (hl : (s.axis n).noLock = true) (hv : (s.axis n).drv.vmlo = false) :
    ∃ t, exec (.vmLockoutEngage n) s = .next t ∧ (t.axis n).drv.vmlo = true ∧
      (∀ q p h, (t.axis n).gateOn q p h = (s.axis n).gateOn q p h) ∧ (t.axis n).vmloPer = (s.axis n).vmloPer ∧
      Frame [.ax] s t := by
  have hexec := exec_vmLockoutEngage hon hv
  rw [hl] at hexec
  obtain ⟨hper, hgate⟩ := Axis.vmEngaged_noLock hl
  have ht := s.updChain_axis n Axis.vmEngaged
  refine ⟨_, hexec, congrArg (fun a : Axis => a.drv.vmlo) ht, fun q p h => ?_, (congrArg Axis.vmloPer ht).trans hper,
    s.updChain_frame n _⟩
  exact (congrArg (fun a : Axis => a.gateOn q p h) ht).trans ((Axis.settle_gateOn ..).trans (hgate q p h))

theorem exec_vmLockoutRelease (hv : (s.axis n).drv.vmlo = true) : ∃ t, exec (.vmLockoutRelease n) s = .next t ∧
    (t.axis n).drv.vmlo = false ∧ (t.axis n).vmloWait = true ∧
    ((s.axis n).noLock = false → ∀ q p h, (t.axis n).gateOn q p h = false) ∧ Frame [.ax] s t := by
  refine ⟨_, if_pos hv, ?_, ?_, fun hl q p h => ?_, s.updChain_frame n _⟩ <;> rw [s.updChain_axis]
  · rw [Axis.settle_drv]
  · rfl
  · rw [Axis.settle_gateOn]
    refine Axis.gateOn_of_lockedOut ?_ q p h
    rw [Axis.lockedOut, hl, Bool.or_true]
    rfl

end

/-- What a wrap leaves of a refresh and of the lockout (08 R264, R274). -/
theorem exec_periodWrap_protections {s : State} (hon : s.appOn = true) (n : Fin 4) (bits : List ChanBits) :
    ∃ t, exec (.periodWrap n bits) s = .next t ∧
      (∀ p : Phase, (t.axis n).drv.refact.getLsbD (phIx p) = decide (((t.axis n).ph.get p).refr ≠ 0) ∧
        ((t.axis n).ph.get p).refr = (if ((s.axis n).ph.get p).refr = 2 then 0 else ((s.axis n).ph.get p).refr)) ∧
      (t.axis n).vmloWait = false ∧ ((s.axis n).drv.vmlo = false → (t.axis n).lockedOut = false) := by
  obtain ⟨t, x, ovr, hexec, hx, hb, -, -⟩ := exec_periodWrap hon n bits
  have ht := s.testPeriod_spec n
  have hph : x.ph = (s.axis n).ph := hx.ph_eq.trans ht.ph
  obtain ⟨-, -, -, -, -, -, -, hwait, -, -⟩ := Axis.wrapped_period hb
  refine ⟨t, hexec, fun p => ?_, hwait, fun hv => ?_⟩
  · obtain ⟨h1, h2⟩ := Axis.wrapped_refr hb p
    rw [hph] at h1
    exact ⟨h2, h1⟩
  · have h1 : (t.axis n).drv.vmlo = x.configured.vmlo := (congrArg Drv.vmlo (Axis.wrapped_drv hb) :)
    have h2 : x.configured.vmlo = x.drv.vmlo := (congrArg Drv.vmlo x.configured_bare :)
    rw [Axis.lockedOut, hwait, h1, h2, hx.drv_eq, ht.vmlo, hv]
    rfl

/-- Settles O30: each protection by the lemma that says what it makes of its axis. -/
theorem gateDriveProtections : Obligations.GateDriveProtections := by
  intro s n ph high time hon a
  refine ⟨fun hen hf hact => ?_, rfl, fun hc => ?_, exec_fpglowAssert hon n ph time, exec_fpglowRelease hon n ph time,
    if_pos hon, if_pos hon, exec_refreshStart, fun hl => ?_, ?_, fun hr => if_pos hr, exec_vmLockoutEngage_holds hon,
    exec_vmLockoutRelease, exec_vmLockoutEngage_shows hon, exec_periodWrap_protections hon n⟩
  · exact if_pos (by rw [hon, Drv.bhMay_of hen hf]; exact congrArg not hact)
  · refine ⟨_, if_pos hc, ?_, ?_, s.updAxis_frame n _⟩ <;> rw [State.axis_updAxis_same]
    · rw [Axis.updSide_side]
    · rfl
  · exact if_neg (by rw [show (s.axis n).low5 ph = true from hl]; simp)
  · simp [Axis.low5, Bool.and_assoc]

end Sys2Proof.Machine
end
section
/-! O23: the tick frame (07 R217; 16 R464, R466, R467), and the words that a die has told on its way (16 R588). -/

namespace Sys2Proof.Machine

/-! ### The words of a die -/

theorem Axis.upSend_suffix (l : List UpWord) (a : Axis) : (Axis.upSend l a).evq <:+ l := by
  induction l generalizing a with
  | nil => exact List.suffix_refl _
  | cons w t ih =>
    cases w with
    | ack => exact (ih _).trans (List.suffix_cons ..)
    | event j => exact List.suffix_cons ..

theorem State.upNext_evPend (s : State) (n : Fin 4) (j : Nat) : ((s.upNext n).axis n).evPend j ≤ (s.axis n).evPend j := by
  unfold State.upNext
  split
  · exact Nat.le_refl _
  · rw [State.axis_updAxis_same]
    exact (Axis.upSend_suffix _ _).sublist.count_le _

theorem State.raiseDrv_evPend (s : State) (n : Fin 4) {i j : Nat} (h : i ≠ j) :
    ((s.raiseDrv n j).axis n).evPend i ≤ (s.axis n).evPend i := by
  unfold State.raiseDrv
  split
  · refine (State.upNext_evPend _ n i).trans (Nat.le_of_eq ?_)
    rw [State.axis_updAxis_same]
    have hne : UpWord.event j ≠ UpWord.event i := fun e => h (UpWord.event.inj e).symm
    simp [Axis.evPend, List.count_append, hne]
  · exact Nat.le_refl _

/-- Axis n alone has changed, to b, and its die has told the occurrences js, each of them once. -/
structure State.Tells (n : Fin 4) (b : Axis) (js : List Nat) (s t : State) : Prop extends State.Turns n b s t where
  words : (∀ j ∈ js, b.evPend j < 255) → (t.axis n).evWords = b.evWords ++ js
  pend : ∀ j, j ∉ js → (t.axis n).evPend j ≤ b.evPend j

theorem State.updAxis_tells (s : State) (n : Fin 4) (f : Axis → Axis) :
    State.Tells n (f (s.axis n)) [] s (s.updAxis n f) :=
  { s.updAxis_turns n f with
    words := fun _ => by rw [State.axis_updAxis_same, List.append_nil]
    pend := fun j _ => by rw [State.axis_updAxis_same] }

section
variable {n : Fin 4} {b : Axis} {js : List Nat} {s t : State} (h : State.Tells n b js s t)
include h

theorem State.Tells.raiseDrvIf (c : Bool) {j : Nat} (hj : j ∉ js) :
    State.Tells n b (js ++ if c then [j] else []) s (t.raiseDrvIf c n j) where
  toTurns := h.toTurns.raiseDrvIf c j
  words := fun hp => by
    have hjs := h.words fun i hi => hp i (List.mem_append_left _ hi)
    cases c with
    | true =>
      have hpj := (h.pend j hj).trans_lt (hp j (List.mem_append_right _ (List.mem_singleton.2 rfl)))
      rw [State.raiseDrvIf_evWords _ _ _ hpj, hjs, List.append_assoc]
    | false => exact hjs.trans (congrArg _ (List.append_nil js).symm)
  pend := fun i hi => by
    rw [List.mem_append, not_or] at hi
    cases c with
    | true =>
      have hij : i ≠ j := fun e => hi.2 (List.mem_singleton.2 e)
      exact (t.raiseDrv_evPend n hij).trans (h.pend i hi.1)
    | false => exact h.pend i hi.1

/-- A change that neither reads nor writes what the axis has still to send. -/
theorem State.Tells.updAxis (f : Axis → Axis) (hf : ∀ x, b.SentAs x → (f b).SentAs (f x))
    (hq : ∀ x, (f x).evq = x.evq ∧ (f x).upOn = x.upOn) : State.Tells n (f b) js s (t.updAxis n f) := by
  have hw (x : Axis) : (f x).evWords = x.evWords := by rw [Axis.evWords, (hq x).1, (hq x).2]; rfl
  have hp (x : Axis) (j : Nat) : (f x).evPend j = x.evPend j := by rw [Axis.evPend, (hq x).1]; rfl
  refine ⟨⟨?_, fun k hk => (State.axis_updAxis_ne _ _ hk).trans (h.others k hk),
    h.frame.trans ((t.updAxis_frame n f).mono (by decide))⟩, fun hj => ?_, fun j hj => ?_⟩
  · rw [State.axis_updAxis_same]
    exact hf _ h.axis
  · rw [State.axis_updAxis_same, hw, hw]
    exact h.words fun j hm => hp b j ▸ hj j hm
  · rw [State.axis_updAxis_same, hp, hp]
    exact h.pend j hj

end

/-- An axis but for what it sends, with that named. -/
theorem Axis.SentAs.sent {a b : Axis} (h : a.SentAs b) : ∃ evq upOn regq, b = { a with evq, upOn, regq } := ⟨_, _, _, h⟩

/-! ### The sample point (16 R466) -/

/-- The receiver of the die has seen a header: its sample point, and whether it slipped on the way there. -/
def Axis.tracked (r : BitVec 8 × Bool) (a : Axis) : Axis :=
  { a with link := { a.link with phd := r.1, slips := if r.2 then sat8 a.link.slips else a.link.slips } }

theorem State.slipDown_tells (s : State) (n : Fin 4) (eye : Int) :
    let r := track (s.axis n).link.phd eye
    State.Tells n ((s.axis n).tracked r) (if r.2 then [23] else []) s (s.slipDown n eye) :=
  (s.updAxis_tells n (Axis.tracked (track (s.axis n).link.phd eye))).raiseDrvIf _ (List.not_mem_nil)

/-- The place a receiver's sample point moves to, before it slips. -/
def movedPoint (p : BitVec 8) (eye : Int) : Int := p.toInt + (if p.toInt < eye then 1 else if eye < p.toInt then -1 else 0)

/-- Beyond 32 steps the receiver slips and re-centres; short of that its point has moved. -/
theorem track_spec (p : BitVec 8) (eye : Int) :
    (track p eye).1 = (if 32 < (movedPoint p eye).natAbs then 0 else BitVec.ofInt 8 (movedPoint p eye)) ∧
      ((track p eye).2 = true ↔ 32 < (movedPoint p eye).natAbs) := by
  have h : track p eye = if 32 < (movedPoint p eye).natAbs then (0, true) else (BitVec.ofInt 8 (movedPoint p eye), false) := rfl
  rw [h]
  split <;> simp [*]

/-! ### The frame -/

/-- The shadows, the count of bad frames and the injection as a good tick frame leaves them (07 R217; 16 R464, R467). -/
def Axis.frameGood (p : PortAx) (heat : Word) (test : Bool) (a : Axis) : Axis :=
  { a with
    dnRun := 0
    dieBadL := false
    link := { a.link with heatRx := heat }
    sense := { a.sense with tinjNext := p.linkctl.getLsbD 1 || test, tinjTestN := test }
    drv := { a.drv with scmp := if p.linkctl.getLsbD 0 then a.drv.scmp else p.cur.load a.drv.scmp } }

/-- A bad tick frame is counted, and brings no injection (16 R467). -/
def Axis.frameBad (a : Axis) : Axis :=
  { a with
    dnRun := a.dnRun + 1
    sense := { a.sense with tinjNext := false, tinjTestN := false }
    dieBadL := true
    dieBad := a.dieBad + 1 }

section
variable {n : Fin 4} {b : Axis} {js : List Nat} {s t : State} (h : State.Tells n b js s t)
include h

theorem State.Tells.tickFrameGood :
    State.Tells n (b.frameGood (t.pour.ax.get n) t.heatWord (t.testInjects n)) js s (t.tickFrameGood n) := by
  refine h.updAxis (Axis.frameGood (t.pour.ax.get n) t.heatWord (t.testInjects n)) (fun x hx => ?_) fun _ => ⟨rfl, rfl⟩
  obtain ⟨_, _, _, rfl⟩ := hx.sent
  rfl

theorem State.Tells.tickFrameBad (h20 : 20 ∉ js) (h22 : 22 ∉ js) :
    State.Tells n b.frameBad (js ++ [20] ++ if decide (1 ≤ b.dnRun) then [22] else []) s (t.tickFrameBad n) := by
  have hsent (x : Axis) (hx : b.SentAs x) : b.frameBad.SentAs x.frameBad := by
    obtain ⟨_, _, _, rfl⟩ := hx.sent
    rfl
  have h1 := (h.updAxis Axis.frameBad hsent fun _ => ⟨rfl, rfl⟩).raiseDrvIf true h20
  let u := (t.updAxis n Axis.frameBad).raiseDrv n 20
  have hd : decide (1 ≤ b.dnRun) = decide (2 ≤ (u.axis n).dnRun) := by
    have hu : (u.axis n).dnRun = b.dnRun + 1 := (congrArg Axis.dnRun h1.axis :)
    rw [hu]
    exact decide_eq_decide.2 Nat.succ_le_succ_iff.symm
  rw [hd]
  exact h1.raiseDrvIf (decide (2 ≤ (u.axis n).dnRun)) (by simp [h22])

end

/-! ### The command -/

theorem eq_of_mem_ite {α : Type} {c : Prop} [Decidable c] {x y : α} (h : x ∈ if c then [y] else []) : x = y := by
  split at h
  · exact List.mem_singleton.1 h
  · exact absurd h List.not_mem_nil

theorem State.stdStep_of_noStd {s : State} (h : ∀ m, s.moulds.active = some m → m.std = none) (n : Fin 4) :
    s.stdStep n = s := by
  unfold State.stdStep
  split
  · rw [h _ ‹_›]
  · rfl

theorem State.testInjects_of {s t : State} {n : Fin 4} (hm : t.mgmt = s.mgmt) (ha : (t.axis n).st = (s.axis n).st) :
    t.testInjects n = s.testInjects n := by
  unfold State.testInjects
  rw [hm, ha]

/-- What a tick frame makes of its axis, and what its die tells of it. -/
theorem State.frameTaken_tells (s : State) (n : Fin 4) (good : Bool) (eye : Int) :
    let r := track (s.axis n).link.phd eye
    let a := (s.axis n).tracked r
    let slip := if r.2 then [23] else []
    ∃ t, s.frameTaken n good eye = t.frameSent n ∧
      (good = true → State.Tells n (a.frameGood (s.pour.ax.get n) s.heatWord (s.testInjects n)) slip s t) ∧
      (good = false → State.Tells n a.frameBad (slip ++ [20] ++ if decide (1 ≤ (s.axis n).dnRun) then [22] else []) s t) := by
  intro r a slip
  have h : State.Tells n a slip s (s.slipDown n eye) := s.slipDown_tells n eye
  have hslip (j : Nat) (hj : j ≠ 23) : j ∉ slip := by
    by_cases hr : r.2 <;> simp [slip, hr, hj]
  refine ⟨_, rfl, ?_, ?_⟩
  · rintro rfl
    have hg := h.tickFrameGood
    have hh : (s.slipDown n eye).heatWord = s.heatWord := congrArg (fun k : Tick => at_ 28 k.hidx.toNat |||
      at_ 0 (k.heat.toNat % 2 ^ 28)) (h.frame.tick_eq (by decide))
    rw [h.frame.pour_eq (by decide), hh, State.testInjects_of (h.frame.mgmt_eq (by decide)) h.axis.st_eq] at hg
    exact hg
  · rintro rfl
    exact h.tickFrameBad (hslip 20 (by decide)) (hslip 22 (by decide))

theorem State.frameSent_spec (s : State) (n : Fin 4) : Frame [.pour] s (s.frameSent n) ∧
    (s.frameSent n).pour.ax.get n =
      { s.pour.ax.get n with cur := (s.pour.ax.get n).nxt, nxt := {}, sent := true } :=
  ⟨s.updPort_frame n _, State.port_updPort_same ..⟩

/-- Settles O23: a good frame and a bad one, each by what it makes of its axis. -/
theorem tickFramesLoadShadows : Obligations.TickFramesLoadShadows := by
  intro s n good eye hstd hl hs p a q
  have hstep := State.stdStep_of_noStd hstd n
  have hexec : exec (.tickFrame n good eye) s = .next (s.frameTaken n good eye) := by
    rw [exec_tickFrame (hstep.symm ▸ hl) (hstep.symm ▸ hs), hstep]
  obtain ⟨t, ht, hgood, hbad⟩ := s.frameTaken_tells n good eye
  obtain ⟨hf, hport⟩ := t.frameSent_spec n
  have hax (k : Fin 4) : (t.frameSent n).axis k = t.axis k := hf.axis_eq (by decide) k
  obtain ⟨hpt, hslip⟩ := track_spec (s.axis n).link.phd eye
  have hlink : ((s.axis n).tracked (track (s.axis n).link.phd eye)).link = { a.link with
      phd := if 32 < q.natAbs then 0 else BitVec.ofInt 8 q
      slips := if 32 < q.natAbs then sat8 a.link.slips else a.link.slips } := by
    simp only [Axis.tracked, hpt, hslip]
    rfl
  simp only [hslip] at hgood hbad
  have htold (h23 : a.evPend 23 < 255) (h20 : a.evPend 20 < 255) (h22 : a.evPend 22 < 255) (j : Nat)
      (hj : j = 23 ∨ j = 20 ∨ j = 22) : a.evPend j < 255 := by
    obtain rfl | rfl | rfl := hj <;> assumption
  refine ⟨_, hexec, ?_⟩
  rw [ht, hport, hax n]
  cases good with
  | true =>
    have h := hgood rfl
    have hp : t.pour = s.pour := h.frame.pour_eq (by decide)
    refine ⟨?_, (congrArg Axis.dnRun h.axis :), (congrArg (fun x : Axis => x.sense.tinjNext) h.axis :),
      (congrArg Axis.dieBadL h.axis :), (congrArg Axis.dieBad h.axis :), ?_, fun h23 h20 h22 => ?_, by rw [hp], rfl, rfl,
      fun k hk => (hax k).trans (h.others k hk), ((h.frame.mono (by decide)).trans (hf.mono (by decide)))⟩
    · rw [h.axis.drv_eq]
      have hld : (if p.linkctl.getLsbD 0 then a.drv.scmp else p.cur.load a.drv.scmp) =
          if true && !p.linkctl.getLsbD 0 then p.cur.load a.drv.scmp else a.drv.scmp := by
        cases p.linkctl.getLsbD 0 <;> rfl
      exact congrArg (fun f => ({ a.drv with scmp := f } : Drv)) hld
    · exact (congrArg Axis.link h.axis :).trans (congrArg (fun l : Link => { l with heatRx := s.heatWord }) hlink)
    · exact (h.words fun j hj => htold h23 h20 h22 j (.inl (eq_of_mem_ite hj))).trans (by simp; rfl)
  | false =>
    have h := hbad rfl
    have hp : t.pour = s.pour := h.frame.pour_eq (by decide)
    refine ⟨h.axis.drv_eq, (congrArg Axis.dnRun h.axis :), (congrArg (fun x : Axis => x.sense.tinjNext) h.axis :),
      (congrArg Axis.dieBadL h.axis :), (congrArg Axis.dieBad h.axis :), (congrArg Axis.link h.axis :).trans hlink,
      fun h23 h20 h22 => ?_, by rw [hp], rfl, rfl,
      fun k hk => (hax k).trans (h.others k hk), ((h.frame.mono (by decide)).trans (hf.mono (by decide)))⟩
    refine (h.words fun j hj => htold h23 h20 h22 j ?_).trans (by simp; rfl)
    simp only [List.mem_append, List.mem_singleton] at hj
    obtain (hj | hj) | hj := hj
    · exact .inl (eq_of_mem_ite hj)
    · exact .inr (.inl hj)
    · exact .inr (.inr (eq_of_mem_ite hj))

end Sys2Proof.Machine
end
section
/-! O24: immediate and register messages at the drive die (07 R221, R245; 16 R464, R467, R468, R588). -/

namespace Sys2Proof.Machine

/-! ### Immediate messages (07 R221, 16 R467) -/

/-- An immediate load moves the active compare of its channel and no other register. -/
theorem Axis.immLoad_drv (a : Axis) (per c : Nat) (ch : Fin 4) (x : BitVec 20) :
    (a.immLoad per c ch x).drv = { a.drv with acmp := a.drv.acmp.set ch x } := by
  match ch with
  | 0 => exact (Axis.drivePhase_regated _ .u).drv_eq
  | 1 => exact (Axis.drivePhase_regated _ .v).drv_eq
  | 2 => exact (Axis.drivePhase_regated _ .w).drv_eq
  | 3 => rfl

section
variable {s : State} {n ch : Fin 4} {x : BitVec 20} {cy : Nat} {rest : List (Fin 4 × BitVec 20 × Nat)}
  (hq : (s.pour.ax.get n).immq = (ch, x, cy) :: rest)
include hq

theorem exec_immediateMessage (good : Bool) : exec (.immediateMessage n good) s =
    if s.behindFrame n cy then .next s else
    let s1 := s.updPort n fun p => { p with immq := rest, regOn := p.regOn && !rest.isEmpty }
    if s.linkDown n then .next s1
    else if good then .next (s1.updChain n fun a => a.immLoad s.tick.tper (s.countAt n cy) ch x)
    else .next ((s1.updLink n fun l => { l with immlost := sat8 l.immlost }).raiseDrv n 24) := by
  change execImmediateMessage n good s = _
  unfold execImmediateMessage
  rw [hq]

theorem exec_immediateMessage_waits (hb : s.behindFrame n cy = true) (good : Bool) :
    exec (.immediateMessage n good) s = .next s := (exec_immediateMessage hq good).trans (if_pos hb)

section
variable (hb : s.behindFrame n cy = false) (hl : s.linkDown n = false)
include hb hl

theorem exec_immediateMessage_good : ∃ t, exec (.immediateMessage n true) s = .next t ∧
    (t.axis n).drv.acmp = (s.axis n).drv.acmp.set ch x ∧ (t.axis n).drv.scmp = (s.axis n).drv.scmp ∧
    (t.pour.ax.get n).immq = rest ∧ Frame [.pour, .ax] s t := by
  let u := s.updPort n fun p => { p with immq := rest, regOn := p.regOn && !rest.isEmpty }
  have hax : u.axis n = s.axis n := (s.updPort_frame n _).axis_eq (by decide) n
  have hf := u.updChain_frame n fun a => a.immLoad s.tick.tper (s.countAt n cy) ch x
  have hd : ((u.updChain n fun a => a.immLoad s.tick.tper (s.countAt n cy) ch x).axis n).drv.acmp =
      (s.axis n).drv.acmp.set ch x := by
    rw [u.updChain_axis, Axis.settle_drv, Axis.immLoad_drv, hax]
  have hs : ((u.updChain n fun a => a.immLoad s.tick.tper (s.countAt n cy) ch x).axis n).drv.scmp =
      (s.axis n).drv.scmp := by
    rw [u.updChain_axis, Axis.settle_drv, Axis.immLoad_drv, hax]
  refine ⟨_, ?_, hd, hs, ?_, ((s.updPort_frame n _).mono (by decide)).trans (hf.mono (by decide))⟩
  · rw [exec_immediateMessage hq, hb, hl]
    rfl
  · rw [hf.pour_eq (by decide), State.port_updPort_same]

theorem exec_immediateMessage_bad : ∃ t, exec (.immediateMessage n false) s = .next t ∧
    (t.axis n).drv.acmp = (s.axis n).drv.acmp ∧ (t.axis n).link.immlost = sat8 (s.axis n).link.immlost ∧
    (t.pour.ax.get n).immq = rest ∧ Frame [.pour, .ax, .evm] s t := by
  let u := s.updPort n fun p => { p with immq := rest, regOn := p.regOn && !rest.isEmpty }
  have hax : u.axis n = s.axis n := (s.updPort_frame n _).axis_eq (by decide) n
  have ht := (u.updAxis_turns n fun a => { a with link := { a.link with immlost := sat8 a.link.immlost } }).raiseDrv 24
  rw [hax] at ht
  refine ⟨_, ?_, congrArg Drv.acmp ht.axis.drv_eq, (congrArg (fun a : Axis => a.link.immlost) ht.axis :), ?_,
    ((s.updPort_frame n _).mono (by decide)).trans (ht.frame.mono (by decide))⟩
  · rw [exec_immediateMessage hq, hb, hl]
    rfl
  · rw [ht.frame.pour_eq (by decide), State.port_updPort_same]

end

end

/-! ### Register messages (16 R464, R467, R468) -/

section
variable {s : State} {n : Fin 4}

theorem State.upNext_of_linkDown (h : s.linkDown n = true) : s.upNext n = s := by
  rw [State.upNext, State.upBusy, h]
  rfl

theorem State.upNext_linkDown (s : State) (n : Fin 4) : (s.upNext n).linkDown n = s.linkDown n := by
  unfold State.upNext
  split <;> rfl

theorem State.upNext_regWaits (s : State) (n : Fin 4) (m : RegMsg) : (s.upNext n).regWaits n m = s.regWaits n m := by
  unfold State.upNext
  split <;> rfl

/-- An acknowledge alone in the queue leaves, and takes its message off CTL's list (16 R467, R588). -/
theorem State.upNext_ack (hu : (s.axis n).upOn = none) (hb : s.upBusy n = false) (he : (s.axis n).evq = [.ack]) :
    s.upNext n = s.setAxis n { s.axis n with evq := [], regq := (s.axis n).regq.drop 1 } := by
  rw [State.upNext, hb, hu, if_neg (by decide), State.updAxis, he]
  rfl

variable {m : RegMsg} {rest : List RegMsg} (hq : ((s.upNext n).axis n).regq = m :: rest)
include hq

theorem exec_registerMessage : exec (.registerMessage n) s =
    if s.regWaits n m then .next (s.upNext n) else .next ((s.upNext n).regArrives n m rest) := by
  change execRegisterMessage n s = _
  unfold execRegisterMessage
  dsimp only
  rw [hq]
  dsimp only
  rw [s.upNext_regWaits]

theorem exec_registerAckTimeout : exec (.registerAckTimeout n) s =
    if s.linkDown n then .next (s.upNext n)
    else if m.tries < 3 then
      .next ((s.upNext n).regList n ({ m with tries := m.tries + 1, since := s.tick.cy, arr := false } :: rest))
    else .next (((s.upNext n).regList n rest).raise (axEv n 25)) := by
  have ht : (s.upNext n).tick = s.tick := by rw [s.upNext_tick]
  change execRegisterAckTimeout n s = _
  unfold execRegisterAckTimeout
  dsimp only
  rw [hq]
  dsimp only
  rw [s.upNext_linkDown, ht]

end

/-- A configuration register is neither CTRL nor TFLAG. -/
theorem ne_of_isAxisConfig {o k : Nat} (h : isAxisConfig o = true) (hk : isAxisConfig k = false) : o ≠ k := by
  rintro rfl
  rw [h] at hk
  exact Bool.false_ne_true hk.symm

theorem AxState.configOk_iff (st : AxState) : st.configOk = true ↔ st = .disabled ∨ st = .test := by
  cases st <;> decide

/-- A configuration write waits for the wrap where it is honoured; else it is refused with CFGREJ (07 R245). -/
theorem State.dieWrite_config (s : State) (n : Fin 4) {o : Nat} (h : isAxisConfig o = true) (val : Word) (host : Bool) :
    s.dieWrite n o val host = if (s.axis n).st.configOk then s.updAxis n fun a => { a with cfgq := a.cfgq ++ [(o, val)] }
      else s.raiseDrv n 6 :=
  (if_neg (ne_of_isAxisConfig h (by decide))).trans (if_pos h)

theorem State.dieWrite_tflag (s : State) (n : Fin 4) (val : Word) (host : Bool) :
    s.dieWrite n 0x040 val host = s.tflagWrite n (val.setWidth 13) := rfl

/-- Settles O24: the three kinds of message by what the die makes of each. -/
theorem linkMessagesApply : Obligations.LinkMessagesApply := by
  refine ⟨fun s n ch x cy rest hq => ⟨fun hb => ?_, ?_, fun hb hl => ?_⟩, ?_,
    fun s n => State.upNext_ack⟩
  · exact ⟨exec_immediateMessage_waits hq hb true, exec_immediateMessage_waits hq hb false⟩
  · simp [State.behindFrame, State.frameDue, Bool.and_assoc]
  · exact ⟨exec_immediateMessage_good hq hb hl, exec_immediateMessage_bad hq hb hl⟩
  · intro s n m rest u a hq waits off here acked
    have hwaits : s.regWaits n m = waits := rfl
    have hhere : here.axis n = { a with regq := { m with arr := true } :: rest } := State.axis_setAxis_same ..
    have harr : u.regArrives n m rest = acked (here.dieWrite n m.addr m.val m.host) := rfl
    have hst : (here.axis n).st = a.st := by rw [hhere]
    have hmsg := exec_registerMessage hq
    have hack := exec_registerAckTimeout hq
    rw [hwaits, harr] at hmsg
    refine ⟨fun hw => ?_, fun hw => hmsg.trans (if_pos hw), fun hl ht => ?_, fun hl ht => ?_, fun hl => ?_⟩
    · rw [hw, if_neg Bool.false_ne_true] at hmsg
      refine ⟨fun hc ha => hmsg.trans ?_, fun hc ha => hmsg.trans ?_, fun hc => hmsg.trans ?_⟩
      · rw [State.dieWrite_config _ _ hc, if_pos ((AxState.configOk_iff _).2 (hst ▸ ha)), State.updAxis]
        rw [hhere]
      · rw [State.dieWrite_config _ _ hc, if_neg fun h => ha (hst ▸ (AxState.configOk_iff _).1 h)]
      · rw [hc, State.dieWrite_tflag]
    · rw [hl, if_neg Bool.false_ne_true, if_pos ht] at hack
      exact hack
    · rw [hl, if_neg Bool.false_ne_true, if_neg (Nat.not_lt.2 ht)] at hack
      exact hack
    · rw [hl, if_pos rfl, State.upNext_of_linkDown hl] at hack
      exact hack

end Sys2Proof.Machine
end
section
/-! O26: sync acquires, tracks its edges and counts deviations (07 R233 to R236, 18 R494); the tick that an acquisition begins. -/

namespace Sys2Proof.Machine

/-! ### What leaves the clock -/

/-- From s to t neither the clock, nor the sync block, nor the mould that is active has changed. -/
structure State.Coasts (s t : State) : Prop where
  clock : t.clock = s.clock
  sync : t.sync = s.sync
  active : t.moulds.active = s.moulds.active

theorem State.Coasts.refl (s : State) : s.Coasts s := ⟨rfl, rfl, rfl⟩

theorem State.Coasts.trans {s t u : State} (h : s.Coasts t) (k : t.Coasts u) : s.Coasts u :=
  ⟨k.clock.trans h.clock, k.sync.trans h.sync, k.active.trans h.active⟩

theorem Frame.coasts {ps : List Part} {s t : State} (h : Frame ps s t)
    (hp : Part.tick ∉ ps ∧ Part.sync ∉ ps ∧ Part.moulds ∉ ps) : s.Coasts t :=
  ⟨State.clock_of_frame h hp.1, h.sync_eq hp.2.1, congrArg Moulds.active (h.moulds_eq hp.2.2)⟩

theorem State.Keeps.coasts {s t : State} (h : s.Keeps t) : s.Coasts t :=
  ⟨State.clock_of_frame h.frame (by decide), h.frame.sync_eq (by decide), h.active⟩

/-- A fold of steps that coast where no mould is active. -/
theorem State.Coasts.foldl {α : Type} {f : State → α → State} (hf : ∀ (t : State) (x : α), t.moulds.active = none → t.Coasts (f t x))
    {s : State} (hm : s.moulds.active = none) (l : List α) : s.Coasts (l.foldl f s) :=
  List.foldlRecOn (motive := fun t : State => s.Coasts t) l f (.refl s) fun t ht x _ =>
    ht.trans (hf t x (ht.active.trans hm))

/-! ### The axes with no mould -/

section
variable (s : State)

theorem State.cancelActivation_coasts : s.Coasts s.cancelActivation := by
  obtain ⟨hf, ha, -⟩ := s.cancelCopy_spec
  have hp (t : State) : t.cancelPend.moulds.active = t.moulds.active := by
    unfold State.cancelPend
    split
    · rfl
    · split
      · rfl
      · dsimp only
        split <;> rfl
  exact ⟨s.cancelActivation_clock, (State.cancelPend_sync _).trans (hf.sync_eq (by decide)), (hp _).trans ha⟩

theorem State.axisLost_coasts (n : Fin 4) : s.Coasts (s.axisLost n) :=
  (((s.unstart_keeps n).trans (State.endRunning_keeps _ n 5)).trans (State.updJax_keeps _ n _)).coasts.trans
    (State.cancelActivation_coasts _)

theorem State.axisChange_coasts (n : Fin 4) : s.Coasts (s.axisChange n) := by
  unfold State.axisChange
  split
  · split
    · exact ((s.applyReq_keeps n).trans (State.updAxis_keeps _ n _)).coasts
    · refine State.Coasts.trans ?_ (State.enterAx_keeps _ n _).coasts
      split
      · exact s.axisLost_coasts n
      · split
        · exact (s.unstart_keeps n).coasts
        · exact (s.applyReq_keeps n).coasts
  · have hs := (s.applyReq_keeps n).trans (State.startChosen_keeps _ n)
    dsimp only
    split
    · exact (hs.trans (State.enterAx_keeps _ n _)).coasts
    · exact hs.coasts

theorem State.axisBoundaries_coast {s : State} (h : s.moulds.active = none) : s.Coasts (axes.foldl State.axisBoundary s) :=
  .foldl (fun t n ht => State.axisBoundary_noMould n ht ▸ t.axisChange_coasts n) h axes

theorem State.clearNow_coasts (m cause : BitVec 4) : s.Coasts (s.clearNow m cause).1 := by
  have hf : s.Coasts (s.flagsCleared m) := (s.flagsCleared_spec m).1.coasts (by decide)
  have hn (l : List (Fin 4)) (t : State) : t.Coasts (l.foldl (fun u n => u.axNext n .disabled) t) :=
    List.foldlRecOn (motive := fun u : State => t.Coasts u) l _ (.refl t) fun u hu n _ =>
      hu.trans (u.axNext_keeps n .disabled).coasts
  unfold State.clearNow
  split
  · exact .refl s
  · dsimp only
    split
    · exact hf
    · split
      · exact ⟨hf.clock, hf.sync, hf.active⟩
      · exact (hf.trans ((State.leaveSafe_spec _).1.coasts (by decide))).trans (hn _ _)

theorem State.axesBoundary_coasts {s : State} (h : s.moulds.active = none) : s.Coasts s.axesBoundary := by
  unfold State.axesBoundary
  split
  · exact State.axisBoundaries_coast h
  · next m seq cause _ =>
    have hc := (Frame.of_mgmt s { s.mgmt with clr := none }).coasts (by decide)
    have hn := hc.trans (State.clearNow_coasts _ m cause)
    exact (hn.trans (State.axisBoundaries_coast (hn.active.trans h))).trans ((State.clearReply_frame _ seq _).coasts (by decide))

/-! ### The activation that waits, and the pour -/

theorem State.activationTick_coasts : s.Coasts s.activationTick := by
  unfold State.activationTick
  split
  · exact .refl s
  · split
    · split
      · unfold State.selectReply
        dsimp only
        split <;> exact ⟨rfl, rfl, rfl⟩
      · exact ⟨rfl, rfl, rfl⟩
    · exact ⟨rfl, rfl, rfl⟩

end

/-- The boundary of a tick with no mould active: from the tick that has counted on, the rest coasts. -/
theorem exec_tickBoundary_coasts {s : State} (hon : s.tick.on = true) (ha : s.tick.acqBase.isSome = true)
    (hm : s.moulds.active = none) : ∃ t, exec .tickBoundary s = .next t ∧ s.atBoundary.Coasts t := by
  have hf := State.atBoundary_frame (State.stdFinish_of_noMould hm)
  have hm1 : s.atBoundary.moulds.active = none := (congrArg Moulds.active (hf.moulds_eq (by decide))).trans hm
  have h1 := State.axesBoundary_coasts hm1
  let u := s.atBoundary.axesBoundary.devFromAxes.activationTick
  have h2 : s.atBoundary.Coasts u :=
    (h1.trans ((State.devFromAxes_frame _).coasts (by decide))).trans (State.activationTick_coasts _)
  have hc : (s.tick.on && (!decide (s.tick.hidx = 15) || s.tick.atZero || s.tick.acqBase.isSome)) = true := by
    rw [hon, ha, Bool.or_true]
    rfl
  have hm2 : u.idleSnapshot.moulds.active = none :=
    ((u.idleSnapshot_frame.coasts (by decide)).active.trans h2.active).trans hm1
  refine ⟨u.idleTick, ?_, h2.trans (u.idleTick_frame.coasts (by decide))⟩
  refine (if_pos hc).trans ?_
  change endOfCy0 u.idleSnapshot.startPour = _
  rw [State.startPour_noMould hm2]
  rfl

/-- Of the sync block a tick that counts on moves the output pulse alone. -/
theorem State.atBoundary_sync {s : State} (h : s.stdFinish = s) :
    ∃ pulse, s.atBoundary.sync = { s.sync with pulse } := by
  have hc := (State.closePour_frame h).sync_eq (by decide)
  have hr : s.atBoundary.sync = s.closePour.nextTick.freshPorts.sync := (State.runAgain_frame _).sync_eq (by decide)
  refine ⟨s.closePour.sync.pulseAt (s.closePour.tick.atZero || s.closePour.tick.acqBase.isSome), hr.trans ?_⟩
  rw [← hc]
  rfl

/-! ### The acquisition (07 R234) -/

/-- An armed slave with no mould acquires sync; where the tick's cy 0 lies before, its boundary comes at once. -/
theorem exec_syncAcquire {s : State} (ha : s.sync.armed = true) (h2 : s.sync.mode = 2) (hm : s.moulds.active = none)
    (hon : s.tick.on = true) : exec .syncAcquire s =
      if s.sync.startCount = 0 then .next s.acquired else exec .tickBoundary s.acquired :=
  if_pos (by rw [ha, h2, hm, hon]; rfl)

/-- The acquired tick begins at its count, in the heat that runs (07 R234; log entry 17). -/
theorem exec_tickBoundary_acquired {s : State} (hm : s.moulds.active = none) (hon : s.tick.on = true) :
    ∃ t, exec .tickBoundary s.acquired = .next t ∧ t.tick.hidx = 0 ∧ t.tick.cy = s.sync.startCount ∧
      t.tick.base = s.tick.base + s.tick.cy + (10 + fld s.sync.cfg 30 16) - 32 ∧ t.tick.heat = s.tick.heat ∧
      t.tick.atZero = false ∧ t.sync.lock = true ∧ t.sync.armed = false := by
  obtain ⟨t, ht, hc⟩ := exec_tickBoundary_coasts (s := s.acquired) hon rfl hm
  have hstd := State.stdFinish_of_noMould (s := s.acquired) hm
  have htick : s.acquired.atBoundary.tick = s.acquired.tick.next := State.atBoundary_tick hstd
  have hclock : t.clock = { s.acquired.tick.next with nextRate := none, ofs := ⟨0, 0, 0, 0⟩ } := by
    rw [hc.clock, State.clock, htick]
  obtain ⟨pulse, hp⟩ := State.atBoundary_sync hstd
  have hsync : t.sync = { s.acquired.sync with pulse } := hc.sync.trans hp
  exact ⟨t, ht, (congrArg Tick.hidx hclock :), (congrArg Tick.cy hclock :), (congrArg Tick.base hclock :),
    (congrArg Tick.heat hclock :), (congrArg Tick.atZero hclock :), (congrArg SyncSt.lock hsync :),
    (congrArg SyncSt.armed hsync :)⟩

/-! ### The edges and the chain (07 R233, R235, R236) -/

theorem SyncSt.checks_of {y : SyncSt} (h2 : y.mode = 2) (ha : y.armed = false) : y.checks = true := by
  rw [SyncSt.checks, h2, ha]
  rfl

/-- Settles O26: the chain and the edges by their rows, the acquisition by the tick it begins. -/
theorem syncFollowsItsEdges : Obligations.SyncFollowsItsEdges := by
  refine fun s n dev => ⟨rfl, fun hn hon => (if_neg hn).trans (if_pos hon), fun ha h2 hm hon => ?_, fun h2 ha => ?_⟩
  · have hacq := exec_syncAcquire ha h2 hm hon
    intro off base acq
    have hstart : s.sync.startCount = 32 - off := rfl
    refine ⟨fun h => hacq.trans (if_pos ?_), fun h => ?_⟩
    · omega
    · have hexec : exec .syncAcquire s = exec .tickBoundary s.acquired := hacq.trans (if_neg (by omega))
      obtain ⟨t, ht, htick⟩ := exec_tickBoundary_acquired hm hon
      exact ⟨hexec, t, hexec.trans ht, htick⟩
  · have hc := SyncSt.checks_of h2 ha
    refine ⟨fun h => if_pos ?_, fun h => if_neg ?_, if_pos hc⟩
    · rw [hc, decide_eq_true (by omega)]
      rfl
    · rw [hc, decide_eq_false (by omega)]
      decide

end Sys2Proof.Machine
end
section
/-! SUPPORT. The handshake of a phase: the interlock behind it, its release, its time-out, and the clearing of HSTO (08 R252 to
R257; O29). -/

namespace Sys2Proof.Machine

/-! ### The interlock (08 R255, R257) -/

/-- A phase with its waiting edges and its passed commands cancelled, on both sides. -/
def PhSt.cancel (x : PhSt) : PhSt := { x with h := x.h.cancel, l := x.l.cancel }

/-- A phase that the interlock has forced off, and its flag. -/
def Axis.shootOff (p : Phase) (a : Axis) : Axis :=
  { a with ph := a.ph.set p (a.ph.get p).cancel, drv := { a.drv with shoot := a.drv.shoot ||| bitB 3 (phIx p) } }

section
variable {s : State} {n : Fin 4} {p : Phase}

theorem State.interlock_acts (h : ((s.axis n).ph.get p).h.s4 = true) (l : ((s.axis n).ph.get p).l.s4 = true) :
    State.Turns n (((s.axis n).shootOff p).settle (s.gateHold n)) s (s.interlock n p) := by
  have hboth : s.interlock n p = _ := if_pos (by rw [h, l]; rfl)
  rw [hboth]
  exact (s.updChain_turns n _).raiseDrv 11

theorem PhSt.both_eq_sides (x : PhSt) (high : Bool) : (x.h.s4 && x.l.s4) = ((x.side high).s4 && (x.side !high).s4) := by
  cases high
  · exact Bool.and_comm _ _
  · rfl

end

/-- Behind the interlock no phase has both commands past the handshake. -/
theorem State.interlock_apart (s : State) (n : Fin 4) (p : Phase) :
    ¬((((s.interlock n p).axis n).ph.get p).h.s4 = true ∧ (((s.interlock n p).axis n).ph.get p).l.s4 = true) := by
  by_cases hb : ((s.axis n).ph.get p).h.s4 = true ∧ ((s.axis n).ph.get p).l.s4 = true
  · have hoff : (((s.interlock n p).axis n).ph.get p).h.s4 = false := by
      rw [(State.interlock_acts hb.1 hb.2).axis.ph_eq]
      refine (congrArg GateCh.s4 (Axis.settle_side _ _ p true)).trans ?_
      simp [Axis.shootOff, PhSt.cancel, PhSt.side, GateCh.cancel, GateCh.settle]
    rw [hoff]
    exact fun h => Bool.false_ne_true h.1
  · rwa [State.interlock_idle (by rwa [← Bool.not_eq_true, Bool.and_eq_true])]

/-! ### The release (08 R252, R253) -/

section
variable {s : State} {n : Fin 4} {ph : Phase} {high : Bool}

theorem exec_handshakeRelease_partnerOn (hp : (s.axis n).gateOn (s.gateHold n) ph (!high) = true) :
    exec (.handshakeRelease n ph high) s = .next s := if_pos hp

/-- An edge that waits passes through the interlock (08 R253, R255). -/
theorem exec_handshakeRelease_edge (hw : (((s.axis n).ph.get ph).side high).w4 = true)
    (hp : (s.axis n).gateOn (s.gateHold n) ph (!high) = false) :
    exec (.handshakeRelease n ph high) s = .next (((s.updAxis n fun a => a.reportOff ph (!high)).updChain n fun a =>
      a.updSide ph high (GateCh.arrive true)).interlock n ph) :=
  (if_neg (by rw [hp]; exact Bool.false_ne_true)).trans (if_pos hw)

/-- With no edge waiting the report alone is kept (log entry 15). -/
theorem exec_handshakeRelease_report (hw : (((s.axis n).ph.get ph).side high).w4 = false)
    (hp : (s.axis n).gateOn (s.gateHold n) ph (!high) = false) :
    exec (.handshakeRelease n ph high) s = .next (s.updAxis n fun a => a.reportOff ph (!high)) :=
  (if_neg (by rw [hp]; exact Bool.false_ne_true)).trans (if_neg (by rw [hw]; exact Bool.false_ne_true))

end

theorem Axis.reportOff_side (a : Axis) (p : Phase) (high : Bool) :
    ((a.reportOff p high).ph.get p).side high = { (a.ph.get p).side high with off := true } := by
  cases p <;> cases high <;> rfl

theorem Axis.reportOff_s4 (a : Axis) (p : Phase) (high side : Bool) :
    (((a.reportOff p high).ph.get p).side side).s4 = ((a.ph.get p).side side).s4 := by
  cases p <;> cases high <;> cases side <;> rfl

/-- The comparator of a gate that is reported off shows it off. -/
theorem Axis.reportOff_shown (a : Axis) (p : Phase) (high : Bool) :
    (if high then (a.reportOff p high).drv.hon else (a.reportOff p high).drv.lon).getLsbD (phIx p) = false := by
  have hbit (m : BitVec 3) : (putBit m (phIx p) false).getLsbD (phIx p) = false :=
    (getLsbD_putBit m _ false (phIx_lt p)).trans (if_pos rfl)
  cases high <;> exact hbit _

/-- The axis on which the released edge of a phase has passed stage 4, before the interlock sees it. -/
theorem State.release_axis (s : State) (n : Fin 4) (ph : Phase) (high : Bool) :
    let u := (s.updAxis n fun a => a.reportOff ph (!high)).updChain n fun a => a.updSide ph high (GateCh.arrive true)
    (((u.axis n).ph.get ph).side high).w4 = false ∧ (((u.axis n).ph.get ph).side high).s4 = true ∧
      (((u.axis n).ph.get ph).side (!high)).s4 = (((s.axis n).ph.get ph).side (!high)).s4 := by
  dsimp only
  rw [State.updChain_axis, State.axis_updAxis_same, Axis.settle_side, Axis.settle_side, Axis.updSide_side,
    Axis.updSide_partner]
  exact ⟨rfl, rfl, Axis.reportOff_s4 _ _ _ _⟩

/-- What the interlock makes of the edge that has just passed: a lone one stays, one that meets its partner's command is off
again and SHOOT is set (08 R255, R257). -/
theorem State.interlock_passed {u : State} {n : Fin 4} {ph : Phase} {high : Bool}
    (hw : (((u.axis n).ph.get ph).side high).w4 = false) (hs : (((u.axis n).ph.get ph).side high).s4 = true) :
    let t := u.interlock n ph
    (((t.axis n).ph.get ph).side high).w4 = false ∧
      ((((u.axis n).ph.get ph).side (!high)).s4 = false → (((t.axis n).ph.get ph).side high).s4 = true) ∧
      ((((u.axis n).ph.get ph).side (!high)).s4 = true → (t.axis n).drv.shoot.getLsbD (phIx ph) = true) := by
  dsimp only
  have hboth := PhSt.both_eq_sides ((u.axis n).ph.get ph) high
  cases hp : (((u.axis n).ph.get ph).side (!high)).s4 with
  | false =>
    rw [hs, hp, Bool.and_false] at hboth
    rw [State.interlock_idle hboth]
    exact ⟨hw, fun _ => hs, fun h => absurd h Bool.false_ne_true⟩
  | true =>
    rw [hs, hp, Bool.and_self, Bool.and_eq_true] at hboth
    have ht := (State.interlock_acts hboth.1 hboth.2).axis
    refine ⟨?_, fun h => absurd h.symm Bool.false_ne_true, fun _ => ?_⟩
    · rw [ht.ph_eq, Axis.settle_side]
      cases high <;> simp [Axis.shootOff, PhSt.cancel, PhSt.side, GateCh.cancel, GateCh.settle]
    · rw [ht.drv_eq]
      exact getLsbD_or_bitB_same _ (phIx_lt ph)

/-! ### The time-out (08 R255) -/

/-- A phase whose handshake has timed out: both gates off, HSTO set, and the comparator of the side `partner` still reporting on. -/
def Axis.timedOut (ph : Phase) (partner : Bool) (a : Axis) : Axis :=
  { a with
    ph := a.ph.set ph { (a.ph.get ph).cancel with lateHigh := partner }
    drv := { a.drv with
      hsto := a.drv.hsto ||| bitB 3 (phIx ph)
      hon := if partner then a.drv.hon ||| bitB 3 (phIx ph) else a.drv.hon
      lon := if partner then a.drv.lon else a.drv.lon ||| bitB 3 (phIx ph) } }

theorem exec_handshakeTimeout {s : State} {n : Fin 4} {ph : Phase} {high : Bool}
    (hw : (((s.axis n).ph.get ph).side high).w4 = true) : exec (.handshakeTimeout n ph high) s =
      .next ((s.updChain n fun a => a.timedOut ph (!high)).raiseDrv n 10) := by
  refine (if_pos hw).trans ?_
  cases high <;> rfl

/-- A comparator that reports on does so still when the chain has settled (log entry 15). -/
theorem Axis.compare_keeps (a : Axis) (q high : Bool) {old : BitVec 3} {p : Phase} (h : old.getLsbD (phIx p) = true) :
    (a.compare q high old).getLsbD (phIx p) = true := by
  have hstep (m : BitVec 3) (r : Phase) (hm : m.getLsbD (phIx p) = true) :
      (putBit m (phIx r) (m.getLsbD (phIx r) || a.gateOn q r high)).getLsbD (phIx p) = true := by
    rw [getLsbD_putBit _ _ _ (phIx_lt r)]
    split
    · rename_i he
      rw [← he, hm, Bool.true_or]
    · exact hm
  exact hstep _ .w (hstep _ .v (hstep _ .u h))

theorem Axis.lateOn_bit (a : Axis) (p : Phase) :
    a.lateOn.getLsbD (phIx p) = (if (a.ph.get p).lateHigh then a.drv.hon else a.drv.lon).getLsbD (phIx p) :=
  phaseMask_bit (fun p => (if (a.ph.get p).lateHigh then a.drv.hon else a.drv.lon).getLsbD (phIx p)) p

theorem Axis.SentAs.lateOn_eq {a b : Axis} (h : a.SentAs b) : b.lateOn = a.lateOn := (congrArg Axis.lateOn h :)

/-- The comparator that let the handshake time out reports its gate on. -/
theorem Axis.timedOut_lateOn (a : Axis) (ph : Phase) (partner q : Bool) :
    ((a.timedOut ph partner).settle q).lateOn.getLsbD (phIx ph) = true := by
  have hbit (m : BitVec 3) : (m ||| bitB 3 (phIx ph)).getLsbD (phIx ph) = true := getLsbD_or_bitB_same m (phIx_lt ph)
  have hlate : (((a.timedOut ph partner).settle q).ph.get ph).lateHigh = partner := by
    rw [Axis.settle_phase, Axis.timedOut, Three.get_set_same]
  rw [Axis.lateOn_bit, hlate]
  cases partner
  · exact Axis.compare_keeps _ q false (hbit _)
  · exact Axis.compare_keeps _ q true (hbit _)

/-- HSTO of a phase holds both its gates off (08 R255). -/
theorem Axis.gateOn_of_hsto {a : Axis} {p : Phase} (h : a.drv.hsto.getLsbD (phIx p) = true) (q high : Bool) :
    a.gateOn q p high = false := by
  refine Axis.gateOn_of_offMask ?_ q
  cases p <;> cases high <;> simp [Axis.offMask, phaseBits, outBit, phIx] at h ⊢ <;> simp [h]

/-! ### The statement -/

/-- HSTO clears but for the phases whose comparator still reports on (08 R256). -/
theorem State.hstoWrite_spec (s : State) (n : Fin 4) (mask : BitVec 3) :
    ((s.hstoWrite n mask).axis n).drv.hsto = (s.axis n).drv.hsto &&& ~~~(mask &&& ~~~(s.axis n).lateOn) ∧
      Frame [.ax, .evm] s (s.hstoWrite n mask) := by
  let d := (s.axis n).drv
  let refused := mask &&& d.hsto &&& (s.axis n).lateOn
  let clr := mask &&& d.hsto &&& ~~~refused
  have ht := (s.updChain_turns n fun a =>
    { a with wrapPh := a.wrapPh ||| clr, drv := { a.drv with hsto := a.drv.hsto &&& ~~~clr } }).raiseDrvIf
      (decide (refused ≠ 0)) 3
  exact ⟨(congrArg Drv.hsto ht.axis.drv_eq).trans (clear_refused _ _ _), ht.frame⟩

/-- Settles O29: the release by its edge and the interlock behind it, the time-out by what it makes of its axis, the clearing by
the flags it takes back. -/
theorem handshakeGuardsThePhase : Obligations.HandshakeGuardsThePhase := by
  unfold Obligations.HandshakeGuardsThePhase
  refine fun s n ph high mask => ⟨fun hw hp => ?_, fun hw hp => ?_, exec_handshakeRelease_partnerOn, fun hw => ?_, ?_⟩
  · obtain ⟨hw4, hs4, hpart⟩ := s.release_axis n ph high
    obtain ⟨h1, h2, h3⟩ := State.interlock_passed hw4 hs4
    rw [hpart] at h2 h3
    refine ⟨_, exec_handshakeRelease_edge hw hp, h1, State.interlock_apart _ n ph, h2, h3, ?_⟩
    exact (((s.updAxis_frame n _).trans (State.updChain_frame _ n _)).mono (by decide)).trans (State.interlock_frame _ n ph)
  · refine ⟨_, exec_handshakeRelease_report hw hp, ?_, ?_, ?_, ?_, s.updAxis_frame n _⟩ <;> rw [State.axis_updAxis_same]
    · rw [Axis.reportOff_side]
    · have h := (s.axis n).reportOff_shown ph (!high)
      cases high <;> exact h
    · exact Axis.reportOff_s4 _ ph (!high) true
    · exact Axis.reportOff_s4 _ ph (!high) false
  · have ht := (s.updChain_turns n fun a => a.timedOut ph (!high)).raiseDrv 10
    have hsto := congrArg Drv.hsto ht.axis.drv_eq
    have hbit : ((((s.updChain n fun a => a.timedOut ph (!high)).raiseDrv n 10).axis n).drv.hsto).getLsbD (phIx ph) = true := by
      rw [hsto]
      exact getLsbD_or_bitB_same _ (phIx_lt ph)
    refine ⟨_, exec_handshakeTimeout hw, hbit, ?_, ?_, fun q h => Axis.gateOn_of_hsto hbit q h, ?_, ht.frame⟩
    · rw [ht.axis.ph_eq, Axis.settle_phase, Axis.timedOut, Three.get_set_same]
    · rw [ht.axis.lateOn_eq]
      exact Axis.timedOut_lateOn _ _ _ _
    · rw [ht.axis.drv_eq]
      rfl
  · exact ⟨_, rfl, s.hstoWrite_spec n mask⟩

end Sys2Proof.Machine
end

section
/-! SUPPORT. The gate commands past the handshake, as a part of the state that few functions of the model touch (08 R253,
R255; O59): what they are, how the axis record keeps them, and what a command's next state is asked for. -/

namespace Sys2Proof.Machine

/-! ### The commands past the handshake -/

/-- The commands of a phase past the handshake, of its high and of its low side (08 R253). -/
def PhSt.passed (x : PhSt) : Bool × Bool := (x.h.s4, x.l.s4)

/-- Those of the phases of an axis, and of the axes of a device. -/
def Axis.passed (a : Axis) : Three (Bool × Bool) := ⟨a.ph.u.passed, a.ph.v.passed, a.ph.w.passed⟩
def passedOf (x : Four Axis) : Four (Three (Bool × Bool)) := x.map Axis.passed
def State.passed (s : State) : Four (Three (Bool × Bool)) := passedOf s.ax

theorem Axis.passed_get (a : Axis) (p : Phase) : a.passed.get p = ((a.ph.get p).h.s4, (a.ph.get p).l.s4) := by
  cases p <;> rfl

theorem State.passed_get (s : State) (n : Fin 4) : s.passed.get n = (s.axis n).passed := Four.get_map _ _ _

theorem Axis.noShootThrough_iff {a : Axis} : a.noShootThrough ↔ ∀ p, a.passed.get p ≠ (true, true) := by
  simp [Axis.noShootThrough, Axis.passed_get]

theorem Axis.noShootThrough_congr {a b : Axis} (h : b.passed = a.passed) (ha : a.noShootThrough) : b.noShootThrough := by
  rw [Axis.noShootThrough_iff] at ha ⊢
  rwa [h]

theorem State.noShootThrough_congr {s t : State} (h : t.passed = s.passed) (hs : s.noShootThrough) : t.noShootThrough := by
  intro n
  refine Axis.noShootThrough_congr ?_ (hs n)
  rw [← t.passed_get, ← s.passed_get, h]

/-- The two gates of a phase with at most one command past the handshake are not on together (08 R255). -/
theorem Axis.noShootThrough.gates {a : Axis} (h : a.noShootThrough) (p : Phase) (hold : Bool) :
    ¬(a.gateOn hold p true = true ∧ a.gateOn hold p false = true) := by
  intro hon
  have hs4 (high : Bool) (hg : a.gateOn hold p high = true) : ((a.ph.get p).side high).s4 = true := by
    by_contra hn
    rw [Axis.gateOn_of_s4 (Bool.eq_false_of_not_eq_true hn)] at hg
    exact Bool.false_ne_true hg
  exact h p ⟨hs4 true hon.1, hs4 false hon.2⟩

/-! ### As a part of the state -/

@[simp] theorem State.passed_mk (pending : List Instr) (dev : DevState) (safecause : BitVec 4) (tick : Tick) (exch : Exch)
    (pour : Pour) (moulds : Moulds) (mgmt : Mgmt) (jrn : Journal) (spr : Sprue) (run : Runner) (evm : Evm) (locks : Locks)
    (mail : Mail) (ax : Four Axis) (std : StdSt) (conv : Conv) (fi : Fi) (hall : Four Hall) (hallFlag : BitVec 12)
    (th : Thermal) (mon : Mon) (lc : Lc) (pwr : Power) (sync : SyncSt) (latch : Sparse Word) (rdata : Word) :
    State.passed ⟨pending, dev, safecause, tick, exch, pour, moulds, mgmt, jrn, spr, run, evm, locks, mail, ax, std, conv, fi,
      hall, hallFlag, th, mon, lc, pwr, sync, latch, rdata⟩ = passedOf ax := (rfl)

@[simp] theorem passedOf_ax (s : State) : passedOf s.ax = s.passed := (rfl)

@[simp] theorem State.passed_ite (c : Prop) [Decidable c] (s t : State) :
    State.passed (if c then s else t) = if c then s.passed else t.passed := apply_ite _ c s t

/-- A change of an axis that keeps its passed commands keeps those of the device. -/
theorem passedOf_set {x : Four Axis} {n : Fin 4} {a : Axis} (h : a.passed = (x.get n).passed) :
    passedOf (x.set n a) = passedOf x := by
  match n with
  | 0 | 1 | 2 | 3 => simpa [passedOf, Four.map, Four.set, Four.get] using h

/-- A fold of steps that each keep the passed commands keeps them. -/
@[simp] theorem foldl_passed {α : Type} {f : State → α → State} (hf : ∀ s x, (f s x).passed = s.passed) (l : List α)
    (s : State) : (l.foldl f s).passed = s.passed := by
  induction l generalizing s with
  | nil => rfl
  | cons x l ih => exact (ih _).trans (hf s x)

/-! ### The next state of a command -/

/-- The state a command answers has a property; a stop has no next state. -/
def Res.All (P : State → Prop) : Res → Prop
  | .next t => P t
  | .fault _ => True
  | .refused _ => True

/-- It has passed these gate commands. -/
abbrev Res.Passed (r : Res) (x : Four (Three (Bool × Bool))) : Prop := r.All fun t => t.passed = x

section
variable (P : State → Prop)

@[simp] theorem Res.all_next (t : State) : Res.All P (.next t) ↔ P t := Iff.rfl
@[simp] theorem Res.all_fault (e : Fault) : Res.All P (.fault e) := trivial
@[simp] theorem Res.all_ite (c : Prop) [Decidable c] (r q : Res) :
    Res.All P (if c then r else q) ↔ if c then r.All P else q.All P := by
  split <;> rfl

theorem Res.All.mono {P Q : State → Prop} {r : Res} (h : r.All P) (hpq : ∀ t, P t → Q t) : r.All Q := by
  cases r with
  | next t => exact hpq t h
  | fault e => trivial
  | refused e => trivial

end

/-! ### One axis -/

/-- A change of an axis that keeps its passed commands keeps those of the device. -/
theorem State.updAxis_passed {s : State} {n : Fin 4} {f : Axis → Axis} (h : (f (s.axis n)).passed = (s.axis n).passed) :
    (s.updAxis n f).passed = s.passed := passedOf_set h

/-- As does one that leaves its phases alone. -/
@[simp] theorem State.updAxis_passed_of_ph {s : State} {n : Fin 4} {f : Axis → Axis} (h : (f (s.axis n)).ph = (s.axis n).ph) :
    (s.updAxis n f).passed = s.passed :=
  State.updAxis_passed (by rw [Axis.passed, h]; rfl)

@[simp] theorem State.updDrv_passed (s : State) (n : Fin 4) (f : Drv → Drv) : (s.updDrv n f).passed = s.passed :=
  State.updAxis_passed_of_ph rfl

@[simp] theorem passedOf_map {x : Four Axis} {f : Axis → Axis} (h : ∀ a, (f a).ph = a.ph) : passedOf (x.map f) = passedOf x := by
  simp [passedOf, Four.map, Axis.passed, h]

/-- Settling moves no command (08 R252). -/
theorem Axis.settle_passed (a : Axis) (q : Bool) : (a.settle q).passed = a.passed := rfl

theorem State.updChain_passed {s : State} {n : Fin 4} {f : Axis → Axis} (h : (f (s.axis n)).passed = (s.axis n).passed) :
    (s.updChain n f).passed = s.passed := State.updAxis_passed h

@[simp] theorem State.updChain_passed_of_ph {s : State} {n : Fin 4} {f : Axis → Axis} (h : (f (s.axis n)).ph = (s.axis n).ph) :
    (s.updChain n f).passed = s.passed :=
  State.updChain_passed (by rw [Axis.passed, h]; rfl)

@[simp] theorem Axis.upSend_ph (l : List UpWord) (a : Axis) : (Axis.upSend l a).ph = a.ph := (Axis.upSend_sentAs l a).ph_eq

@[simp] theorem Axis.enOn_ph (a : Axis) : a.enOn.ph = a.ph := by
  unfold Axis.enOn
  split <;> rfl

end Sys2Proof.Machine
end

section
/-! SUPPORT. The functions of the model that move no gate command past the handshake, in the order of their definitions (O59). Each
follows from the functions it calls. -/

namespace Sys2Proof.Machine

/-! ### Through the shared operations -/

@[simp] theorem State.updPort_passed (s : State) (n : Fin 4) (f : PortAx → PortAx) : (s.updPort n f).passed = s.passed := by
  simp [State.updPort]

@[simp] theorem State.pushReply_passed (s : State) (r : Reply) : (s.pushReply r).passed = s.passed := by simp [State.pushReply]

@[simp] theorem State.pushReserved_passed (s : State) (r : Reply) : (s.pushReserved r).passed = s.passed := by
  simp [State.pushReserved]

@[simp] theorem State.logEntry_passed (s : State) (e : FaultLog) : (s.logEntry e).passed = s.passed := by simp [State.logEntry]
@[simp] theorem State.logFault_passed (s : State) (code : Nat) : (s.logFault code).passed = s.passed := by simp [State.logFault]

@[simp] theorem State.cancelPend_passed (s : State) : s.cancelPend.passed = s.passed := by
  unfold State.cancelPend
  split <;> simp

@[simp] theorem State.cancelCopy_passed (s : State) : s.cancelCopy.passed = s.passed := by
  unfold State.cancelCopy
  split <;> simp

@[simp] theorem State.cancelActivation_passed (s : State) : s.cancelActivation.passed = s.passed := by
  simp [State.cancelActivation]

@[simp] theorem State.whenOn_passed {s : State} {d : PDom} {r : Res} (h : r.Passed s.passed) :
    (s.whenOn d r).Passed s.passed := by
  unfold State.whenOn
  split
  · exact h
  · rfl

@[simp] theorem State.upNext_passed (s : State) (n : Fin 4) : (s.upNext n).passed = s.passed := by simp [State.upNext]

@[simp] theorem State.raiseDrv_passed (s : State) (n : Fin 4) (j : Nat) : (s.raiseDrv n j).passed = s.passed := by
  simp [State.raiseDrv]

@[simp] theorem State.raiseDrvIf_passed (s : State) (b : Bool) (n : Fin 4) (j : Nat) :
    (s.raiseDrvIf b n j).passed = s.passed := by simp [State.raiseDrvIf]

@[simp] theorem State.axNext_passed (s : State) (n : Fin 4) (t : AxState) : (s.axNext n t).passed = s.passed := by
  refine State.updAxis_passed_of_ph ?_
  (repeat' split) <;> rfl

@[simp] theorem State.abortTest_passed (s : State) (sel : BgOp → Bool) : (s.abortTest sel).passed = s.passed := by
  unfold State.abortTest
  split
  · exact passedOf_set rfl
  · rfl

@[simp] theorem State.axFault_passed (s : State) (n : Fin 4) : (s.axFault n).passed = s.passed := by simp [State.axFault]

@[simp] theorem State.clrCause_passed (s : State) (cause : BitVec 4) : (s.clrCause cause).passed = s.passed := by
  simp [State.clrCause]

@[simp] theorem State.setDev_passed (s : State) (d : DevState) : (s.setDev d).passed = s.passed := by simp [State.setDev]

@[simp] theorem State.enterSafe_passed (s : State) (cause : BitVec 4) : (s.enterSafe cause).passed = s.passed := by
  unfold State.enterSafe
  split <;> simp

@[simp] theorem State.raise_passed (s : State) (k : Nat) : (s.raise k).passed = s.passed := by simp [State.raise, State.quenchFor]

@[simp] theorem State.raiseIf_passed (s : State) (b : Bool) (k : Nat) : (s.raiseIf b k).passed = s.passed := by
  simp [State.raiseIf]

@[simp] theorem State.raiseSns_passed (s : State) (k : Nat) : (s.raiseSns k).passed = s.passed := by simp [State.raiseSns]
@[simp] theorem State.raiseMon_passed (s : State) (k : Nat) : (s.raiseMon k).passed = s.passed := by simp [State.raiseMon]

/-! ### Through the Pour engine's flags, operands and memory (02) -/

@[simp] theorem State.pourFlag_passed (s : State) (k : Nat) : (s.pourFlag k).passed = s.passed := by simp [State.pourFlag]
@[simp] theorem State.setSat_passed (s : State) (sat : Bool) : (s.setSat sat).passed = s.passed := by simp [State.setSat]

@[simp] theorem State.setClamped_passed (s : State) (hit : Bool) : (s.setClamped hit).passed = s.passed := by
  simp [State.setClamped]

@[simp] theorem State.eccCorrected_passed (s : State) : s.eccCorrected.passed = s.passed := by simp [State.eccCorrected]

@[simp] theorem State.eccUncorrectable_passed (s : State) : s.eccUncorrectable.passed = s.passed := by
  simp [State.eccUncorrectable]

@[simp] theorem State.eccRead_passed (s : State) (n : Nat) (w : Word) : (s.eccRead n w).2.passed = s.passed := by
  unfold State.eccRead
  split <;> simp

@[simp] theorem State.setAcc_passed (s : State) (u : Bool) (k : BitVec 2) (x : BitVec 64) :
    (s.setAcc u k x).passed = s.passed := by simp [State.setAcc]

@[simp] theorem State.later_passed (s : State) (lat unit : Nat) (a : WbAct) : (s.later lat unit a).passed = s.passed := by
  simp [State.later]

@[simp] theorem State.reach_passed (s : State) (c : Nat) : (s.reach c).passed = s.passed := by simp [State.reach]
@[simp] theorem State.endCycle_passed (s : State) : s.endCycle.passed = s.passed := by simp [State.endCycle]

theorem State.pourRow_passed {s : State} {r : Res} (h : r.Passed s.passed) : (s.pourRow r).Passed s.passed := by
  unfold State.pourRow
  split
  · rfl
  · cases r with
    | next t => simpa [Res.endCycle] using h
    | _ => trivial

@[simp] theorem State.setXAct_passed (s : State) (x : XBuf) : (s.setXAct x).passed = s.passed := by simp [State.setXAct]
@[simp] theorem State.pdmRead_passed (s : State) (a : Nat) : (s.pdmRead a).2.passed = s.passed := by simp [State.pdmRead]

@[simp] theorem State.pdmWrite_passed (s : State) (a : Nat) (w : Word) : (s.pdmWrite a w).passed = s.passed := by
  simp [State.pdmWrite]

@[simp] theorem loadTo_passed (d : BitVec 6) (r : Word × State) : (loadTo d r).passed = r.2.passed := by simp [loadTo]

theorem withRd_passed {k : BitVec 4} {f : Rng → State → Res} {s : State} (hf : ∀ r, (f r s).Passed s.passed) :
    (withRd k f s).Passed s.passed := by
  unfold withRd
  split
  · trivial
  · exact hf _

@[simp] theorem State.xStore_passed (s : State) (xofs : Nat) (w : Word) : (s.xStore xofs w).passed = s.passed := by
  simp [State.xStore]

@[simp] theorem State.streamed_passed (s : State) : s.streamed.passed = s.passed := by simp [State.streamed]

@[simp] theorem State.imageTaken_passed (s : State) (m : MouldInfo) : (s.imageTaken m).passed = s.passed := by
  simp [State.imageTaken]

@[simp] theorem State.publishFor_passed (s : State) (m : MouldInfo) (k : Pub) : (s.publishFor m k).passed = s.passed := by
  simp [State.publishFor, State.setXInact]

@[simp] theorem State.snapshot_passed (s : State) : s.snapshot.passed = s.passed := by simp [State.snapshot]
@[simp] theorem State.passXp_passed (s : State) : s.passXp.passed = s.passed := by simp [State.passXp, State.swapAtXp]

@[simp] theorem State.reachXp_passed (s : State) (c : Nat) : (s.reachXp c).passed = s.passed := by
  unfold State.reachXp
  split <;> simp

/-! ### Through the slot operations (03) -/

theorem guarded_passed {g : Guard} {f : State → State} {s : State} (hf : (f s).passed = s.passed) :
    (guarded g f s).Passed s.passed := by simp [guarded, hf]

@[simp] theorem accResult_passed (s : State) (u : Bool) (k : BitVec 2) (x : Int × Bool) :
    (accResult u k x s).passed = s.passed := by simp [accResult]

@[simp] theorem vResult_passed (s : State) (lat unit : Nat) (d : BitVec 6) (sh : Nat) (x : Word × Bool) :
    (vResult lat unit d sh x s).passed = s.passed := by simp [vResult]

theorem needReg_passed {d : BitVec 6} {n : Nat} {s : State} {r : Res} (hr : r.Passed s.passed) :
    (needReg d n r).Passed s.passed := by simp [needReg, hr]

@[simp] theorem State.markRead_passed (s : State) (pa : Nat) : (s.markRead pa).passed = s.passed := by simp [State.markRead]

@[simp] theorem State.sendImm_passed (s : State) (n : Fin 4) (l : List (Fin 4 × BitVec 20 × Nat)) :
    (s.sendImm n l).passed = s.passed := by simp [State.sendImm]

@[simp] theorem State.portWrite_passed (s : State) (pa : Nat) (w : Word) : (s.portWrite pa w).passed = s.passed := by
  simp [State.portWrite, State.cmpWrite, State.cmpShadow, State.evset, State.traceWrite]

theorem opProd_passed (u : Bool) (g : Guard) (k : BitVec 2) (a b : BitVec 6) (sc : BitVec 2) (rm : Bool) (f : Int → Int → Int)
    (s : State) : (opProd u g k a b sc rm f s).Passed s.passed := by
  unfold opProd
  split
  · trivial
  · exact guarded_passed (by simp)

@[simp] theorem State.fetchCut_passed (s : State) : s.fetchCut.passed = s.passed := by simp [State.fetchCut]

@[simp] theorem State.fetchCorrect_passed (s : State) (n : Nat) : (s.fetchCorrect n).passed = s.passed := by
  simp [State.fetchCorrect]

@[simp] theorem State.advanceTo_passed (s : State) (cy : Nat) : (s.advanceTo cy).passed = s.passed := by simp [State.advanceTo]

theorem xu3_passed (g : Guard) (d : BitVec 6) (f : State → Word × Bool) (s : State) : (xu3 g d f s).Passed s.passed :=
  guarded_passed (by simp)

theorem xu3p_passed (g : Guard) (pd : BitVec 3) (f : State → Bool) (s : State) : (xu3p g pd f s).Passed s.passed :=
  guarded_passed (by simp)

theorem xu2_passed (g : Guard) (d : BitVec 6) (f : State → Word × Bool) (s : State) : (xu2 g d f s).Passed s.passed :=
  guarded_passed (by simp)

theorem opPrd_passed (g : Guard) (d : BitVec 6) (pa : BitVec 12) (s : State) : (opPrd g d pa s).Passed s.passed := by
  unfold opPrd
  split
  · exact guarded_passed (by simp)
  · split <;> trivial

theorem storeRd_passed (g : Guard) (cond : Bool) (a i : BitVec 6) (k : BitVec 4) (s : State) :
    (storeRd g cond a i k s).Passed s.passed :=
  withRd_passed fun r => by simp

theorem opTint_passed (g : Guard) (d x : BitVec 6) (k : BitVec 4) (rm : Bool) (s : State) :
    (opTint g d x k rm s).Passed s.passed := by
  refine withRd_passed fun r => ?_
  dsimp only
  (repeat' split) <;> simp

/-- An operation moves no gate command. -/ theorem issueOp_passed (i : Instr) (s : State) : (issueOp i s).Passed s.passed := by
  cases i with
  | mul | mac | msu => simp only [issueOp]; exact opProd_passed ..
  | madv | mulv | adda | clamp | lda | clra => simp only [issueOp]; exact guarded_passed (by simp)
  | mova | movac | sincos | push | subh => simp only [issueOp]; exact needReg_passed (guarded_passed (by simp))
  | atan2 | sqrt | recip | mag => simp only [issueOp]; exact xu2_passed ..
  | add | sub | addw | subw | neg | abs | min | max | sel | mov | and | or | xor | andn | shl | shr | shll | shrl | shrr
  | ldi | lui => simp only [issueOp]; exact xu3_passed ..
  | cmplt | cmple | cmpeq | cmpne | cmpltu | tstb | pand | por | pxor => simp only [issueOp]; exact xu3p_passed ..
  | ld | st | ldx | stx => simp [issueOp, opLd, opSt, opLdx, opStx]
  | ldr => simp only [issueOp]; exact withRd_passed fun r => by simp
  | str | strc => simp only [issueOp]; exact storeRd_passed ..
  | tint => simp only [issueOp]; exact opTint_passed ..
  | prd => simp only [issueOp]; exact opPrd_passed ..
  | pwr | pwri => simp [issueOp, opPwr, opPwri, portOut]
  | _ => trivial

theorem issueSlots_passed (l : List (Nat × Word)) (s : State) : (issueSlots l s).Passed s.passed := by
  induction l generalizing s with
  | nil => rfl
  | cons x t ih =>
    obtain ⟨u, w⟩ := x
    rw [issueSlots]
    split
    · trivial
    · rename_i i _
      have hi := issueOp_passed i s
      split
      · rename_i s1 h1
        rw [h1] at hi
        exact hi ▸ ih s1
      · exact hi

theorem issueBundle_passed (m : MouldInfo) (s : State) : (issueBundle m s).Passed s.passed := by
  unfold issueBundle
  split
  · simp
  · rename_i b _
    dsimp only
    generalize hq : (if s.pour.nextCy = 0 then _ else _ : State) = q
    have hs : q.passed = s.passed := by
      subst hq
      simp
    split
    · simp [hs]
    · have hi := issueSlots_passed b.slots (q.fetchCorrect ((q.fetchUpsets b).filter fun n => decide (n = 1)).length)
      rw [State.fetchCorrect_passed, hs] at hi
      split
      · rename_i s3 h3
        rw [h3] at hi
        simpa using hi
      · exact hi

/-! ### Through the gate chain that move no command (07, 08) -/

@[simp] theorem State.settleAll_passed (s : State) : s.settleAll.passed = s.passed := by simp [State.settleAll]

@[simp] theorem State.hstoWrite_passed (s : State) (n : Fin 4) (mask : BitVec 3) : (s.hstoWrite n mask).passed = s.passed := by
  simp [State.hstoWrite]

@[simp] theorem State.shootWrite_passed (s : State) (n : Fin 4) (mask : BitVec 3) : (s.shootWrite n mask).passed = s.passed := by
  simp [State.shootWrite]

@[simp] theorem State.countRefresh_passed (s : State) (n : Fin 4) : (s.countRefresh n).passed = s.passed := by
  simp [State.countRefresh]

@[simp] theorem State.seeVgd_passed (s : State) (n : Fin 4) (k : Fin 13) (active : Bool) :
    (s.seeVgd n k active).passed = s.passed := by simp [State.seeVgd]

@[simp] theorem State.tflagWrite_passed (s : State) (n : Fin 4) (mask : BitVec 13) : (s.tflagWrite n mask).passed = s.passed := by
  simp [State.tflagWrite]

/-! ### Through the journal and the parameters (12) -/

@[simp] theorem State.journalFault_passed (s : State) : s.journalFault.passed = s.passed := by
  simp [State.journalFault, State.refuseWaiting]

@[simp] theorem State.checkWear_passed (s : State) : s.checkWear.passed = s.passed := by simp [State.checkWear]

@[simp] theorem State.notifyHost_passed (s : State) (i : Nat) (r : JRec) (disp : Nat) :
    (s.notifyHost i r disp).passed = s.passed := by simp [State.notifyHost]

@[simp] theorem State.setPos_passed (s : State) (n : Fin 4) (opened : Bool) (v : Word) (persist : Bool) :
    (s.setPos n opened v persist).passed = s.passed := by simp [State.setPos]

@[simp] theorem State.setPar_passed (s : State) (persist : Bool) (e : Nat × Word) : (s.setPar persist e).passed = s.passed := by
  simp [State.setPar]

@[simp] theorem State.applyPar_passed (s : State) (persist : Bool) (e : Nat × Word) :
    (s.applyPar persist e).passed = s.passed := by
  unfold State.applyPar
  split <;> simp

@[simp] theorem State.applyConfig_passed (s : State) (r : JRec) : (s.applyConfig r).passed = s.passed := by
  simp [State.applyConfig]

@[simp] theorem State.applyTrim_passed (s : State) (r : JRec) : (s.applyTrim r).1.passed = s.passed := by simp [State.applyTrim]

@[simp] theorem State.jobAccepted_passed (s : State) (q : Word) : (s.jobAccepted q).passed = s.passed := by
  simp [State.jobAccepted]

@[simp] theorem State.release1_passed (s : State) (x : Nat × Pend) : (s.release1 x).passed = s.passed := by
  simp only [State.release1]
  (repeat' split) <;> simp

@[simp] theorem State.commitDone_passed (s : State) : s.commitDone.passed = s.passed := by simp [State.commitDone]

/-! ### Through the standard moulds (06) -/

@[simp] theorem State.profileIn_passed (s : State) (n : Fin 4) (m : Mot) : (s.profileIn n m).1.passed = s.passed := by
  unfold State.profileIn
  dsimp only
  split
  · rfl
  · exact foldl_passed (fun t i => t.pdmWrite_passed _ _) _ s

@[simp] theorem State.profileFormed_passed (s : State) (n : Fin 4) (m : Mot) : (s.profileFormed n m).passed = s.passed := by
  unfold State.profileFormed
  split
  · exact foldl_passed (fun t i => t.pdmWrite_passed _ _) _ s
  · rfl

@[simp] theorem State.pointOut_passed (s : State) (n : Fin 4) (i : Nat) : (s.pointOut n i).passed = s.passed := by
  simp [State.pointOut]

@[simp] theorem State.profileOut_passed (s : State) (n : Fin 4) (m : Mot) : (s.profileOut n m).1.passed = s.passed := by
  unfold State.profileOut
  split <;> simp

@[simp] theorem State.stdAxisStep_passed (s : State) (k : Nat) (n : Fin 4) : (s.stdAxisStep k n).passed = s.passed := by
  simp [State.stdAxisStep, State.stdStatus, State.raiseMev, State.motFlags]

@[simp] theorem State.stdStep_passed (s : State) (n : Fin 4) : (s.stdStep n).passed = s.passed := by
  simp only [State.stdStep]
  (repeat' split) <;> simp

@[simp] theorem State.stdLoad_passed (s : State) : s.stdLoad.passed = s.passed := by simp [State.stdLoad]

@[simp] theorem State.stdFetch_passed (s : State) (m : MouldInfo) : (s.stdFetch m).passed = s.passed := by
  unfold State.stdFetch
  split <;> simp

@[simp] theorem State.stdBegin_passed (s : State) (m : MouldInfo) : (s.stdBegin m).passed = s.passed := by
  simp [State.stdBegin, State.stdEdge]

@[simp] theorem State.stdFinish_passed (s : State) : s.stdFinish.passed = s.passed := by simp [State.stdFinish]

/-! ### Through the jobs (11) -/

@[simp] theorem State.transition_passed (s : State) (q : Job) (st : Nat) (cause : Word) (replay : Bool) :
    (s.transition q st cause replay).passed = s.passed := by simp [State.transition]

@[simp] theorem State.updJax_passed (s : State) (n : Fin 4) (f : JobAx → JobAx) : (s.updJax n f).passed = s.passed := by
  simp [State.updJax]

@[simp] theorem State.endJob_passed (s : State) (q : Job) (disp : Nat) (cause : Word) :
    (s.endJob q disp cause).passed = s.passed := by simp [State.endJob]

@[simp] theorem State.cancelJobs_passed (s : State) (l : List Job) : (s.cancelJobs l).passed = s.passed := by
  simp [State.cancelJobs]

@[simp] theorem State.endRunning_passed (s : State) (n : Fin 4) (disp : Nat) : (s.endRunning n disp).passed = s.passed := by
  unfold State.endRunning
  split <;> simp

@[simp] theorem State.setJobSt_passed (s : State) (q : Word) (st : JobSt) : (s.setJobSt q st).passed = s.passed := by
  simp [State.setJobSt]

@[simp] theorem State.giveStep_passed (s : State) (n : Fin 4) (f : JobStep → JobStep) : (s.giveStep n f).passed = s.passed := by
  simp [State.giveStep]

@[simp] theorem State.readReaction_passed (s : State) (n : Fin 4) (r : Report) : (s.readReaction n r).passed = s.passed := by
  simp [State.readReaction]

@[simp] theorem State.readRun_passed (s : State) (n : Fin 4) (r : Report) : (s.readRun n r).passed = s.passed := by
  simp [State.readRun]

@[simp] theorem State.readStop_passed (s : State) (n : Fin 4) : (s.readStop n).passed = s.passed := by
  unfold State.readStop
  split <;> simp

@[simp] theorem State.readMould_passed (s : State) (n : Fin 4) : (s.readMould n).passed = s.passed := by
  simp only [State.readMould]
  (repeat' split) <;> simp

@[simp] theorem State.profStore_passed (s : State) (n : Fin 4) : (s.profStore n).passed = s.passed := by simp [State.profStore]

@[simp] theorem State.startNow_passed (s : State) (n : Fin 4) (q : Job) : (s.startNow n q).passed = s.passed := by
  simp [State.startNow]

@[simp] theorem State.clearTheWay_passed (s : State) (n : Fin 4) (q : Job) : (s.clearTheWay n q).passed = s.passed := by
  simp [State.clearTheWay]

@[simp] theorem State.unstart_passed (s : State) (n : Fin 4) : (s.unstart n).passed = s.passed := by simp [State.unstart]

@[simp] theorem State.startChosen_passed (s : State) (n : Fin 4) : (s.startChosen n).passed = s.passed := by
  unfold State.startChosen
  split <;> simp

@[simp] theorem State.stopNow_passed (s : State) (n : Fin 4) (q : Job) : (s.stopNow n q).passed = s.passed := by
  simp [State.stopNow]

@[simp] theorem State.cancelNow_passed (s : State) (n : Fin 4) (q : Job) : (s.cancelNow n q).passed = s.passed := by
  simp [State.cancelNow]

@[simp] theorem State.resumeNow_passed (s : State) (n : Fin 4) (q : Job) : (s.resumeNow n q).passed = s.passed := by
  simp [State.resumeNow]

@[simp] theorem State.stopAxis_passed (s : State) (n : Fin 4) (cause : Nat) : (s.stopAxis n cause).passed = s.passed := by
  simp [State.stopAxis]

@[simp] theorem State.thermalStop_passed (s : State) (n : Fin 4) : (s.thermalStop n).passed = s.passed := by
  simp only [State.thermalStop]
  (repeat' split) <;> simp

@[simp] theorem State.axisLost_passed (s : State) (n : Fin 4) : (s.axisLost n).passed = s.passed := by simp [State.axisLost]
@[simp] theorem State.applyReq_passed (s : State) (n : Fin 4) : (s.applyReq n).passed = s.passed := by simp [State.applyReq]

@[simp] theorem State.devFromAxes_passed (s : State) : s.devFromAxes.passed = s.passed := by
  unfold State.devFromAxes
  split <;> simp

@[simp] theorem State.replayEnd_passed (s : State) (q : Job) (disp : Nat) : (s.replayEnd q disp).passed = s.passed := by
  simp [State.replayEnd]

@[simp] theorem State.replayEndAll_passed (s : State) (l : List Job) (disp : Nat) :
    (s.replayEndAll l disp).passed = s.passed := by simp [State.replayEndAll]

@[simp] theorem State.replayImmediate_passed (s : State) (n : Fin 4) (q : Job) : (s.replayImmediate n q).passed = s.passed := by
  simp [State.replayImmediate]

@[simp] theorem State.replayAxis_passed (s : State) (started : List Word) (n : Fin 4) :
    (s.replayAxis started n).passed = s.passed := by
  simp only [State.replayAxis]
  (repeat' split) <;> simp

/-! ### Through the carrier wrap (07) -/

@[simp] theorem State.latchHall_passed (s : State) (n : Fin 4) : (s.latchHall n).passed = s.passed := by simp [State.latchHall]

@[simp] theorem State.showInvalid_passed (s : State) (n : Fin 4) : (s.showInvalid n).passed = s.passed := by
  simp [State.showInvalid]

@[simp] theorem State.raiseSovr_passed (s : State) (n : Fin 4) (ovr : BitVec 7) : (s.raiseSovr n ovr).passed = s.passed := by
  simp [State.raiseSovr]

@[simp] theorem State.testPeriod_passed (s : State) (n : Fin 4) : (s.testPeriod n).passed = s.passed := by
  simp only [State.testPeriod]
  (repeat' split) <;> simp

@[simp] theorem State.syncDeviate_passed (s : State) : s.syncDeviate.passed = s.passed := by simp [State.syncDeviate]

/-! ### Through the Plind links (16) -/

@[simp] theorem State.updLink_passed (s : State) (n : Fin 4) (f : Link → Link) : (s.updLink n f).passed = s.passed := by
  simp [State.updLink]

@[simp] theorem State.slipUp_passed (s : State) (n : Fin 4) (eye : Int) : (s.slipUp n eye).passed = s.passed := by
  simp [State.slipUp]

@[simp] theorem State.regList_passed (s : State) (n : Fin 4) (l : List RegMsg) : (s.regList n l).passed = s.passed := by
  simp [State.regList]

@[simp] theorem State.senseGood_passed (s : State) (n : Fin 4) (w : SenseWords) : (s.senseGood n w).passed = s.passed := by
  simp [State.senseGood, State.addVbus]

@[simp] theorem State.senseBad_passed (s : State) (n : Fin 4) : (s.senseBad n).passed = s.passed := by simp [State.senseBad]
@[simp] theorem State.statusBad_passed (s : State) (n : Fin 4) : (s.statusBad n).passed = s.passed := by simp [State.statusBad]

/-! ### Through the Runner port (14) -/

@[simp] theorem State.runAgain_passed (s : State) : s.runAgain.passed = s.passed := by
  unfold State.runAgain
  split <;> simp

@[simp] theorem State.runRetry_passed (s : State) (t : RunTx) : (s.runRetry t).passed = s.passed := by simp [State.runRetry]

/-! ### Through the locks and mailboxes (15) -/

@[simp] theorem State.rangePrev_passed (s : State) : s.rangePrev.passed = s.passed := by simp [State.rangePrev]

@[simp] theorem State.asMaster_passed (s : State) (m : Master) (a : Nat) (f : State → State)
    (hf : ∀ t, (f t).passed = t.passed) : (s.asMaster m a f).passed = s.passed := by simp [State.asMaster, hf]

@[simp] theorem State.lockRead_passed (s : State) (m : Master) (k : Fin 16) : (s.lockRead m k).2.passed = s.passed := by
  unfold State.lockRead
  dsimp only
  split <;> simp

@[simp] theorem State.lockWrite_passed (s : State) (m : Master) (k : Fin 16) (val : Word) :
    (s.lockWrite m k val).passed = s.passed := by simp [State.lockWrite]

@[simp] theorem State.updMb_passed (s : State) (ch : Fin 16) (f : MbCh → MbCh) : (s.updMb ch f).passed = s.passed := by
  simp [State.updMb]

@[simp] theorem State.mbDeny_passed (s : State) (ch : Fin 16) : (s.mbDeny ch).passed = s.passed := by simp [State.mbDeny]

@[simp] theorem State.asEnd_passed (s : State) (m : Master) (ch : Fin 16) (f : Bool → State → State)
    (hf : ∀ b t, (f b t).passed = t.passed) : (s.asEnd m ch f).passed = s.passed := by
  unfold State.asEnd
  split <;> simp [hf]

@[simp] theorem State.mbData_passed (s : State) (ch i : Fin 16) (val : Word) (b : Bool) :
    (s.mbData ch i val b).passed = s.passed := by simp [State.mbData]

@[simp] theorem State.mbRing_passed (s : State) (ch : Fin 16) (b : Bool) : (s.mbRing ch b).passed = s.passed := by
  simp [State.mbRing]

@[simp] theorem State.mbConsume_passed (s : State) (ch : Fin 16) (b : Bool) : (s.mbConsume ch b).passed = s.passed := by
  simp [State.mbConsume]

@[simp] theorem State.mbCancelMsg_passed (s : State) (ch : Fin 16) (b : Bool) : (s.mbCancelMsg ch b).passed = s.passed := by
  simp [State.mbCancelMsg]

@[simp] theorem State.mblockSet_passed (s : State) (val : Word) : (s.mblockSet val).passed = s.passed := by simp [State.mblockSet]
@[simp] theorem State.qlockSet_passed (s : State) (val : Word) : (s.qlockSet val).passed = s.passed := by simp [State.qlockSet]

/-! ### Through the sense die (10) -/

@[simp] theorem State.convFlag_passed (s : State) (k : Nat) : (s.convFlag k).passed = s.passed := by simp [State.convFlag]

@[simp] theorem State.adrWrite_passed (s : State) (inj : Bool) (i : Nat) (code : BitVec 24) :
    (s.adrWrite inj i code).passed = s.passed := by simp [State.adrWrite]

@[simp] theorem State.convAdvance_passed (s : State) (inj : Bool) (i : Nat) : (s.convAdvance inj i).passed = s.passed := by
  simp [State.convAdvance]

@[simp] theorem State.convHonour_passed (s : State) (f : State → State) (hf : ∀ t, (f t).passed = t.passed) :
    (s.convHonour f).passed = s.passed := by simp [State.convHonour, hf]

@[simp] theorem State.refselSet_passed (s : State) (val : Word) : (s.refselSet val).passed = s.passed := by simp [State.refselSet]
@[simp] theorem State.refLoss_passed (s : State) : s.refLoss.passed = s.passed := by simp [State.refLoss]

@[simp] theorem State.updFi_passed (s : State) (k : Fin 16) (f : FiIn → FiIn) : (s.updFi k f).passed = s.passed := by
  simp [State.updFi]

@[simp] theorem State.fiConfig_passed (s : State) (stk : Bool) (k : Fin 16) (val : Word) :
    (s.fiConfig stk k val).passed = s.passed := by simp [State.fiConfig]

@[simp] theorem State.fiUpdate_passed (s : State) : s.fiUpdate.passed = s.passed := by simp [State.fiUpdate]

@[simp] theorem State.updHall_passed (s : State) (n : Fin 4) (f : Hall → Hall) : (s.updHall n f).passed = s.passed := by
  simp [State.updHall]

@[simp] theorem State.posErr_passed (s : State) (n : Fin 4) (k : Nat) : (s.posErr n k).passed = s.passed := by simp [State.posErr]

@[simp] theorem State.encEdge_passed (s : State) (n : Fin 4) (c : BitVec 3) (zRise : Bool) :
    (s.encEdge n c zRise).passed = s.passed := by simp [State.encEdge]

@[simp] theorem State.hallConfig_passed (s : State) (n : Fin 4) (val : Word) : (s.hallConfig n val).passed = s.passed := by
  simp [State.hallConfig]

/-! ### Through the register window (13) -/

@[simp] theorem State.latchGroup_passed (s : State) (m : Master) (a : Nat) : (s.latchGroup m a).passed = s.passed := by
  simp [State.latchGroup]

@[simp] theorem State.advanceTrace_passed (s : State) : s.advanceTrace.passed = s.passed := by simp [State.advanceTrace]

@[simp] theorem State.mbWordRead_passed (s : State) (m : Master) (a : Nat) : (s.mbWordRead m a).2.passed = s.passed := by
  simp only [State.mbWordRead]
  (repeat' split) <;> simp

@[simp] theorem State.regRead_passed (s : State) (m : Master) (a : Nat) : (s.regRead m a).2.passed = s.passed := by
  simp only [State.regRead]
  (repeat' split) <;> simp

@[simp] theorem State.readInto_passed (s : State) (m : Master) (a : Nat) : (s.readInto m a).passed = s.passed := by
  simp [State.readInto]

@[simp] theorem State.evmWrite_passed (s : State) (m : Master) (o : Nat) (val : Word) :
    (s.evmWrite m o val).passed = s.passed := by simp [State.evmWrite]

@[simp] theorem State.lockBlockWrite_passed (s : State) (m : Master) (o : Nat) (val : Word) :
    (s.lockBlockWrite m o val).passed = s.passed := by simp [State.lockBlockWrite, State.mbBind]

@[simp] theorem State.mbWrite_passed (s : State) (m : Master) (a : Nat) (val : Word) : (s.mbWrite m a val).passed = s.passed := by
  simp [State.mbWrite, State.mbCtrl, State.mbFlagClear]

@[simp] theorem State.syncWrite_passed (s : State) (val : Word) : (s.syncWrite val).passed = s.passed := by simp [State.syncWrite]

@[simp] theorem State.axisWrite_passed (s : State) (m : Master) (n : Fin 4) (o : Nat) (val : Word) :
    (s.axisWrite m n o val).passed = s.passed := by simp [State.axisWrite]

@[simp] theorem State.convWrite_passed (s : State) (o : Nat) (val : Word) : (s.convWrite o val).passed = s.passed := by
  simp [State.convWrite]

@[simp] theorem State.fiWrite_passed (s : State) (o : Nat) (val : Word) : (s.fiWrite o val).passed = s.passed := by
  simp [State.fiWrite]

@[simp] theorem State.sprWrite_passed (s : State) (o : Nat) (val : Word) : (s.sprWrite o val).passed = s.passed := by
  simp [State.sprWrite, State.runDevWrite]

@[simp] theorem State.sysWrite_passed (s : State) (o : Nat) (val : Word) : (s.sysWrite o val).passed = s.passed := by
  simp [State.sysWrite]

@[simp] theorem State.regSet_passed (s : State) (m : Master) (a : Nat) (val : Word) : (s.regSet m a val).passed = s.passed := by
  simp [State.regSet]

@[simp] theorem State.regWrite_passed (s : State) (m : Master) (a : Nat) (val : Word) :
    (s.regWrite m a val).passed = s.passed := by simp [State.regWrite]

/-! ### Through the Sorac packets (11) -/

@[simp] theorem State.onPacket_passed (s : State) (sel : List Byte → Bool) (f : List Byte → State → State)
    (hf : ∀ p t, (f p t).passed = t.passed) : (s.onPacket sel f).passed = s.passed := by
  simp only [State.onPacket]
  (repeat' split) <;> simp [hf]

@[simp] theorem State.answer_passed (s : State) (opc : Nat) (f : List Byte → State → Reply) :
    (s.answer opc f).passed = s.passed := by simp [State.answer]

@[simp] theorem State.reserve_passed (s : State) : s.reserve.passed = s.passed := by simp [State.reserve]

@[simp] theorem State.unless_passed (s : State) (c : List (Option Reply)) (f : State → State)
    (hf : ∀ t, (f t).passed = t.passed) : (s.unless c f).passed = s.passed := by
  unfold State.unless
  split <;> simp [hf]

@[simp] theorem State.startBg_passed (s : State) (p : List Byte) (op : BgOp) : (s.startBg p op).passed = s.passed := by
  simp [State.startBg]

@[simp] theorem State.setAccept_passed (s : State) (p : List Byte) : (s.setAccept p).passed = s.passed := by
  simp only [State.setAccept]
  (repeat' split) <;> simp

@[simp] theorem State.jobPacket_passed (s : State) (opc : Nat) : (s.jobPacket opc).passed = s.passed := by
  simp [State.jobPacket, State.jobChecked]

/-! ### Through the mould packets (04) -/

@[simp] theorem State.setInact_passed (s : State) (i : Option Image) (ok : Bool) : (s.setInact i ok).passed = s.passed := by
  simp [State.setInact]

@[simp] theorem State.lock0Set_passed (s : State) (o : BitVec 4) : (s.lock0Set o).passed = s.passed := by simp [State.lock0Set]
@[simp] theorem State.lock0Release_passed (s : State) : s.lock0Release.passed = s.passed := by simp [State.lock0Release]

@[simp] theorem State.beginActivation_passed (s : State) (m : Option MouldInfo) (seq : Word) (boot : Bool) :
    (s.beginActivation m seq boot).passed = s.passed := by simp [State.beginActivation]

@[simp] theorem State.resolve_passed (s : State) (m : MouldInfo) (seq : Word) (boot : Bool) :
    (s.resolve m seq boot).passed = s.passed := by simp [State.resolve]

@[simp] theorem State.bgEnd_passed (s : State) : s.bgEnd.passed = s.passed := by simp [State.bgEnd]

@[simp] theorem State.onBg_passed (s : State) (sel : BgOp → Bool) (f : Bg → State → State)
    (hf : ∀ b t, (f b t).passed = t.passed) : (s.onBg sel f).passed = s.passed := by
  unfold State.onBg
  split <;> simp [hf]

@[simp] theorem State.selectGo_passed (s : State) (p : List Byte) (src : Nat) : (s.selectGo p src).passed = s.passed := by
  simp only [State.selectGo]
  (repeat' split) <;> simp

/-! ### Through the tick and heat boundaries (01) -/

@[simp] theorem State.closePour_passed (s : State) : s.closePour.passed = s.passed := by simp [State.closePour]
@[simp] theorem State.settleFaults_passed (s : State) : s.settleFaults.passed = s.passed := by simp [State.settleFaults]

@[simp] theorem passedOf_noCompares (x : Four Axis) : passedOf (x.map Axis.noCompares) = passedOf x :=
  passedOf_map fun _ => rfl

@[simp] theorem State.toNoMould_passed (s : State) : s.toNoMould.passed = s.passed := by simp [State.toNoMould]

@[simp] theorem State.startMot_passed (s : State) (m : MouldInfo) (old : Option MouldInfo) (k : Nat) (live : Bool) (n : Fin 4) :
    (s.startMot m old k live n).passed = s.passed := by
  simp [State.startMot, State.streamAgain, State.freshMot, State.motLost, State.reseedMot]

@[simp] theorem State.startStd_passed (s : State) (m : MouldInfo) (old : Option MouldInfo) (live : Bool) :
    (s.startStd m old live).passed = s.passed := by
  unfold State.startStd
  split <;> simp

@[simp] theorem State.takeMould_passed (s0 : State) (m : MouldInfo) (old : Option MouldInfo) (live : Bool) :
    (s0.takeMould m old live).passed = s0.passed := by
  simp [State.takeMould, State.loadOffsets, State.toggleSlot, State.loadSequences]

@[simp] theorem State.fillBuffers_passed (s : State) (m : MouldInfo) : (s.fillBuffers m).passed = s.passed := by
  simp [State.fillBuffers]

@[simp] theorem State.activated_passed (s : State) (a : Activation) (m : MouldInfo) (old : Option MouldInfo) :
    (s.activated a m old).passed = s.passed := by simp [State.activated]

@[simp] theorem State.kthUpdate_passed (s : State) : s.kthUpdate.passed = s.passed := by
  unfold State.kthUpdate
  split <;> simp

@[simp] theorem State.imageDue_passed (s : State) : s.imageDue.passed = s.passed := by
  unfold State.imageDue
  split <;> simp

@[simp] theorem State.selectReply_passed (s : State) (a : Activation) : (s.selectReply a).passed = s.passed := by
  simp [State.selectReply]

@[simp] theorem State.stoppedBoundary_passed (s : State) (a : Activation) (m : MouldInfo) :
    (s.stoppedBoundary a m).passed = s.passed := by simp [State.stoppedBoundary, State.fillBoth]

@[simp] theorem State.liveBoundary_passed (s : State) (a : Activation) (m : MouldInfo) :
    (s.liveBoundary a m).passed = s.passed := by simp [State.liveBoundary]

@[simp] theorem State.deactBoundary_passed (s : State) (a : Activation) : (s.deactBoundary a).passed = s.passed := by
  simp [State.deactBoundary]

@[simp] theorem State.activationBoundary_passed (s : State) : s.activationBoundary.passed = s.passed := by
  simp only [State.activationBoundary]
  (repeat' split) <;> simp

@[simp] theorem State.clearFlags_passed (s : State) (n : Fin 4) : (s.clearFlags n).passed = s.passed := by simp [State.clearFlags]
@[simp] theorem State.leaveSafe_passed (s : State) : s.leaveSafe.passed = s.passed := by simp [State.leaveSafe]

@[simp] theorem State.clearNow_passed (s : State) (m cause : BitVec 4) : (s.clearNow m cause).1.passed = s.passed := by
  simp only [State.clearNow]
  (repeat' split) <;> simp

@[simp] theorem State.clearReply_passed (s : State) (seq : Word) (r : Option (List (Fin 4))) :
    (s.clearReply seq r).passed = s.passed := by
  unfold State.clearReply
  split <;> simp

@[simp] theorem State.nextTick_passed (s : State) : s.nextTick.passed = s.passed := by simp [State.nextTick]
@[simp] theorem State.freshPorts_passed (s : State) : s.freshPorts.passed = s.passed := by simp [State.freshPorts]
@[simp] theorem State.loadTick_passed (s : State) (a : Activation) : (s.loadTick a).passed = s.passed := by simp [State.loadTick]

@[simp] theorem State.activationTick_passed (s : State) : s.activationTick.passed = s.passed := by
  unfold State.activationTick
  split <;> simp

theorem State.startPour_passed (s : State) : s.startPour.Passed s.passed := by
  unfold State.startPour
  split
  · simp
  · dsimp only
    split
    · simp
    · exact issueBundle_passed _ _

@[simp] theorem State.idleSnapshot_passed (s : State) : s.idleSnapshot.passed = s.passed := by simp [State.idleSnapshot]
@[simp] theorem State.acquired_passed (s : State) : s.acquired.passed = s.passed := by simp [State.acquired]

/-! ### Through the system packets (11) -/

@[simp] theorem State.onFunc_passed (s : State) (k : Nat) (f : List Byte → State → State)
    (hf : ∀ p t, (f p t).passed = t.passed) : (s.onFunc k f).passed = s.passed := by simp [State.onFunc, hf]

@[simp] theorem State.beginFunc_passed (s : State) (p : List Byte) (k n : Nat) : (s.beginFunc p k n).passed = s.passed := by
  simp [State.beginFunc]

@[simp] theorem State.dropCompares_passed (s : State) (n : Fin 4) : (s.dropCompares n).passed = s.passed := by
  simp [State.dropCompares]

@[simp] theorem State.dropMessages_passed (s : State) (n : Fin 4) : (s.dropMessages n).passed = s.passed := by
  simp [State.dropMessages]

@[simp] theorem State.funcEnd_passed (s : State) (seq : Word) : (s.funcEnd seq).passed = s.passed := by simp [State.funcEnd]
@[simp] theorem State.snsRestored_passed (s : State) : s.snsRestored.passed = s.passed := by simp [State.snsRestored]

@[simp] theorem State.deferAction_passed (s : State) (p : List Byte) (a : Deferred) : (s.deferAction p a).passed = s.passed := by
  simp [State.deferAction]

@[simp] theorem State.testBegin_passed (s : State) : s.testBegin.passed = s.passed := by simp [State.testBegin]
@[simp] theorem State.loopGo_passed (s : State) (p : List Byte) : (s.loopGo p).passed = s.passed := by simp [State.loopGo]
@[simp] theorem State.loopPacket_passed (s : State) (k : Nat) : (s.loopPacket k).passed = s.passed := by simp [State.loopPacket]

@[simp] theorem State.testLeave_passed (s : State) (n : Fin 4) : (s.testLeave n).passed = s.passed := by
  have hend (t : State) : (t.updAxis n fun a => if a.nxt = some .test then { a with nxt := none } else a).passed = t.passed := by
    refine State.updAxis_passed_of_ph ?_
    split <;> rfl
  unfold State.testLeave
  dsimp only
  split
  · rw [State.axNext_passed, State.updChain_passed_of_ph rfl, State.raiseDrvIf_passed, State.updAxis_passed_of_ph rfl]
  · rw [hend, State.updChain_passed_of_ph rfl, State.raiseDrvIf_passed, State.updAxis_passed_of_ph rfl]

@[simp] theorem State.testTrace_passed (s : State) (x : BgOp) : (s.testTrace x).passed = s.passed := by
  unfold State.testTrace
  split <;> simp

/-! ### Through supplies and boot (20) -/

@[simp] theorem State.wipeAll_passed (s : State) : s.wipeAll.passed = s.passed := by simp [State.wipeAll]

@[simp] theorem State.bootReg_passed (s : State) (e : Nat × Option Word) : (s.bootReg e).passed = s.passed := by
  unfold State.bootReg
  split <;> simp

@[simp] theorem State.bootBind_passed (s : State) (e : Nat × Option Word) : (s.bootBind e).passed = s.passed := by
  unfold State.bootBind
  split <;> simp

@[simp] theorem State.replay_passed (s : State) : s.replay.passed = s.passed := by
  simp [State.replay, State.replayConfig, State.replayJobs]

@[simp] theorem State.bootState_passed (s : State) : s.bootState.passed = s.passed := by simp [State.bootState, State.startTick]
@[simp] theorem State.bootMould_passed (s : State) : s.bootMould.passed = s.passed := by simp [State.bootMould]

/-! ### Through the life cycle (19) -/

@[simp] theorem State.replyThen_passed (s : State) (b : Bg) (a : Deferred) : (s.replyThen b a).passed = s.passed := by
  simp [State.replyThen]

@[simp] theorem State.rmaEnterNow_passed (s : State) : s.rmaEnterNow.passed = s.passed := by simp [State.rmaEnterNow]
@[simp] theorem State.sprueReset_passed (s : State) : s.sprueReset.passed = s.passed := by simp [State.sprueReset]

/-! ### Through the Sprue port (13) -/

@[simp] theorem State.readWords_passed (s : State) (a n : Nat) : (s.readWords a n).2.passed = s.passed := by
  induction n generalizing s a with
  | zero => rfl
  | succ n ih => simp [State.readWords, ih]

@[simp] theorem State.readMap_passed (s : State) (a n : Nat) : (s.readMap a n).2.2.passed = s.passed := by
  simp only [State.readMap]
  (repeat' split) <;> simp

@[simp] theorem State.frameFlags_passed (s : State) (x : FrFlags) (timeout : Bool) :
    (s.frameFlags x timeout).passed = s.passed := by simp [State.frameFlags]

@[simp] theorem State.selectFall_passed (s : State) : s.selectFall.passed = s.passed := by simp [State.selectFall]

@[simp] theorem State.driveFor_passed (s : State) (m n : Nat) (l : List Byte) : (s.driveFor m n l).passed = s.passed := by
  simp [State.driveFor]

@[simp] theorem State.drive_passed (s : State) (m : Nat) (l : List Byte) : (s.drive m l).passed = s.passed := by
  simp [State.drive]

@[simp] theorem State.reject_passed (s : State) (x : FrFlags) (out : List Byte) : (s.reject x out).passed = s.passed := by
  simp [State.reject]

@[simp] theorem State.cutShort_passed (s : State) (x : FrFlags) (out : List Byte) (n : Nat) (timeout : Bool) :
    (s.cutShort x out n timeout).passed = s.passed := by simp [State.cutShort]

@[simp] theorem State.acceptFrame_passed (s : State) (c : Cmd) (a : Byte) : (s.acceptFrame c a).passed = s.passed := by
  simp [State.acceptFrame]

@[simp] theorem State.writeWords_passed (s : State) (a : Nat) (l : List Byte) (n : Nat) :
    (s.writeWords a l n).passed = s.passed := by
  induction n generalizing s a l with
  | zero => rfl
  | succ n ih => simp [State.writeWords, ih]

@[simp] theorem State.landWrite_passed (s : State) (f : Sys2Proof.Frame) : (s.landWrite f).passed = s.passed := by
  simp [State.landWrite, State.stageWrite]

@[simp] theorem State.post_passed (s : State) (l : List Byte) : (s.post l).passed = s.passed := by simp [State.post]

@[simp] theorem State.takeData_passed (s : State) (n : Nat) : (s.takeData n).2.2.passed = s.passed := by
  unfold State.takeData
  split <;> simp

@[simp] theorem State.fetch_passed (s : State) (c : Cmd) (f : Sys2Proof.Frame) : (s.fetch c f).2.2.passed = s.passed := by
  unfold State.fetch
  split <;> simp

@[simp] theorem State.cutFrame_passed (s : State) (cmd : Byte) (f : Sys2Proof.Frame) (k : CutAt) (timeout : Bool) :
    (s.cutFrame cmd f k timeout).passed = s.passed := by
  simp only [State.cutFrame]
  (repeat' split) <;> simp

@[simp] theorem State.expire_passed (s : State) (x : Seen) : (s.expire x).passed = s.passed := by
  cases x <;> simp [State.expire]

/-! ### Through the monitor die (18) -/

@[simp] theorem State.monLog_passed (s : State) (code : Nat) : (s.monLog code).passed = s.passed := by simp [State.monLog]

@[simp] theorem State.monLatchOnly_passed (s : State) (k : Nat) : (s.monLatchOnly k).passed = s.passed := by
  simp [State.monLatchOnly]

@[simp] theorem State.monLatch_passed (s : State) (k : Nat) : (s.monLatch k).passed = s.passed := by simp [State.monLatch]
@[simp] theorem State.tickDeviates_passed (s : State) : s.tickDeviates.passed = s.passed := by simp [State.tickDeviates]

@[simp] theorem State.witness_passed (s : State) (r : WitReq) (data : Option (List Byte)) :
    (s.witness r data).passed = s.passed := by simp [State.witness]

/-! ### Through the temperatures (17) -/

@[simp] theorem State.stopNvm_passed (s : State) : s.stopNvm.passed = s.passed := by
  unfold State.stopNvm
  split <;> simp

@[simp] theorem State.stopClear_passed (s : State) : s.stopClear.passed = s.passed := by
  unfold State.stopClear
  split <;> simp

@[simp] theorem State.stopJournal_passed (s : State) : s.stopJournal.passed = s.passed := by simp [State.stopJournal]

@[simp] theorem State.shutdown_passed (s0 : State) : s0.shutdown.passed = s0.passed := by
  unfold State.shutdown
  split <;> simp

end Sys2Proof.Machine
end

section
/-! SUPPORT. The functions that move gate commands, and why none leaves a phase with both past the handshake (07 R213 to R226, R239;
08 R252 to R257; O59). -/

namespace Sys2Proof.Machine

/-! ### One phase -/

/-- Not both commands of a phase are past the handshake. -/
def PhSt.Apart (x : PhSt) : Prop := ¬(x.h.s4 = true ∧ x.l.s4 = true)

/-- A side with no command, and none past the handshake. -/
def GateCh.Idle (g : GateCh) : Prop := g.cmd = false ∧ g.s4 = false

theorem PhSt.apart_of_idle {x : PhSt} {high : Bool} (h : (x.side high).Idle) : x.Apart := by
  obtain ⟨-, hs⟩ := h
  rintro ⟨hh, hl⟩
  cases high
  · exact Bool.false_ne_true (hs.symm.trans hl)
  · exact Bool.false_ne_true (hs.symm.trans hh)

theorem PhSt.cancel_apart (x : PhSt) : x.cancel.Apart := fun h => Bool.false_ne_true h.1

/-- The commands at stage 3 are never both on, so one side is idle (07 R213, 08 R263). -/
theorem Axis.drivePhase_idle (a : Axis) (p : Phase) : ∃ high, (((a.drivePhase p).ph.get p).side high).Idle := by
  have hdrive (hi lo : Bool) (high : Bool) (hoff : (if high then hi else lo) = false) :
      (((a.drivePh p hi lo).ph.get p).side high).Idle := by
    rw [Axis.drivePh, Three.get_set_same]
    cases high <;> simp_all [PhSt.side, GateCh.drive, GateCh.Idle]
  unfold Axis.drivePhase
  dsimp only
  split
  · exact ⟨!(a.ph.get p).raw, hdrive _ _ _ (by cases (a.ph.get p).raw <;> rfl)⟩
  · exact ⟨true, hdrive _ _ _ rfl⟩

theorem Axis.drivePhase_ne (a : Axis) {p q : Phase} (h : q ≠ p) : (a.drivePhase p).ph.get q = a.ph.get q := by
  unfold Axis.drivePhase
  dsimp only
  split <;> exact Three.get_set_ne _ _ h

theorem GateCh.Idle.rearm {g : GateCh} (h : g.Idle) (poff : Bool) : (g.rearm poff).Idle := by
  rw [GateCh.rearm, h.1]
  exact h

theorem GateCh.Idle.reedge {g : GateCh} (h : g.cmd = false) (dt0 poff : Bool) :
    (({ g with w3 := false, dt := false, w4 := false, s4 := false } : GateCh).reedge dt0 poff).Idle := by
  rw [GateCh.reedge, if_neg (by rw [h]; exact Bool.false_ne_true)]
  exact ⟨h, rfl⟩

/-! ### One axis -/

theorem Axis.noShootThrough_of_idle {a : Axis} (h : ∀ p, ∃ high, ((a.ph.get p).side high).Idle) : a.noShootThrough := fun p => by
  obtain ⟨high, hi⟩ := h p
  exact PhSt.apart_of_idle hi

/-- A phase set anew needs to be apart itself. -/
theorem Axis.noShootThrough.set {a b : Axis} (h : a.noShootThrough) {p : Phase} {x : PhSt} (hb : b.ph = a.ph.set p x)
    (hx : x.Apart) : b.noShootThrough := fun q => by
  rw [hb]
  by_cases hq : q = p
  · rw [hq, Three.get_set_same]
    exact hx
  · rw [Three.get_set_ne _ _ hq]
    exact h q

theorem Axis.noShootThrough.drivePhase {a : Axis} (h : a.noShootThrough) (p : Phase) : (a.drivePhase p).noShootThrough := fun q => by
  by_cases hq : q = p
  · obtain ⟨high, hi⟩ := a.drivePhase_idle p
    rw [hq]
    exact PhSt.apart_of_idle hi
  · rw [Axis.drivePhase_ne a hq]
    exact h q

/-- A trip cancels commands and begins none (07 R239). -/
theorem Axis.noShootThrough.cancelMasked {a : Axis} (h : a.noShootThrough) (m : BitVec 7) : (a.cancelMasked m).noShootThrough := by
  have hkeep (c : Prop) [Decidable c] (g : GateCh) (hs : (if c then g.cancel else g).s4 = true) : g.s4 = true := by
    split at hs
    · exact absurd hs Bool.false_ne_true
    · exact hs
  rintro p ⟨hh, hl⟩
  refine h p ?_
  cases p <;> exact ⟨hkeep _ _ hh, hkeep _ _ hl⟩

/-- All phases driven, each has an idle side. -/
theorem Axis.drivePhases_idle (a : Axis) (p : Phase) : ∃ high, (((phases.foldl Axis.drivePhase a).ph.get p).side high).Idle := by
  change ∃ high, (((((a.drivePhase .u).drivePhase .v).drivePhase .w).ph.get p).side high).Idle
  cases p with
  | u =>
    rw [Axis.drivePhase_ne _ (by decide), Axis.drivePhase_ne _ (by decide)]
    exact Axis.drivePhase_idle _ _
  | v =>
    rw [Axis.drivePhase_ne _ (by decide)]
    exact Axis.drivePhase_idle _ _
  | w => exact Axis.drivePhase_idle _ _

/-- EN cleared drives every phase anew (07 R226). -/
theorem Axis.enOff_noShootThrough (a : Axis) : a.enOff.noShootThrough := Axis.noShootThrough_of_idle (Axis.drivePhases_idle _)

/-- The wrap takes up commands and edges only on the side that has a command (07 R217, R225, R241; 08 R263). -/
theorem Axis.applyWrap_noShootThrough (a : Axis) : a.applyWrap.noShootThrough := by
  let c : Axis := { phases.foldl Axis.drivePhase a with wrapOff := 0, wrapPh := 0, vmloWait := false }
  have hre (p : Phase) : ∃ high, ((c.rearm.ph.get p).side high).Idle := by
    obtain ⟨high, hi⟩ := a.drivePhases_idle p
    refine ⟨high, ?_⟩
    have hside (m : Bool) (g : GateCh) (poff : Bool) (hg : g.Idle) : (if m then g else g.rearm poff).Idle := by
      cases m
      · exact hg.rearm poff
      · exact hg
    cases p <;> cases high <;> exact hside _ _ _ hi
  refine Axis.noShootThrough_of_idle fun p => ?_
  obtain ⟨high, hi⟩ := hre p
  refine ⟨high, ?_⟩
  change (((if a.enWait then _ else c.rearm : Axis).ph.get p).side high).Idle
  split
  · cases p <;> cases high <;> exact GateCh.Idle.reedge hi.1 _ _
  · exact hi

/-- An immediate load drives the phase of its channel (07 R221, R222). -/
theorem Axis.noShootThrough.immLoad {a : Axis} (h : a.noShootThrough) (per c : Nat) (ch : Fin 4) (x : BitVec 20) :
    (a.immLoad per c ch x).noShootThrough := by
  match ch with
  | 0 => exact Axis.noShootThrough.drivePhase (Axis.noShootThrough_congr (by rfl) h) .u
  | 1 => exact Axis.noShootThrough.drivePhase (Axis.noShootThrough_congr (by rfl) h) .v
  | 2 => exact Axis.noShootThrough.drivePhase (Axis.noShootThrough_congr (by rfl) h) .w
  | 3 => exact Axis.noShootThrough_congr rfl h

theorem Axis.noShootThrough.matched {a : Axis} (h : a.noShootThrough) (ch : Fin 4) : (a.matched ch).noShootThrough := by
  have hraw (p : Phase) : (a.endRaw p).noShootThrough :=
    Axis.noShootThrough.drivePhase (Axis.noShootThrough_congr (by cases p <;> rfl) h) p
  match ch with
  | 0 | 1 | 2 => exact hraw _
  | 3 => exact Axis.noShootThrough_congr rfl h

/-- The reset of an axis leaves no command (18 Table 18-4). -/
theorem Axis.funcReset_noShootThrough (a : Axis) : a.funcReset.noShootThrough :=
  Axis.noShootThrough_of_idle fun p => ⟨true, by cases p <;> exact ⟨rfl, rfl⟩⟩

/-! ### The device -/

section
variable {s : State} (h : s.noShootThrough) {n : Fin 4}
include h

theorem State.noShootThrough.updAxis {f : Axis → Axis} (hf : (f (s.axis n)).noShootThrough) :
    (s.updAxis n f).noShootThrough := fun k => by
  by_cases hk : k = n
  · rw [hk, State.axis_updAxis_same]
    exact hf
  · rw [State.axis_updAxis_ne _ _ hk]
    exact h k

theorem State.noShootThrough.updChain {f : Axis → Axis} (hf : (f (s.axis n)).noShootThrough) :
    (s.updChain n f).noShootThrough :=
  h.updAxis (Axis.noShootThrough_congr (Axis.settle_passed _ _) hf)

theorem State.noShootThrough.enClear (n : Fin 4) : (s.enClear n).noShootThrough := h.updChain (Axis.enOff_noShootThrough _)

end

/-- The interlock brings the one phase apart that a released edge may have left otherwise (08 R255, R257). -/
theorem State.interlock_noShootThrough {s : State} {n : Fin 4} {p : Phase}
    (h : ∀ k q, k ≠ n ∨ q ≠ p → ((s.axis k).ph.get q).Apart) : (s.interlock n p).noShootThrough := by
  intro k q
  by_cases hkq : k = n ∧ q = p
  · rw [hkq.1, hkq.2]
    exact s.interlock_apart n p
  · have ha := h k q (by rwa [← not_and_or])
    unfold State.interlock
    dsimp only
    split
    · have ht := (s.updChain_turns n (Axis.shootOff p)).raiseDrv 11
      change ((((s.updChain n (Axis.shootOff p)).raiseDrv n 11).axis k).ph.get q).Apart
      by_cases hk : k = n
      · subst hk
        have hq : ((Axis.shootOff p (s.axis k)).ph.get q) = (s.axis k).ph.get q :=
          Three.get_set_ne _ _ fun e => hkq ⟨rfl, e⟩
        rw [ht.axis.ph_eq, Axis.settle_phase, hq]
        have hs (high : Bool) := congrArg GateCh.s4 (Axis.settle_side (Axis.shootOff p (s.axis k)) (s.gateHold k) q high)
        rw [hq] at hs
        exact fun hb => ha ⟨(hs true).symm.trans hb.1, (hs false).symm.trans hb.2⟩
      · rw [ht.others k hk]
        exact ha
    · exact ha

/-- A phase one side of which has changed, behind the interlock (08 R253, R255). -/
theorem State.noShootThrough.passEdge {s : State} (h : s.noShootThrough) (n : Fin 4) (p : Phase) (high : Bool)
    (f : GateCh → GateCh) : ((s.updChain n fun a => a.updSide p high f).interlock n p).noShootThrough := by
  refine State.interlock_noShootThrough fun k q hkq => ?_
  by_cases hk : k = n
  · subst hk
    have hq : q ≠ p := hkq.resolve_left fun e => e rfl
    have hs (side : Bool) : ((((s.updChain k fun a => a.updSide p high f).axis k).ph.get q).side side).s4 =
        (((s.axis k).ph.get q).side side).s4 := by
      rw [State.updChain_axis, Axis.settle_side, Axis.updSide, Three.get_set_ne _ _ hq]
      rfl
    exact fun hb => h k q ⟨(hs true).symm.trans hb.1, (hs false).symm.trans hb.2⟩
  · rw [(s.updChain_turns n fun a => a.updSide p high f).others k hk]
    exact h k q

end Sys2Proof.Machine
end

section
/-! SUPPORT. The commands that move gate commands, on their own or through a boundary, a reset or a frame, leave no phase with both
past the handshake (O59). -/

namespace Sys2Proof.Machine

section
variable {s : State} (h : s.noShootThrough)
include h

/-! ### The gate chain (07, 08) -/

theorem execCompareMatch_noShootThrough (n ch : Fin 4) : (execCompareMatch n ch s).All State.noShootThrough := by
  unfold execCompareMatch
  split
  · exact h
  · refine h.updChain ?_
    match ch with
    | 0 => exact (h n).matched 0
    | 1 => exact (h n).matched 1
    | 2 => exact (h n).matched 2
    | 3 => exact (h n).matched 3

theorem execDeadTimeEnd_noShootThrough (n : Fin 4) (p : Phase) (high : Bool) :
    (execDeadTimeEnd n p high s).All State.noShootThrough := by
  unfold execDeadTimeEnd
  dsimp only
  split
  · exact h.passEdge n p high _
  · exact State.noShootThrough_congr (State.updAxis_passed (by cases p <;> cases high <;> rfl)) h

theorem execHandshakeRelease_noShootThrough (n : Fin 4) (p : Phase) (high : Bool) :
    (execHandshakeRelease n p high s).All State.noShootThrough := by
  have hr : (s.updAxis n fun a => a.reportOff p (!high)).noShootThrough :=
    State.noShootThrough_congr (State.updAxis_passed (by cases p <;> cases high <;> rfl)) h
  unfold execHandshakeRelease
  dsimp only
  split
  · exact h
  · split
    · exact hr.passEdge n p high _
    · exact hr

theorem execHandshakeTimeout_noShootThrough (n : Fin 4) (p : Phase) (high : Bool) :
    (execHandshakeTimeout n p high s).All State.noShootThrough := by
  unfold execHandshakeTimeout
  split
  · exact State.noShootThrough_congr (State.raiseDrv_passed _ n 10)
      (h.updChain ((h n).set rfl (PhSt.cancel_apart ((s.axis n).ph.get p))))
  · exact h

theorem execVdsBlankingEnd_noShootThrough (n : Fin 4) (p : Phase) (high : Bool) :
    (execVdsBlankingEnd n p high s).All State.noShootThrough := by
  unfold execVdsBlankingEnd
  split
  · exact State.noShootThrough_congr (State.updAxis_passed (by cases p <;> cases high <;> rfl)) h
  · exact h

theorem execRefreshStart_noShootThrough (n : Fin 4) (p : Phase) : (execRefreshStart n p s).All State.noShootThrough := by
  unfold execRefreshStart
  dsimp only
  split
  · refine State.noShootThrough_congr ((State.countRefresh_passed _ n).trans (State.raiseDrv_passed _ n 8)) (h.updChain ?_)
    exact Axis.noShootThrough.drivePhase (Axis.noShootThrough_congr (by cases p <;> rfl) (h n)) p
  · exact h

theorem execTripAssert_noShootThrough (n : Fin 4) (k : Fin 13) : (execTripAssert n k s).All State.noShootThrough := by
  unfold execTripAssert
  dsimp only
  split
  · exact State.noShootThrough_congr (State.raiseDrvIf_passed ..) (h.updChain (Axis.noShootThrough.cancelMasked (h n) _))
  · exact h

theorem execPeriodWrap_noShootThrough (n : Fin 4) (raw : List ChanBits) : (execPeriodWrap n raw s).All State.noShootThrough := by
  unfold execPeriodWrap State.whenOn
  split
  · have h1 : (((s.testPeriod n).raiseSovr n (chanMask fun c =>
        (((s.testPeriod n).axis n).meas n ((s.testPeriod n).measured n raw) c).ovr)).raiseDrvIf
        (decide (((s.testPeriod n).axis n).cbcPer ≠ 0)) n 2).noShootThrough := State.noShootThrough_congr (by simp) h
    exact State.noShootThrough_congr ((State.showInvalid_passed _ n).trans (State.latchHall_passed _ n))
      (h1.updChain (Axis.applyWrap_noShootThrough _))
  · exact h

/-! ### Messages to the drive die (16) -/

theorem execImmediateMessage_noShootThrough (n : Fin 4) (good : Bool) :
    (execImmediateMessage n good s).All State.noShootThrough := by
  unfold execImmediateMessage
  split
  · exact h
  · rename_i ch x t rest _
    dsimp only
    split
    · exact h
    · have h1 (f : PortAx → PortAx) : (s.updPort n f).noShootThrough := State.noShootThrough_congr (by simp) h
      split
      · exact h1 _
      · split
        · exact (h1 _).updChain ((h1 _ n).immLoad _ _ ch x)
        · exact State.noShootThrough_congr (by simp) h

theorem State.noShootThrough.ctrlWrite (n : Fin 4) (val : Word) (host : Bool) : (s.ctrlWrite n val host).noShootThrough := by
  unfold State.ctrlWrite
  dsimp only
  generalize hs1 : (if (s.axis n).st.configOk then _ else _ : State) = s1
  have h1 : s1.noShootThrough := State.noShootThrough_congr (by simp [← hs1]) h
  split
  · split
    · exact State.noShootThrough_congr (by simp) h1
    · exact h1.enClear n
  · exact h1

theorem State.noShootThrough.dieWrite (n : Fin 4) (o : Nat) (val : Word) (host : Bool) :
    (s.dieWrite n o val host).noShootThrough := by
  unfold State.dieWrite
  split
  · exact h.ctrlWrite n val host
  · exact State.noShootThrough_congr (by simp) h

theorem State.noShootThrough.regArrives (n : Fin 4) (m : RegMsg) (rest : List RegMsg) :
    (s.regArrives n m rest).noShootThrough := by
  have ht : ((s.updAxis n fun a => { a with regq := { m with arr := true } :: rest }).updPort n fun p =>
      { p with regOn := false }).noShootThrough := State.noShootThrough_congr (by simp) h
  exact State.noShootThrough_congr (by simp [State.regArrives]) (ht.dieWrite n m.addr m.val m.host)

theorem execRegisterMessage_noShootThrough (n : Fin 4) : (execRegisterMessage n s).All State.noShootThrough := by
  have hn : (s.upNext n).noShootThrough := State.noShootThrough_congr (s.upNext_passed n) h
  unfold execRegisterMessage
  dsimp only
  split
  · exact hn
  · split
    · exact hn
    · exact hn.regArrives n _ _

/-! ### The tick boundary (01) -/

theorem State.noShootThrough.enterAx (n : Fin 4) (t : AxState) : (s.enterAx n t).noShootThrough := by
  unfold State.enterAx
  dsimp only
  generalize hs2 : (if (s.axis n).st = .fault ∨ (s.axis n).st = .recovery then _ else _ : State) = s2
  have h2 : s2.noShootThrough := State.noShootThrough_congr (by simp [← hs2]) h
  split
  · exact h2.enClear n
  · exact h2

theorem State.noShootThrough.axisBoundary (n : Fin 4) : (s.axisBoundary n).noShootThrough := by
  have h0 : ((s.profStore n).readMould n).noShootThrough := State.noShootThrough_congr (by simp) h
  rw [State.axisBoundary]
  generalize (s.profStore n).readMould n = u at h0
  unfold State.axisChange
  split
  · split
    · exact State.noShootThrough_congr (by simp) h0
    · exact State.noShootThrough.enterAx (State.noShootThrough_congr (by simp) h0) n _
  · have h1 : ((u.applyReq n).startChosen n).noShootThrough := State.noShootThrough_congr (by simp) h0
    dsimp only
    split
    · exact h1.enterAx n _
    · exact h1

theorem foldl_axisBoundary_noShootThrough (l : List (Fin 4)) : (l.foldl State.axisBoundary s).noShootThrough := by
  induction l generalizing s with
  | nil => exact h
  | cons n l ih => exact ih (h.axisBoundary n)

theorem State.noShootThrough.axesBoundary : s.axesBoundary.noShootThrough := by
  unfold State.axesBoundary
  split
  · exact foldl_axisBoundary_noShootThrough h axes
  · refine State.noShootThrough_congr (State.clearReply_passed ..) (foldl_axisBoundary_noShootThrough ?_ axes)
    exact State.noShootThrough_congr (by simp) h

theorem execTickBoundary_noShootThrough : (execTickBoundary s).All State.noShootThrough := by
  unfold execTickBoundary
  split
  · have h1 : ((s.closePour.nextTick.freshPorts.runAgain).axesBoundary).noShootThrough :=
      State.noShootThrough.axesBoundary (State.noShootThrough_congr (by simp) h)
    generalize (s.closePour.nextTick.freshPorts.runAgain).axesBoundary = u at h1 ⊢
    have hp := State.startPour_passed (u.devFromAxes.activationTick.idleSnapshot)
    generalize (u.devFromAxes.activationTick.idleSnapshot).startPour = r at hp ⊢
    cases r with
    | next t => exact State.noShootThrough_congr (by simp_all) h1
    | fault e => trivial
    | refused e => trivial
  · exact h

theorem execSyncAcquire_noShootThrough : (execSyncAcquire s).All State.noShootThrough := by
  have ha : s.acquired.noShootThrough := State.noShootThrough_congr s.acquired_passed h
  unfold execSyncAcquire
  split
  · split
    · exact ha
    · exact execTickBoundary_noShootThrough ha
  · exact h

/-! ### Resets and the actions that wait (11, 18, 20) -/

theorem execResetFuncDone_noShootThrough : (execResetFuncDone s).All State.noShootThrough := by
  unfold execResetFuncDone
  split
  · exact h
  · rename_i f n seq _
    split
    · split
      · exact State.noShootThrough_congr (by simp) (h.updAxis (n := axOf n) (Axis.funcReset_noShootThrough _))
      · exact h
    · split
      · exact State.noShootThrough_congr (by simp [Axis.linkReset]) h
      · split <;> exact State.noShootThrough_congr (by simp) h

end

/-- What a reset keeps holds no gate command (20 R538 to R545). -/
theorem State.cold_noShootThrough (s : State) : s.cold.noShootThrough := State.reset_noShootThrough

theorem State.reboot_noShootThrough (s : State) (cause : BitVec 3) (ph : BootPhase) : (s.reboot cause ph).noShootThrough :=
  State.cold_noShootThrough { s with jrn := s.jrn.cut true true }

theorem State.noShootThrough.deviceReset {s : State} (h : s.noShootThrough) (cause : BitVec 3) :
    (s.deviceReset cause).noShootThrough := by
  unfold State.deviceReset
  split
  · exact s.reboot_noShootThrough cause .rom
  · exact h

section
variable {s : State} (h : s.noShootThrough)
include h

theorem execResetnAssert_noShootThrough : (execResetnAssert s).All State.noShootThrough := by
  unfold execResetnAssert
  dsimp only
  split
  · exact s.reboot_noShootThrough 1 .held
  · exact h

theorem execWatchdogExpiry_noShootThrough : (execWatchdogExpiry s).All State.noShootThrough := by
  unfold execWatchdogExpiry
  split
  · exact h.deviceReset 3
  · exact h

theorem execVddFall_noShootThrough (memAbove140 : Bool) : (execVddFall memAbove140 s).All State.noShootThrough := by
  unfold execVddFall
  split
  · exact State.cold_noShootThrough { s with jrn := s.jrn.cut false memAbove140 }
  · exact h

theorem execPorRelease_noShootThrough : (execPorRelease s).All State.noShootThrough := by
  unfold execPorRelease
  split
  · exact State.cold_noShootThrough s
  · exact h

theorem execRmaWipeDone_noShootThrough : (execRmaWipeDone s).All State.noShootThrough := by
  unfold execRmaWipeDone
  split
  · exact State.noShootThrough.deviceReset (State.noShootThrough_congr (by simp) h) 4
  · exact h

theorem execWake_noShootThrough (srcs : BitVec 4) : (execWake srcs s).All State.noShootThrough := by
  unfold execWake
  dsimp only
  split
  · exact State.noShootThrough_congr (by simp) s.cold_noShootThrough
  · exact h

theorem State.noShootThrough.perform (a : Deferred) : (s.perform a).noShootThrough := by
  unfold State.perform
  dsimp only
  cases a with
  | sprueReset => exact State.noShootThrough_congr (by simp) h
  | deviceReset | lcReset => exact State.noShootThrough.deviceReset (State.noShootThrough_congr (by simp) h) _
  | hibernate =>
    dsimp only
    split
    · exact State.cold_noShootThrough { s with mgmt := { s.mgmt with defer := none }, jrn := s.jrn.drain }
    · exact h
  | rmaEnter => exact State.noShootThrough_congr (by simp) h

theorem execDeferredActionTimeout_noShootThrough : (execDeferredActionTimeout s).All State.noShootThrough := by
  unfold execDeferredActionTimeout
  split
  · exact h
  · exact h.perform _

/-! ### Sprue frames (13) -/

/-- A frame keeps what its landing keeps; everything around it moves no gate command. -/
theorem State.noShootThrough.frame (c : Cmd) (f : Sys2Proof.Frame) {fetch : State → Fetch} {land : State → State}
    (hf : (fetch s).2.2.passed = s.passed) (hl : ∀ t, t.noShootThrough → (land t).noShootThrough) :
    (s.frame c f fetch land).noShootThrough := by
  have hr (x : FrFlags) (out : List Byte) : (s.reject x out).noShootThrough := State.noShootThrough_congr (by simp) h
  have ha : ((fetch s).2.2.acceptFrame c f.alive).noShootThrough := State.noShootThrough_congr (by simp [hf]) h
  have hland (out : List Byte) : (((land ((fetch s).2.2.acceptFrame c f.alive)).drive s.spr.mode out).frameFlags
      (frFlag (fetch s).2.1 false false false) false).noShootThrough := State.noShootThrough_congr (by simp) (hl _ ha)
  unfold State.frame
  dsimp only
  split_ifs
  · exact h
  · exact hr _ _
  · exact h
  · exact hr _ _
  · exact hr _ _
  · exact hland _
  · exact hland _

theorem State.noShootThrough.landTake (n : Nat) : (s.landTake n).noShootThrough := by
  unfold State.landTake
  split
  · exact h
  · split
    · exact h
    · unfold State.takeHead
      dsimp only
      split
      · exact State.noShootThrough.perform (State.noShootThrough_congr (by simp) h) _
      · exact h

theorem State.noShootThrough.ofCmd (c : Cmd) (f : Sys2Proof.Frame) : (s.ofCmd c f).noShootThrough := by
  cases c with
  | write =>
    rw [State.ofCmd, State.writeFrame]
    exact h.frame .write f rfl fun t ht => State.noShootThrough_congr (t.landWrite_passed f) ht
  | post =>
    rw [State.ofCmd, State.postFrame]
    exact h.frame .post f rfl fun t ht => State.noShootThrough_congr (t.post_passed f.data) ht
  | take =>
    rw [State.ofCmd, State.takeFrame]
    exact h.frame .take f (s.fetch_passed .take f) fun t ht => ht.landTake f.len.toNat
  | read =>
    rw [State.ofCmd, State.readFrame]
    exact h.frame .read f (s.fetch_passed .read f) fun t ht => ht
  | status =>
    rw [State.ofCmd, State.statusFrame]
    exact h.frame .status f (s.fetch_passed .status f) fun t ht => ht
  | echo =>
    rw [State.ofCmd, State.echoFrame]
    exact h.frame .echo f (s.fetch_passed .echo f) fun t ht => ht

theorem State.noShootThrough.takeSeen (x : Seen) : (s.takeSeen x).noShootThrough := by
  cases x with
  | whole c f => exact h.ofCmd c f
  | cut cmd f k => exact State.noShootThrough_congr (s.cutFrame_passed cmd f k false) h

theorem State.noShootThrough.clocked (c : Cmd) (f : Sys2Proof.Frame) : (s.clocked c f).noShootThrough := by
  have hs : s.selectFall.noShootThrough := State.noShootThrough_congr s.selectFall_passed h
  unfold State.clocked
  dsimp only
  split
  · exact hs.ofCmd c f
  · exact hs.takeSeen _

theorem execUnknownCmdFrame_noShootThrough (cmd : Byte) (f : Sys2Proof.Frame) :
    (execUnknownCmdFrame cmd f s).All State.noShootThrough := by
  have hs : s.selectFall.noShootThrough := State.noShootThrough_congr s.selectFall_passed h
  unfold execUnknownCmdFrame
  dsimp only
  split_ifs
  · exact h
  · exact State.noShootThrough_congr (State.reject_passed ..) hs
  · exact hs.takeSeen _

theorem execFrameAbort_noShootThrough (cmd : Byte) (f : Sys2Proof.Frame) (cycles : Nat) :
    (execFrameAbort cmd f cycles s).All State.noShootThrough :=
  State.noShootThrough.takeSeen (State.noShootThrough_congr s.selectFall_passed h) _

end

end Sys2Proof.Machine
end

section
/-! SUPPORT. Every command leaves each phase of each axis with at most one gate command past the handshake (O59). -/

namespace Sys2Proof.Machine

/-! ### Commands that keep every gate command, though not by a lemma for each function they call -/

theorem Axis.vgdRise_ph (a : Axis) : a.vgdRise.ph = a.ph := by
  unfold Axis.vgdRise
  split <;> rfl

section
variable (s : State)

theorem execBundleIssue_passed : (execBundleIssue s).Passed s.passed := by
  unfold execBundleIssue
  split
  · rfl
  · split
    · rfl
    · exact issueBundle_passed _ s

theorem execFpglowAssert_passed (n : Fin 4) (p : PhaseAt) : (execFpglowAssert n p s).Passed s.passed := by
  unfold execFpglowAssert
  dsimp only
  split
  · rfl
  · refine State.whenOn_passed ?_
    exact (State.raiseDrv_passed _ n 13).trans (State.updChain_passed (by cases p.ph <;> rfl))

theorem execRefreshTimeEnd_passed (n : Fin 4) (p : Phase) : (execRefreshTimeEnd n p s).Passed s.passed := by
  unfold execRefreshTimeEnd
  split
  · exact State.updAxis_passed (by cases p <;> rfl)
  · rfl

theorem execTripSourceChange_passed (n : Fin 4) (k : Fin 13) (active : Bool) :
    (execTripSourceChange n k active s).Passed s.passed := by
  rw [← s.seeVgd_passed n k active]
  refine State.whenOn_passed (State.updAxis_passed_of_ph ?_)
  dsimp only
  split
  · split <;> rfl
  · split
    · exact Axis.vgdRise_ph _
    · rfl

theorem execStatusFrame_passed (n : Fin 4) (vcoreMv : Option Int) : (execStatusFrame n vcoreMv s).Passed s.passed := by
  unfold execStatusFrame
  split
  · rfl
  · split
    · exact State.updAxis_passed_of_ph rfl
    · exact s.statusBad_passed n

theorem execMouldCheckDone_passed : (execMouldCheckDone s).Passed s.passed :=
  s.onBg_passed _ _ fun b t => by split <;> simp

theorem execMouldCommitDone_passed (verified : Bool) : (execMouldCommitDone verified s).Passed s.passed :=
  s.onBg_passed _ _ fun b t => by split <;> simp

theorem execMouldStoreDone_passed (verified : Bool) : (execMouldStoreDone verified s).Passed s.passed :=
  s.onBg_passed _ _ fun b t => by split <;> simp

theorem execMouldSelectCopyDone_passed : (execMouldSelectCopyDone s).Passed s.passed :=
  s.onBg_passed _ _ fun b t => by
    split
    · dsimp only
      split
      · split <;> simp
      · simp
    · rfl

theorem execResetFuncSns_passed : (execResetFuncSns s).Passed s.passed :=
  s.onFunc_passed 2 _ fun p t => (State.abortTest_passed _ _).trans (t.beginFunc_passed p 2 0)

theorem execResetFuncSprue_passed : (execResetFuncSprue s).Passed s.passed := by
  unfold execResetFuncSprue
  split
  · rfl
  · exact s.onFunc_passed 3 _ fun p t => (State.abortTest_passed _ _).trans (t.pushReply_passed _)

theorem execLoopbackDone_passed (errors : Nat) (first : Word) : (execLoopbackDone errors first s).Passed s.passed :=
  s.onBg_passed _ _ fun b t => by split <;> simp

theorem execSelftest_passed : (execSelftest s).Passed s.passed :=
  s.onPacket_passed _ _ fun p t => t.unless_passed _ _ fun u => by simp

theorem execSelftestDone_passed (good failed : BitVec 18) : (execSelftestDone good failed s).Passed s.passed :=
  s.onBg_passed _ _ fun b t => by split <;> simp

theorem execLcSetMouldKeyDone_passed : (execLcSetMouldKeyDone s).Passed s.passed :=
  s.onBg_passed _ _ fun b t => by split <;> simp

theorem execLcRmaEnterDone_passed : (execLcRmaEnterDone s).Passed s.passed := by
  unfold execLcRmaEnterDone
  split
  · rfl
  · exact s.onBg_passed _ _ fun b t => by split <;> simp

end

/-! ### Every command -/

theorem exec_keeps {i : Instr} {s : State} (h : s.noShootThrough) (hp : Res.Passed (exec i s) s.passed) :
    Res.All State.noShootThrough (exec i s) :=
  hp.mono fun _ ht => State.noShootThrough_congr ht h

theorem exec_slotOp_passed {i : Instr} (hi : isSlotOp i = true) (s : State) : Res.Passed (exec i s) s.passed := by
  rw [exec_slotOp hi]
  exact State.pourRow_passed (issueOp_passed i s)

/-- No command leaves a phase with both gate commands past the handshake: a command outside the gate chain keeps them, as the
functions it calls do, and the others are those above. -/
theorem exec_noShootThrough (i : Instr) {s : State} (h : s.noShootThrough) : Res.All State.noShootThrough (exec i s) := by
  cases i with
  | mul | mac | msu | madv | mulv | mova | movac | lda | clra | adda | sincos | atan2 | sqrt | recip | mag | add
  | sub | addw | subw | neg | abs | min | max | clamp | sel | mov | push | subh | and | or | xor | andn | shl
  | shr | shll | shrl | shrr | ldi | lui | cmplt | cmple | cmpeq | cmpne | cmpltu | tstb | pand | por | pxor | ld
  | st | ldx | stx | ldr | str | strc | tint | prd | pwr | pwri =>
    exact exec_keeps h (exec_slotOp_passed rfl s)
  | hstoClear | enSet | brakeBackupEngage | brakeBackupRelease | fpglowRelease | bstuvAssert | bstuvRelease | vmLockoutEngage
  | vmLockoutRelease | tripRelease | tflagClear =>
    exact exec_keeps h (by simp [exec, execHstoClear, execEnSet, execBrakeBackupEngage, execBrakeBackupRelease,
      execFpglowRelease, execBstuvAssert, execBstuvRelease, execVmLockoutEngage, execVmLockoutRelease, execTripRelease,
      execTflagClear])
  | commit | hostSilence =>
    exact exec_keeps h (by simp [exec, execCommit, execHostSilence, State.silenceAxis])
  | syncChainPulse | syncmiss | syncEdge | syncEdgeMissing | modulatorLostClock | bitstreamStuck | tickFrame | drvEventWord =>
    exact exec_keeps h (by simp [exec, execSyncChainPulse, execSyncmiss, execSyncEdge, execSyncEdgeMissing,
      execModulatorLostClock, execBitstreamStuck, execTickFrame, State.slipDown, State.frameSent, State.tickFrameGood,
      State.tickFrameBad, execDrvEventWord])
  | runnerMgmtStart | lockRead | lockRelease | mbDataWrite | mbDoorbell | mbAck | mbCancel | mbTimeout | mblockWrite
  | qlockWrite | gpioPulseEnd | eventCrossingDelivery =>
    exact exec_keeps h (by simp [exec, execRunnerMgmtStart, execLockRead, execLockRelease, execMbDataWrite, execMbDoorbell,
      execMbAck, execMbCancel, execMbTimeout, execMblockWrite, execQlockWrite, execGpioPulseEnd, execEventCrossingDelivery])
  | refselWrite | refrdySet | referenceLoss | snsPllUnlock | fiFilterChange | fiStuck | fiChatterWindowEnd | fiTestPulseStart
  | fiTestPulseCheck | fiConfigWrite | hallEdge | hallRateDeferEnd | encoderEdge | encoderZEdge | hallConfigWrite =>
    exact exec_keeps h (by simp [exec, execRefselWrite, execRefrdySet, execReferenceLoss, execSnsPllUnlock,
      execFiFilterChange, execFiStuck, execFiChatterWindowEnd, execFiTestPulseStart, execFiTestPulseCheck, State.tpCheck,
      execFiConfigWrite, execHallEdge, execHallRateDeferEnd, execEncoderEdge, execEncoderZEdge, execHallConfigWrite])
  | registerWrite | heat0Read | pourStatRead | pwmStatRead | sensMean0Read | adrvRead | fiStateRead | thTemp0Read
  | monFaultRead | trdataRead =>
    exact exec_keeps h (by simp [exec, execRegisterWrite, execHeat0Read, execPourStatRead, execPwmStatRead, execSensMean0Read,
      execAdrvRead, execFiStateRead, execThTemp0Read, execMonFaultRead, execTrdataRead])
  | getId | getStatus | getAxis | getTelemetry | getParam | journalQuery | journalRead | lcState | thermalStatus
  | unlistedOpcode | setParam | storeConfig | moveTo | moveVel | hold | stop | release | learnTravel | home | resume | cancel
  | journalTrim =>
    exact exec_keeps h (by simp [exec, execGetId, execGetStatus, execGetAxis, execGetTelemetry, execGetParam,
      execJournalQuery, execJournalRead, execLcState, execThermalStatus, execUnlistedOpcode, execSetParam, execStoreConfig,
      execMoveTo, execMoveVel, execHold, execStop, execRelease, execLearnTravel, execHome, execResume, execCancel,
      execJournalTrim])
  | mouldBegin | mouldCheck | mouldCommit | mouldStore | mouldSelect =>
    exact exec_keeps h (by simp [exec, execMouldBegin, execMouldCheck, execMouldCommit, execMouldStore, execMouldSelect])
  | heatBoundary | heatReservation | axisFaultApply =>
    exact exec_keeps h (by simp [exec, execHeatBoundary, State.neighbour, State.nextHeat, execHeatReservation,
      execAxisFaultApply, State.takeFaultReq])
  | resetFuncAxis | resetFuncLink | resetFuncRunner | resetFuncMailbox | resetDevice | hibernate | clearFault
  | storeConfigDone | loopbackSprue | loopbackRunner | loopbackPlind | loopbackGateDrive | loopbackPhaseSensing
  | loopbackConverter | loopbackFieldInputs =>
    exact exec_keeps h (by simp [exec, execResetFuncAxis, execResetFuncLink, State.interrupted, execResetFuncRunner,
      State.runnerReset, execResetFuncMailbox, execResetDevice, execHibernate, execClearFault, execStoreConfigDone,
      State.storeAll, execLoopbackSprue, execLoopbackRunner, execLoopbackPlind, execLoopbackGateDrive,
      execLoopbackPhaseSensing, execLoopbackConverter, execLoopbackFieldInputs])
  | resetnRelease | retentionExpiry | v5CurrentLimit | crystalLoss | firmwareVerified | bootComplete =>
    exact exec_keeps h (by simp [exec, execResetnRelease, execRetentionExpiry, execV5CurrentLimit, execCrystalLoss,
      execFirmwareVerified, State.powerUp, State.mgmtStart, State.bootMail, State.lcBoot, execBootComplete])
  | lcAdvance | lcAdvanceDone | lcSetMouldKey | lcRmaChallenge | nonceExpiry | lcRmaEnter | frameTimeout | sprueIdleReset =>
    exact exec_keeps h (by simp [exec, execLcAdvance, execLcAdvanceDone, execLcSetMouldKey, execLcRmaChallenge,
      execNonceExpiry, execLcRmaEnter, execFrameTimeout, execSprueIdleReset])
  | monBootDone | quenchRequest | externalQuench | externalQuenchEnd | monlost | signatureCheck | tickMarker
  | tickMarkerTimeout | supplyWindowFault | lcReport | witnessStatus | witnessReadB | witnessReadLog | witnessUnknownCmd
  | witnessGapTimeout | debugSessionAttempt =>
    exact exec_keeps h (by simp [exec, execMonBootDone, State.monBoot, execQuenchRequest, execExternalQuench,
      execExternalQuenchEnd, execMonlost, execSignatureCheck, execTickMarker, execTickMarkerTimeout, execSupplyWindowFault,
      execLcReport, execWitnessStatus, execWitnessReadB, execWitnessReadLog, execWitnessUnknownCmd, execWitnessGapTimeout,
      execDebugSessionAttempt])
  | temperatureReading | monTemperatureReading | throttlePauseEnd =>
    exact exec_keeps h (by simp [exec, execTemperatureReading, State.brokenEvents, State.classEvents, State.throttle,
      State.riseStops, execMonTemperatureReading, execThrottlePauseEnd])
  | publish | boundaryPublish | exchangeSwap | recordProgrammed | jobStart | immediateJobEffect | runnerMouldStart
  | runnerComplete | conversionComplete | ain11Compare | vm0Compare | registerAckTimeout | senseFrame | injectedTrigger
  | liveLoadComplete | valueCrossingTransfer =>
    refine exec_keeps h ?_
    simp only [exec, execPublish, execBoundaryPublish, execExchangeSwap, execRecordProgrammed, execJobStart,
      execImmediateJobEffect, execRunnerMouldStart, execRunnerComplete, execConversionComplete, execAin11Compare,
      execVm0Compare, execRegisterAckTimeout, execSenseFrame, execInjectedTrigger, execLiveLoadComplete,
      execValueCrossingTransfer]
    (repeat' split) <;> simp
  | bundleIssue => exact exec_keeps h (execBundleIssue_passed ..)
  | mouldCheckDone => exact exec_keeps h (execMouldCheckDone_passed ..)
  | mouldCommitDone => exact exec_keeps h (execMouldCommitDone_passed ..)
  | mouldStoreDone => exact exec_keeps h (execMouldStoreDone_passed ..)
  | mouldSelectCopyDone => exact exec_keeps h (execMouldSelectCopyDone_passed ..)
  | resetFuncSns => exact exec_keeps h (execResetFuncSns_passed ..)
  | resetFuncSprue => exact exec_keeps h (execResetFuncSprue_passed ..)
  | loopbackDone => exact exec_keeps h (execLoopbackDone_passed ..)
  | selftest => exact exec_keeps h (execSelftest_passed ..)
  | selftestDone => exact exec_keeps h (execSelftestDone_passed ..)
  | statusFrame => exact exec_keeps h (execStatusFrame_passed ..)
  | tripSourceChange => exact exec_keeps h (execTripSourceChange_passed ..)
  | fpglowAssert => exact exec_keeps h (execFpglowAssert_passed ..)
  | refreshTimeEnd => exact exec_keeps h (execRefreshTimeEnd_passed ..)
  | lcSetMouldKeyDone => exact exec_keeps h (execLcSetMouldKeyDone_passed ..)
  | lcRmaEnterDone => exact exec_keeps h (execLcRmaEnterDone_passed ..)
  | write f | post f | read f | take f | status f | echo f => exact h.clocked _ f
  | tickBoundary => exact execTickBoundary_noShootThrough h
  | resetFuncDone => exact execResetFuncDone_noShootThrough h
  | rmaWipeDone => exact execRmaWipeDone_noShootThrough h
  | deferredActionTimeout => exact execDeferredActionTimeout_noShootThrough h
  | frameAbort cmd f k => exact execFrameAbort_noShootThrough h cmd f k
  | immediateMessage => exact execImmediateMessage_noShootThrough h ..
  | registerMessage => exact execRegisterMessage_noShootThrough h ..
  | periodWrap => exact execPeriodWrap_noShootThrough h ..
  | compareMatch => exact execCompareMatch_noShootThrough h ..
  | deadTimeEnd => exact execDeadTimeEnd_noShootThrough h ..
  | handshakeRelease => exact execHandshakeRelease_noShootThrough h ..
  | handshakeTimeout => exact execHandshakeTimeout_noShootThrough h ..
  | enClear n => exact h.enClear n
  | syncAcquire => exact execSyncAcquire_noShootThrough h
  | tripAssert => exact execTripAssert_noShootThrough h ..
  | vdsBlankingEnd => exact execVdsBlankingEnd_noShootThrough h ..
  | refreshStart => exact execRefreshStart_noShootThrough h ..
  | porRelease => exact execPorRelease_noShootThrough h
  | vddFall => exact execVddFall_noShootThrough h ..
  | resetnAssert => exact execResetnAssert_noShootThrough h
  | watchdogExpiry => exact execWatchdogExpiry_noShootThrough h
  | wake => exact execWake_noShootThrough h ..
  | unknownCmdFrame => exact execUnknownCmdFrame_noShootThrough h ..

theorem step_noShootThrough {s t : State} (h : s.noShootThrough) (hs : step s = .next t) : t.noShootThrough := by
  unfold step at hs
  split at hs
  · cases hs
    exact h
  · rename_i c rest _
    have ht := exec_noShootThrough c (s := { s with pending := rest }) h
    rw [hs] at ht
    exact ht

/-- Settles O59: every command keeps each phase to one command past the handshake, and a gate needs that command to be on. -/
theorem noPhaseShootsThrough : Obligations.NoPhaseShootsThrough := by
  unfold Obligations.NoPhaseShootsThrough
  intro s t h hs
  have ht := step_noShootThrough h hs
  exact ⟨ht, fun n p hold => (ht n).gates p hold⟩

end Sys2Proof.Machine
end
